-- ==== Sys2Proof/Word.lean ====
section
/-! DEFINITION. The words of the SY6432 and their plainest arithmetic: bytes, little-endian values (R8), saturation (R15). -/

namespace Sys2Proof

/-- One byte: descriptors, messages and memories are byte strings (R8). -/
abbrev Byte := BitVec 8

/-- A 32-bit word: descriptors are drawn as 32-bit words (R8). -/
abbrev Word := BitVec 32

/-- A counter that the manual calls saturating, `w` bits wide. -/
def satAdd (w a b : Nat) : Nat := min (a + b) (2 ^ w - 1)

/-- An exact integer narrowed to `w` bits of two's complement by saturation. -/
def satInt (w : Nat) (x : Int) : Int :=
  max (-(2 ^ (w - 1) : Int)) (min x (2 ^ (w - 1) - 1))

/-- An exact integer narrowed to `w` unsigned bits by saturation. -/
def satNat (w : Nat) (x : Int) : Nat :=
  (max 0 (min x (2 ^ w - 1))).toNat

/-- Integer `x` wrapped into `w` bits of two's complement. -/
def wrapInt (w : Nat) (x : Int) : Int :=
  let m := x % (2 ^ w : Int)
  if m < 2 ^ (w - 1) then m else m - 2 ^ w

/-- Ceiling of a quotient of naturals. -/
def ceilDiv (a b : Nat) : Nat := if b = 0 then 0 else (a + b - 1) / b

/-- `a` rounded up to a multiple of `b`. -/
def roundUp (a b : Nat) : Nat := ceilDiv a b * b

end Sys2Proof
end

