-- ==== Sys2Proof/Syntax.lean ====
section
/-! DEFINITION. The commands of the block: one constructor of `Instr` for each row of spec/opcode_table.json, with the
row's operands. The first operand of every command, `t`, is the ACLK cycle at which it happens (log 1). -/

namespace Sys2Proof

/-- A PCIe function: 0 is the PF, 1 to 8 are VF1 to VF8 (R351). -/
abbrev Fn := Fin 9
/-- A partition P0 to P7 (R3). -/
abbrev Part := Fin 8
/-- A sensor port PORT0 to PORT15 (R3). -/
abbrev PortId := Fin 16
/-- A stream 0 to 63 (R3). -/
abbrev StreamId := Fin 64
/-- A tensor core TC0 to TC31 (R3). -/
abbrev CoreId := Fin 32
/-- A DMA unit DMA0 to DMA5 (R3). -/
abbrev DmaId := Fin 6
/-- A channel of a DMA unit (R200). -/
abbrev ChanId := Fin 32
/-- A Facet engine by RESOURCE - 0x20: PYR0 is 0, FTR0 is 14 (R43, R303). -/
abbrev EngId := Fin 15
/-- A firmware processor by its code (R381). -/
abbrev ProcId := Fin 9
/-- A RESOURCE code of R43, below 0x50. -/
abbrev Res := Fin 80
/-- A hardware queue (R184). -/
abbrev QueueId := Fin 8192
/-- An MSI-X vector (R362). -/
abbrev Vec := Fin 8

/-- Who sends a dictionary request: a PCIe function through its mailbox, or the machine controller on the field port
(R68). The safety consumer sends none, and the device is no outside party (R6). -/
inductive Caller where
  | fn (f : Fn)
  | field
  deriving DecidableEq, Repr

/-- The fields of a dictionary request under R71, but for its opcode. -/
structure Req where
  flags       : BitVec 8
  tag         : BitVec 16
  txn         : BitVec 32
  index       : BitVec 16
  sub         : BitVec 8
  scopePart   : BitVec 3
  scopeGlobal : Bool
  rsvd        : BitVec 4
  offset      : BitVec 32
  length      : BitVec 32
  payload     : List Byte
  deriving DecidableEq, Repr

/-- What the sensors and monitors show at a tick edge: inputs from outside the logic (R457, R467, R478). -/
structure Readings where
  /-- The eight junction sensors in 0.1 °C, in the order of R478. -/
  temps     : List Int
  /-- Unit code of OD 81uu, replica slack in ps, ring oscillator drift in ppm (R457). -/
  margins   : List (Nat × Nat × Int)
  /-- The regulator's current read in mA (R467). -/
  currentMa : Nat
  /-- Die power over the last 1 ms in mW and over the last 100 ms in W (R413). -/
  powerMw   : Nat
  powerW    : Nat
  /-- On-die sense of VDD_SRAM, VDD_UCIE and VDDQ_DDR in mV (R481). -/
  sramMv    : Nat
  ucieMv    : Nat
  ddrMv     : Nat
  deriving DecidableEq, Repr

/-- The check a packet header went through (R239). -/
inductive HdrCheck where
  | clean
  | corrected
  | bad
  deriving DecidableEq, Repr

/-- A packet of one virtual channel at a port: the header check and, while the port acquires, the lane maps under which
the headers and the payload pass (R232); the sync bytes or sync words not recognised in the burst that carried it (R230). -/
structure Packet where
  vc     : Fin 16
  hdr    : HdrCheck
  maps   : List (BitVec 32)
  sot    : Fin 5 := 0
  deriving DecidableEq, Repr

/-- A read or a write of memory by an outside initiator: a length, or bytes with their enables. -/
inductive Access where
  | rd (len : Nat)
  | wr (bytes : List (Option Byte))
  deriving DecidableEq, Repr

/-- The kind of one scratchpad request (R133, R134). `off` is a row offset in the handle for wide and column requests and
a word offset for narrow ones. -/
inductive PadKind where
  | wideRead (off : Nat)
  | wideWrite (off : Nat) (bytes : List (Option Byte))
  | column (off word : Nat)
  | narrowRead (off : Nat)
  | narrowWrite (off : Nat) (bytes : List (Option Byte))
  deriving DecidableEq, Repr

/-- A request that a port of a scratchpad presents: port code of R133, handle, generation, kind. -/
structure PadReq where
  port   : Fin 6
  handle : Fin 64
  gen    : BitVec 12
  kind   : PadKind
  deriving DecidableEq, Repr

/-- The capabilities of R352, which the endpoint has or has not. -/
inductive Capability where
  | pciExpress
  | msiX
  | srIov
  | aer
  | doe
  | ide
  | flr
  | d3hot
  | msi
  | intx
  | ats
  | pri
  | pasid
  | tph
  | aspm
  | l1Substates
  | l2
  | resizableBar
  | hotPlug
  deriving DecidableEq, Repr

/-- A PCIe configuration request (R348, R352): the registers the manual names. -/
inductive ConfigReq where
  | vendorId
  | deviceId
  | classCode
  | totalVfs
  | initialVfs
  | vfOffset
  | vfStride
  | bar (n : Fin 3)
  | writeBar (n : Fin 3) (base : Nat)
  | memorySpace (on : Bool)
  | busMaster (on : Bool)
  | numVfs (n : Nat)
  | vfEnableBit (on : Bool)
  | powerState (d3 : Bool)
  | maxPayload
  | tenBitTags
  | msixVectors
  | capability (c : Capability)
  | other (offset : Nat)
  deriving DecidableEq, Repr

/-- Where a read failed its detection code: the store codes of R443 with their locations. -/
inductive ErrSite where
  | lpddr5 (addr : Nat)
  | pad (core : CoreId) (row : Nat) (bank : Fin 32)
  | fscratch (word : Nat)
  | lineMem (port : PortId) (word : Nat)
  | control (proc : ProcId)
  | network
  | descriptor
  | host (addr : Nat)
  | engine (e : EngId)
  deriving DecidableEq, Repr

/-- Who was reading when a detection code failed (R447). -/
inductive ErrReader where
  | chan (u : DmaId) (c : ChanId)
  | engine (e : EngId)
  | core (c : CoreId)
  | narrow
  | frontEnd (s : StreamId)
  | hostEntry (q : QueueId)
  | proc (x : ProcId)
  deriving DecidableEq, Repr

/-- What an AVSBus transaction answered (R467, R469). -/
structure AvsReply where
  crcOk    : Bool
  alert    : Bool
  readback : Nat
  deriving DecidableEq, Repr

/-- The TEC and REC of the CAN controller after bus errors counted under ISO 11898-1 (R369). -/
structure CanErrors where
  tecCount : Nat
  recCount : Nat
  deriving DecidableEq, Repr

/-- A PLL of R472. -/
inductive Pll where
  | core
  | memory
  | ucie
  deriving DecidableEq, Repr

/-- A rail of R464. -/
inductive Rail where
  | vddIo
  | vddaPll
  | vddPort
  | vddCore
  | vddSram
  | vddUcie
  | vddqDdr
  deriving DecidableEq, Repr

/-- A command of the block: one row of spec/opcode_table.json each, in the table's order. -/
inductive Instr where
  -- the tick
  | tickEdge (t : Nat) (env : Readings)
  | tickInEdge (t : Nat) (level : Bool) (env : Readings)
  | hostTick (t : Nat) (c : Caller) (r : Req) (env : Readings)
  | flywheelTick (t : Nat) (env : Readings)
  | tickSourceLost (t : Nat)
  | guardIntervalStart (t : Nat)
  | fsyncAssert (t : Nat) (n : PortId)
  | fsyncDeassert (t : Nat) (n : PortId)
  -- dispatch
  | nodeRelease (t : Nat) (p : Part) (node : Nat)
  | nodeEligible (t : Nat) (p : Part) (node : Nat)
  | taskSelect (t : Nat) (r : Res)
  | hostTaskMaxCycles (t : Nat) (c : CoreId)
  | todFetch (t : Nat) (c : CoreId)
  | todStart (t : Nat) (c : CoreId)
  | todComplete (t : Nat) (c : CoreId)
  | taskComplete (t : Nat) (q : QueueId)
  -- scratchpads
  | scratchpadRequest (t : Nat) (c : CoreId) (reqs : List PadReq)
  | remoteNarrowRequest (t : Nat) (initiator : BitVec 8) (tag : Part) (c : CoreId) (h : Fin 64) (gen : BitVec 12)
      (off : Nat) (a : Access)
  | rawNarrowAccess (t : Nat) (initiator : BitVec 8) (c : CoreId) (word : Nat) (a : Access)
  | rowValidClearDone (t : Nat) (c : CoreId)
  -- DMA
  | dmaDescriptorLoad (t : Nat) (u : DmaId) (ch : ChanId)
  | dmaShadowActivate (t : Nat) (u : DmaId) (ch : ChanId)
  | dmaReadData (t : Nat) (u : DmaId) (ch : ChanId) (hostData : List Byte)
  | dmaWriteLanded (t : Nat) (u : DmaId) (ch : ChanId)
  | dmaBusError (t : Nat) (u : DmaId) (ch : ChanId) (cause : BitVec 8)
  | dmaBusTimeout (t : Nat) (u : DmaId) (ch : ChanId)
  | dmaRetryReissue (t : Nat) (u : DmaId) (ch : ChanId)
  | reshardEntryEnd (t : Nat) (u : DmaId) (ch : ChanId)
  | maintYield (t : Nat) (u : DmaId) (ch : ChanId)
  | maintResume (t : Nat) (u : DmaId) (ch : ChanId)
  -- Facet engines
  | facetDescriptorActivate (t : Nat) (e : EngId)
  | facetProgressFlag (t : Nat) (e : EngId)
  | facetDescriptorEnd (t : Nat) (e : EngId)
  | refinePassStart (t : Nat) (e : EngId)
  | refineTileStart (t : Nat) (e : EngId)
  | trackActivate (t : Nat)
  | trackContextUpdate (t : Nat)
  | trackAllocate (t : Nat)
  | flagWaitPoll (t : Nat) (c : CoreId)
  | flagWaitExpired (t : Nat) (c : CoreId)
  | flagWaitCopyDone (t : Nat) (c : CoreId)
  -- sensor ports
  | portHsRequest (t : Nat) (n : PortId)
  | frameStart (t : Nat) (n : PortId) (pk : Packet) (fn : BitVec 16)
  | frameEnd (t : Nat) (n : PortId) (pk : Packet) (fn : BitVec 16)
  | lineStartEnd (t : Nat) (n : PortId) (pk : Packet) (isEnd : Bool) (line : BitVec 16)
  | longPacket (t : Nat) (n : PortId) (pk : Packet) (dt : BitVec 8) (payload : List Byte) (crcOk : Bool)
  | genericShortPacket (t : Nat) (n : PortId) (pk : Packet) (dt : BitVec 8) (data : BitVec 16)
  | otherShortPacket (t : Nat) (n : PortId) (pk : Packet) (dt : BitVec 8) (data : BitVec 16)
  | ulpsEntry (t : Nat) (n : PortId)
  | laneFault (t : Nat) (n : PortId) (pos : Fin 5) (code : Fin 8)
  | portRecover (t : Nat) (n : PortId)
  | streamLoss (t : Nat) (s : StreamId)
  -- front-ends and the camera loop
  | feRowDone (t : Nat) (s : StreamId)
  | statsRecordWrite (t : Nat) (s : StreamId)
  | glintCheckLatch (t : Nat) (s : StreamId) (seen : BitVec 32)
  | inlineWindowRead (t : Nat) (ch : ChanId)
  | inlineRingRoom (t : Nat) (n : PortId)
  | i3cWriteDone (t : Nat) (n : PortId)
  | i3cNack (t : Nat) (n : PortId)
  | i3cBusStuck (t : Nat) (n : PortId)
  | i3cRecoveryTimeout (t : Nat) (n : PortId)
  | i3cIbi (t : Nat) (n : PortId) (hotJoin : Bool)
  | dasaAssignment (t : Nat) (n : PortId)
  -- the dictionary
  | read (t : Nat) (c : Caller) (r : Req)
  | write (t : Nat) (c : Caller) (r : Req)
  | begin (t : Nat) (c : Caller) (r : Req)
  | commit (t : Nat) (c : Caller) (r : Req)
  | admissionDone (t : Nat)
  | commitComplete (t : Nat)
  | rollback (t : Nat) (c : Caller) (r : Req)
  | txnQuery (t : Nat) (c : Caller) (r : Req)
  | txnIdleExpiry (t : Nat) (id : BitVec 32)
  | journalMirrorCopy (t : Nat)
  | planImage (t : Nat) (c : Caller) (p : Part) (r : Req)
  | planStop (t : Nat) (c : Caller) (p : Part) (r : Req)
  | clearOverrun (t : Nat) (c : Caller) (p : Part) (r : Req)
  | clearCounts (t : Nat) (c : Caller) (r : Req)
  | hostIfVersion (t : Nat) (c : Caller) (r : Req)
  | functionIfVersion (t : Nat) (c : Caller) (r : Req)
  | ringEnable (t : Nat) (c : Caller) (r : Req)
  | journalRead (t : Nat) (c : Caller) (r : Req)
  | logRead (t : Nat) (c : Caller) (r : Req)
  | abort (t : Nat) (c : Caller) (r : Req)
  | maintDesc (t : Nat) (c : Caller) (r : Req)
  | quota (t : Nat) (c : Caller) (s : StreamId) (r : Req)
  | retrain (t : Nat) (c : Caller) (r : Req)
  | keyWrite (t : Nat) (c : Caller) (slot : Fin 2) (r : Req)
  | evEnable (t : Nat) (c : Caller) (r : Req)
  | resEnable (t : Nat) (c : Caller) (r : Req)
  | loadImage (t : Nat) (c : Caller) (r : Req)
  | start (t : Nat) (c : Caller) (r : Req)
  | updateImage (t : Nat) (c : Caller) (r : Req)
  | updateCommit (t : Nat) (c : Caller) (r : Req)
  | svnRaise (t : Nat) (c : Caller) (r : Req)
  | dumpRelease (t : Nat) (c : Caller) (r : Req)
  | restart (t : Nat) (c : Caller) (x : ProcId) (r : Req)
  | safeClear (t : Nat) (c : Caller) (r : Req)
  | listErase (t : Nat) (c : Caller) (r : Req)
  | serviceNow (t : Nat) (c : Caller) (r : Req)
  -- host registers
  | reqSeq (t : Nat) (f : Fn) (value : BitVec 16)
  | ack (t : Nat) (f : Fn) (value : BitVec 32)
  | overrunClear (t : Nat) (f : Fn) (value : BitVec 32)
  | mailboxDone (t : Nat) (f : Fn)
  | sqTail (t : Nat) (f : Fn) (q : QueueId) (value : BitVec 32)
  | cqHead (t : Nat) (f : Fn) (q : QueueId) (value : BitVec 32)
  | evTail (t : Nat) (f : Fn) (value : BitVec 32)
  | resTail (t : Nat) (f : Fn) (value : BitVec 32)
  | registerWindowRead (t : Nat) (f : Fn) (off : Nat) (len : Nat)
  | registerWindowWrite (t : Nat) (f : Fn) (off : Nat)
  | registerWrite (t : Nat) (f : Fn) (off : Nat) (bytes : List Byte)
  | lpddr5ApertureAccess (t : Nat) (f : Fn) (addr : Nat) (a : Access)
  | scratchpadApertureAccess (t : Nat) (f : Fn) (addr : Nat) (a : Access)
  | configRequest (t : Nat) (f : Fn) (r : ConfigReq)
  | vfEnable (t : Nat) (n : Fin 9)
  | d3hotEntry (t : Nat) (f : Fn)
  | flrVf (t : Nat) (v : Part)
  | flrPf (t : Nat)
  | hotReset (t : Nat) (dlDown : Bool)
  -- the link
  | ucieModuleTrained (t : Nat) (m : Fin 2) (rate : Fin 3)
  | linkTrainingRetry (t : Nat)
  | dlUp (t : Nat)
  | linkRetrain (t : Nat)
  | linkRetrainDone (t : Nat) (u0 : Bool) (u1 : Bool)
  -- IDE and SPDM
  | ideKeyProgram (t : Nat) (session : Nat) (set : Fin 2) (sub : Fin 3) (tx : Bool) (key : List Byte)
  | kSetGo (t : Nat) (session : Nat) (set : Fin 2)
  | ideMacFailure (t : Nat)
  | ideRekey (t : Nat) (sub : Fin 3)
  | ideHardLimit (t : Nat) (sub : Fin 3)
  | getVersion (t : Nat)
  | getCapabilities (t : Nat)
  | negotiateAlgorithms (t : Nat) (ecdsaP256 sha256 secp256r1 aesGcm : Bool)
  | getDigests (t : Nat)
  | getCertificate (t : Nat) (slot : Fin 8) (offset length : Nat)
  | challenge (t : Nat) (slot : Fin 8) (nonce : List Byte)
  | getMeasurements (t : Nat) (index : BitVec 8)
  | keyExchange (t : Nat) (session : Nat)
  | finish (t : Nat) (session : Nat) (macOk : Bool)
  | keyUpdate (t : Nat) (session : Nat)
  | heartbeat (t : Nat) (session : Nat)
  | endSession (t : Nat) (session : Nat)
  | respondIfReady (t : Nat)
  -- the field port
  | dictRequest (t : Nat) (id : BitVec 29) (ext : Bool) (frame : List Byte)
  | keySwitch (t : Nat) (id : BitVec 29) (ext : Bool) (frame : List Byte)
  | canFrameIgnored (t : Nat) (id : BitVec 29) (ext : Bool)
  | aedsyPartialTimeout (t : Nat)
  | aedsyRekeyDue (t : Nat)
  | aedsyFreshLimit (t : Nat)
  | aedsyStatusFrame (t : Nat)
  | canTxComplete (t : Nat)
  | canBusOff (t : Nat) (tec : Nat)
  | busoffDelayExpiry (t : Nat)
  | canRecovered (t : Nat)
  -- interrupts
  | msixCoalesceExpiry (t : Nat) (f : Fn) (v : Vec)
  | tickVector (t : Nat) (f : Fn)
  | eventOverflowEntry (t : Nat) (f : Fn)
  -- the Umbra checker
  | pairJudge (t : Nat) (p : Part) (pair : Nat)
  | verdictDeadline (t : Nat) (p : Part)
  | verdictPublish (t : Nat)
  | missingVerdict (t : Nat)
  | checkerFault (t : Nat) (source : Fin 3)
  | selftestLapse (t : Nat) (c : CoreId)
  -- faults
  | detectionCheckFail (t : Nat) (site : ErrSite) (reader : ErrReader)
  | detectionRetryResult (t : Nat) (passed : Bool)
  | retirementListAppend (t : Nat)
  | scrubFillDone (t : Nat)
  | serviceWindow (t : Nat)
  -- power
  | avsResponse (t : Nat) (a : AvsReply)
  | avsTimeout (t : Nat)
  | avsHoldExpiry (t : Nat)
  | thermalTrip (t : Nat) (sensor : Fin 8)
  | pllLossOfLock (t : Nat) (pll : Pll)
  | resetNAssert (t : Nat)
  | resetNRelease (t : Nat)
  -- firmware
  | romRelease (t : Nat)
  | lpddr5TrainingDone (t : Nat) (bytes : Nat) (channelsOk : Bool)
  | watchdogExpiry (t : Nat) (x : ProcId)
  | firmwareFault (t : Nat) (x : ProcId)
  | crashDumpCaptured (t : Nat) (x : ProcId)
  | processorRestartDone (t : Nat) (x : ProcId)
  | processorFailed (t : Nat) (x : ProcId)
  -- rows that the table gives last
  | dmaRequestIssue (t : Nat) (u : DmaId)
  | engineWindowStart (t : Nat) (p : Part) (e : EngId)
  | engineWindowEnd (t : Nat) (p : Part) (e : EngId)
  | i3cSdaHigh (t : Nat) (n : PortId)
  | canErrorPassive (t : Nat) (e : CanErrors)
  | schFirstRunsImage (t : Nat)
  | railOutOfRange (t : Nat) (rail : Rail)
  | jtagTapClock (t : Nat) (tms tdi trstN : Bool)
  deriving DecidableEq, Repr

end Sys2Proof
end

