-- ==== Sys2Proof/Decode.lean ====
section
/-! DEFINITION. The table's bits: spec/opcode_table.json gives no row an encoding, so no word spells a command (log 4). -/

namespace Sys2Proof

/-- The command that a word of `nbits` bits spells under the table: none, for the table gives no row bits. -/
def decodeTableWord (_nbits _w : Nat) : Option Instr := none

end Sys2Proof
end

