-- ==== Sys2Proof/Machine/Bits.lean ====
section
/-! DEFINITION. Bit fields, sign extension and byte order (R8): little-endian values in byte strings. -/

namespace Sys2Proof.Machine

/-- Bits `[hi:lo]` of `x`. -/
def fld (x hi lo : Nat) : Nat := x / 2 ^ lo % 2 ^ (hi + 1 - lo)

/-- Bit `i` of `x`. -/
def bitAt (x i : Nat) : Bool := x.testBit i

/-- `x` with bit `i` set to `b`. -/
def putBit (x i : Nat) (b : Bool) : Nat :=
  if x.testBit i = b then x else if b then x + 2 ^ i else x - 2 ^ i

/-- A bit as a number. -/
def b2n (b : Bool) : Nat := if b then 1 else 0

/-- Two's complement reading of the low `w` bits. -/
def sgn (w x : Nat) : Int := wrapInt w (x : Int)

/-- The low `w` bits of an integer, as an unsigned number. -/
def uns (w : Nat) (x : Int) : Nat := (x % (2 ^ w : Int)).toNat

/-- The number that a little-endian byte string holds (R8). -/
def leNat : List Byte → Nat
  | [] => 0
  | b :: bs => b.toNat + 256 * leNat bs

/-- The last `n` entries of a list, all of it where it has no more. -/
def keepLast {α : Type} (n : Nat) (l : List α) : List α := (l.reverse.take n).reverse

/-- `n` bytes of `x`, little-endian (R8). -/
def leBytes : Nat → Nat → List Byte
  | 0, _ => []
  | n + 1, x => BitVec.ofNat 8 x :: leBytes n (x / 256)

/-- The number that a big-endian byte string holds: digests, keys and curve points. -/
def beNat (bs : List Byte) : Nat := bs.foldl (fun a b => a * 256 + b.toNat) 0

/-- `n` bytes of `x`, big-endian. -/
def beBytes (n x : Nat) : List Byte := (leBytes n x).reverse

/-- `n` zero bytes. -/
def zeros (n : Nat) : List Byte := List.replicate n 0

/-- `len` bytes from `off` on; bytes beyond the string read as 0. -/
def slice (bs : List Byte) (off len : Nat) : List Byte :=
  let part := (bs.drop off).take len
  part ++ zeros (len - part.length)

/-- Word `i` of a string of 32-bit words (R8). -/
def wordAt (bs : List Byte) (i : Nat) : Nat := leNat (slice bs (4 * i) 4)

/-- The 64-bit value in words `i` and `i + 1`, low word first. -/
def dwordAt (bs : List Byte) (i : Nat) : Nat := leNat (slice bs (4 * i) 8)

/-- A list of 32-bit words as bytes. -/
def wordBytes (ws : List Nat) : List Byte := ws.flatMap (leBytes 4)

/-- `new` laid over `old` from `off` on. -/
def overlay (old : List Byte) (off : Nat) (new : List Byte) : List Byte :=
  slice old 0 off ++ new ++ old.drop (off + new.length)

/-- Bytes with enables laid over `old`: a missing byte keeps the old one. -/
def mergeBytes : List Byte → List (Option Byte) → List Byte
  | _, [] => []
  | [], n :: ns => n.getD 0 :: mergeBytes [] ns
  | o :: os, n :: ns => n.getD o :: mergeBytes os ns

/-- Bit `i` of a byte string, bit 0 the lowest bit of byte 0. -/
def bitOfBytes (bs : List Byte) (i : Nat) : Bool := (bs.getD (i / 8) 0).getLsbD (i % 8)

/-- The `w` bits that start at bit `i` of a byte string. -/
def bitsOfBytes (bs : List Byte) (i w : Nat) : Nat :=
  (List.range w).foldl (fun a j => a + b2n (bitOfBytes bs (i + j)) * 2 ^ j) 0

/-- Values of `w` bits packed from bit 0 upward into bytes. -/
def packBits (w : Nat) (xs : List Nat) : List Byte :=
  let total := xs.foldr (fun x a => x % 2 ^ w + 2 ^ w * a) 0
  leBytes (ceilDiv (w * xs.length) 8) total

/-- Text as UTF-8 code units below 128. -/
def ascii (s : String) : List Byte := s.toList.map (fun c => BitVec.ofNat 8 c.toNat)

/-- Is this byte string valid UTF-8 (R66, STRING)? `n` bounds the length. -/
def utf8Ok : Nat → List Byte → Bool
  | 0, bs => bs.isEmpty
  | _ + 1, [] => true
  | n + 1, b :: bs =>
    let cont (c : Byte) : Bool := decide (c.toNat / 64 = 2)
    if b.toNat < 0x80 then utf8Ok n bs
    else if b.toNat < 0xC2 then false
    else if b.toNat < 0xE0 then
      match bs with
      | c :: r => cont c && utf8Ok n r
      | _ => false
    else if b.toNat < 0xF0 then
      match bs with
      | c :: d :: r =>
        cont c && cont d && !(b.toNat = 0xE0 && c.toNat < 0xA0) && !(b.toNat = 0xED && 0xA0 ≤ c.toNat) && utf8Ok n r
      | _ => false
    else if b.toNat < 0xF5 then
      match bs with
      | c :: d :: e :: r =>
        cont c && cont d && cont e && !(b.toNat = 0xF0 && c.toNat < 0x90) && !(b.toNat = 0xF4 && 0x90 ≤ c.toNat)
          && utf8Ok n r
      | _ => false
    else false

end Sys2Proof.Machine
end

