-- ==== Sys2Proof/Machine/Aes.lean ====
section
/-! DEFINITION. AES-128 and AES-CMAC, which Aedsy frames carry (R372). -/

namespace Sys2Proof.Machine

/-- Doubling in the field of AES. -/
def gfDouble (x : Nat) : Nat := if 128 ≤ x then Nat.xor (2 * x - 256) 0x1B else 2 * x

/-- The product in the field of AES, over the low `n` bits of `y`. -/
def gfMulBits : Nat → Nat → Nat → Nat
  | 0, _, _ => 0
  | n + 1, x, y => Nat.xor (if y % 2 = 1 then x else 0) (gfMulBits n (gfDouble x) (y / 2))

/-- The product in the field of AES. -/
def gfMul (x y : Nat) : Nat := gfMulBits 8 x y

/-- `x` to the power 254: the inverse, 0 for 0. -/
def gfInv (x : Nat) : Nat :=
  let x2 := gfMul x x
  let x3 := gfMul x2 x
  let x6 := gfMul x3 x3
  let x12 := gfMul x6 x6
  let x15 := gfMul x12 x3
  let x30 := gfMul x15 x15
  let x60 := gfMul x30 x30
  let x120 := gfMul x60 x60
  let x126 := gfMul x120 x6
  let x127 := gfMul x126 x
  gfMul x127 x127

/-- The S-box. -/
def aesSub (x : Nat) : Nat :=
  let i := BitVec.ofNat 8 (gfInv x)
  (i ^^^ i.rotateLeft 1 ^^^ i.rotateLeft 2 ^^^ i.rotateLeft 3 ^^^ i.rotateLeft 4 ^^^ 0x63#8).toNat

/-- Bytewise exclusive or. -/
def xorBytes (a b : List Byte) : List Byte := List.zipWith (fun x y => x ^^^ y) a b

/-- `n` further round keys after `key`, the latest first. -/
def aesExpand : Nat → Nat → List (List Byte) → List (List Byte)
  | 0, _, ks => ks
  | n + 1, rcon, ks =>
    let k := ks.headD []
    let t := [13, 14, 15, 12].map (fun i => BitVec.ofNat 8 (aesSub (k.getD i 0).toNat))
    let w0 := xorBytes (xorBytes (slice k 0 4) t) [BitVec.ofNat 8 rcon, 0, 0, 0]
    let w1 := xorBytes (slice k 4 4) w0
    let w2 := xorBytes (slice k 8 4) w1
    let w3 := xorBytes (slice k 12 4) w2
    aesExpand n (gfDouble rcon) ((w0 ++ w1 ++ w2 ++ w3) :: ks)

/-- SubBytes and ShiftRows. -/
def aesShift (s : List Byte) : List Byte :=
  (List.range 16).map (fun i => BitVec.ofNat 8 (aesSub (s.getD ((i + 4 * (i % 4)) % 16) 0).toNat))

/-- MixColumns. -/
def aesMix (s : List Byte) : List Byte :=
  (List.range 16).map (fun i =>
    let at4 (j : Nat) : Nat := (s.getD (i / 4 * 4 + (i + j) % 4) 0).toNat
    BitVec.ofNat 8 (Nat.xor (Nat.xor (gfMul (at4 0) 2) (gfMul (at4 1) 3)) (Nat.xor (at4 2) (at4 3))))

/-- The AES-128 encryption of one block. -/
def aes128 (key blk : List Byte) : List Byte :=
  let ks := (aesExpand 10 1 [key]).reverse
  let s0 := xorBytes blk (ks.getD 0 [])
  let s9 := (List.range 9).foldl (fun s r => xorBytes (aesMix (aesShift s)) (ks.getD (r + 1) [])) s0
  xorBytes (aesShift s9) (ks.getD 10 [])

/-- Doubling of a 128-bit block for the subkeys of CMAC. -/
def cmacDouble (b : List Byte) : List Byte :=
  let x := beNat b
  let y := 2 * x % 2 ^ 128
  beBytes 16 (if 2 ^ 127 ≤ x then Nat.xor y 0x87 else y)

/-- The chain of CMAC over `n` whole blocks. -/
def cmacChain (key : List Byte) : Nat → List Byte → List Byte → List Byte
  | 0, c, _ => c
  | n + 1, c, m => cmacChain key n (aes128 key (xorBytes c (slice m 0 16))) (m.drop 16)

/-- AES-CMAC: 16 bytes. -/
def aesCmac (key msg : List Byte) : List Byte :=
  let k1 := cmacDouble (aes128 key (zeros 16))
  let k2 := cmacDouble k1
  let n := (msg.length - 1) / 16
  let c := cmacChain key n (zeros 16) msg
  let last := msg.drop (16 * n)
  let m := if last.length = 16 then xorBytes last k1 else xorBytes (slice (last ++ [0x80#8]) 0 16) k2
  aes128 key (xorBytes c m)

end Sys2Proof.Machine
end

