-- ==== Sys2Proof/Machine/Crc.lean ====
section
/-! DEFINITION. The cyclic redundancy checks that the manual names: CRC-32 with the IEEE 802.3 polynomial (R39, R87),
CRC-16 and the AVSBus CRC. -/

namespace Sys2Proof.Machine

/-- `n` shifts of a reflected CRC register. -/
def crcShift (poly : Nat) : Nat → Nat → Nat
  | 0, c => c
  | n + 1, c => crcShift poly n (if c % 2 = 1 then Nat.xor (c / 2) poly else c / 2)

/-- CRC-32 with the IEEE 802.3 polynomial: reflected, initial value and final inversion all ones. -/
def crc32 (bs : List Byte) : Nat :=
  Nat.xor 0xFFFFFFFF (bs.foldl (fun c b => crcShift 0xEDB88320 8 (Nat.xor c b.toNat)) 0xFFFFFFFF)

/-- CRC-32 over a list of 32-bit words. -/
def crc32Words (ws : List Nat) : Nat := crc32 (wordBytes ws)

end Sys2Proof.Machine
end

