-- ==== Sys2Proof/Config.lean ====
section
/-! DEFINITION. What one die fixes and the manual leaves open: opaque constants, of which nothing can be proved but what
holds for every value (log 9, log 10). -/

namespace Sys2Proof.Config

/-- The die is of grade KI and not KA (R1, OD 1000.04). -/
opaque gradeKI : Bool
/-- OD 1000.05. -/
opaque stepping : Nat
/-- OD 1000.06. -/
opaque dieSerial : Nat
/-- OD 1101.01, the fused Vendor ID. -/
opaque vendorId : Nat
/-- The order in which the firmware places its areas in the device owner's reserved range (R401), by a key for each area. -/
opaque areaKey : Nat → Nat
/-- The gap before the area in that place of the order, taken modulo the room that is left. -/
opaque areaGap : Nat → Nat
/-- The slot of the ring in which the entry of a sequence number lies (R86): sequence number. -/
opaque ringFirst : Nat
/-- A free bit, by the number of the draw. -/
opaque freeBit : Nat → Bool
/-- Has a source of network requests that the model does not hold one by one a request at unit `u` in a cycle: an engine or front-end channel
by direction, or (64) the narrow remote traffic of the block (R217, R282)? -/
opaque slotAsks (source u now : Nat) : Bool
/-- Does Facet engine `e`, with a descriptor active, stall in a cycle (R298)? -/
opaque stallCycle (e now : Nat) : Bool
/-- A free number, by the number of the draw. -/
opaque freeNat : Nat → Nat
/-- Free bytes: as many as asked, by the number of the draw. -/
opaque freeBytes : Nat → Nat → List (BitVec 8)
/-- What host memory holds where the device has written nothing: function, address, cycle of the read. -/
opaque hostByte : Nat → Nat → Nat → BitVec 8
/-- The firmware's fixed share of plan memory in bytes (R56). -/
opaque planMemFirmware : Nat
/-- What F000-FFFF hold (R65): index, sub-index, cycle of the read. -/
opaque diagnostics : Nat → Nat → Nat → List (BitVec 8)

/-- RECIP, RSQRT and EXP on this die (R111): operation and FP32 input. -/
opaque unaryValue : Nat → Nat → Nat
/-- Where the TOD programs section of a plan keeps a node's first TOD or descriptor (R187): section, node; in 64-byte units from
the section's start. -/
opaque nodeProgram : List (BitVec 8) → Nat → Nat
/-- Where SCH places a TOD programs section in its partition's program region (R47): partition, section; in bytes. -/
opaque programPlace : Nat → List (BitVec 8) → Nat
/-- Where a partition's LPDDR5 program region starts (R41, R192), in bytes. -/
opaque programBase : Nat → Nat
/-- How many bytes a partition's program region holds (check 7 of R52). -/
opaque programSize : Nat → Nat
/-- The picture buffers of a plan (R20, R23), from its TOD programs section: whether it is the in-line stream's, the bases of its sets A, B
and C, the bytes of one set. -/
opaque pictures : List (BitVec 8) → List (Bool × List Nat × Nat)
/-- The stream and the row of the picture that a byte of a plan's picture buffers holds, by that section and the byte's address (R264, R265). -/
opaque pictureRow : List (BitVec 8) → Nat → Option (Nat × Nat)
/-- The handle-table entries that a plan binds (R140), from its TOD programs section: core, handle, base row, rows, layout, DIAG
and GUARD as bits 0 and 1, fill. -/
opaque planBinds : List (BitVec 8) → List (Nat × Nat × Nat × Nat × Nat × Nat × Nat)

/-- ACT 0x2 for an integer output (R119): 6.0 in output units, from QMULT and QSHIFT. -/
opaque clampSix : Int → Nat → Nat

/-- The CRC-32 that a KNOWN_ANSWER test gives (R436): core, unit, seed, rows, number of the draw. -/
opaque knownAnswer : Nat → Nat → Nat → Nat → Nat → Nat

/-- The pairs of the feature descriptor, fixed in the die (R330), by place in the table: any number stands for one of the 31 values from −15
to 15, its remainder less 15. -/
opaque pairTable : Nat → Nat

/-- A source coordinate that the homography leaves without a value (R295): its operands give NaN, by output pixel and axis. -/
opaque nanCoord : Nat → Nat → Nat → Int

/-- The root key hash in fuses (R385). -/
opaque rootKeyHash : List (BitVec 8)
/-- The SVN floor of a processor code in fuses before any raise by the device (R385, R391). -/
opaque svnFloor : Nat → Nat
/-- The random BOOT_ID that SEC draws (R89), by the number of the draw. -/
opaque bootId : Nat → BitVec 64
/-- A signature by SEC's DICE alias key over a message, by the measurements in the DICE layers (R385, R386, R398, R417). -/
opaque aliasSign : List (List (BitVec 8)) → List (BitVec 8) → List (BitVec 8)
/-- The SHA-256 of the ROM (R418, block 1). -/
opaque romDigest : List (BitVec 8)
/-- VERSION and SVN that block 1 gives for the ROM (R418). -/
opaque romVersion : Nat
/-- The value of measurement block 12 (R418): the nine SVN floors and the root key hash. -/
opaque fuseBlock : List Nat → List (BitVec 8) → List (BitVec 8)
/-- The certificate chain of slot 0, by the measurements in the DICE layers (R385, R386, R417). -/
opaque certChain : List (List (BitVec 8)) → List (BitVec 8)
/-- Cycles in which SEC writes a directory copy to flash (R383). -/
opaque dirCycles : Nat
/-- SEC's half of an SPDM key exchange (R417), by the number of the draw. -/
opaque keyExchange : Nat → List (BitVec 8)
/-- TLPs sent on a sub-stream in a cycle under a key set (R416): K_SET_GO accepted so far, sub-stream, cycle since. -/
opaque tlpCount (keys sub cycle : Nat) : Nat
/-- Sensitivity of a unit's margin in ps per mV, fused (R457). -/
opaque sensitivity : Nat → Nat
/-- The lowest target that a cluster's or the control block's ring oscillators allow (R457, R460): unit, drift. -/
opaque clusterTarget : Nat → Int → Nat
/-- Cells of the boundary register over the groups of R485 and R486 (R496). -/
opaque boundaryCells : Nat
/-- The IDCODE of the part (R496). -/
opaque idcode : BitVec 32

end Sys2Proof.Config
end

