-- ==== Sys2Proof/Machine/Objects.lean ====
section
/-! DEFINITION. The object dictionary's table (03 R64–R69, R91 and each chapter's object table): one row for each object
or run of objects, with type, access code, default, range, reserved values and the rights of each role. -/

namespace Sys2Proof.Machine

/-- The types of R66. -/
inductive OTy where
  | bool | u8 | u16 | u32 | u64 | i8 | i16 | i32 | i64 | f32 | str | blob | plan
  deriving DecidableEq, Repr

/-- The access codes of R11. -/
inductive Acc where
  | ro | rw | wo | rwt | konst
  deriving DecidableEq, Repr

/-- What an object belongs to: its instance number counts partitions, streams and so on; `fn` objects are held once for
each function. -/
inductive Home where
  | glob | fn | part | stream | port | core | engine | res | dma | unit | proc
  deriving DecidableEq, Repr

/-- How far a partition owner reaches: nowhere, every instance, its own partition's. -/
inductive Reach where
  | no | all | own
  deriving DecidableEq, Repr

/-- A row of an object table. `first`, `count`, `stride`: the indices of the instances. `sub`, `subs`: the run of
sub-indices. `lo`, `hi`, `resv`: the range and the reserved values on a write. `poRead`, `poWrite`, `mcRead`, `mcWrite`:
rights of the partition owner and the machine controller. `latched`: a partition owner reads the value of the last tick
edge. `maxLen`: the largest length of a variable-size value. -/
structure ObjRow where
  name : String
  first : Nat
  count : Nat
  stride : Nat
  sub : Nat
  subs : Nat
  ty : OTy
  acc : Acc
  home : Home
  dflt : Nat
  lo : Nat
  hi : Nat
  resv : List (Nat × Nat)
  poRead : Reach
  poWrite : Reach
  mcRead : Bool
  mcWrite : Bool
  latched : Bool
  maxLen : Nat
  deriving DecidableEq, Repr

/-- The objects of 03 R91, part 1. -/
def objs1000a : List ObjRow := [
⟨"VENDOR", 0x1000, 1, 1, 0x1, 1, .str, .konst, .glob, 0, 0, 0, [], .all, .no, true, false, false, 255⟩,
  ⟨"FAMILY", 0x1000, 1, 1, 0x2, 1, .str, .konst, .glob, 0, 0, 0, [], .all, .no, true, false, false, 255⟩,
  ⟨"PART", 0x1000, 1, 1, 0x3, 1, .str, .konst, .glob, 0, 0, 0, [], .all, .no, true, false, false, 255⟩,
  ⟨"GRADE", 0x1000, 1, 1, 0x4, 1, .str, .konst, .glob, 0, 0, 0, [], .all, .no, true, false, false, 255⟩,
  ⟨"STEPPING", 0x1000, 1, 1, 0x5, 1, .u16, .konst, .glob, 0, 0, 65535, [], .all, .no, true, false, false, 0⟩,
  ⟨"DIE_SERIAL", 0x1000, 1, 1, 0x6, 1, .u64, .konst, .glob, 0, 0, 18446744073709551615, [], .all, .no, true, false, false, 0⟩,
  ⟨"BOOT_ID", 0x1000, 1, 1, 0x7, 1, .u64, .ro, .glob, 0, 0, 18446744073709551615, [], .all, .no, true, false, false, 0⟩,
  ⟨"FW_VERSION", 0x1001, 1, 1, 0x1, 9, .u32, .ro, .glob, 0, 0, 4294967295, [], .all, .no, true, false, false, 0⟩,
  ⟨"TENSOR_CORES", 0x1002, 1, 1, 0x1, 1, .u8, .konst, .glob, 32, 0, 255, [], .all, .no, true, false, false, 0⟩,
  ⟨"TENSOR_CLUSTERS", 0x1002, 1, 1, 0x2, 1, .u8, .konst, .glob, 4, 0, 255, [], .all, .no, true, false, false, 0⟩,
  ⟨"PORTS", 0x1002, 1, 1, 0x3, 1, .u8, .konst, .glob, 16, 0, 255, [], .all, .no, true, false, false, 0⟩,
  ⟨"STREAMS", 0x1002, 1, 1, 0x4, 1, .u8, .konst, .glob, 64, 0, 255, [], .all, .no, true, false, false, 0⟩,
  ⟨"I3C_CONTROLLERS", 0x1002, 1, 1, 0x5, 1, .u8, .konst, .glob, 16, 0, 255, [], .all, .no, true, false, false, 0⟩,
  ⟨"LPDDR5_CHANNELS", 0x1002, 1, 1, 0x6, 1, .u8, .konst, .glob, 32, 0, 255, [], .all, .no, true, false, false, 0⟩,
  ⟨"LPDDR5_BYTES", 0x1002, 1, 1, 0x7, 1, .u64, .ro, .glob, 0, 0, 18446744073709551615, [], .all, .no, true, false, false, 0⟩,
  ⟨"UCIE_MODULES", 0x1002, 1, 1, 0x8, 1, .u8, .konst, .glob, 2, 0, 255, [], .all, .no, true, false, false, 0⟩,
  ⟨"PYR_ENGINES", 0x1002, 1, 1, 0x9, 1, .u8, .konst, .glob, 4, 0, 255, [], .all, .no, true, false, false, 0⟩,
  ⟨"WRP_ENGINES", 0x1002, 1, 1, 0xA, 1, .u8, .konst, .glob, 4, 0, 255, [], .all, .no, true, false, false, 0⟩,
  ⟨"FLW_ENGINES", 0x1002, 1, 1, 0xB, 1, .u8, .konst, .glob, 2, 0, 255, [], .all, .no, true, false, false, 0⟩,
  ⟨"STE_ENGINES", 0x1002, 1, 1, 0xC, 1, .u8, .konst, .glob, 4, 0, 255, [], .all, .no, true, false, false, 0⟩,
  ⟨"FTR_ENGINES", 0x1002, 1, 1, 0xD, 1, .u8, .konst, .glob, 1, 0, 255, [], .all, .no, true, false, false, 0⟩,
  ⟨"TRACK_CONTEXTS", 0x1002, 1, 1, 0xE, 1, .u32, .konst, .glob, 1048576, 0, 4294967295, [], .all, .no, true, false, false, 0⟩,
  ⟨"QUEUES", 0x1002, 1, 1, 0xF, 1, .u16, .konst, .glob, 8192, 0, 65535, [], .all, .no, true, false, false, 0⟩,
  ⟨"PARTITIONS", 0x1002, 1, 1, 0x10, 1, .u8, .konst, .glob, 8, 0, 255, [], .all, .no, true, false, false, 0⟩,
  ⟨"DMA_UNITS", 0x1002, 1, 1, 0x11, 1, .u8, .konst, .glob, 6, 0, 255, [], .all, .no, true, false, false, 0⟩,
  ⟨"CONTROL_CORES", 0x1002, 1, 1, 0x12, 1, .u8, .konst, .glob, 6, 0, 255, [], .all, .no, true, false, false, 0⟩,
  ⟨"FW_PROCESSORS", 0x1002, 1, 1, 0x13, 1, .u8, .konst, .glob, 9, 0, 255, [], .all, .no, true, false, false, 0⟩,
  ⟨"SPARE_MAX", 0x1002, 1, 1, 0x14, 1, .u8, .konst, .glob, 4, 0, 255, [], .all, .no, true, false, false, 0⟩,
  ⟨"DMA_RETRY_MAX", 0x1002, 1, 1, 0x15, 1, .u8, .konst, .glob, 7, 0, 255, [], .all, .no, true, false, false, 0⟩,
  ⟨"HOST_IF_VERSION", 0x1010, 1, 1, 0x1, 1, .u32, .rw, .glob, 0, 0, 4294967295, [], .no, .no, false, false, false, 0⟩]

/-- The objects of 03 R91, part 2. -/
def objs1000b : List ObjRow := [
⟨"DEVICE_IF_VERSION", 0x1010, 1, 1, 0x2, 1, .u32, .konst, .glob, 65536, 0, 4294967295, [], .all, .no, true, false, false, 0⟩,
  ⟨"NEGOTIATION", 0x1010, 1, 1, 0x3, 1, .u8, .ro, .glob, 0, 0, 255, [], .all, .no, true, false, false, 0⟩,
  ⟨"FUNCTION_IF_VERSION", 0x1010, 1, 1, 0x4, 1, .u32, .rw, .fn, 0, 0, 4294967295, [], .all, .all, true, true, false, 0⟩,
  ⟨"TXN_IDLE_MS", 0x1011, 1, 1, 0x1, 1, .u32, .konst, .glob, 2000, 0, 4294967295, [], .no, .no, false, false, false, 0⟩,
  ⟨"TXN_MAX_OBJECTS", 0x1011, 1, 1, 0x2, 1, .u16, .konst, .glob, 256, 0, 65535, [], .no, .no, false, false, false, 0⟩,
  ⟨"TXN_MAX_BYTES", 0x1011, 1, 1, 0x3, 1, .u32, .konst, .glob, 4194304, 0, 4294967295, [], .no, .no, false, false, false, 0⟩,
  ⟨"TXN_OPEN", 0x1011, 1, 1, 0x4, 1, .u8, .ro, .glob, 0, 0, 255, [], .no, .no, false, false, false, 0⟩,
  ⟨"TXN_ABANDONED", 0x1011, 1, 1, 0x5, 1, .u32, .ro, .glob, 0, 0, 4294967295, [], .no, .no, false, false, false, 0⟩,
  ⟨"TXN_CONFLICTS", 0x1011, 1, 1, 0x6, 1, .u32, .ro, .glob, 0, 0, 4294967295, [], .no, .no, false, false, false, 0⟩,
  ⟨"MSG_PAYLOAD_MAX", 0x1012, 1, 1, 0x1, 1, .u16, .konst, .glob, 4096, 0, 65535, [], .all, .no, true, false, false, 0⟩,
  ⟨"REQUESTS", 0x1012, 1, 1, 0x2, 1, .u64, .ro, .fn, 0, 0, 18446744073709551615, [], .all, .no, true, false, false, 0⟩,
  ⟨"REFUSED", 0x1012, 1, 1, 0x3, 1, .u64, .ro, .fn, 0, 0, 18446744073709551615, [], .all, .no, true, false, false, 0⟩,
  ⟨"BUSY_RESPONSES", 0x1012, 1, 1, 0x4, 1, .u64, .ro, .fn, 0, 0, 18446744073709551615, [], .all, .no, true, false, false, 0⟩,
  ⟨"JOURNAL_HEAD", 0x1020, 1, 1, 0x1, 1, .u64, .ro, .glob, 1, 0, 18446744073709551615, [], .all, .no, true, false, false, 0⟩,
  ⟨"OLDEST_ON_CHIP", 0x1020, 1, 1, 0x2, 1, .u64, .ro, .glob, 1, 0, 18446744073709551615, [], .all, .no, false, false, false, 0⟩,
  ⟨"OLDEST_IN_RING", 0x1020, 1, 1, 0x3, 1, .u64, .ro, .glob, 0, 0, 18446744073709551615, [], .all, .no, false, false, false, 0⟩,
  ⟨"RING_ENABLE", 0x1020, 1, 1, 0x4, 1, .bool, .rwt, .glob, 1, 0, 1, [(2, 255)], .all, .no, false, false, false, 0⟩,
  ⟨"RING_BASE", 0x1020, 1, 1, 0x5, 1, .u64, .ro, .glob, 0, 0, 18446744073709551615, [], .all, .no, false, false, false, 0⟩,
  ⟨"RING_ENTRIES", 0x1020, 1, 1, 0x6, 1, .u32, .konst, .glob, 1048576, 0, 4294967295, [], .all, .no, false, false, false, 0⟩,
  ⟨"MIRROR_LAG", 0x1020, 1, 1, 0x7, 1, .u16, .ro, .glob, 0, 0, 65535, [], .all, .no, false, false, false, 0⟩,
  ⟨"CURSOR", 0x1021, 1, 1, 0x1, 1, .u64, .rw, .fn, 1, 0, 18446744073709551615, [], .all, .all, true, true, false, 0⟩,
  ⟨"ENTRIES", 0x1021, 1, 1, 0x2, 1, .blob, .ro, .fn, 0, 0, 0, [], .all, .all, true, true, false, 65535⟩,
  ⟨"BATCH", 0x1021, 1, 1, 0x3, 1, .u8, .rw, .fn, 64, 1, 64, [], .all, .all, true, true, false, 0⟩]

/-- The objects of 03 R91. -/
def objs1000 : List ObjRow := objs1000a ++ objs1000b

/-- The objects of 14 R379, part 1. -/
def objs1100a : List ObjRow := [
⟨"LINK_STATE", 0x1100, 1, 1, 0x1, 1, .u8, .ro, .glob, 0, 0, 255, [], .all, .no, true, false, false, 0⟩,
  ⟨"RATE_MAX", 0x1100, 1, 1, 0x2, 1, .u8, .rwt, .glob, 2, 0, 2, [(3, 255)], .no, .no, false, false, false, 0⟩,
  ⟨"RATE", 0x1100, 1, 1, 0x3, 1, .u8, .ro, .glob, 0, 0, 255, [], .all, .no, false, false, false, 0⟩,
  ⟨"WIDTH", 0x1100, 1, 1, 0x4, 1, .u8, .ro, .glob, 0, 0, 255, [], .all, .no, false, false, false, 0⟩,
  ⟨"RETRAINS", 0x1100, 1, 1, 0x5, 1, .u32, .ro, .glob, 0, 0, 4294967295, [], .no, .no, false, false, false, 0⟩,
  ⟨"REPLAYS", 0x1100, 1, 1, 0x6, 1, .u64, .ro, .glob, 0, 0, 18446744073709551615, [], .no, .no, false, false, false, 0⟩,
  ⟨"DEGRADED", 0x1100, 1, 1, 0x7, 1, .bool, .ro, .glob, 0, 0, 1, [(2, 255)], .no, .no, false, false, false, 0⟩,
  ⟨"RETRAIN", 0x1100, 1, 1, 0x8, 1, .bool, .wo, .glob, 0, 0, 1, [(2, 255)], .no, .no, false, false, false, 0⟩,
  ⟨"VENDOR_ID", 0x1101, 1, 1, 0x1, 1, .u16, .konst, .glob, 0, 0, 65535, [], .all, .no, false, false, false, 0⟩,
  ⟨"PF_DEVICE_ID", 0x1101, 1, 1, 0x2, 1, .u16, .konst, .glob, 25650, 0, 65535, [], .all, .no, false, false, false, 0⟩,
  ⟨"VF_DEVICE_ID", 0x1101, 1, 1, 0x3, 1, .u16, .konst, .glob, 25651, 0, 65535, [], .all, .no, false, false, false, 0⟩,
  ⟨"VFS_ENABLED", 0x1101, 1, 1, 0x4, 1, .u8, .ro, .glob, 0, 0, 255, [], .all, .no, false, false, false, 0⟩,
  ⟨"FUNCTION", 0x1101, 1, 1, 0x5, 1, .u8, .ro, .glob, 0, 0, 255, [], .all, .no, false, false, false, 0⟩,
  ⟨"WIN_STATUS", 0x1102, 1, 1, 0x1, 1, .u32, .ro, .fn, 0, 0, 4294967295, [], .all, .all, false, false, false, 0⟩,
  ⟨"WIN_REFUSED", 0x1102, 1, 1, 0x2, 1, .u32, .ro, .fn, 0, 0, 4294967295, [], .all, .all, false, false, false, 0⟩,
  ⟨"APERTURE_REFUSED", 0x1102, 1, 1, 0x3, 1, .u32, .ro, .fn, 0, 0, 4294967295, [], .all, .all, false, false, false, 0⟩,
  ⟨"EV_BASE", 0x1104, 1, 1, 0x1, 1, .u64, .rw, .fn, 0, 0, 18446744073709551615, [], .all, .all, false, false, false, 0⟩,
  ⟨"EV_LOG2", 0x1104, 1, 1, 0x2, 1, .u8, .rw, .fn, 8, 6, 16, [], .all, .all, false, false, false, 0⟩,
  ⟨"EV_ENABLE", 0x1104, 1, 1, 0x3, 1, .bool, .rw, .fn, 0, 0, 1, [(2, 255)], .all, .all, false, false, false, 0⟩,
  ⟨"EV_DROPPED", 0x1104, 1, 1, 0x4, 1, .u32, .ro, .fn, 0, 0, 4294967295, [], .all, .all, false, false, false, 0⟩,
  ⟨"RES_BASE", 0x1105, 1, 1, 0x1, 1, .u64, .rw, .fn, 0, 0, 18446744073709551615, [], .all, .all, false, false, false, 0⟩,
  ⟨"RES_LOG2", 0x1105, 1, 1, 0x2, 1, .u8, .rw, .fn, 10, 6, 16, [], .all, .all, false, false, false, 0⟩,
  ⟨"RES_ENABLE", 0x1105, 1, 1, 0x3, 1, .bool, .rw, .fn, 0, 0, 1, [(2, 255)], .all, .all, false, false, false, 0⟩,
  ⟨"RES_DROPPED", 0x1105, 1, 1, 0x4, 1, .u32, .ro, .fn, 0, 0, 4294967295, [], .all, .all, false, false, false, 0⟩,
  ⟨"VERDICT_ADDR", 0x1105, 1, 1, 0x5, 1, .u64, .rw, .fn, 0, 0, 18446744073709551615, [], .all, .all, false, false, false, 0⟩,
  ⟨"TICK_DIVIDER", 0x1106, 1, 1, 0x1, 1, .u8, .rw, .fn, 0, 0, 255, [], .all, .all, false, false, false, 0⟩,
  ⟨"COALESCE_US", 0x1106, 1, 1, 0x2, 1, .u16, .rw, .fn, 20, 0, 10000, [], .all, .all, false, false, false, 0⟩,
  ⟨"CAN_ENABLE", 0x1110, 1, 1, 0x1, 1, .bool, .rwt, .glob, 0, 0, 1, [(2, 255)], .no, .no, false, false, false, 0⟩,
  ⟨"NOM_RATE", 0x1110, 1, 1, 0x2, 1, .u8, .rwt, .glob, 3, 0, 3, [(4, 255)], .no, .no, false, false, false, 0⟩,
  ⟨"DATA_RATE", 0x1110, 1, 1, 0x3, 1, .u8, .rwt, .glob, 4, 0, 5, [(6, 255)], .no, .no, false, false, false, 0⟩]

/-- The objects of 14 R379, part 2. -/
def objs1100b : List ObjRow := [
⟨"ID_BASE", 0x1110, 1, 1, 0x4, 1, .u32, .rwt, .glob, 768, 0, 4294967295, [], .no, .no, false, false, false, 0⟩,
  ⟨"ID_EXT", 0x1110, 1, 1, 0x5, 1, .bool, .rwt, .glob, 0, 0, 1, [(2, 255)], .no, .no, false, false, false, 0⟩,
  ⟨"NOM_SP", 0x1110, 1, 1, 0x6, 1, .u8, .rwt, .glob, 80, 60, 90, [], .no, .no, false, false, false, 0⟩,
  ⟨"DATA_SP", 0x1110, 1, 1, 0x7, 1, .u8, .rwt, .glob, 75, 60, 90, [], .no, .no, false, false, false, 0⟩,
  ⟨"BUSOFF_DELAY", 0x1110, 1, 1, 0x8, 1, .u16, .rwt, .glob, 100, 0, 10000, [], .no, .no, false, false, false, 0⟩,
  ⟨"CAN_STATE", 0x1110, 1, 1, 0x9, 1, .u8, .ro, .glob, 0, 0, 255, [], .no, .no, true, false, false, 0⟩,
  ⟨"TEC", 0x1110, 1, 1, 0xA, 1, .u8, .ro, .glob, 0, 0, 255, [], .no, .no, false, false, false, 0⟩,
  ⟨"REC", 0x1110, 1, 1, 0xB, 1, .u8, .ro, .glob, 0, 0, 255, [], .no, .no, false, false, false, 0⟩,
  ⟨"BUSOFF_COUNT", 0x1110, 1, 1, 0xC, 1, .u32, .ro, .glob, 0, 0, 4294967295, [], .no, .no, false, false, false, 0⟩,
  ⟨"FRAMES_RX", 0x1110, 1, 1, 0xD, 1, .u64, .ro, .glob, 0, 0, 18446744073709551615, [], .no, .no, false, false, false, 0⟩,
  ⟨"FRAMES_TX", 0x1110, 1, 1, 0xE, 1, .u64, .ro, .glob, 0, 0, 18446744073709551615, [], .no, .no, false, false, false, 0⟩,
  ⟨"KEY0", 0x1111, 1, 1, 0x1, 1, .blob, .wo, .glob, 0, 0, 0, [], .no, .no, false, false, false, 16⟩,
  ⟨"KEY1", 0x1111, 1, 1, 0x2, 1, .blob, .wo, .glob, 0, 0, 0, [], .no, .no, false, false, false, 16⟩,
  ⟨"ACTIVE_SLOT", 0x1111, 1, 1, 0x3, 1, .u8, .ro, .glob, 255, 0, 255, [], .no, .no, true, false, false, 0⟩,
  ⟨"RX_FRESH", 0x1111, 1, 1, 0x4, 1, .u32, .ro, .glob, 0, 0, 4294967295, [], .no, .no, true, false, false, 0⟩,
  ⟨"TX_FRESH", 0x1111, 1, 1, 0x5, 1, .u32, .ro, .glob, 0, 0, 4294967295, [], .no, .no, true, false, false, 0⟩,
  ⟨"AUTH_FAILS", 0x1111, 1, 1, 0x6, 1, .u32, .ro, .glob, 0, 0, 4294967295, [], .no, .no, false, false, false, 0⟩,
  ⟨"FRESH_FAILS", 0x1111, 1, 1, 0x7, 1, .u32, .ro, .glob, 0, 0, 4294967295, [], .no, .no, false, false, false, 0⟩,
  ⟨"STATUS_PERIOD", 0x1111, 1, 1, 0x8, 1, .u8, .rwt, .glob, 1, 0, 255, [], .no, .no, false, false, false, 0⟩,
  ⟨"CAN_EVENT_MASK", 0x1111, 1, 1, 0x9, 1, .u8, .rwt, .glob, 15, 0, 15, [(16, 255)], .no, .no, false, false, false, 0⟩,
  ⟨"REKEY_DUE", 0x1111, 1, 1, 0xA, 1, .bool, .ro, .glob, 0, 0, 1, [(2, 255)], .no, .no, true, false, false, 0⟩,
  ⟨"FORM_ERRORS", 0x1111, 1, 1, 0xB, 1, .u32, .ro, .glob, 0, 0, 4294967295, [], .no, .no, false, false, false, 0⟩,
  ⟨"CAN_EVENTS_DROPPED", 0x1111, 1, 1, 0xC, 1, .u32, .ro, .glob, 0, 0, 4294967295, [], .no, .no, false, false, false, 0⟩]

/-- The objects of 14 R379. -/
def objs1100 : List ObjRow := objs1100a ++ objs1100b

/-- The objects of 02 R62, part 1. -/
def objs2000a : List ObjRow := [
⟨"TICK_SOURCE", 0x2000, 1, 1, 0x1, 1, .u8, .rwt, .glob, 0, 0, 2, [(3, 255)], .all, .no, false, false, false, 0⟩,
  ⟨"TICK_RATE", 0x2000, 1, 1, 0x2, 1, .u32, .rwt, .glob, 60000, 15000, 240000, [], .all, .no, false, false, false, 0⟩,
  ⟨"TICK_ENABLE", 0x2000, 1, 1, 0x3, 1, .bool, .rwt, .glob, 0, 0, 1, [(2, 255)], .all, .no, false, false, false, 0⟩,
  ⟨"TICK_IN_EDGE", 0x2000, 1, 1, 0x4, 1, .u8, .rwt, .glob, 0, 0, 1, [(2, 255)], .all, .no, false, false, false, 0⟩,
  ⟨"HOST_TICK", 0x2000, 1, 1, 0x5, 1, .u8, .wo, .glob, 0, 1, 1, [(0, 0), (2, 255)], .all, .no, false, false, false, 0⟩,
  ⟨"TICK_COUNT", 0x2001, 1, 1, 0x1, 1, .u64, .ro, .glob, 0, 0, 18446744073709551615, [], .all, .no, true, false, false, 0⟩,
  ⟨"TICK_TIME", 0x2001, 1, 1, 0x2, 1, .u64, .ro, .glob, 0, 0, 18446744073709551615, [], .all, .no, true, false, false, 0⟩,
  ⟨"TICK_LENGTH", 0x2001, 1, 1, 0x3, 1, .u32, .ro, .glob, 0, 0, 4294967295, [], .all, .no, true, false, false, 0⟩,
  ⟨"SOURCE_ACTIVE", 0x2001, 1, 1, 0x4, 1, .u8, .ro, .glob, 0, 0, 255, [], .all, .no, true, false, false, 0⟩,
  ⟨"FLYWHEEL_TICKS", 0x2001, 1, 1, 0x5, 1, .u32, .ro, .glob, 0, 0, 4294967295, [], .all, .no, true, false, false, 0⟩,
  ⟨"EARLY_EDGES", 0x2001, 1, 1, 0x6, 1, .u32, .ro, .glob, 0, 0, 4294967295, [], .all, .no, true, false, false, 0⟩,
  ⟨"FSYNC_OFFSET", 0x2010, 16, 1, 0x1, 1, .u32, .ro, .port, 0, 0, 4294967295, [], .all, .no, false, false, false, 0⟩,
  ⟨"FSYNC_WIDTH", 0x2010, 16, 1, 0x2, 1, .u32, .rwt, .port, 5000, 1, 500000, [], .all, .no, false, false, false, 0⟩,
  ⟨"FSYNC_POLARITY", 0x2010, 16, 1, 0x3, 1, .u8, .rwt, .port, 0, 0, 1, [(2, 255)], .all, .no, false, false, false, 0⟩,
  ⟨"FSYNC_ENABLE", 0x2010, 16, 1, 0x4, 1, .bool, .rwt, .port, 0, 0, 1, [(2, 255)], .all, .no, false, false, false, 0⟩,
  ⟨"PLAN_FMT_MAJOR", 0x2020, 1, 1, 0x1, 1, .u16, .konst, .glob, 1, 0, 65535, [], .all, .no, false, false, false, 0⟩,
  ⟨"PLAN_FMT_MINOR", 0x2020, 1, 1, 0x2, 1, .u16, .konst, .glob, 0, 0, 65535, [], .all, .no, false, false, false, 0⟩,
  ⟨"PLAN_MEMORY_FREE", 0x2020, 1, 1, 0x3, 1, .u32, .ro, .glob, 0, 0, 4294967295, [], .all, .no, false, false, false, 0⟩,
  ⟨"PLAN_IMAGE", 0x2100, 8, 1, 0x1, 1, .plan, .rwt, .part, 0, 0, 0, [], .own, .own, false, false, false, 2097152⟩,
  ⟨"STAGED_LENGTH", 0x2100, 8, 1, 0x2, 1, .u32, .ro, .part, 0, 0, 4294967295, [], .own, .own, false, false, false, 0⟩,
  ⟨"STAGED_ID", 0x2100, 8, 1, 0x3, 1, .u64, .ro, .part, 0, 0, 18446744073709551615, [], .own, .own, false, false, false, 0⟩,
  ⟨"PLAN_STOP", 0x2100, 8, 1, 0x4, 1, .bool, .rwt, .part, 0, 0, 1, [(2, 255)], .own, .own, false, false, false, 0⟩,
  ⟨"PLAN_ID", 0x2110, 8, 1, 0x1, 1, .u64, .ro, .part, 0, 0, 18446744073709551615, [], .own, .no, true, false, false, 0⟩,
  ⟨"PLAN_STATE", 0x2110, 8, 1, 0x2, 1, .u8, .ro, .part, 0, 0, 255, [], .own, .no, true, false, false, 0⟩,
  ⟨"WORST_CYCLES", 0x2110, 8, 1, 0x3, 1, .u32, .ro, .part, 0, 0, 4294967295, [], .own, .no, false, false, false, 0⟩,
  ⟨"DEGRADED_CYCLES", 0x2110, 8, 1, 0x4, 1, .u32, .ro, .part, 0, 0, 4294967295, [], .own, .no, false, false, false, 0⟩,
  ⟨"LIMIT_CYCLES", 0x2110, 8, 1, 0x5, 1, .u32, .ro, .part, 0, 0, 4294967295, [], .own, .no, false, false, false, 0⟩,
  ⟨"SPARE_LEFT", 0x2110, 8, 1, 0x6, 1, .u8, .ro, .part, 0, 0, 255, [], .own, .no, false, false, false, 0⟩,
  ⟨"START_TICK", 0x2110, 8, 1, 0x7, 1, .u64, .ro, .part, 0, 0, 18446744073709551615, [], .own, .no, false, false, false, 0⟩,
  ⟨"ADMIT_STATUS", 0x2120, 8, 1, 0x1, 1, .u16, .ro, .part, 0, 0, 65535, [], .own, .no, false, false, false, 0⟩]

/-- The objects of 02 R62, part 2. -/
def objs2000b : List ObjRow := [
⟨"FAILED_CHECK", 0x2120, 8, 1, 0x2, 1, .u8, .ro, .part, 0, 0, 255, [], .own, .no, false, false, false, 0⟩,
  ⟨"FAILED_ITEM", 0x2120, 8, 1, 0x3, 1, .u32, .ro, .part, 0, 0, 4294967295, [], .own, .no, false, false, false, 0⟩,
  ⟨"DEMAND", 0x2120, 8, 1, 0x4, 1, .u64, .ro, .part, 0, 0, 18446744073709551615, [], .own, .no, false, false, false, 0⟩,
  ⟨"LIMIT", 0x2120, 8, 1, 0x5, 1, .u64, .ro, .part, 0, 0, 18446744073709551615, [], .own, .no, false, false, false, 0⟩,
  ⟨"ADMIT_TXN", 0x2120, 8, 1, 0x6, 1, .u32, .ro, .part, 0, 0, 4294967295, [], .own, .no, false, false, false, 0⟩,
  ⟨"OVERRUN_TICKS", 0x2130, 8, 1, 0x1, 1, .u64, .ro, .part, 0, 0, 18446744073709551615, [], .own, .no, false, false, false, 0⟩,
  ⟨"LATE_TASKS", 0x2130, 8, 1, 0x2, 1, .u64, .ro, .part, 0, 0, 18446744073709551615, [], .own, .no, false, false, false, 0⟩,
  ⟨"CANCELLED_TASKS", 0x2130, 8, 1, 0x3, 1, .u64, .ro, .part, 0, 0, 18446744073709551615, [], .own, .no, false, false, false, 0⟩,
  ⟨"GUARD_INTRUSIONS", 0x2130, 8, 1, 0x4, 1, .u64, .ro, .part, 0, 0, 18446744073709551615, [], .own, .no, false, false, false, 0⟩,
  ⟨"LATEST_END", 0x2130, 8, 1, 0x5, 1, .u32, .ro, .part, 0, 0, 4294967295, [], .no, .no, false, false, false, 0⟩,
  ⟨"LATEST_END_TICK", 0x2130, 8, 1, 0x6, 1, .u64, .ro, .part, 0, 0, 18446744073709551615, [], .no, .no, false, false, false, 0⟩,
  ⟨"CLEAR_OVERRUN", 0x2130, 8, 1, 0x7, 1, .bool, .wo, .part, 0, 0, 1, [(2, 255)], .own, .own, false, false, false, 0⟩]

/-- The objects of 02 R62. -/
def objs2000 : List ObjRow := objs2000a ++ objs2000b

/-- The objects of 09 R252, 10 R279. -/
def objs2030 : List ObjRow := [
⟨"PHY_CONFIG", 0x2030, 16, 1, 0x1, 1, .u8, .rwt, .port, 0, 0, 6, [(7, 255)], .own, .own, false, false, false, 0⟩,
  ⟨"HS_RATE", 0x2030, 16, 1, 0x2, 1, .u16, .rwt, .port, 2500, 80, 6000, [], .own, .own, false, false, false, 0⟩,
  ⟨"MAP_LOCK", 0x2030, 16, 1, 0x3, 1, .bool, .rwt, .port, 0, 0, 1, [(2, 255)], .own, .own, false, false, false, 0⟩,
  ⟨"LANE_MAP", 0x2030, 16, 1, 0x4, 1, .u32, .rwt, .port, 228, 0, 4294967295, [], .own, .own, false, false, false, 0⟩,
  ⟨"PAD_VALUE", 0x2030, 16, 1, 0x5, 1, .u16, .rwt, .port, 0, 0, 4095, [], .own, .own, false, false, false, 0⟩,
  ⟨"PORT_STATE", 0x2030, 16, 1, 0x6, 1, .u8, .ro, .port, 0, 0, 255, [], .own, .own, true, false, false, 0⟩,
  ⟨"MAP_IN_USE", 0x2030, 16, 1, 0x7, 1, .u32, .ro, .port, 0, 0, 4294967295, [], .own, .own, false, false, false, 0⟩,
  ⟨"LANE_STATE", 0x2030, 16, 1, 0x8, 1, .u32, .ro, .port, 28086, 0, 4294967295, [], .own, .own, false, false, false, 0⟩,
  ⟨"HDR_CORRECTED", 0x2030, 16, 1, 0x9, 1, .u64, .ro, .port, 0, 0, 18446744073709551615, [], .own, .own, false, false, true, 0⟩,
  ⟨"HDR_DROPPED", 0x2030, 16, 1, 0xA, 1, .u64, .ro, .port, 0, 0, 18446744073709551615, [], .own, .own, false, false, true, 0⟩,
  ⟨"SOT_ERRORS", 0x2030, 16, 1, 0xB, 1, .u64, .ro, .port, 0, 0, 18446744073709551615, [], .own, .own, false, false, true, 0⟩,
  ⟨"LANE_FAULTS", 0x2030, 16, 1, 0xC, 1, .u32, .ro, .port, 0, 0, 4294967295, [], .own, .own, false, false, true, 0⟩,
  ⟨"OVERFLOW_LINES", 0x2030, 16, 1, 0xD, 1, .u64, .ro, .port, 0, 0, 18446744073709551615, [], .own, .own, false, false, true, 0⟩,
  ⟨"UNMATCHED", 0x2030, 16, 1, 0xE, 1, .u64, .ro, .port, 0, 0, 18446744073709551615, [], .own, .own, false, false, true, 0⟩,
  ⟨"LINE_MEM_PEAK", 0x2030, 16, 1, 0xF, 1, .u32, .ro, .port, 0, 0, 4294967295, [], .own, .own, false, false, true, 0⟩,
  ⟨"CLEAR_COUNTS", 0x2030, 16, 1, 0x10, 1, .bool, .wo, .port, 0, 0, 1, [(2, 255)], .own, .own, false, false, false, 0⟩,
  ⟨"SDR_RATE", 0x2040, 16, 1, 0x1, 1, .u8, .rwt, .port, 0, 0, 2, [(3, 255)], .own, .own, false, false, false, 0⟩,
  ⟨"I2C_RATE", 0x2040, 16, 1, 0x2, 1, .u8, .rwt, .port, 0, 0, 1, [(2, 255)], .own, .own, false, false, false, 0⟩,
  ⟨"DASA_TABLE", 0x2040, 16, 1, 0x3, 1, .blob, .rwt, .port, 0, 0, 0, [], .own, .own, false, false, false, 16⟩,
  ⟨"BUS_STATE", 0x2040, 16, 1, 0x4, 1, .u8, .ro, .port, 0, 0, 255, [], .own, .own, true, false, false, 0⟩,
  ⟨"RECOVERIES", 0x2040, 16, 1, 0x5, 1, .u32, .ro, .port, 0, 0, 4294967295, [], .own, .own, false, false, true, 0⟩,
  ⟨"STUCK_EVENTS", 0x2040, 16, 1, 0x6, 1, .u32, .ro, .port, 0, 0, 4294967295, [], .own, .own, false, false, true, 0⟩,
  ⟨"IBI_REFUSED", 0x2040, 16, 1, 0x7, 1, .u32, .ro, .port, 0, 0, 4294967295, [], .own, .own, false, false, true, 0⟩,
  ⟨"CLEAR_COUNTS", 0x2040, 16, 1, 0x8, 1, .bool, .wo, .port, 0, 0, 1, [(2, 255)], .own, .own, false, false, false, 0⟩]

/-- The objects of 15 R399, part 1. -/
def objs2050a : List ObjRow := [
⟨"START_STATE", 0x2050, 1, 1, 0x1, 1, .u8, .ro, .glob, 0, 0, 255, [], .all, .no, true, false, false, 0⟩,
  ⟨"START", 0x2050, 1, 1, 0x2, 1, .bool, .wo, .glob, 0, 0, 1, [(2, 255)], .no, .no, false, false, false, 0⟩,
  ⟨"LOAD_AREA", 0x2050, 1, 1, 0x3, 1, .u64, .ro, .glob, 0, 0, 18446744073709551615, [], .no, .no, false, false, false, 0⟩,
  ⟨"LOAD_AREA_BYTES", 0x2050, 1, 1, 0x4, 1, .u32, .konst, .glob, 8388608, 0, 4294967295, [], .no, .no, false, false, false, 0⟩,
  ⟨"FLASH_SLOT", 0x2050, 1, 1, 0x5, 1, .u8, .ro, .glob, 0, 0, 255, [], .no, .no, false, false, false, 0⟩,
  ⟨"BOOT_FAULTS", 0x2050, 1, 1, 0x6, 1, .u32, .ro, .glob, 0, 0, 4294967295, [], .no, .no, false, false, false, 0⟩,
  ⟨"LOAD_IMAGE", 0x2051, 1, 1, 0x1, 1, .blob, .wo, .glob, 0, 0, 0, [], .no, .no, false, false, false, 8⟩,
  ⟨"LOADED", 0x2051, 1, 1, 0x2, 1, .u16, .ro, .glob, 3, 0, 65535, [], .no, .no, false, false, false, 0⟩,
  ⟨"LOAD_STATUS", 0x2051, 1, 1, 0x3, 1, .u16, .ro, .glob, 0, 0, 65535, [], .no, .no, false, false, false, 0⟩,
  ⟨"LOAD_DETAIL", 0x2051, 1, 1, 0x4, 1, .u8, .ro, .glob, 0, 0, 255, [], .no, .no, false, false, false, 0⟩,
  ⟨"UPDATE_IMAGE", 0x2053, 1, 1, 0x1, 1, .blob, .wo, .glob, 0, 0, 0, [], .no, .no, false, false, false, 8⟩,
  ⟨"UPDATE_COMMIT", 0x2053, 1, 1, 0x2, 1, .bool, .wo, .glob, 0, 0, 1, [(2, 255)], .no, .no, false, false, false, 0⟩,
  ⟨"UPDATE_STATE", 0x2053, 1, 1, 0x3, 1, .u8, .ro, .glob, 0, 0, 255, [], .no, .no, false, false, false, 0⟩,
  ⟨"SVN_RAISE", 0x2053, 1, 1, 0x4, 1, .bool, .wo, .glob, 0, 0, 1, [(2, 255)], .no, .no, false, false, false, 0⟩,
  ⟨"LOG_CURSOR", 0x2054, 1, 1, 0x1, 1, .u64, .rw, .fn, 1, 0, 18446744073709551615, [], .all, .all, false, false, false, 0⟩,
  ⟨"LOG_ENTRIES", 0x2054, 1, 1, 0x2, 1, .blob, .ro, .glob, 0, 0, 0, [], .all, .no, false, false, false, 65535⟩,
  ⟨"LOG_HEAD", 0x2054, 1, 1, 0x3, 1, .u64, .ro, .glob, 0, 0, 18446744073709551615, [], .all, .no, false, false, false, 0⟩,
  ⟨"LOG_LEVEL", 0x2054, 1, 1, 0x4, 1, .u8, .rw, .glob, 2, 0, 3, [], .no, .no, false, false, false, 0⟩,
  ⟨"TRACE_MASK", 0x2054, 1, 1, 0x5, 1, .blob, .rw, .fn, 0, 0, 0, [], .all, .all, false, false, false, 288⟩,
  ⟨"LOG_SKIPPED", 0x2054, 1, 1, 0x6, 1, .u32, .ro, .fn, 0, 0, 4294967295, [], .all, .no, false, false, false, 0⟩,
  ⟨"TRACE_DROPPED", 0x2054, 1, 1, 0x7, 1, .u32, .ro, .glob, 0, 0, 4294967295, [], .all, .no, false, false, false, 0⟩,
  ⟨"DUMP_SELECT", 0x2055, 1, 1, 0x1, 1, .u8, .rw, .glob, 0, 0, 3, [], .no, .no, false, false, false, 0⟩,
  ⟨"DUMP_HEADER", 0x2055, 1, 1, 0x2, 1, .blob, .ro, .glob, 0, 0, 0, [], .no, .no, false, false, false, 65535⟩,
  ⟨"DUMP_ADDR", 0x2055, 1, 1, 0x3, 1, .u64, .ro, .glob, 0, 0, 18446744073709551615, [], .no, .no, false, false, false, 0⟩,
  ⟨"DUMP_COUNT", 0x2055, 1, 1, 0x4, 1, .u32, .ro, .glob, 0, 0, 4294967295, [], .no, .no, false, false, false, 0⟩,
  ⟨"DUMP_RELEASE", 0x2055, 1, 1, 0x5, 1, .bool, .wo, .glob, 0, 0, 1, [(2, 255)], .no, .no, false, false, false, 0⟩,
  ⟨"PROC_STATE", 0x2060, 9, 1, 0x1, 1, .u8, .ro, .proc, 0, 0, 255, [], .all, .no, true, false, false, 0⟩,
  ⟨"RESTARTS", 0x2060, 9, 1, 0x2, 1, .u32, .ro, .proc, 0, 0, 4294967295, [], .all, .no, false, false, false, 0⟩,
  ⟨"LAST_CAUSE", 0x2060, 9, 1, 0x3, 1, .u8, .ro, .proc, 0, 0, 255, [], .all, .no, false, false, false, 0⟩,
  ⟨"WDT_MS", 0x2060, 9, 1, 0x4, 1, .u16, .konst, .proc, 0, 0, 65535, [], .all, .no, false, false, false, 0⟩]

/-- The objects of 15 R399, part 2. -/
def objs2050b : List ObjRow := [
⟨"RESTART_MS", 0x2060, 9, 1, 0x5, 1, .u16, .konst, .proc, 0, 0, 65535, [], .all, .no, false, false, false, 0⟩,
  ⟨"RESTART", 0x2060, 9, 1, 0x6, 1, .bool, .wo, .proc, 0, 0, 1, [(2, 255)], .no, .no, false, false, false, 0⟩,
  ⟨"MEASUREMENT", 0x2060, 9, 1, 0x7, 1, .blob, .ro, .proc, 0, 0, 0, [], .no, .no, false, false, false, 65535⟩]

/-- The objects of 15 R399. -/
def objs2050 : List ObjRow := objs2050a ++ objs2050b

/-- The objects of 19 R481. -/
def objs2070 : List ObjRow := [
⟨"VDD_CORE_MV", 0x2070, 1, 1, 0x1, 1, .u16, .ro, .glob, 0, 0, 65535, [], .no, .no, false, false, false, 0⟩,
  ⟨"VDD_CORE_MA", 0x2070, 1, 1, 0x2, 1, .u32, .ro, .glob, 0, 0, 4294967295, [], .no, .no, false, false, false, 0⟩,
  ⟨"VDD_SRAM_MV", 0x2070, 1, 1, 0x3, 1, .u16, .ro, .glob, 0, 0, 65535, [], .no, .no, false, false, false, 0⟩,
  ⟨"VDD_UCIE_MV", 0x2070, 1, 1, 0x4, 1, .u16, .ro, .glob, 0, 0, 65535, [], .no, .no, false, false, false, 0⟩,
  ⟨"VDDQ_DDR_MV", 0x2070, 1, 1, 0x5, 1, .u16, .ro, .glob, 0, 0, 65535, [], .no, .no, false, false, false, 0⟩,
  ⟨"AVS_FAILURES", 0x2070, 1, 1, 0x6, 1, .u32, .ro, .glob, 0, 0, 4294967295, [], .no, .no, false, false, false, 0⟩,
  ⟨"AVS_REQUESTS", 0x2070, 1, 1, 0x7, 1, .u64, .ro, .glob, 0, 0, 18446744073709551615, [], .no, .no, false, false, false, 0⟩,
  ⟨"TEMP", 0x2071, 1, 1, 0x1, 8, .i16, .ro, .glob, 0, 0, 0, [], .no, .no, false, false, false, 0⟩,
  ⟨"TJ", 0x2071, 1, 1, 0x9, 1, .i16, .ro, .glob, 0, 0, 0, [], .no, .no, true, false, false, 0⟩,
  ⟨"TJ_PEAK", 0x2071, 1, 1, 0xA, 1, .i16, .ro, .glob, 0, 0, 0, [], .no, .no, false, false, false, 0⟩,
  ⟨"THERMAL_STATE", 0x2071, 1, 1, 0xB, 1, .u8, .ro, .glob, 0, 0, 255, [], .no, .no, true, false, false, 0⟩,
  ⟨"OVER_LIMIT_TICKS", 0x2071, 1, 1, 0xC, 1, .u64, .ro, .glob, 0, 0, 18446744073709551615, [], .no, .no, false, false, false, 0⟩,
  ⟨"THROTTLE_TICKS", 0x2071, 1, 1, 0xD, 1, .u64, .ro, .glob, 0, 0, 18446744073709551615, [], .no, .no, false, false, false, 0⟩,
  ⟨"TJ_RATED", 0x2071, 1, 1, 0xE, 1, .i16, .konst, .glob, 0, 0, 0, [], .no, .no, false, false, false, 0⟩,
  ⟨"TJ_TRIP", 0x2071, 1, 1, 0xF, 1, .i16, .konst, .glob, 0, 0, 0, [], .no, .no, false, false, false, 0⟩,
  ⟨"REFCLK_HZ", 0x2072, 1, 1, 0x1, 1, .u32, .konst, .glob, 100000000, 0, 4294967295, [], .no, .no, false, false, false, 0⟩,
  ⟨"ACLK_HZ", 0x2072, 1, 1, 0x2, 1, .u32, .konst, .glob, 500000000, 0, 4294967295, [], .no, .no, false, false, false, 0⟩,
  ⟨"FCLK_HZ", 0x2072, 1, 1, 0x3, 1, .u32, .konst, .glob, 800000000, 0, 4294967295, [], .no, .no, false, false, false, 0⟩]

/-- The objects of 16 R420. -/
def objs3000 : List ObjRow := [
⟨"PARTITIONS", 0x3000, 1, 1, 0x1, 1, .u8, .konst, .glob, 8, 0, 255, [], .all, .no, false, false, false, 0⟩,
  ⟨"GRANULE_BYTES", 0x3000, 1, 1, 0x2, 1, .u32, .konst, .glob, 67108864, 0, 4294967295, [], .all, .no, false, false, false, 0⟩,
  ⟨"RESERVED_GRANULES", 0x3000, 1, 1, 0x3, 1, .u8, .konst, .glob, 4, 0, 255, [], .all, .no, false, false, false, 0⟩,
  ⟨"SCRUB_PENDING", 0x3000, 1, 1, 0x4, 1, .u64, .ro, .glob, 0, 0, 18446744073709551615, [], .no, .no, false, false, false, 0⟩,
  ⟨"FIREWALL_REFUSED", 0x3000, 1, 1, 0x5, 1, .u64, .ro, .glob, 0, 0, 18446744073709551615, [], .no, .no, false, false, false, 0⟩,
  ⟨"LAST_REFUSAL", 0x3000, 1, 1, 0x6, 1, .u64, .ro, .glob, 0, 0, 18446744073709551615, [], .no, .no, false, false, false, 0⟩,
  ⟨"WINDOW_OVERRUNS", 0x3000, 1, 1, 0x7, 1, .u32, .ro, .glob, 0, 0, 4294967295, [], .no, .no, false, false, false, 0⟩,
  ⟨"POWER_MW", 0x3020, 1, 1, 0x1, 1, .u32, .ro, .glob, 0, 0, 4294967295, [], .no, .no, false, false, false, 0⟩,
  ⟨"POWER_W", 0x3020, 1, 1, 0x2, 1, .u16, .ro, .glob, 0, 0, 65535, [], .all, .no, false, false, false, 0⟩,
  ⟨"P_STATE", 0x3100, 8, 1, 0x1, 1, .u8, .ro, .part, 0, 0, 255, [], .own, .no, true, false, false, 0⟩,
  ⟨"CORE_MASK", 0x3100, 8, 1, 0x2, 1, .u32, .rwt, .part, 0, 0, 4294967295, [], .own, .no, false, false, false, 0⟩,
  ⟨"PORT_MASK", 0x3100, 8, 1, 0x3, 1, .u16, .rwt, .part, 0, 0, 65535, [], .own, .no, false, false, false, 0⟩,
  ⟨"QUEUE_FIRST", 0x3100, 8, 1, 0x4, 1, .u16, .rwt, .part, 0, 0, 8191, [], .own, .no, false, false, false, 0⟩,
  ⟨"QUEUE_COUNT", 0x3100, 8, 1, 0x5, 1, .u16, .rwt, .part, 0, 0, 8192, [], .own, .no, false, false, false, 0⟩,
  ⟨"DDR_FIRST", 0x3100, 8, 1, 0x6, 1, .u16, .rwt, .part, 4, 0, 65535, [], .own, .no, false, false, false, 0⟩,
  ⟨"DDR_COUNT", 0x3100, 8, 1, 0x7, 1, .u16, .rwt, .part, 0, 0, 65535, [], .own, .no, false, false, false, 0⟩,
  ⟨"SCRATCH_FIRST", 0x3100, 8, 1, 0x8, 1, .u16, .rwt, .part, 0, 0, 65535, [], .own, .no, false, false, false, 0⟩,
  ⟨"SCRATCH_COUNT", 0x3100, 8, 1, 0x9, 1, .u16, .rwt, .part, 0, 0, 2040, [], .own, .no, false, false, false, 0⟩,
  ⟨"CTX_FIRST", 0x3100, 8, 1, 0xA, 1, .u32, .rwt, .part, 0, 0, 4294967295, [], .own, .no, false, false, false, 0⟩,
  ⟨"CTX_COUNT", 0x3100, 8, 1, 0xB, 1, .u32, .rwt, .part, 0, 0, 4294967295, [], .own, .no, false, false, false, 0⟩,
  ⟨"CTX_OFFSET", 0x3100, 8, 1, 0xC, 1, .u32, .rwt, .part, 0, 0, 4294967295, [], .own, .no, false, false, false, 0⟩,
  ⟨"WINDOW", 0x3110, 8, 1, 0x1, 15, .u64, .rwt, .part, 0, 0, 18446744073709551615, [], .own, .no, false, false, false, 0⟩,
  ⟨"CHANNELS", 0x3120, 8, 1, 0x1, 6, .u8, .rwt, .part, 0, 0, 255, [], .own, .no, false, false, false, 0⟩,
  ⟨"BW_SHARE", 0x3120, 8, 1, 0x7, 1, .u8, .rwt, .part, 0, 0, 64, [], .own, .no, false, false, false, 0⟩]

/-- The objects of 09 R251, 10 R278, by offset in the stream block, part 1. -/
def objs4000a : List ObjRow := [
⟨"ENABLE", 0x4000, 64, 64, 0x1, 1, .bool, .rwt, .stream, 1, 0, 1, [(2, 255)], .own, .own, false, false, false, 0⟩,
  ⟨"VC", 0x4000, 64, 64, 0x2, 1, .u8, .rwt, .stream, 0, 0, 15, [], .own, .own, false, false, false, 0⟩,
  ⟨"EXPECT_WIDTH", 0x4000, 64, 64, 0x3, 1, .u16, .rwt, .stream, 0, 0, 65535, [], .own, .own, false, false, false, 0⟩,
  ⟨"EXPECT_HEIGHT", 0x4000, 64, 64, 0x4, 1, .u16, .rwt, .stream, 0, 0, 65535, [], .own, .own, false, false, false, 0⟩,
  ⟨"LOSS_TICKS", 0x4000, 64, 64, 0x5, 1, .u8, .rwt, .stream, 3, 1, 255, [], .own, .own, false, false, false, 0⟩,
  ⟨"STATE", 0x4001, 64, 64, 0x1, 1, .u8, .ro, .stream, 1, 0, 255, [], .own, .own, true, false, false, 0⟩,
  ⟨"FRAME_NUMBER", 0x4001, 64, 64, 0x2, 1, .u32, .ro, .stream, 0, 0, 4294967295, [], .own, .own, false, false, false, 0⟩,
  ⟨"SENSOR_FN", 0x4001, 64, 64, 0x3, 1, .u16, .ro, .stream, 0, 0, 65535, [], .own, .own, false, false, false, 0⟩,
  ⟨"INTAKE_STATUS", 0x4001, 64, 64, 0x4, 1, .u32, .ro, .stream, 0, 0, 4294967295, [], .own, .own, true, false, false, 0⟩,
  ⟨"INTAKE_TICK", 0x4001, 64, 64, 0x5, 1, .u64, .ro, .stream, 0, 0, 18446744073709551615, [], .own, .own, false, false, false, 0⟩,
  ⟨"RX_WIDTH", 0x4001, 64, 64, 0x6, 1, .u16, .ro, .stream, 0, 0, 65535, [], .own, .own, false, false, false, 0⟩,
  ⟨"RX_HEIGHT", 0x4001, 64, 64, 0x7, 1, .u16, .ro, .stream, 0, 0, 65535, [], .own, .own, false, false, false, 0⟩,
  ⟨"FRAMES", 0x4002, 64, 64, 0x1, 1, .u64, .ro, .stream, 0, 0, 18446744073709551615, [], .own, .own, false, false, true, 0⟩,
  ⟨"DISCARDED", 0x4002, 64, 64, 0x2, 1, .u64, .ro, .stream, 0, 0, 18446744073709551615, [], .own, .own, false, false, true, 0⟩,
  ⟨"CUT_FRAMES", 0x4002, 64, 64, 0x3, 1, .u64, .ro, .stream, 0, 0, 18446744073709551615, [], .own, .own, false, false, true, 0⟩,
  ⟨"SHORT_FRAMES", 0x4002, 64, 64, 0x4, 1, .u64, .ro, .stream, 0, 0, 18446744073709551615, [], .own, .own, false, false, true, 0⟩,
  ⟨"LONG_FRAMES", 0x4002, 64, 64, 0x5, 1, .u64, .ro, .stream, 0, 0, 18446744073709551615, [], .own, .own, false, false, true, 0⟩,
  ⟨"SHORT_LINES", 0x4002, 64, 64, 0x6, 1, .u64, .ro, .stream, 0, 0, 18446744073709551615, [], .own, .own, false, false, true, 0⟩,
  ⟨"LONG_LINES", 0x4002, 64, 64, 0x7, 1, .u64, .ro, .stream, 0, 0, 18446744073709551615, [], .own, .own, false, false, true, 0⟩,
  ⟨"BAD_LINES", 0x4002, 64, 64, 0x8, 1, .u64, .ro, .stream, 0, 0, 18446744073709551615, [], .own, .own, false, false, true, 0⟩,
  ⟨"WRONG_DT", 0x4002, 64, 64, 0x9, 1, .u64, .ro, .stream, 0, 0, 18446744073709551615, [], .own, .own, false, false, true, 0⟩,
  ⟨"FN_GAPS", 0x4002, 64, 64, 0xA, 1, .u64, .ro, .stream, 0, 0, 18446744073709551615, [], .own, .own, false, false, true, 0⟩,
  ⟨"ATTACHES", 0x4002, 64, 64, 0xB, 1, .u32, .ro, .stream, 0, 0, 4294967295, [], .own, .own, false, false, true, 0⟩,
  ⟨"LOSSES", 0x4002, 64, 64, 0xC, 1, .u32, .ro, .stream, 0, 0, 4294967295, [], .own, .own, false, false, true, 0⟩,
  ⟨"CLEAR_COUNTS", 0x4002, 64, 64, 0xD, 1, .bool, .wo, .stream, 0, 0, 1, [(2, 255)], .own, .own, false, false, false, 0⟩,
  ⟨"GLINT_FAILS", 0x4003, 64, 64, 0x1, 1, .u64, .ro, .stream, 0, 0, 18446744073709551615, [], .own, .own, false, false, true, 0⟩,
  ⟨"GLINT_EXPECTED", 0x4003, 64, 64, 0x2, 1, .u32, .ro, .stream, 0, 0, 4294967295, [], .own, .own, false, false, false, 0⟩,
  ⟨"GLINT_SEEN", 0x4003, 64, 64, 0x3, 1, .u32, .ro, .stream, 0, 0, 4294967295, [], .own, .own, false, false, false, 0⟩,
  ⟨"GLINT_FAIL_TICK", 0x4003, 64, 64, 0x4, 1, .u64, .ro, .stream, 0, 0, 18446744073709551615, [], .own, .own, false, false, false, 0⟩,
  ⟨"CFA_ORDER", 0x4008, 64, 64, 0x1, 1, .u8, .rwt, .stream, 0, 0, 4, [(5, 255)], .own, .own, false, false, false, 0⟩]

/-- The objects of 09 R251, 10 R278, by offset in the stream block, part 2. -/
def objs4000b : List ObjRow := [
⟨"BL0–BL3", 0x4008, 64, 64, 0x2, 4, .u16, .rwt, .stream, 0, 0, 4095, [], .own, .own, false, false, false, 0⟩,
  ⟨"PEDESTAL", 0x4008, 64, 64, 0x6, 1, .u16, .rwt, .stream, 0, 0, 4095, [], .own, .own, false, false, false, 0⟩,
  ⟨"DPC_ENABLE", 0x4009, 64, 64, 0x1, 1, .bool, .rwt, .stream, 1, 0, 1, [(2, 255)], .own, .own, false, false, false, 0⟩,
  ⟨"THRESH_HI", 0x4009, 64, 64, 0x2, 1, .u16, .rwt, .stream, 256, 0, 4095, [], .own, .own, false, false, false, 0⟩,
  ⟨"THRESH_LO", 0x4009, 64, 64, 0x3, 1, .u16, .rwt, .stream, 256, 0, 4095, [], .own, .own, false, false, false, 0⟩,
  ⟨"STATIC_ENABLE", 0x4009, 64, 64, 0x4, 1, .bool, .rwt, .stream, 0, 0, 1, [(2, 255)], .own, .own, false, false, false, 0⟩,
  ⟨"DEFECT_LIST", 0x4009, 64, 64, 0x5, 1, .blob, .rwt, .stream, 0, 0, 0, [], .own, .own, false, false, false, 16384⟩,
  ⟨"DEFECTS_LAST", 0x4009, 64, 64, 0x6, 1, .u32, .ro, .stream, 0, 0, 4294967295, [], .own, .own, false, false, false, 0⟩,
  ⟨"LSC_ENABLE", 0x400A, 64, 64, 0x1, 1, .bool, .rwt, .stream, 0, 0, 1, [(2, 255)], .own, .own, false, false, false, 0⟩,
  ⟨"LSC_GRID", 0x400A, 64, 64, 0x2, 1, .blob, .rwt, .stream, 0, 0, 0, [], .own, .own, false, false, false, 8712⟩,
  ⟨"CLIP_LEVEL", 0x400B, 64, 64, 0x1, 1, .u16, .rwt, .stream, 0, 0, 4095, [], .own, .own, false, false, false, 0⟩,
  ⟨"STATS_ADDR_A", 0x400B, 64, 64, 0x2, 1, .u64, .ro, .stream, 0, 0, 18446744073709551615, [], .own, .own, false, false, false, 0⟩,
  ⟨"STATS_ADDR_B", 0x400B, 64, 64, 0x3, 1, .u64, .ro, .stream, 0, 0, 18446744073709551615, [], .own, .own, false, false, false, 0⟩,
  ⟨"LAST_STATS_FN", 0x400B, 64, 64, 0x4, 1, .u32, .ro, .stream, 0, 0, 4294967295, [], .own, .own, false, false, false, 0⟩,
  ⟨"STATS_RECORD", 0x400B, 64, 64, 0x5, 1, .blob, .ro, .stream, 0, 0, 0, [], .own, .own, false, false, false, 65535⟩,
  ⟨"PATH", 0x400C, 64, 64, 0x1, 1, .u8, .ro, .stream, 0, 0, 255, [], .own, .own, false, false, false, 0⟩,
  ⟨"STRIPES", 0x400C, 64, 64, 0x2, 1, .u16, .ro, .stream, 0, 0, 65535, [], .own, .own, false, false, false, 0⟩,
  ⟨"LAG_ROWS", 0x400C, 64, 64, 0x3, 1, .u8, .ro, .stream, 0, 0, 255, [], .own, .own, false, false, false, 0⟩,
  ⟨"RAW_PITCH", 0x400C, 64, 64, 0x4, 1, .u32, .ro, .stream, 0, 0, 4294967295, [], .own, .own, false, false, false, 0⟩,
  ⟨"RAW_ADDR_A", 0x400C, 64, 64, 0x5, 1, .u64, .ro, .stream, 0, 0, 18446744073709551615, [], .own, .own, false, false, false, 0⟩,
  ⟨"RAW_ADDR_B", 0x400C, 64, 64, 0x6, 1, .u64, .ro, .stream, 0, 0, 18446744073709551615, [], .own, .own, false, false, false, 0⟩,
  ⟨"STRIPES_DONE", 0x400C, 64, 64, 0x7, 1, .u64, .ro, .stream, 0, 0, 18446744073709551615, [], .own, .own, false, false, true, 0⟩,
  ⟨"STRIPES_LATE", 0x400C, 64, 64, 0x8, 1, .u64, .ro, .stream, 0, 0, 18446744073709551615, [], .own, .own, false, false, true, 0⟩,
  ⟨"RING_STALLS", 0x400C, 64, 64, 0x9, 1, .u64, .ro, .stream, 0, 0, 18446744073709551615, [], .own, .own, false, false, true, 0⟩,
  ⟨"CLEAR_COUNTS", 0x400C, 64, 64, 0xA, 1, .bool, .wo, .stream, 0, 0, 1, [(2, 255)], .own, .own, false, false, false, 0⟩,
  ⟨"PARAM_INIT", 0x400D, 64, 64, 0x1, 1, .blob, .rwt, .stream, 0, 0, 0, [], .own, .own, false, false, false, 64⟩,
  ⟨"PARAM_ADDR", 0x400D, 64, 64, 0x2, 1, .u64, .ro, .stream, 0, 0, 18446744073709551615, [], .own, .own, false, false, false, 0⟩,
  ⟨"PARAM_CURRENT", 0x400D, 64, 64, 0x3, 1, .blob, .ro, .stream, 0, 0, 0, [], .own, .own, false, false, false, 65535⟩,
  ⟨"LOOP_MODE", 0x400E, 64, 64, 0x1, 1, .u8, .rwt, .stream, 0, 0, 2, [(3, 255)], .own, .own, true, false, false, 0⟩,
  ⟨"TEMPLATE", 0x400E, 64, 64, 0x2, 1, .blob, .rwt, .stream, 0, 0, 0, [], .own, .own, false, false, false, 256⟩]

/-- The objects of 09 R251, 10 R278, by offset in the stream block, part 3. -/
def objs4000c : List ObjRow := [
⟨"HOST_RECORD", 0x400E, 64, 64, 0x3, 1, .blob, .rwt, .stream, 0, 0, 0, [], .own, .own, false, false, false, 64⟩,
  ⟨"LOOP_ADDR", 0x400E, 64, 64, 0x4, 1, .u64, .ro, .stream, 0, 0, 18446744073709551615, [], .own, .own, false, false, false, 0⟩,
  ⟨"LAST_RECORD", 0x400E, 64, 64, 0x5, 1, .blob, .ro, .stream, 0, 0, 0, [], .own, .own, false, false, false, 65535⟩,
  ⟨"LAST_SENT_FN", 0x400E, 64, 64, 0x6, 1, .u32, .ro, .stream, 0, 0, 4294967295, [], .own, .own, true, false, false, 0⟩,
  ⟨"LAST_SENT_TICK", 0x400E, 64, 64, 0x7, 1, .u64, .ro, .stream, 0, 0, 18446744073709551615, [], .own, .own, false, false, false, 0⟩,
  ⟨"RECORDS_SENT", 0x400F, 64, 64, 0x1, 1, .u64, .ro, .stream, 0, 0, 18446744073709551615, [], .own, .own, false, false, true, 0⟩,
  ⟨"WRITES_SENT", 0x400F, 64, 64, 0x2, 1, .u64, .ro, .stream, 0, 0, 18446744073709551615, [], .own, .own, false, false, true, 0⟩,
  ⟨"CLAMPED", 0x400F, 64, 64, 0x3, 1, .u64, .ro, .stream, 0, 0, 18446744073709551615, [], .own, .own, false, false, true, 0⟩,
  ⟨"STALE", 0x400F, 64, 64, 0x4, 1, .u64, .ro, .stream, 0, 0, 18446744073709551615, [], .own, .own, false, false, true, 0⟩,
  ⟨"NACKED", 0x400F, 64, 64, 0x5, 1, .u64, .ro, .stream, 0, 0, 18446744073709551615, [], .own, .own, false, false, true, 0⟩,
  ⟨"SKIPPED", 0x400F, 64, 64, 0x6, 1, .u64, .ro, .stream, 0, 0, 18446744073709551615, [], .own, .own, false, false, true, 0⟩,
  ⟨"CLEAR_COUNTS", 0x400F, 64, 64, 0x7, 1, .bool, .wo, .stream, 0, 0, 1, [(2, 255)], .own, .own, false, false, false, 0⟩]

/-- The objects of 09 R251, 10 R278, by offset in the stream block. -/
def objs4000 : List ObjRow := objs4000a ++ objs4000b ++ objs4000c

/-- The objects of 04 R126, 05 R151, 06 R182, part 1. -/
def objs5000a : List ObjRow := [
⟨"CORE_STATE", 0x5000, 32, 1, 0x1, 1, .u8, .ro, .core, 0, 0, 255, [], .own, .no, true, false, false, 0⟩,
  ⟨"CORE_PARTITION", 0x5000, 32, 1, 0x2, 1, .u8, .ro, .core, 0, 0, 255, [], .own, .no, false, false, false, 0⟩,
  ⟨"TODS_DONE", 0x5000, 32, 1, 0x3, 1, .u64, .ro, .core, 0, 0, 18446744073709551615, [], .own, .no, false, false, false, 0⟩,
  ⟨"ARRAY_BUSY", 0x5000, 32, 1, 0x4, 1, .u64, .ro, .core, 0, 0, 18446744073709551615, [], .own, .no, false, false, true, 0⟩,
  ⟨"ACC_SAT_COUNT", 0x5000, 32, 1, 0x5, 1, .u64, .ro, .core, 0, 0, 18446744073709551615, [], .own, .no, false, false, false, 0⟩,
  ⟨"OUT_SAT_COUNT", 0x5000, 32, 1, 0x6, 1, .u64, .ro, .core, 0, 0, 18446744073709551615, [], .own, .no, false, false, false, 0⟩,
  ⟨"NAN_INF_COUNT", 0x5000, 32, 1, 0x7, 1, .u64, .ro, .core, 0, 0, 18446744073709551615, [], .own, .no, false, false, false, 0⟩,
  ⟨"TOD_REFUSED", 0x5000, 32, 1, 0x8, 1, .u64, .ro, .core, 0, 0, 18446744073709551615, [], .own, .no, false, false, false, 0⟩,
  ⟨"CLEAR_COUNTS", 0x5000, 32, 1, 0x9, 1, .bool, .wo, .core, 0, 0, 1, [(2, 255)], .own, .own, false, false, false, 0⟩,
  ⟨"FORMATS", 0x5020, 1, 1, 0x1, 1, .u16, .konst, .glob, 32767, 0, 65535, [], .all, .no, false, false, false, 0⟩,
  ⟨"ARRAY_ROWS", 0x5020, 1, 1, 0x2, 1, .u16, .konst, .glob, 128, 0, 65535, [], .all, .no, false, false, false, 0⟩,
  ⟨"ARRAY_COLUMNS", 0x5020, 1, 1, 0x3, 1, .u16, .konst, .glob, 64, 0, 65535, [], .all, .no, false, false, false, 0⟩,
  ⟨"VECTOR_LANES", 0x5020, 1, 1, 0x4, 1, .u16, .konst, .glob, 64, 0, 65535, [], .all, .no, false, false, false, 0⟩,
  ⟨"COLLISIONS", 0x5100, 32, 1, 0x1, 1, .u64, .ro, .core, 0, 0, 18446744073709551615, [], .own, .no, false, false, true, 0⟩,
  ⟨"GUARD_EVENTS", 0x5100, 32, 1, 0x2, 1, .u64, .ro, .core, 0, 0, 18446744073709551615, [], .own, .no, false, false, true, 0⟩,
  ⟨"ENGINE_WAIT", 0x5100, 32, 1, 0x3, 1, .u64, .ro, .core, 0, 0, 18446744073709551615, [], .own, .no, false, false, true, 0⟩,
  ⟨"REMOTE_REFUSED", 0x5100, 32, 1, 0x4, 1, .u64, .ro, .core, 0, 0, 18446744073709551615, [], .own, .no, false, false, true, 0⟩,
  ⟨"STALE_REFUSED", 0x5100, 32, 1, 0x5, 1, .u64, .ro, .core, 0, 0, 18446744073709551615, [], .own, .no, false, false, true, 0⟩,
  ⟨"QUARANTINES", 0x5100, 32, 1, 0x6, 1, .u32, .ro, .core, 0, 0, 4294967295, [], .own, .no, false, false, false, 0⟩,
  ⟨"VALID_ROWS", 0x5100, 32, 1, 0x7, 1, .u16, .ro, .core, 0, 0, 65535, [], .own, .no, false, false, false, 0⟩,
  ⟨"HANDLE_TABLE", 0x5100, 32, 1, 0x8, 1, .blob, .ro, .core, 0, 0, 0, [], .own, .no, false, false, false, 65535⟩,
  ⟨"CLEAR_COUNTS", 0x5100, 32, 1, 0x9, 1, .bool, .wo, .core, 0, 0, 1, [(2, 255)], .own, .own, false, false, false, 0⟩,
  ⟨"LAST_GUARD", 0x5100, 32, 1, 0xA, 1, .u64, .ro, .core, 0, 0, 18446744073709551615, [], .own, .no, false, false, false, 0⟩,
  ⟨"ROWS", 0x5120, 1, 1, 0x1, 1, .u16, .konst, .glob, 10240, 0, 65535, [], .all, .no, false, false, false, 0⟩,
  ⟨"ROW_BYTES", 0x5120, 1, 1, 0x2, 1, .u16, .konst, .glob, 256, 0, 65535, [], .all, .no, false, false, false, 0⟩,
  ⟨"BANKS", 0x5120, 1, 1, 0x3, 1, .u8, .konst, .glob, 32, 0, 255, [], .all, .no, false, false, false, 0⟩,
  ⟨"SUB_BANKS", 0x5120, 1, 1, 0x4, 1, .u8, .konst, .glob, 4, 0, 255, [], .all, .no, false, false, false, 0⟩,
  ⟨"HANDLES", 0x5120, 1, 1, 0x5, 1, .u8, .konst, .glob, 64, 0, 255, [], .all, .no, false, false, false, 0⟩,
  ⟨"AGE_LIMIT", 0x5120, 1, 1, 0x6, 1, .u8, .konst, .glob, 4, 0, 255, [], .all, .no, false, false, false, 0⟩,
  ⟨"LAYOUTS", 0x5140, 1, 1, 0x1, 1, .u16, .konst, .glob, 255, 0, 65535, [], .all, .no, false, false, false, 0⟩]

/-- The objects of 04 R126, 05 R151, 06 R182, part 2. -/
def objs5000b : List ObjRow := [
⟨"LINE_BUFFER_BYTES", 0x5140, 1, 1, 0x2, 1, .u32, .konst, .glob, 65536, 0, 4294967295, [], .all, .no, false, false, false, 0⟩,
  ⟨"WINDOW_BYTES", 0x5140, 1, 1, 0x3, 1, .u16, .konst, .glob, 256, 0, 65535, [], .all, .no, false, false, false, 0⟩,
  ⟨"FILTER_MAX", 0x5140, 1, 1, 0x4, 1, .u8, .konst, .glob, 11, 0, 255, [], .all, .no, false, false, false, 0⟩,
  ⟨"RESHARD_NODES", 0x5150, 8, 1, 0x1, 1, .u64, .ro, .part, 0, 0, 18446744073709551615, [], .own, .no, false, false, true, 0⟩,
  ⟨"RESHARD_ROWS", 0x5150, 8, 1, 0x2, 1, .u64, .ro, .part, 0, 0, 18446744073709551615, [], .own, .no, false, false, true, 0⟩,
  ⟨"ENTRIES_SKIPPED", 0x5150, 8, 1, 0x3, 1, .u64, .ro, .part, 0, 0, 18446744073709551615, [], .own, .no, false, false, true, 0⟩,
  ⟨"RESHARD_FAILED", 0x5150, 8, 1, 0x4, 1, .u64, .ro, .part, 0, 0, 18446744073709551615, [], .own, .no, false, false, true, 0⟩,
  ⟨"ZERO_ROWS_SKIPPED", 0x5150, 8, 1, 0x5, 1, .u64, .ro, .part, 0, 0, 18446744073709551615, [], .own, .no, false, false, true, 0⟩,
  ⟨"CLEAR_COUNTS", 0x5150, 8, 1, 0x6, 1, .bool, .wo, .part, 0, 0, 1, [(2, 255)], .own, .own, false, false, false, 0⟩]

/-- The objects of 04 R126, 05 R151, 06 R182. -/
def objs5000 : List ObjRow := objs5000a ++ objs5000b

/-- The objects of 07 R197, 08 R226, part 1. -/
def objs5200a : List ObjRow := [
⟨"QUEUES", 0x5200, 1, 1, 0x1, 1, .u16, .konst, .glob, 8192, 0, 65535, [], .all, .no, false, false, false, 0⟩,
  ⟨"LEVELS", 0x5200, 1, 1, 0x2, 1, .u8, .konst, .glob, 16, 0, 255, [], .all, .no, false, false, false, 0⟩,
  ⟨"MAX_OUTSTANDING", 0x5200, 1, 1, 0x3, 1, .u8, .konst, .glob, 64, 0, 255, [], .all, .no, false, false, false, 0⟩,
  ⟨"MAX_DEPTH", 0x5200, 1, 1, 0x4, 1, .u16, .konst, .glob, 4096, 0, 65535, [], .all, .no, false, false, false, 0⟩,
  ⟨"QUEUE_SELECT", 0x5201, 1, 1, 0x1, 1, .u16, .rw, .fn, 0, 0, 8191, [], .all, .all, false, false, false, 0⟩,
  ⟨"Q_STATE", 0x5201, 1, 1, 0x2, 1, .u8, .ro, .glob, 0, 0, 255, [], .all, .no, false, false, false, 0⟩,
  ⟨"Q_RESOURCE", 0x5201, 1, 1, 0x3, 1, .u8, .ro, .glob, 0, 0, 255, [], .all, .no, false, false, false, 0⟩,
  ⟨"Q_PRIORITY", 0x5201, 1, 1, 0x4, 1, .u8, .ro, .glob, 0, 0, 255, [], .all, .no, false, false, false, 0⟩,
  ⟨"Q_WAITING", 0x5201, 1, 1, 0x5, 1, .u16, .ro, .glob, 0, 0, 65535, [], .all, .no, false, false, false, 0⟩,
  ⟨"Q_INFLIGHT", 0x5201, 1, 1, 0x6, 1, .u8, .ro, .glob, 0, 0, 255, [], .all, .no, false, false, false, 0⟩,
  ⟨"Q_COMPLETED", 0x5201, 1, 1, 0x7, 1, .u64, .ro, .glob, 0, 0, 18446744073709551615, [], .all, .no, false, false, false, 0⟩,
  ⟨"Q_ABORTED", 0x5201, 1, 1, 0x8, 1, .u64, .ro, .glob, 0, 0, 18446744073709551615, [], .all, .no, false, false, false, 0⟩,
  ⟨"Q_CQ_OVERWRITTEN", 0x5201, 1, 1, 0x9, 1, .u64, .ro, .glob, 0, 0, 18446744073709551615, [], .all, .no, false, false, false, 0⟩,
  ⟨"Q_DOORBELL_REFUSED", 0x5201, 1, 1, 0xA, 1, .u32, .ro, .glob, 0, 0, 4294967295, [], .all, .no, false, false, false, 0⟩,
  ⟨"DOORBELL_STATUS", 0x5202, 1, 1, 0x1, 1, .u16, .ro, .fn, 0, 0, 65535, [], .all, .no, false, false, false, 0⟩,
  ⟨"ABORT", 0x5210, 1, 1, 0x1, 1, .blob, .wo, .glob, 0, 0, 0, [], .no, .all, false, false, false, 4⟩,
  ⟨"READY_DEPTH", 0x5300, 80, 1, 0x1, 1, .u16, .ro, .res, 0, 0, 65535, [], .own, .no, false, false, true, 0⟩,
  ⟨"READY_DEPTH_MAX", 0x5300, 80, 1, 0x2, 1, .u16, .ro, .res, 0, 0, 65535, [], .own, .no, false, false, true, 0⟩,
  ⟨"WAIT_SUM", 0x5300, 80, 1, 0x3, 1, .u64, .ro, .res, 0, 0, 18446744073709551615, [], .own, .no, false, false, true, 0⟩,
  ⟨"WAIT_MAX", 0x5300, 80, 1, 0x4, 1, .u32, .ro, .res, 0, 0, 4294967295, [], .own, .no, false, false, true, 0⟩,
  ⟨"BUSY_CYCLES", 0x5300, 80, 1, 0x5, 1, .u64, .ro, .res, 0, 0, 18446744073709551615, [], .own, .no, false, false, true, 0⟩,
  ⟨"BLOCKED_CYCLES", 0x5300, 80, 1, 0x6, 1, .u64, .ro, .res, 0, 0, 18446744073709551615, [], .own, .no, false, false, true, 0⟩,
  ⟨"TASKS", 0x5300, 80, 1, 0x7, 1, .u64, .ro, .res, 0, 0, 18446744073709551615, [], .own, .no, false, false, true, 0⟩,
  ⟨"CLEAR_COUNTS", 0x5300, 80, 1, 0x8, 1, .bool, .wo, .res, 0, 0, 1, [(2, 255)], .own, .own, false, false, false, 0⟩,
  ⟨"DMA_UNITS", 0x5400, 1, 1, 0x1, 1, .u8, .konst, .glob, 6, 0, 255, [], .all, .no, false, false, false, 0⟩,
  ⟨"CHANNELS", 0x5400, 1, 1, 0x2, 1, .u8, .konst, .glob, 32, 0, 255, [], .all, .no, false, false, false, 0⟩,
  ⟨"BUFFER_BYTES", 0x5400, 1, 1, 0x3, 1, .u32, .konst, .glob, 262144, 0, 4294967295, [], .all, .no, false, false, false, 0⟩,
  ⟨"CHANNEL_BUFFER_MAX", 0x5400, 1, 1, 0x4, 1, .u32, .konst, .glob, 32768, 0, 4294967295, [], .all, .no, false, false, false, 0⟩,
  ⟨"FETCH_AHEAD_MAX", 0x5400, 1, 1, 0x5, 1, .u8, .konst, .glob, 8, 0, 255, [], .all, .no, false, false, false, 0⟩,
  ⟨"BUS_RETRIES", 0x5400, 1, 1, 0x6, 1, .u8, .rwt, .glob, 3, 1, 7, [], .all, .no, false, false, false, 0⟩]

/-- The objects of 07 R197, 08 R226, part 2. -/
def objs5200b : List ObjRow := [
⟨"BUS_TIMEOUT", 0x5400, 1, 1, 0x7, 1, .u32, .konst, .glob, 131072, 0, 4294967295, [], .all, .no, false, false, false, 0⟩,
  ⟨"BYTES_READ", 0x5410, 6, 1, 0x1, 1, .u64, .ro, .dma, 0, 0, 18446744073709551615, [], .own, .no, false, false, true, 0⟩,
  ⟨"BYTES_WRITTEN", 0x5410, 6, 1, 0x2, 1, .u64, .ro, .dma, 0, 0, 18446744073709551615, [], .own, .no, false, false, true, 0⟩,
  ⟨"DESCRIPTORS", 0x5410, 6, 1, 0x3, 1, .u64, .ro, .dma, 0, 0, 18446744073709551615, [], .own, .no, false, false, true, 0⟩,
  ⟨"CHANNELS_BUSY", 0x5410, 6, 1, 0x4, 1, .u8, .ro, .dma, 0, 0, 255, [], .own, .no, false, false, true, 0⟩,
  ⟨"BUS_ERRORS", 0x5410, 6, 1, 0x5, 1, .u64, .ro, .dma, 0, 0, 18446744073709551615, [], .own, .no, false, false, true, 0⟩,
  ⟨"HALTS", 0x5410, 6, 1, 0x6, 1, .u32, .ro, .dma, 0, 0, 4294967295, [], .own, .no, false, false, true, 0⟩,
  ⟨"OVERLAP_REFUSED", 0x5410, 6, 1, 0x7, 1, .u32, .ro, .dma, 0, 0, 4294967295, [], .own, .no, false, false, true, 0⟩,
  ⟨"ALIAS_REFUSED", 0x5410, 6, 1, 0x8, 1, .u32, .ro, .dma, 0, 0, 4294967295, [], .own, .no, false, false, true, 0⟩,
  ⟨"RMW_BLOCKS", 0x5410, 6, 1, 0x9, 1, .u64, .ro, .dma, 0, 0, 18446744073709551615, [], .own, .no, false, false, true, 0⟩,
  ⟨"INDEX_CLIPPED", 0x5410, 6, 1, 0xA, 1, .u64, .ro, .dma, 0, 0, 18446744073709551615, [], .own, .no, false, false, true, 0⟩,
  ⟨"TASKS_ABORTED", 0x5410, 6, 1, 0xB, 1, .u32, .ro, .dma, 0, 0, 4294967295, [], .own, .no, false, false, true, 0⟩,
  ⟨"MAINT_YIELDS", 0x5410, 6, 1, 0xC, 1, .u32, .ro, .dma, 0, 0, 4294967295, [], .own, .no, false, false, true, 0⟩,
  ⟨"CLEAR_COUNTS", 0x5410, 6, 1, 0xD, 1, .bool, .wo, .dma, 0, 0, 1, [(2, 255)], .own, .no, false, false, true, 0⟩,
  ⟨"MAINT_DESC", 0x5420, 1, 1, 0x1, 1, .blob, .wo, .fn, 0, 0, 0, [], .all, .all, false, false, false, 64⟩,
  ⟨"MAINT_UNIT", 0x5420, 1, 1, 0x2, 1, .u8, .rw, .fn, 0, 0, 5, [], .all, .all, false, false, false, 0⟩,
  ⟨"MAINT_STATE", 0x5420, 1, 1, 0x3, 1, .u8, .ro, .fn, 0, 0, 255, [], .all, .all, false, false, false, 0⟩,
  ⟨"MAINT_STATUS", 0x5420, 1, 1, 0x4, 1, .u16, .ro, .fn, 0, 0, 65535, [], .all, .all, false, false, false, 0⟩,
  ⟨"COMPARE_RESULT", 0x5420, 1, 1, 0x5, 1, .blob, .ro, .fn, 0, 0, 0, [], .all, .all, false, false, false, 65535⟩,
  ⟨"BUS_ERROR_LOG", 0x5430, 6, 1, 0x1, 1, .blob, .ro, .dma, 0, 0, 0, [], .all, .no, false, false, false, 65535⟩,
  ⟨"BUS_ERROR_RECORDS", 0x5430, 6, 1, 0x2, 1, .u32, .ro, .dma, 0, 0, 4294967295, [], .no, .no, false, false, false, 0⟩]

/-- The objects of 07 R197, 08 R226. -/
def objs5200 : List ObjRow := objs5200a ++ objs5200b

/-- The objects of 11 R303, 12 R324, 13 R345, part 1. -/
def objs6000a : List ObjRow := [
⟨"ENGINE_STATE", 0x6000, 8, 1, 0x1, 1, .u8, .ro, .engine, 0, 0, 255, [], .own, .no, true, false, true, 0⟩,
  ⟨"DESCRIPTORS", 0x6000, 8, 1, 0x2, 1, .u64, .ro, .engine, 0, 0, 18446744073709551615, [], .own, .no, false, false, true, 0⟩,
  ⟨"PIXELS_IN", 0x6000, 8, 1, 0x3, 1, .u64, .ro, .engine, 0, 0, 18446744073709551615, [], .own, .no, false, false, true, 0⟩,
  ⟨"PIXELS_OUT", 0x6000, 8, 1, 0x4, 1, .u64, .ro, .engine, 0, 0, 18446744073709551615, [], .own, .no, false, false, true, 0⟩,
  ⟨"BUSY_CYCLES", 0x6000, 8, 1, 0x5, 1, .u64, .ro, .engine, 0, 0, 18446744073709551615, [], .own, .no, false, false, true, 0⟩,
  ⟨"STALL_CYCLES", 0x6000, 8, 1, 0x6, 1, .u64, .ro, .engine, 0, 0, 18446744073709551615, [], .own, .no, false, false, true, 0⟩,
  ⟨"BORDER_PIXELS", 0x6000, 8, 1, 0x7, 1, .u64, .ro, .engine, 0, 0, 18446744073709551615, [], .own, .no, false, false, true, 0⟩,
  ⟨"BAND_MISSES", 0x6000, 8, 1, 0x8, 1, .u64, .ro, .engine, 0, 0, 18446744073709551615, [], .own, .no, false, false, true, 0⟩,
  ⟨"REFUSED", 0x6000, 8, 1, 0x9, 1, .u32, .ro, .engine, 0, 0, 4294967295, [], .own, .no, false, false, true, 0⟩,
  ⟨"CLEAR_COUNTS", 0x6000, 8, 1, 0xA, 1, .bool, .wo, .engine, 0, 0, 1, [(2, 255)], .own, .no, false, false, true, 0⟩,
  ⟨"SCRATCH_BYTES", 0x6010, 1, 1, 0x1, 1, .u32, .konst, .glob, 8388608, 0, 4294967295, [], .all, .no, false, false, false, 0⟩,
  ⟨"DATA_BYTES", 0x6010, 1, 1, 0x2, 1, .u32, .konst, .glob, 8355840, 0, 4294967295, [], .all, .no, false, false, false, 0⟩,
  ⟨"FLAG_BASE", 0x6010, 1, 1, 0x3, 1, .u32, .konst, .glob, 8355840, 0, 4294967295, [], .all, .no, false, false, false, 0⟩,
  ⟨"FLAGS", 0x6010, 1, 1, 0x4, 1, .u16, .konst, .glob, 4096, 0, 65535, [], .all, .no, false, false, false, 0⟩,
  ⟨"FLAG_SELECT", 0x6010, 1, 1, 0x5, 1, .u16, .rw, .fn, 0, 0, 4095, [], .all, .all, false, false, false, 0⟩,
  ⟨"FLAG_VALUE", 0x6010, 1, 1, 0x6, 1, .u64, .ro, .fn, 0, 0, 18446744073709551615, [], .all, .no, false, false, false, 0⟩,
  ⟨"WAIT_EXPIRED", 0x6010, 1, 1, 0x7, 1, .u32, .ro, .glob, 0, 0, 4294967295, [], .all, .no, false, false, false, 0⟩,
  ⟨"ENGINE_STATE", 0x6008, 6, 1, 0x1, 1, .u8, .ro, .engine, 0, 0, 255, [], .own, .no, true, false, true, 0⟩,
  ⟨"DESCRIPTORS", 0x6008, 6, 1, 0x2, 1, .u64, .ro, .engine, 0, 0, 18446744073709551615, [], .own, .no, false, false, true, 0⟩,
  ⟨"PIXELS_OUT", 0x6008, 6, 1, 0x3, 1, .u64, .ro, .engine, 0, 0, 18446744073709551615, [], .own, .no, false, false, true, 0⟩,
  ⟨"BUSY_CYCLES", 0x6008, 6, 1, 0x4, 1, .u64, .ro, .engine, 0, 0, 18446744073709551615, [], .own, .no, false, false, true, 0⟩,
  ⟨"STALL_CYCLES", 0x6008, 6, 1, 0x5, 1, .u64, .ro, .engine, 0, 0, 18446744073709551615, [], .own, .no, false, false, true, 0⟩,
  ⟨"TILES_ELIGIBLE", 0x6008, 6, 1, 0x6, 1, .u64, .ro, .engine, 0, 0, 18446744073709551615, [], .own, .no, false, false, true, 0⟩,
  ⟨"TILES_REFINED", 0x6008, 6, 1, 0x7, 1, .u64, .ro, .engine, 0, 0, 18446744073709551615, [], .own, .no, false, false, true, 0⟩,
  ⟨"TILES_CUT", 0x6008, 6, 1, 0x8, 1, .u64, .ro, .engine, 0, 0, 18446744073709551615, [], .own, .no, false, false, true, 0⟩,
  ⟨"NO_TEXTURE", 0x6008, 6, 1, 0x9, 1, .u64, .ro, .engine, 0, 0, 18446744073709551615, [], .own, .no, false, false, true, 0⟩,
  ⟨"OCCLUDED", 0x6008, 6, 1, 0xA, 1, .u64, .ro, .engine, 0, 0, 18446744073709551615, [], .own, .no, false, false, true, 0⟩,
  ⟨"OUTSIDE_WINDOW", 0x6008, 6, 1, 0xB, 1, .u64, .ro, .engine, 0, 0, 18446744073709551615, [], .own, .no, false, false, true, 0⟩,
  ⟨"PRED_LOST", 0x6008, 6, 1, 0xC, 1, .u32, .ro, .engine, 0, 0, 4294967295, [], .own, .no, false, false, true, 0⟩,
  ⟨"EDGE_CUTS", 0x6008, 6, 1, 0xD, 1, .u32, .ro, .engine, 0, 0, 4294967295, [], .own, .no, false, false, true, 0⟩]

/-- The objects of 11 R303, 12 R324, 13 R345, part 2. -/
def objs6000b : List ObjRow := [
⟨"REFUSED", 0x6008, 6, 1, 0xE, 1, .u32, .ro, .engine, 0, 0, 4294967295, [], .own, .no, false, false, true, 0⟩,
  ⟨"CLEAR_COUNTS", 0x6008, 6, 1, 0xF, 1, .bool, .wo, .engine, 0, 0, 1, [(2, 255)], .own, .no, false, false, true, 0⟩,
  ⟨"FLOW_WINDOW", 0x6011, 1, 1, 0x1, 1, .u16, .konst, .glob, 4108, 0, 65535, [], .all, .no, false, false, false, 0⟩,
  ⟨"NDISP_MAX", 0x6011, 1, 1, 0x2, 1, .u8, .konst, .glob, 128, 0, 255, [], .all, .no, false, false, false, 0⟩,
  ⟨"TILE_SIZE", 0x6011, 1, 1, 0x3, 1, .u8, .konst, .glob, 16, 0, 255, [], .all, .no, false, false, false, 0⟩,
  ⟨"FLOW_FRACTION", 0x6011, 1, 1, 0x4, 1, .u8, .konst, .glob, 5, 0, 255, [], .all, .no, false, false, false, 0⟩,
  ⟨"DISP_FRACTION", 0x6011, 1, 1, 0x5, 1, .u8, .konst, .glob, 4, 0, 255, [], .all, .no, false, false, false, 0⟩,
  ⟨"COARSE_FRACTION", 0x6011, 1, 1, 0x6, 1, .u8, .konst, .glob, 2, 0, 255, [], .all, .no, false, false, false, 0⟩,
  ⟨"ENGINE_STATE", 0x600E, 1, 1, 0x1, 1, .u8, .ro, .engine, 0, 0, 255, [], .own, .no, true, false, true, 0⟩,
  ⟨"DESCRIPTORS", 0x600E, 1, 1, 0x2, 1, .u64, .ro, .engine, 0, 0, 18446744073709551615, [], .own, .no, false, false, true, 0⟩,
  ⟨"FEATURES_OUT", 0x600E, 1, 1, 0x3, 1, .u64, .ro, .engine, 0, 0, 18446744073709551615, [], .own, .no, false, false, true, 0⟩,
  ⟨"FEATURES_DROPPED", 0x600E, 1, 1, 0x4, 1, .u64, .ro, .engine, 0, 0, 18446744073709551615, [], .own, .no, false, false, true, 0⟩,
  ⟨"UPDATES", 0x600E, 1, 1, 0x5, 1, .u64, .ro, .engine, 0, 0, 18446744073709551615, [], .own, .no, false, false, true, 0⟩,
  ⟨"MATCHES", 0x600E, 1, 1, 0x6, 1, .u64, .ro, .engine, 0, 0, 18446744073709551615, [], .own, .no, false, false, true, 0⟩,
  ⟨"CACHE_MISSES", 0x600E, 1, 1, 0x7, 1, .u64, .ro, .engine, 0, 0, 18446744073709551615, [], .own, .no, false, false, true, 0⟩,
  ⟨"HOLDS", 0x600E, 1, 1, 0x8, 1, .u32, .ro, .engine, 0, 0, 4294967295, [], .own, .no, false, false, true, 0⟩,
  ⟨"STALL_CYCLES", 0x600E, 1, 1, 0x9, 1, .u64, .ro, .engine, 0, 0, 18446744073709551615, [], .own, .no, false, false, true, 0⟩,
  ⟨"REFUSED", 0x600E, 1, 1, 0xA, 1, .u32, .ro, .engine, 0, 0, 4294967295, [], .own, .no, false, false, true, 0⟩,
  ⟨"CLEAR_COUNTS", 0x600E, 1, 1, 0xB, 1, .bool, .wo, .engine, 0, 0, 1, [(2, 255)], .own, .no, false, false, true, 0⟩,
  ⟨"CONTEXTS", 0x6012, 1, 1, 0x1, 1, .u32, .konst, .glob, 1048576, 0, 4294967295, [], .all, .no, false, false, false, 0⟩,
  ⟨"CONTEXT_BYTES", 0x6012, 1, 1, 0x2, 1, .u8, .konst, .glob, 64, 0, 255, [], .all, .no, false, false, false, 0⟩,
  ⟨"UPDATE_RATE", 0x6012, 1, 1, 0x3, 1, .u32, .konst, .glob, 128000000, 0, 4294967295, [], .all, .no, false, false, false, 0⟩,
  ⟨"CACHE_CONTEXTS", 0x6012, 1, 1, 0x4, 1, .u16, .konst, .glob, 4096, 0, 65535, [], .all, .no, false, false, false, 0⟩,
  ⟨"PAIR_TABLE", 0x6012, 1, 1, 0x5, 1, .blob, .konst, .glob, 0, 0, 0, [], .all, .no, false, false, false, 65535⟩,
  ⟨"CTX_SELECT", 0x6013, 1, 1, 0x1, 1, .u32, .rw, .fn, 0, 0, 1048575, [], .all, .all, false, false, false, 0⟩,
  ⟨"CTX_VALUE", 0x6013, 1, 1, 0x2, 1, .blob, .ro, .fn, 0, 0, 0, [], .all, .no, false, false, false, 65535⟩,
  ⟨"CTX_FIRST", 0x6020, 8, 1, 0x1, 1, .u32, .ro, .part, 0, 0, 4294967295, [], .own, .no, false, false, false, 0⟩,
  ⟨"CTX_COUNT", 0x6020, 8, 1, 0x2, 1, .u32, .ro, .part, 0, 0, 4294967295, [], .own, .no, false, false, false, 0⟩,
  ⟨"CTX_ADDR", 0x6020, 8, 1, 0x3, 1, .u64, .ro, .part, 0, 0, 18446744073709551615, [], .own, .no, false, false, false, 0⟩,
  ⟨"LIVE_TOTAL", 0x6020, 8, 1, 0x4, 1, .u32, .ro, .part, 0, 0, 4294967295, [], .own, .no, false, false, false, 0⟩]

/-- The objects of 11 R303, 12 R324, 13 R345, part 3. -/
def objs6000c : List ObjRow := [
⟨"QUOTA", 0x6040, 64, 1, 0x1, 1, .u32, .rwt, .stream, 16384, 0, 1048576, [], .own, .own, false, false, false, 0⟩,
  ⟨"MAX_MISSES", 0x6040, 64, 1, 0x2, 1, .u8, .rwt, .stream, 5, 1, 255, [], .own, .own, false, false, false, 0⟩,
  ⟨"CTX_BASE", 0x6040, 64, 1, 0x3, 1, .u32, .ro, .stream, 0, 0, 4294967295, [], .own, .own, false, false, false, 0⟩,
  ⟨"CTX_RANGE", 0x6040, 64, 1, 0x4, 1, .u32, .ro, .stream, 0, 0, 4294967295, [], .own, .own, false, false, false, 0⟩,
  ⟨"LIVE", 0x6040, 64, 1, 0x5, 1, .u32, .ro, .stream, 0, 0, 4294967295, [], .own, .own, false, false, false, 0⟩,
  ⟨"ALLOC_FAILED", 0x6040, 64, 1, 0x6, 1, .u64, .ro, .stream, 0, 0, 18446744073709551615, [], .own, .own, false, false, false, 0⟩,
  ⟨"ENDED", 0x6040, 64, 1, 0x7, 1, .u64, .ro, .stream, 0, 0, 18446744073709551615, [], .own, .own, false, false, false, 0⟩]

/-- The objects of 11 R303, 12 R324, 13 R345. -/
def objs6000 : List ObjRow := objs6000a ++ objs6000b ++ objs6000c

/-- The objects of 17 R441. -/
def objs7000 : List ObjRow := [
⟨"UMBRA_ENABLE", 0x7000, 1, 1, 0x1, 1, .bool, .rwt, .glob, 0, 0, 1, [(2, 255)], .no, .no, false, false, false, 0⟩,
  ⟨"SAFE_MASK", 0x7000, 1, 1, 0x2, 1, .u32, .rwt, .glob, 1534, 0, 4294967295, [], .no, .no, false, false, false, 0⟩,
  ⟨"SAFE_MODE", 0x7000, 1, 1, 0x3, 1, .u8, .rwt, .glob, 0, 0, 1, [(2, 255)], .no, .no, false, false, false, 0⟩,
  ⟨"SAFE_CLEAR", 0x7000, 1, 1, 0x4, 1, .bool, .wo, .glob, 0, 0, 1, [(2, 255)], .no, .no, false, false, false, 0⟩,
  ⟨"SAFE_LEVEL", 0x7000, 1, 1, 0x5, 1, .u8, .ro, .glob, 0, 0, 255, [], .no, .no, true, false, false, 0⟩,
  ⟨"INPUT_MASK", 0x7000, 1, 1, 0x6, 1, .u16, .rwt, .glob, 1542, 0, 65535, [], .no, .no, false, false, false, 0⟩,
  ⟨"CHECKER_STATE", 0x7000, 1, 1, 0x7, 1, .u8, .ro, .glob, 0, 0, 255, [], .no, .no, true, false, false, 0⟩,
  ⟨"LAST_VERDICT", 0x7001, 1, 1, 0x1, 1, .blob, .ro, .glob, 0, 0, 0, [], .all, .no, true, false, false, 65535⟩,
  ⟨"VERDICTS", 0x7001, 1, 1, 0x2, 1, .u64, .ro, .glob, 0, 0, 18446744073709551615, [], .all, .no, false, false, false, 0⟩,
  ⟨"PAIRS_WITHHELD", 0x7001, 1, 1, 0x3, 1, .u64, .ro, .glob, 0, 0, 18446744073709551615, [], .all, .no, false, false, false, 0⟩,
  ⟨"VERDICTS_MISSED", 0x7001, 1, 1, 0x4, 1, .u32, .ro, .glob, 0, 0, 4294967295, [], .all, .no, false, false, false, 0⟩,
  ⟨"DISAGREEMENTS", 0x7002, 1, 1, 0x1, 1, .u64, .ro, .glob, 0, 0, 18446744073709551615, [], .all, .no, false, false, false, 0⟩,
  ⟨"TRANSIENTS", 0x7002, 1, 1, 0x2, 1, .u64, .ro, .glob, 0, 0, 18446744073709551615, [], .all, .no, false, false, false, 0⟩,
  ⟨"LASTINGS", 0x7002, 1, 1, 0x3, 1, .u32, .ro, .glob, 0, 0, 4294967295, [], .all, .no, false, false, false, 0⟩,
  ⟨"LAST_DISAGREEMENT", 0x7002, 1, 1, 0x4, 1, .u64, .ro, .glob, 0, 0, 18446744073709551615, [], .all, .no, false, false, false, 0⟩,
  ⟨"PAIRS_LOADED", 0x7003, 1, 1, 0x1, 1, .u16, .ro, .glob, 0, 0, 65535, [], .all, .no, false, false, false, 0⟩,
  ⟨"RULES_LOADED", 0x7003, 1, 1, 0x2, 1, .u16, .ro, .glob, 0, 0, 65535, [], .all, .no, false, false, false, 0⟩,
  ⟨"RULE_FAILS", 0x7003, 1, 1, 0x3, 1, .u64, .ro, .glob, 0, 0, 18446744073709551615, [], .all, .no, false, false, false, 0⟩,
  ⟨"SLICE_MAX", 0x7004, 1, 1, 0x1, 1, .u16, .konst, .glob, 2048, 0, 65535, [], .all, .no, false, false, false, 0⟩,
  ⟨"LAPSE_TICKS", 0x7004, 1, 1, 0x2, 1, .u8, .konst, .glob, 100, 0, 255, [], .all, .no, false, false, false, 0⟩,
  ⟨"WINDOW", 0x7004, 1, 1, 0x3, 1, .u8, .konst, .glob, 16, 0, 255, [], .all, .no, false, false, false, 0⟩,
  ⟨"LASTING_COUNT", 0x7004, 1, 1, 0x4, 1, .u8, .konst, .glob, 3, 0, 255, [], .all, .no, false, false, false, 0⟩,
  ⟨"PASSES", 0x7100, 32, 1, 0x1, 1, .u64, .ro, .core, 0, 0, 18446744073709551615, [], .own, .no, false, false, true, 0⟩,
  ⟨"LAST_PASS_TICK", 0x7100, 32, 1, 0x2, 1, .u64, .ro, .core, 0, 0, 18446744073709551615, [], .own, .no, false, false, true, 0⟩,
  ⟨"CURSOR", 0x7100, 32, 1, 0x3, 1, .u16, .ro, .core, 0, 0, 65535, [], .own, .no, false, false, true, 0⟩,
  ⟨"LAPSES", 0x7100, 32, 1, 0x4, 1, .u32, .ro, .core, 0, 0, 4294967295, [], .own, .no, false, false, true, 0⟩,
  ⟨"KA_FAILS", 0x7100, 32, 1, 0x5, 1, .u32, .ro, .core, 0, 0, 4294967295, [], .own, .no, false, false, true, 0⟩,
  ⟨"SLICES_ABANDONED", 0x7100, 32, 1, 0x6, 1, .u64, .ro, .core, 0, 0, 18446744073709551615, [], .own, .no, false, false, true, 0⟩,
  ⟨"YIELDS", 0x7100, 32, 1, 0x7, 1, .u64, .ro, .core, 0, 0, 18446744073709551615, [], .own, .no, false, false, true, 0⟩]

/-- The objects of 18 R462, part 1. -/
def objs8000a : List ObjRow := [
⟨"TRANSIENTS", 0x8000, 1, 1, 0x1, 1, .u64, .ro, .glob, 0, 0, 18446744073709551615, [], .no, .no, true, false, false, 0⟩,
  ⟨"LASTINGS", 0x8000, 1, 1, 0x2, 1, .u64, .ro, .glob, 0, 0, 18446744073709551615, [], .no, .no, true, false, false, 0⟩,
  ⟨"RECOMPUTATIONS", 0x8000, 1, 1, 0x3, 1, .u64, .ro, .glob, 0, 0, 18446744073709551615, [], .no, .no, true, false, false, 0⟩,
  ⟨"POISONED_READS", 0x8000, 1, 1, 0x4, 1, .u64, .ro, .glob, 0, 0, 18446744073709551615, [], .no, .no, true, false, false, 0⟩,
  ⟨"OVERRUN_FAULTS", 0x8000, 1, 1, 0x5, 1, .u64, .ro, .glob, 0, 0, 18446744073709551615, [], .no, .no, true, false, false, 0⟩,
  ⟨"CLEAR_COUNTS", 0x8000, 1, 1, 0x6, 1, .bool, .wo, .glob, 0, 0, 1, [(2, 255)], .no, .no, false, false, false, 0⟩,
  ⟨"ERROR_LOG", 0x8001, 1, 1, 0x1, 1, .blob, .ro, .glob, 0, 0, 0, [], .no, .no, false, false, false, 65535⟩,
  ⟨"SUSPECTS", 0x8001, 1, 1, 0x2, 1, .u16, .ro, .glob, 0, 0, 65535, [], .no, .no, false, false, false, 0⟩,
  ⟨"PAGES_RETIRED", 0x8010, 1, 1, 0x1, 1, .u32, .ro, .glob, 0, 0, 4294967295, [], .no, .no, true, false, false, 0⟩,
  ⟨"POOL_LEFT", 0x8010, 1, 1, 0x2, 1, .u16, .ro, .glob, 16384, 0, 65535, [], .no, .no, true, false, false, 0⟩,
  ⟨"LIST_RECORDS", 0x8010, 1, 1, 0x3, 1, .u16, .ro, .glob, 0, 0, 65535, [], .no, .no, false, false, false, 0⟩,
  ⟨"LIST_FULL_RETIREMENTS", 0x8010, 1, 1, 0x4, 1, .u32, .ro, .glob, 0, 0, 4294967295, [], .no, .no, false, false, false, 0⟩,
  ⟨"LIST_BAD_RECORDS", 0x8010, 1, 1, 0x5, 1, .u16, .ro, .glob, 0, 0, 65535, [], .no, .no, false, false, false, 0⟩,
  ⟨"LIST_ERASE", 0x8010, 1, 1, 0x6, 1, .bool, .wo, .glob, 0, 0, 1, [(2, 255)], .no, .no, false, false, false, 0⟩,
  ⟨"RECOMPUTE_MAX", 0x8010, 1, 1, 0x7, 1, .u8, .rwt, .glob, 4, 0, 64, [], .all, .no, false, false, false, 0⟩,
  ⟨"SERVICE_PERIOD", 0x8030, 1, 1, 0x1, 1, .u32, .rwt, .glob, 216000, 0, 4294967295, [], .no, .no, false, false, false, 0⟩,
  ⟨"SERVICE_NOW", 0x8030, 1, 1, 0x2, 1, .bool, .wo, .glob, 0, 0, 1, [(2, 255)], .no, .no, false, false, false, 0⟩,
  ⟨"GUARD_PS", 0x8030, 1, 1, 0x3, 1, .u16, .rwt, .glob, 150, 50, 500, [], .no, .no, false, false, false, 0⟩,
  ⟨"RETIRE_PS", 0x8030, 1, 1, 0x4, 1, .u16, .rwt, .glob, 60, 20, 500, [], .no, .no, false, false, false, 0⟩,
  ⟨"EMERGENCY_PS", 0x8030, 1, 1, 0x5, 1, .u16, .konst, .glob, 40, 0, 65535, [], .no, .no, false, false, false, 0⟩,
  ⟨"VDD_TARGET_MV", 0x8030, 1, 1, 0x6, 1, .u16, .ro, .glob, 720, 0, 65535, [], .no, .no, false, false, false, 0⟩,
  ⟨"LAST_WINDOW_TICK", 0x8030, 1, 1, 0x7, 1, .u64, .ro, .glob, 0, 0, 18446744073709551615, [], .no, .no, false, false, false, 0⟩,
  ⟨"EMERGENCY_RAISES", 0x8030, 1, 1, 0x8, 1, .u32, .ro, .glob, 0, 0, 4294967295, [], .no, .no, false, false, false, 0⟩,
  ⟨"MARGIN_PS", 0x8100, 55, 1, 0x1, 1, .u16, .ro, .unit, 0, 0, 65535, [], .own, .no, false, false, true, 0⟩,
  ⟨"MARGIN_MIN_PS", 0x8100, 55, 1, 0x2, 1, .u16, .ro, .unit, 0, 0, 65535, [], .own, .no, false, false, true, 0⟩,
  ⟨"RO_DRIFT_PPM", 0x8100, 55, 1, 0x3, 1, .i32, .ro, .unit, 0, 0, 0, [], .own, .no, false, false, true, 0⟩,
  ⟨"MARGIN_STATE", 0x8100, 55, 1, 0x4, 1, .u8, .ro, .unit, 0, 0, 255, [], .own, .no, true, false, true, 0⟩,
  ⟨"UNIT_LASTINGS", 0x8100, 55, 1, 0x5, 1, .u32, .ro, .unit, 0, 0, 4294967295, [], .own, .no, false, false, true, 0⟩,
  ⟨"RETIRE_CAUSE", 0x8100, 55, 1, 0x6, 1, .u8, .ro, .unit, 0, 0, 255, [], .own, .no, true, false, true, 0⟩,
  ⟨"SUBBANK_MAP", 0x8100, 55, 1, 0x7, 1, .blob, .ro, .unit, 0, 0, 0, [], .own, .no, false, false, true, 65535⟩]

/-- The objects of 18 R462, part 2. -/
def objs8000b : List ObjRow := [
⟨"WITHDRAWN_ROWS", 0x8100, 55, 1, 0x8, 1, .u16, .ro, .unit, 0, 0, 65535, [], .own, .no, false, false, true, 0⟩]

/-- The objects of 18 R462. -/
def objs8000 : List ObjRow := objs8000a ++ objs8000b

/-- The objects of 16 R421. -/
def objs9000 : List ObjRow := [
⟨"SPDM_VERSION", 0x9000, 1, 1, 0x1, 1, .u8, .konst, .glob, 18, 0, 255, [], .no, .no, false, false, false, 0⟩,
  ⟨"SESSIONS", 0x9000, 1, 1, 0x2, 1, .u8, .ro, .glob, 0, 0, 255, [], .no, .no, false, false, false, 0⟩,
  ⟨"RESPONDER_STATE", 0x9000, 1, 1, 0x3, 1, .u8, .ro, .glob, 0, 0, 255, [], .no, .no, false, false, false, 0⟩,
  ⟨"MEASUREMENT", 0x9000, 1, 1, 0x4, 1, .blob, .ro, .glob, 0, 0, 0, [], .no, .no, false, false, false, 65535⟩,
  ⟨"MEAS_SELECT", 0x9000, 1, 1, 0x5, 1, .u8, .rw, .glob, 1, 0, 255, [(0, 0), (21, 63), (67, 255)], .no, .no, false, false, false, 0⟩,
  ⟨"IDE_REQUIRED", 0x9001, 1, 1, 0x1, 1, .bool, .rwt, .glob, 0, 0, 1, [(2, 255)], .no, .no, false, false, false, 0⟩,
  ⟨"IDE_STATE", 0x9001, 1, 1, 0x2, 1, .u8, .ro, .glob, 0, 0, 255, [], .all, .no, true, false, false, 0⟩,
  ⟨"KEY_SET", 0x9001, 1, 1, 0x3, 1, .u8, .ro, .glob, 0, 0, 255, [], .no, .no, false, false, false, 0⟩,
  ⟨"TLP_COUNT", 0x9001, 1, 1, 0x4, 1, .u64, .ro, .glob, 0, 0, 18446744073709551615, [], .no, .no, false, false, false, 0⟩,
  ⟨"REKEY_AT", 0x9001, 1, 1, 0x5, 1, .u64, .konst, .glob, 281474976710656, 0, 18446744073709551615, [], .no, .no, false, false, false, 0⟩,
  ⟨"HARD_LIMIT", 0x9001, 1, 1, 0x6, 1, .u64, .konst, .glob, 4503599627370496, 0, 18446744073709551615, [], .no, .no, false, false, false, 0⟩,
  ⟨"REKEYS", 0x9001, 1, 1, 0x7, 1, .u32, .ro, .glob, 0, 0, 4294967295, [], .no, .no, false, false, false, 0⟩,
  ⟨"MAC_FAILURES", 0x9001, 1, 1, 0x8, 1, .u32, .ro, .glob, 0, 0, 4294967295, [], .no, .no, false, false, false, 0⟩]

/-- The type code of R66. -/
def tyCode : OTy → Nat
  | .bool => 1 | .u8 => 2 | .u16 => 3 | .u32 => 4 | .u64 => 5 | .i8 => 6 | .i16 => 7 | .i32 => 8 | .i64 => 9
  | .f32 => 10 | .str => 11 | .blob => 12 | .plan => 13

/-- The size in bytes of a fixed-size type; 0 for a variable-size type (R66). -/
def tySize : OTy → Nat
  | .bool => 1 | .u8 => 1 | .u16 => 2 | .u32 => 4 | .u64 => 8 | .i8 => 1 | .i16 => 2 | .i32 => 4 | .i64 => 8
  | .f32 => 4 | .str => 0 | .blob => 0 | .plan => 0

/-- The rows among which index `idx` lies. -/
def rowsAt (idx : Nat) : List ObjRow :=
  if idx < 0x1100 then objs1000
  else if idx < 0x2000 then objs1100
  else if idx < 0x2030 then objs2000
  else if idx < 0x2050 then objs2030
  else if idx < 0x2070 then objs2050
  else if idx < 0x2100 then objs2070
  else if idx < 0x3000 then objs2000
  else if idx < 0x4000 then objs3000
  else if idx < 0x5000 then objs4000
  else if idx < 0x5200 then objs5000
  else if idx < 0x6000 then objs5200
  else if idx < 0x7000 then objs6000
  else if idx < 0x8000 then objs7000
  else if idx < 0x9000 then objs8000
  else objs9000

/-- Is `r` a resource code that R43 does not reserve? -/
def resValid (r : Nat) : Bool :=
  decide (r < 0x2F) || (decide (0x30 ≤ r) && decide (r < 0x36)) || (decide (0x40 ≤ r) && decide (r < 0x50))

/-- Does the row hold object `idx`.`sub`? Codes that R43 reserves have no 53rr; OD 81uu has the sub-indices that R462
gives the unit. -/
def rowHas (o : ObjRow) (idx sub : Nat) : Bool :=
  decide (o.first ≤ idx) && decide ((idx - o.first) % o.stride = 0) && decide ((idx - o.first) / o.stride < o.count)
    && decide (o.sub ≤ sub) && decide (sub < o.sub + o.subs)
    && (match o.home with
        | .res => resValid (idx - o.first)
        | .unit =>
          let u := idx - o.first
          decide (u ≠ 0x2F) && (decide (sub < 4) || (decide (sub < 7) && decide (u ≤ 0x2E)) || decide (u < 0x20))
        | _ => true)

/-- The row of object `idx`.`sub`, where one is defined. -/
def objRow (idx sub : Nat) : Option ObjRow := (rowsAt idx).find? (fun o => rowHas o idx sub)

/-- The instance of the object: the partition, stream, port, core and so on. -/
def objInst (o : ObjRow) (idx : Nat) : Nat := (idx - o.first) / o.stride

/-- The key under which a number or a byte string of the dictionary is held: function 0 but for objects held per
function. -/
def okey (fn idx sub : Nat) : Nat := fn * 2 ^ 24 + idx * 2 ^ 8 + sub

/-- Watchdog periods in ms by processor code (R381). -/
def wdtMs (x : Nat) : Nat := if x = 0 then 200 else if x = 1 then 100 else 20

/-- Restart bounds in ms by processor code (R381). -/
def restartMs (x : Nat) : Nat := if x ≤ 1 then 150 else if x = 2 then 30 else 20

/-- Channels of a DMA unit available to plans (R403). -/
def dmaAvail (u : Nat) : Nat := if u < 4 then 32 else if u = 4 then 17 else 16

/-! ### The device owner's reserved range (R401) -/

/-- Areas of the reserved range in 64-byte units: the journal ring (R86), the load area (R388), four crash-dump slots (R398), the verified
copies of nine processors' images (R384, R389). -/
def areaUnits (k : Nat) : Nat := if k = 0 then 1048576 else if k = 1 then 131072 else if k < 6 then 16384 else 2050

/-- How many areas there are. -/
def areaCount : Nat := 15

/-- Units of granules 0 to 3. -/
def reservedUnits : Nat := 4194304

/-- Does area `j` lie before area `k`? -/
def areaBefore (k j : Nat) : Bool :=
  decide (Config.areaKey j < Config.areaKey k) || (decide (Config.areaKey j = Config.areaKey k) && decide (j < k))

/-- The areas before area `k`. -/
def areasBefore (k : Nat) : List Nat := (List.range areaCount).filter (areaBefore k)

/-- Units of all areas together. -/
def areaTotal : Nat := ((List.range areaCount).map areaUnits).sum

/-- Units of the first `n` gaps together: each gap takes some of the room that is left. -/
def areaGaps : Nat → Nat
  | 0 => 0
  | n + 1 => areaGaps n + Config.areaGap n % (reservedUnits - areaTotal - areaGaps n + 1)

/-- Where an area starts: anywhere in granules 0 to 3, apart from the others (R401, log 10). -/
def areaPlace (k : Nat) : Nat := 64 * (((areasBefore k).map areaUnits).sum + areaGaps ((areasBefore k).length + 1))

/-- OD 1020.05: where the journal ring lies. -/
def ringArea : Nat := areaPlace 0

/-- OD 2050.03: where the load area lies. -/
def loadArea : Nat := areaPlace 1

/-- OD 2055.03: where a crash-dump slot lies. -/
def dumpArea (slot : Nat) : Nat := areaPlace (2 + slot % 4)

/-- Where the verified copy of a processor's image lies. -/
def imageCopy (x : Nat) : Nat := areaPlace (6 + x % 9)

/-- The default of a number object (the Default columns): the value read until something else is written. Values that
the manual does not give are opaque constants of Config. -/
def defNum (idx sub : Nat) : Nat :=
  if idx = 0x1000 then (if sub = 5 then Config.stepping else if sub = 6 then Config.dieSerial else 0)
  else if idx = 0x1101 ∧ sub = 1 then Config.vendorId
  else if idx = 0x1020 ∧ sub = 5 then ringArea
  else if idx = 0x2050 ∧ sub = 3 then loadArea
  else if 0x2060 ≤ idx ∧ idx < 0x2069 ∧ sub = 4 then wdtMs (idx - 0x2060)
  else if 0x2060 ≤ idx ∧ idx < 0x2069 ∧ sub = 5 then restartMs (idx - 0x2060)
  else if idx = 0x2071 ∧ sub = 14 then (if Config.gradeKI then 1050 else 1250)
  else if idx = 0x2071 ∧ sub = 15 then (if Config.gradeKI then 1150 else 1350)
  else if 0x4000 ≤ idx ∧ idx < 0x5000 ∧ (idx - 0x4000) % 0x40 = 0 ∧ sub = 2 then (idx - 0x4000) / 0x40 % 4
  else if idx = 0x3100 then
    (if sub = 1 then 1 else if sub = 2 then 0xFFFFFFFF else if sub = 3 then 0xFFFF else if sub = 5 then 8192
     else if sub = 6 then 4 else if sub = 9 then 2040 else if sub = 11 then 1048576 else 0)
  else if idx = 0x3110 ∧ 1 ≤ sub ∧ sub ≤ 15 then 0xFFFFFFFF00000000
  else if idx = 0x3120 ∧ 1 ≤ sub ∧ sub ≤ 6 then dmaAvail (sub - 1)
  else if idx = 0x3120 ∧ sub = 7 then 64
  else if 0x3100 ≤ idx ∧ idx < 0x3108 then (if sub = 6 then 4 else 0)
  else if 0x3110 ≤ idx ∧ idx < 0x3128 then 0
  else
    match objRow idx sub with
    | some o => o.dflt
    | none => 0

/-- An I8 of the pair table: from −15 to 15 (R330). -/
def pairAt (i : Nat) : Int := (Config.pairTable i % 31 : Nat) - 15

/-- OD 6012.05: the 1,024 bytes of the pair table (R330). -/
def pairBytes : List Byte := (List.range 1024).map (fun i => BitVec.ofInt 8 (pairAt i))

/-- The default of a byte-string object. -/
def defBytes (idx sub : Nat) : List Byte :=
  if idx = 0x1000 ∧ sub = 1 then ascii "Hjeleb"
  else if idx = 0x1000 ∧ sub = 2 then ascii "Sundyorik"
  else if idx = 0x1000 ∧ sub = 3 then ascii "SY6432"
  else if idx = 0x1000 ∧ sub = 4 then (if Config.gradeKI then ascii "KI" else ascii "KA")
  else if 0x4000 ≤ idx ∧ idx < 0x5000 then
    (let off := (idx - 0x4000) % 0x40
     if off = 0x0A ∧ sub = 2 then (List.replicate 4356 [0x00#8, 0x10#8]).flatten
     else if off = 0x0D ∧ sub = 1 then zeros 64
     else if off = 0x0E ∧ sub = 2 then (List.replicate 16 (0xFF#8 :: zeros 15)).flatten
     else if off = 0x0E ∧ sub = 3 then zeros 64
     else [])
  else if 0x8100 ≤ idx ∧ idx < 0x8137 ∧ sub = 7 then zeros 16
  else if idx = 0x2054 ∧ sub = 5 then zeros 288
  else if idx = 0x6012 ∧ sub = 5 then pairBytes
  else []

end Sys2Proof.Machine
end

