-- ==== Sys2Proof/Machine/KMap.lean ====
section
/-! DEFINITION. Sparse maps: lists of (key, value) pairs with rising keys, over which registers and memories are held.
A key that is not listed reads as a default the reader names. -/

namespace Sys2Proof.Machine

/-- A sparse map from numbers: pairs with strictly rising keys. -/
abbrev KMap (α : Type) := List (Nat × α)

/-- The value listed under `k`, or none. -/
def klook {α : Type} : KMap α → Nat → Option α
  | [], _ => none
  | (k', v) :: m, k => if k = k' then some v else klook m k

/-- The value under `k`, `d` where none is listed. -/
def kget {α : Type} (d : α) (m : KMap α) (k : Nat) : α := (klook m k).getD d

/-- `v` listed under `k`. -/
def kput {α : Type} : KMap α → Nat → α → KMap α
  | [], k, v => [(k, v)]
  | (k', v') :: m, k, v =>
    if k < k' then (k, v) :: (k', v') :: m
    else if k = k' then (k, v) :: m
    else (k', v') :: kput m k v

/-- Nothing listed under `k`. -/
def kdel {α : Type} (m : KMap α) (k : Nat) : KMap α := m.filter (fun p => decide (p.1 ≠ k))

/-- `v` under `k`, in the canonical form in which the default `d` is never listed. -/
def kset {α : Type} [DecidableEq α] (d : α) (m : KMap α) (k : Nat) (v : α) : KMap α :=
  if v = d then kdel m k else kput m k v

/-- The value under `k` changed by `f`. -/
def kmod {α : Type} (d : α) (m : KMap α) (k : Nat) (f : α → α) : KMap α := kput m k (f (kget d m k))

/-- The keys rise strictly from above `lo`. -/
def ksorted {α : Type} : Option Nat → KMap α → Bool
  | _, [] => true
  | none, (k, _) :: m => ksorted (some k) m
  | some lo, (k, _) :: m => decide (lo < k) && ksorted (some k) m

/-- The canonical form: keys rise strictly and no entry holds the default. -/
def kwf {α : Type} [DecidableEq α] (d : α) (m : KMap α) : Bool :=
  ksorted none m && m.all (fun p => decide (p.2 ≠ d))

/-- Consecutive values from key `k` on. -/
def kgets {α : Type} (d : α) (m : KMap α) (k : Nat) : Nat → List α
  | 0 => []
  | n + 1 => kget d m k :: kgets d m (k + 1) n

/-- A list of values stored from key `k` on, in the canonical form. -/
def ksets {α : Type} [DecidableEq α] (d : α) (m : KMap α) (k : Nat) : List α → KMap α
  | [] => m
  | v :: vs => ksets d (kset d m k v) (k + 1) vs

end Sys2Proof.Machine
end

