-- ==== Sys2Proof/Machine/State.lean ====
section
/-! DEFINITION. The state of the SY6432 as plain data, the reasons a step can stop, and the machine as hardware reset
leaves it. Dictionary objects are held in one register file, by function, index and sub-index; what the manual gives the
machine beside the dictionary has fields of its own. -/

namespace Sys2Proof.Machine

/-- A value of a dictionary object: a number of a fixed-size type, or the bytes of a STRING, BLOB or PLAN (R66). -/
inductive Val where
  | num (n : Nat)
  | bytes (b : List Byte)
  deriving DecidableEq, Repr

/-- A staged or committed write: the function it came through (9: the field port), the object, the value. -/
structure Staged where
  fn  : Nat
  idx : Nat
  sub : Nat
  val : Val
  deriving DecidableEq, Repr

/-- An open transaction (R79–R84). `waiting` lists the keys of objects in commits decided before the BEGIN that had not
yet taken effect then (R81). `started` is false for a transaction whose admission runs, whose idle time stands (R84). -/
structure Txn where
  id       : Nat
  role     : Nat
  fn       : Nat
  scope    : Option Nat
  beginSeq : Nat
  waiting  : List Nat
  staged   : List Staged
  lastCmd  : Nat
  deriving DecidableEq, Repr

/-- A response of the dictionary (R72), with the SEQ of its request's journal entry, 0 where it has none (R395). -/
structure Resp where
  opcode  : Nat
  ty      : Nat
  tag     : Nat
  txn     : Nat
  idx     : Nat
  sub     : Nat
  status  : Nat
  payload : List Byte
  seq     : Nat := 0
  deriving DecidableEq, Repr

/-- A COMMIT that admission has not yet decided (`decided = none`), or that was decided at a cycle and completes only after the
next edge (R81): its function, its request, its transaction. `seq` is the SEQ of its COMMIT entry, 0 while it has none; `tick` the
tick counter at the decision. -/
structure CommitRun where
  fn      : Nat
  req     : Req
  txn     : Txn
  seq     : Nat
  decided : Option Nat
  tick    : Nat
  silent  : Bool := false
  deriving DecidableEq, Repr

/-- The writes of a completed COMMIT that wait for their edge (R82), and the function of the transaction. -/
structure Effect where
  seq    : Nat
  fn     : Nat
  writes : List Staged
  deriving DecidableEq, Repr

/-- An unfinished segmented write: caller, object, transaction, bytes so far (R76). -/
structure Segment where
  fn    : Nat
  idx   : Nat
  sub   : Nat
  txn   : Nat
  bytes : List Byte
  deriving DecidableEq, Repr

/-- A journal entry (R87). -/
structure JEntry where
  seq       : Nat
  tick      : Nat
  txn       : Nat
  index     : Nat
  sub       : Nat
  role      : Nat
  part      : Nat
  isGlobal  : Bool
  kind      : Nat
  outcome   : Nat
  count     : Nat
  transport : Nat
  oldHash   : List Byte
  newHash   : List Byte
  staged    : Bool := true
  deriving DecidableEq, Repr

/-- The dictionary beside its objects: the values latched at the last tick edge, the sequence number of each object's
last change, transactions, commits, segments, each byte string as its callers read it last, how often a byte string has changed, in force
and as latched (R76), the journal's two levels. -/
structure DictSt where
  num        : KMap Nat
  blob       : KMap (List Byte)
  latched    : KMap Nat
  latchedB   : KMap (List Byte)
  lastChange : KMap Nat
  txns       : List Txn
  nextTxn    : Nat
  commits    : List CommitRun
  effects    : List Effect
  segments   : List Segment
  lastRead   : KMap (Nat × List Byte)
  vers       : KMap Nat
  latchedV   : KMap Nat
  journal    : List JEntry
  ring       : List JEntry
  nextSeq    : Nat
  mirrored   : Nat
  deriving DecidableEq, Repr

/-- The tick unit beside its objects (02 R29–R36): the cycle of the last edge and of the enable, flywheel ticks of the run under
way and whether its loss was raised, the guard interval, the level last seen on TICK_IN, the cycle of the edge that an accepted write of
OD 2000.05 makes. A TICK_IN transition and the edge it makes are one command. -/
structure TickSt where
  lastEdge  : Option Nat
  enabledAt : Nat
  run       : Nat
  lost      : Bool
  guard     : Bool
  tickIn    : Bool
  hostDue   : Option Nat
  deriving DecidableEq, Repr

/-- A frame-graph node of a plan (R42). -/
structure PNode where
  kind     : Nat
  phase    : Nat
  stream   : Nat
  bound    : Bool
  safety   : Bool
  res      : Nat
  prio     : Nat
  wcet     : Nat
  release  : Nat
  deadline : Nat
  preds    : List Nat
  queue    : Nat
  deriving DecidableEq, Repr

/-- A slot record (R44). -/
structure Slot where
  inl        : Bool
  fmt        : Nat
  width      : Nat
  height     : Nat
  firstNode  : Nat
  nodeSpan   : Nat
  stripeRows : Nat
  haloRows   : Nat
  deriving DecidableEq, Repr

/-- A buffer record (R497). -/
structure BufRec where
  rawA   : Nat
  rawB   : Nat
  statsA : Nat
  statsB : Nat
  param  : Nat
  loop   : Nat
  deriving DecidableEq, Repr

/-- A phase record (R45). -/
structure PhaseRec where
  phase    : Nat
  wRead    : Nat
  wWrite   : Nat
  wRemote  : Nat
  winStart : Nat
  winEnd   : Nat
  blocks   : Nat
  deriving DecidableEq, Repr

/-- A port timing record (R46). -/
structure PortTiming where
  tsync   : Nat
  latency : Nat
  readout : Nat
  i3c     : Nat
  deriving DecidableEq, Repr

/-- A queue binding (R185). -/
structure Binding where
  queue        : Nat
  res          : Nat
  prio         : Nat
  hostFed      : Bool
  outstanding  : Nat
  log2Depth    : Nat
  budgetNode   : Nat
  budgetCycles : Nat
  sqAddr       : Nat
  cqAddr       : Nat
  deriving DecidableEq, Repr

/-- A plan held by the device (R39–R46, R185): header, parsed tables, and the sections whose content other chapters
define, as (type, bytes), the moves made by substitution (R456). -/
structure Plan where
  part         : Nat
  length       : Nat
  maxRate      : Nat
  workCores    : Nat
  spare        : Nat
  inlineStream : Nat
  inlineEn     : Bool
  planId       : Nat
  digest       : List Byte
  nodes        : List PNode
  slots        : List Slot
  bufs         : List BufRec
  phases       : List PhaseRec
  ports        : List PortTiming
  bindings     : List Binding
  sections     : List (Nat × List Byte)
  memBytes     : Nat
  moved        : List (Nat × Nat)
  deriving DecidableEq, Repr

/-- The plans of a partition (R47–R50): the staging buffer; the plan admitted that waits for its edge; the plan in force
(in CHANGEOVER, RUNNING or DRAINING); the replaced plan that finishes its processing half in CHANGEOVER; the tick at whose
edge the plan in force entered CHANGEOVER; the plan last released, which tasks that run past their tick still read; whether the
context store has been filled with zeros (R333). -/
structure PlanSt where
  staging    : List Byte
  waiting    : Option Plan
  cur        : Option Plan
  old        : Option Plan
  changeTick : Nat
  gone       : Option Plan
  primed     : Bool
  deriving DecidableEq, Repr

/-- A write that waits for the host link: function, host address, bytes (R349). -/
structure HostWrite where
  fn    : Nat
  addr  : Nat
  bytes : List Byte
  deriving DecidableEq, Repr

/-- A PCIe function beside its objects: enable, power state, memory space and bus mastering, BARs, the mailbox with its
buffers (R359, R360), the answer that SCH or SEC has formed for the pending request, the MSI-X table, pending bits, the
cycle at which each vector last fired and whether something new has happened since (R362), the ring indices (R367). -/
structure FnSt where
  enabled   : Bool
  d3        : Bool
  memSpace  : Bool
  busMaster : Bool
  bars      : List Nat
  mbState   : Nat
  overrun   : Bool
  reqSeq    : Nat
  respSeq   : Nat
  reqBuf    : List Byte
  respBuf   : List Byte
  answer    : Option Resp
  msixTable : List Byte
  msixPend  : Nat
  lastFire  : KMap Nat
  fresh     : KMap Bool
  fires     : KMap Nat
  evHead    : Nat
  evTail    : Nat
  evSeq     : Nat
  evLost    : Nat
  resHead   : Nat
  resTail   : Nat
  resLost   : Bool
  undo      : List (Nat × Nat × Nat) := []
  deriving DecidableEq, Repr

/-- The UCIe link beside OD 1100 (R347–R350): the rate at which each module has trained, whether a module has been
dropped, the data link layer, the cycle at which training failed, writes that wait, the VFs enabled, whether a hot reset's retrain is
still to be reported, which modules were in service when it began, the cycle since which host-bound requests wait, and how long they had
waited in all before that. -/
structure LinkSt where
  u0       : Option Nat
  u1       : Option Nat
  drop0    : Bool
  drop1    : Bool
  dlUp     : Bool
  failedAt : Option Nat
  waiting  : List HostWrite
  numVfs   : Nat
  again    : Bool
  was0     : Bool
  was1     : Bool
  waitAt   : Option Nat := some 0
  waited   : Nat := 0
  deriving DecidableEq, Repr

/-- What the device last returned to the host for a read of memory or configuration space: the bytes, or Unsupported
Request. -/
inductive Completion where
  | none
  | data (b : List Byte)
  | unsupported
  deriving DecidableEq, Repr

/-- A device frame of Aedsy before FRESH and MAC (R372): identifier offset, type, segment, segment count, body. -/
structure CanTx where
  idOff : Nat
  ty    : Nat
  seg   : Nat
  count : Nat
  body  : List Byte
  deriving DecidableEq, Repr

/-- A partial Aedsy message (R376). -/
structure CanPartial where
  count  : Nat
  next   : Nat
  bytes  : List Byte
  lastAt : Nat
  deriving DecidableEq, Repr

/-- The field port beside OD 1110 and OD 1111: the transmit queue of 8 frames, responses that wait in SCH for room, the
partial message, the tick at whose edge a STATUS frame was last formed, the key slots, REKEY_DUE raised, bus-off times, the frame last
sent. -/
structure CanSt where
  queue      : List CanTx
  waiting    : List CanTx
  msg        : Option CanPartial
  statusAt   : Nat
  key0       : Option (List Byte)
  key1       : Option (List Byte)
  dueRaised  : Bool
  busOffAt   : Option Nat
  recovering : Bool
  lastReply  : Option Nat
  lastTx     : List Byte
  deriving DecidableEq, Repr

/-- A log entry (R396). -/
structure LogEntry where
  seq      : Nat
  tick     : Nat
  proc     : Nat
  level    : Nat
  isGlobal : Bool
  part     : Nat
  code     : Nat
  args     : List Nat
  deriving DecidableEq, Repr

/-- The firmware's log (R396, R397): its entries, the next SEQ, trace entries of the tick by processor. -/
structure LogSt where
  entries : List LogEntry
  nextLog : Nat
  traces  : KMap Nat
  deriving DecidableEq, Repr

/-- A crash-dump slot (R398): what its header says, its length, whether it is released, whether it is signed. -/
structure DumpSlot where
  proc     : Nat
  cause    : Nat
  dumpId   : Nat
  tick     : Nat
  version  : Nat
  pc       : Nat
  code     : Nat
  size     : Nat
  released : Bool
  done     : Bool
  deriving DecidableEq, Repr

/-- The firmware beside its objects: the cycle at which each restarting processor was held in reset and the cycles of its
restarts (R392, R393), the header of each running image, the verified copies of the driver-loaded images, the boot flash
(unlisted bytes erased), SVN floors raised in fuses, the images of a staged update, the dump slots, dumps still to capture, whether an LPDDR5 channel has failed its three attempts (R489), the measurements taken
into the DICE layers (R385, R386), the cycle of the last directory write with the copy written first and what the other held before (R383),
binds that wait for their control core (R394). -/
structure FwSt where
  restartAt : KMap Nat
  restarts  : KMap (List Nat)
  watchdog  : KMap Nat
  running   : KMap (List Byte)
  images    : KMap (List Byte)
  flash     : List Host.Cell
  floors    : KMap Nat
  update    : KMap (List Byte)
  dumps     : KMap DumpSlot
  dumpDue   : KMap Nat
  noDdr     : Bool
  layers    : List (List Byte) := []
  dirWrite  : Option (Nat × Nat × List Byte) := none
  bindDue   : List (Nat × List Nat) := []
  deriving DecidableEq, Repr

/-- A handle-table entry (R139): the rows it maps, its layout, DIAG, GUARD and QUAR, generation, fill pattern, and the tick of
its last bind. -/
structure HandleE where
  bound    : Bool
  base     : Nat
  count    : Nat
  layout   : Nat
  diag     : Bool
  guard    : Bool
  quar     : Bool
  gen      : Nat
  fill     : Nat
  bindTick : Nat
  deriving DecidableEq, Repr

/-- An access that waits while the row-valid bits of a moved core are cleared (R144): a port's request, a narrow access
through a handle that has passed the firewall, a raw access, an access of a function through its aperture (R356): handle or word
number, word offset, first byte; the data or the landing of a channel's oldest request; a re-shard entry's accesses; those of the TOD that a core runs. -/
inductive PadHeld where
  | port (r : PadReq)
  | narrow (h gen off : Nat) (a : Access)
  | raw (word : Nat) (a : Access)
  | host (f : Nat) (raw : Bool) (h off lo : Nat) (a : Access)
  | dma (u c : Nat) (write : Bool)
  | reshard (u c : Nat)
  | tod (c : Nat)
  deriving DecidableEq, Repr

/-- Who waits for the answer to a scratchpad request: a port's own user, an initiator on the network, or a function through its aperture:
function, first byte, access (R133, R147, R356). -/
inductive PadSrc where
  | port
  | net
  | host (f lo : Nat) (a : Access)
  deriving DecidableEq, Repr

/-- A request that a port still presents (R134–R138): whose it is, the handle-table entry that it passed, how often it has lost, whether a
request for the same row was served before it, for a column read the rows still to be read and the words read, and the last cycle that it lost. -/
structure PadPend where
  req      : PadReq
  src      : PadSrc
  entry    : HandleE
  lost     : Nat
  deferred : Bool
  left     : List Nat
  got      : List (Nat × List Byte)
  lostAt   : Option Nat := none
  deriving DecidableEq, Repr

/-- What a scratchpad access answered: status and bytes, and the function whose aperture access it was. -/
structure PadReply where
  status : Nat
  bytes  : List Byte
  host   : Option Nat := none
  deriving DecidableEq, Repr

/-- A scratchpad (05): stored bytes at (row × 32 + bank) × 8 + byte, row-valid bits, handle table, requests presented, the
end of a row-valid clear and what waits for it, the last reply on each port; the last cycle in which its ports were arbitrated, with what it
has served, the (bank, sub-bank) pairs taken and by which row, and whether its collision is counted; whether port N took the network last; whether the
cycle's wait on E0 or E1 is counted, and the rows of it whose guard event is raised. -/
structure PadSt where
  cells   : List Host.Cell
  valid   : KMap Bool
  handles : KMap HandleE
  pend    : List PadPend
  clearAt : Option Nat
  held    : List PadHeld
  replies : KMap PadReply
  cycle   : Nat
  served  : List PadPend
  taken   : List (Nat × Nat)
  counted : Bool
  netLast : Bool
  waited  : Bool := false
  guarded : List Nat := []
  deriving DecidableEq, Repr

/-- A task (07): a node's entry in a tick, a host entry, a recompute entry or a maintenance request. `stage`: 0 waits,
1 eligible, 2 runs, 3 ended, 4 recorded, 5 waits for recomputation. `old`: the node is one of the replaced plan. `redo` is 1 for
the rerun of a producer, 2 for the second run of the reader `redoFor`. The marks of its inputs (R366) stand beside its own. -/
structure Task where
  id       : Nat
  part     : Nat
  num      : Nat
  node     : PNode
  old      : Bool
  tick     : Nat
  edge     : Nat
  stage    : Nat
  eligAt   : Nat
  startAt  : Nat
  endAt    : Nat
  started  : Bool
  skipped  : Bool
  settled  : Bool
  status   : Nat
  flags    : Nat
  late     : Bool
  absent   : Bool
  aborted  : Bool
  corrupt  : Bool
  recomp   : Bool
  inLate   : Bool
  inAbsent : Bool
  inCorrupt : Bool
  inRecomp : Bool
  stop     : Bool
  tag      : Nat
  ring     : Option Nat
  budget   : Nat
  maxCyc   : Nat
  prog     : Nat
  maint    : Option Nat
  desc     : List Byte
  redo     : Nat
  redoFor  : Nat
  wrote    : Bool
  outKind  : Nat
  outAddr  : Nat
  outLen   : Nat
  deriving DecidableEq, Repr

/-- The completion ring that a queue had under a binding (R185, R194): binding, partition, indices. -/
structure Ring where
  bind   : Binding
  part   : Nat
  cqHead : Nat
  cqTail : Nat
  deriving DecidableEq, Repr

/-- A hardware queue (R184, R193, R197): its binding and partition while bound, ring indices, when each waiting entry was submitted,
entries aborted before their turn, cycles used by host tasks in the tick, counters; the ring of the binding before, into which entries of
the plan that is gone still write their records (R194). -/
structure QueueSt where
  bind     : Option Binding
  part     : Nat
  sqHead   : Nat
  sqTail   : Nat
  cqHead   : Nat
  cqTail   : Nat
  sqTimes  : List Nat
  aborted  : List Nat
  used     : Nat
  done     : Nat
  aborts   : Nat
  dropped  : Nat
  refused  : Nat
  was      : Option Ring
  deriving DecidableEq, Repr

/-- A TOD in a fetch queue with the status of its checks (R115). -/
structure TodQ where
  bytes  : List Byte
  status : Nat
  deriving DecidableEq, Repr

/-- A tensor core's sequencer (R112–R117): the task it runs and the budget node around it, the fetch queue, the fetch queue
of the prefetched task, the TOD that runs, the TOD before it, the line buffer's elements (R171), why the task is to stop, the flag that a FLAG_WAIT reads, and the
self-test cursor with the ticks of the last completed pass and the last lapse (R437, R438). `stop`: 0 no, 1 abort, 2 MAX_CYCLES, 3 retirement,
4 a self-test slot yields. `wait`: 0 no, 1 awaits the flag, 2 copies. -/
structure CoreSt where
  task    : Option Nat
  budget  : Option Nat
  fetch   : List TodQ
  fetched : Nat
  next    : Option Nat
  nfetch  : List TodQ
  run     : Option (List Byte)
  runAt   : Nat
  ran     : Nat
  lastTod : List Byte
  line    : List Nat
  stop    : Nat
  wait    : Nat
  cursor  : Nat
  slotAt  : Nat
  paused  : Option Nat
  passAt  : Nat
  lapseAt : Nat
  deriving DecidableEq, Repr

/-- A DMA request in flight or waiting for its retry (R221, R222): its descriptor's DESC_SEQ, direction, position and bytes in the
order of that direction, whether a read lies on the destination side (COMPARE) or on the index stream, its address, the bytes written, the
read-modify-write reads that it still waits for (R206), cycle of issue, reissues made, when it is reissued, how long host-bound requests had
waited in all when it was issued (R350). -/
structure DmaReq where
  seq     : Nat
  write   : Bool
  onDst   : Bool
  index   : Bool
  pos     : Nat
  len     : Nat
  addr    : Nat
  data    : List (Option Byte)
  rmw     : Nat
  issued  : Nat
  tries   : Nat
  retryAt : Option Nat
  waited  : Nat := 0
  deriving DecidableEq, Repr

/-- A descriptor that a channel holds (R202, R208–R213): bytes, serial mode (R215), blocks of the index stream requested and those that are
in by number, bytes requested, returned, written and landed in their orders, buffered bytes by read position, and for COMPARE the 64-byte
blocks that differ, the first differing byte, and the bytes requested of its destination; the
reading positions of the rows below a frame's last stripe, which are passed over (R265). -/
structure Desc where
  seq    : Nat
  bytes  : List Byte
  serial : Bool
  idxReq : Nat
  idxIn  : List (Nat × List Byte)
  rPos   : Nat
  rGot   : Nat
  wPos   : Nat
  landed : Nat
  buf    : KMap Byte
  diff   : Nat
  first  : Option Nat
  rDst   : Nat := 0
  cut    : List (Nat × Nat) := []
  deriving DecidableEq, Repr

/-- A slot of the shared buffer (R200): descriptor, read position, length, bytes that the write engine has still to take. -/
structure DmaSlot where
  seq  : Nat
  pos  : Nat
  len  : Nat
  left : Nat
  deriving DecidableEq, Repr

/-- A DMA channel (R200–R203): its task, the next descriptor's place and sequence number, the shadow set with its check, the
descriptors that run (oldest first, the last one active), slots, requests, whether any request of the task has issued, token
buckets with the cycle they were brought up to and the rates at which they gain (R219), the re-shard entry and the generations taken at the start (R179), a halt
(R222). -/
structure Chan where
  task    : Option Nat
  descAt  : Nat
  seq     : Nat
  shadow  : Option Desc
  shadowSt : Nat
  live    : List Desc
  slots   : List DmaSlot
  reqs    : List DmaReq
  issued  : Bool
  rTok    : Nat × Nat
  wTok    : Nat × Nat
  rRate   : Nat := 0
  wRate   : Nat := 0
  entry   : Nat
  entryAt : Nat
  gens    : List Nat
  halted  : Bool
  deriving DecidableEq, Repr

/-- A bus-error record of a unit (R226) with the partition of its task. -/
structure BusRec where
  part  : Nat
  bytes : List Byte
  deriving DecidableEq, Repr

/-- A DMA unit beside its objects: the channels that last issued a read and a write, the cycle of the last request at its network port
(R200, R217), maintenance requests that have yielded their channel (R225), its bus-error records (newest first). -/
structure DmaSt where
  lastR : Nat
  lastW : Nat
  slotAt : Option Nat
  saved : List Chan
  log   : List BusRec
  deriving DecidableEq, Repr

/-- A frame as later steps see it (R243, R246, R265): its number, its intake status word, its expected height. -/
structure FrameInfo where
  number : Nat
  status : Nat
  h      : Nat
  deriving DecidableEq, Repr

/-- A Facet descriptor that runs (R288–R344): its bytes, cycle of activation, progress rows landed and reported, whether its
prediction is used; 0 coarse or only pass, 1 refine pass or track updates, 2 nothing left; tiles selected and not yet started in
order, tile states, start of the refine pass. For TRACK: hold, the list's frame number, features claimed, next context and feature
to look at, updates made, new tracks, entries, contexts freed, truncation, cost of the updates. The cycle up to which its time is counted, and
the stall cycles counted of it. -/
structure FacetRun where
  bytes    : List Byte
  since    : Nat
  progress : Nat
  flagged  : Nat
  pred     : Bool
  stage    : Nat
  todo     : List Nat
  tiles    : KMap Nat
  refineAt : Nat
  hold     : Bool
  frame    : Nat
  claimed  : List Nat
  cursor   : Nat
  feature  : Nat
  updates  : Nat
  news     : Nat
  entries  : List (List Byte)
  freed    : List Nat
  trunc    : Bool
  cost     : Nat
  counted  : Nat
  stalled  : Nat
  tickAt   : Nat := 0
  own      : List (Nat × Nat × List Byte) := []
  deriving DecidableEq, Repr

/-- A Facet engine (R284): the entry that runs, the second entry it holds, the next DESC_SEQ, the active descriptor; the first descriptor of
the second entry and of the one that runs, as loaded, with the status of its checks. -/
structure EngSt where
  task   : Option Nat
  next   : Option Nat
  seq    : Nat
  run    : Option FacetRun
  pre    : Option (List Byte × Nat) := none
  loaded : Option (List Byte × Nat) := none
  deriving DecidableEq, Repr

/-- A line of FTR0's context cache (R336): context, contents, whether it is to be written back. -/
structure CtxLine where
  ctx   : Nat
  bytes : List Byte
  dirty : Bool
  deriving DecidableEq, Repr

/-- The coefficients that a frame latches (R244, R255–R259): bits per pixel, expected width and height, pad value, CFA order, black
levels, pedestal, DPC enable, thresholds, static list, shading enable and grid, clip level. -/
structure Coef where
  bits    : Nat
  w       : Nat
  h       : Nat
  pad     : Nat
  cfa     : Nat
  bl      : List Nat
  ped     : Nat
  dpc     : Bool
  hi      : Nat
  lo      : Nat
  static  : Bool
  defects : List (Nat × Nat)
  lsc     : Bool
  grid    : List Byte
  clip    : Nat
  deriving DecidableEq, Repr

/-- A frame between its Frame Start and the end of its record (R242–R261): numbers, times, intake flags and padded rows, rows
received and taken, longest line, whether the reception has ended, coefficients, rows corrected, the two rows above as black-level
subtracted values, sums by zone × 8 + measure (0 to 3 SUM, 4 FOCUS, 5 CLIP), histogram, defects, whether the record is
written, the glint check (0 not due, 1 rows to come, 2 rows passed, 3 latched), the rows taken before a cut, the raw set, statistics
set and row pitch latched for it, and the cycle at which it ended with the rows taken by then. -/
structure Frame where
  number  : Nat
  sensor  : Nat
  tick    : Nat
  fsTime  : Nat
  feTime  : Nat
  flags   : Nat
  padRows : Nat
  rows    : Nat
  taken   : Nat
  rxW     : Nat
  ended   : Bool
  inl     : Bool
  coef    : Coef
  done    : Nat
  up1     : List Int
  up2     : List Int
  zones   : KMap Nat
  hist    : KMap Nat
  defects : Nat
  record  : Bool
  glint   : Nat
  cutRows : Nat
  rawAt   : Nat
  statsAt : Nat
  pitch   : Nat
  endAt   : Nat
  took    : Nat
  deriving DecidableEq, Repr

/-- A row that waits for the front-end (R231, R245, R247): stream, intake tick of its frame, the line as received or none for a
padded row, the number of a glint row, bytes it holds in the line memory. -/
structure RowJob where
  stream : Nat
  tick   : Nat
  line   : Option (List Byte)
  glint  : Option Nat
  bytes  : Nat
  deriving DecidableEq, Repr

/-- A stream beside its objects (R241–R245): the frame being received, frames whose rows, record or glint check are still to come,
the frame number of the last Frame Start that the port received, until its Frame End, whether a Frame Start came in this intake tick,
intake ticks without one, the expected height of the last frame (R265). -/
structure StreamSt where
  cur     : Option Frame
  late    : List Frame
  fs      : Option Nat
  seen    : Bool
  missed  : Nat
  h       : Nat
  deriving DecidableEq, Repr

/-- A port beside its objects (R232, R267, R37): the lane maps that pass so far and the consecutive headers seen, rows that wait
for the front-end, the in-line rows held by intake tick and row number with the latest frame's tick and height, whether the front-end stands for room
and since when, the FSYNC pin and whether it has been asserted in this tick, Frame Starts that ended in the cycle of an edge not made
yet (R18), whether its terminations are on (R492). -/
structure PortSt where
  maps    : List Nat
  headers : Nat
  work    : List RowJob
  ring    : KMap (List Byte)
  ringTick : Nat
  ringTop : Nat
  stalled : Option Nat
  fsync   : Bool
  fsyncAt : Nat
  fsyncUp : Bool
  early   : List (Packet × BitVec 16)
  term    : Bool
  deriving DecidableEq, Repr

/-- A bus write of the camera loop (R273–R276): template entry, I2C or I3C and the code of its rate, target, register address and data as
sent. -/
structure BusWrite where
  entry  : Nat
  i2c    : Bool
  rate   : Nat
  target : Nat
  bytes  : List Byte
  deriving DecidableEq, Repr

/-- A stream's turn in an I3C node (R274) with what is in force at the node's start: LOOP_MODE, TEMPLATE, HOST_RECORD where it is
still to be used, LOOP_ADDR, PARAM_ADDR. -/
structure LoopTurn where
  stream   : Nat
  mode     : Nat
  template : List Byte
  host     : Option (List Byte)
  addr     : Nat
  param    : Nat
  deriving DecidableEq, Repr

/-- An I3C controller beside its objects (R274–R277): the node, turns to come, the turn under way with its record, writes to come
(the first one is on the bus), whether it was NACKed once, when a recovery began and whether it reached step 2, the last completed
write, dynamic addresses assigned, whether CC5 has an assignment to make, and the I3C and I2C rates in force at the node's start. -/
structure I3cSt where
  task    : Option Nat
  turns   : List LoopTurn
  turn    : Option LoopTurn
  record  : List Byte
  writes  : List BusWrite
  nacked  : Bool
  recover : Option Nat
  pattern : Bool
  last    : Option BusWrite
  dyn     : List (Nat × Nat)
  dasa    : Bool
  hostNew : KMap Bool
  rates   : Nat × Nat
  deriving DecidableEq, Repr

/-- A result record that waits for its verdict (R366, R432): partition, function, node, tick, bytes. -/
structure HeldResult where
  part  : Nat
  fn    : Nat
  node  : Nat
  tick  : Nat
  bytes : List Byte
  deriving DecidableEq, Repr

/-- A pair as judged (R429, R435): its plan's partition and place, the conditions and rules that failed as verdict bits, whether
it was withheld, elements outside the band, whether the copies were compared. -/
structure JudgedPair where
  part     : Nat
  pair     : Nat
  bits     : Nat
  withheld : Bool
  outside  : Nat
  compared : Bool
  agree    : Bool
  resA     : Nat
  resB     : Nat
  deriving DecidableEq, Repr

/-- The Umbra checker beside its objects (17): halted (R434), the safety-marks sections it holds by partition (0 to 7, and 8 to
15 for replaced plans), the pairs judged in this tick, whether all are and the rules too with the bits, number and first of the
rules that failed, whether the tick's verdict is out, what the verdict of the tick before said of each pair where there was one, a tick that
ended without one, result records that wait, the rate
history by partition, pair and element, and which pairs were last released, the outcomes by resource pair (newest first) and
the output pair that last disagreed there, and the bits that the next verdict takes. SAFE_N's pin and whether a clear stands. -/
structure UmbraSt where
  halted    : Bool
  tables    : KMap (List Byte)
  judged    : List JudgedPair
  ready     : Bool
  ruleBits  : Nat
  failed    : Nat
  first     : Nat
  published : Bool
  prev      : Option (List JudgedPair)
  missing   : Option Nat
  held      : List HeldResult
  rate      : KMap Nat
  released  : KMap Bool
  history   : KMap (List Bool)
  bad       : KMap Nat
  selftest  : Bool
  lasting   : Bool
  transient : Bool
  safeN     : Bool
  wentLow   : Bool
  cleared   : Bool
  seq       : Nat
  deriving DecidableEq, Repr

/-- A read whose code check has failed and whose retry runs (R445). -/
structure Failing where
  site   : ErrSite
  reader : ErrReader
  deriving DecidableEq, Repr

/-- A suspect unit (R446): KIND and INDEX of R453, and the tick of the lasting error. -/
structure Suspect where
  kind  : Nat
  index : Nat
  tick  : Nat
  deriving DecidableEq, Repr

/-- A recomputation (R449): the reader's task, the producer's rerun, whether the producer has ended. -/
structure Redo where
  reader   : Nat
  producer : Nat
  phase    : Nat
  deriving DecidableEq, Repr

/-- The fault unit beside its objects (18): reads being retried, the suspect table (oldest first), transients of the tick by
partition and store code, poisoned blocks, pages retired that await their copy and pages copied that await the edge, each with
its pool page, withdrawn pages, the next pool page, records that SEC has still to append, units whose work is to move at the next edge, resources whose
nodes are cancelled in every tick, spares consumed, spares chosen for a unit whose move is to come, recomputations in the tick by partition and those under way,
readers already recomputed, and the DETECTION_RETRY_RESULT's error records (newest first). -/
structure FaultSt where
  failing   : List Failing
  suspects  : List Suspect
  transients : KMap Nat
  raised    : KMap Bool
  poisoned  : KMap Bool
  toCopy    : List (Nat × Nat)
  copied    : List (Nat × Nat)
  withdrawn : KMap Bool
  poolNext  : Nat
  toList    : List (List Byte)
  toMove    : List Nat
  dead      : KMap Bool
  consumed  : KMap Bool
  claimed   : KMap Nat
  redos     : List Redo
  redoCount : KMap Nat
  records   : List (List Byte)
  deriving DecidableEq, Repr

/-- A place that is scrubbed before a partition may hold it again (R411): a Facet unit or a granule, and the partition that
lost it. -/
structure Scrub where
  granule : Bool
  index   : Nat
  part    : Nat
  deriving DecidableEq, Repr

/-- What SEC last answered on the PF's DOE mailbox (R417–R419). An SPDM error carries its code. -/
inductive Spdm where
  | none
  | error (code : Nat)
  | notReady (exponent : Nat)
  | version (v : Nat)
  | capabilities
  | algorithms (ecdsaP256 sha256 secp256r1 aesGcm : Bool)
  | digests (slots : Nat) (digest : List Byte)
  | certificate (slot : Nat) (part : List Byte) (left : Nat)
  | challengeAuth (nonce : List Byte) (signature : List Byte)
  | measurements (count : Nat) (record : List Byte) (signature : List Byte)
  | keyExchange (session : Nat) (exchange : List Byte)
  | finish (session : Nat)
  | keyUpdate (session : Nat)
  | heartbeat (session : Nat)
  | endSession (session : Nat)
  deriving DecidableEq, Repr

/-- SEC's security services beside OD 9000 and OD 9001 (R414–R419): IDE keys by 6 × set + 2 × sub-stream + direction, what
negotiation has reached (0 nothing, 1 version, 2 capabilities, 3 algorithms), sessions with whether they are established and how
often their keys were updated, the last response, the request whose response was deferred while SEC restarted, the cycle of the last
K_SET_GO. -/
structure SecSt where
  keys     : KMap (List Byte)
  phase    : Nat
  sessions : List (Nat × Bool × Nat)
  resp     : Spdm
  deferred : Option Instr
  keyAt    : Nat := 0
  deriving DecidableEq, Repr

/-- PMC's voltage control beside its objects (R458–R460, R467–R469): the request in flight and whether it is the second attempt,
targets still to request, the goal of the re-plan, the tick at which voltage changes were suspended, the tick in which a service window
was asked for, the target that the rules of this edge set, each unit's smallest projected margin at 850 mV since the last window, the
units found exhausted at the last edge, the cycle of the last request, whether a Status read is on the bus, the goal that follows a rise under
way, the cycle at which OD 3020.02 was updated. A target that waits is an emergency raise or not. -/
structure AvsSt where
  flight  : Option Nat
  second  : Bool
  queue   : List (Nat × Bool)
  goal    : Option Nat
  hold    : Option Nat
  asked   : Option Nat
  floor   : Nat
  proj    : KMap Int
  spent   : List Nat
  sentAt  : Nat := 0
  status  : Bool := false
  next    : Option Nat := none
  wattAt  : Option Nat := none
  deriving DecidableEq, Repr

/-- The JTAG TAP (R496): controller state, instruction, shift registers, boundary latches, TDO. -/
structure JtagSt where
  tap    : Nat
  ir     : Nat
  irs    : Nat
  dr     : List Bool
  latch  : List Bool
  tdo    : Bool
  deriving DecidableEq, Repr

/-- Why the machine stops with a fault. No command of the table faults: every access that the manual forbids is refused
by the device itself, and the machine goes on. -/
inductive Fault where
  /-- Not raised: every row answers a next state. Kept so that the type is not empty. Safe. -/
  | none
  deriving DecidableEq, Repr

/-- Why the machine refuses a command. -/
inductive Refusal where
  /-- A row of the table that has no meaning yet, by its mnemonic. Safe: the run stops. -/
  | notModelled (mnemonic : String)
  deriving DecidableEq, Repr

/-- The state of the device. `idleAt` is the cycle at which each resource last became idle (OD 53rr.06); `quotaWait` names the
partitions whose QUOTA change waits for the end of a TRACK descriptor (R335); `ctxUndef` the contexts that another writer than FTR0 has
touched (R336); `winDone` the windows whose end in this tick has been
counted (R402), by 16 × partition + engine; `env` is what sensors and monitors last showed; `railBad` says that a rail left its range
(R466). -/
structure State where
  now     : Nat
  resetN  : Bool
  stopped : Bool
  tick    : TickSt
  dict    : DictSt
  plans   : KMap PlanSt
  fns     : KMap FnSt
  link    : LinkSt
  seen    : Completion
  can     : CanSt
  fw      : FwSt
  elog    : LogSt
  pads    : KMap PadSt
  cores   : KMap CoreSt
  tasks   : List Task
  nextId  : Nat
  idleAt  : KMap Nat
  quotaWait : List Nat
  winDone : List Nat
  queues  : KMap QueueSt
  chans   : KMap Chan
  dmas    : KMap DmaSt
  ports   : KMap PortSt
  streams : KMap StreamSt
  i3cs    : KMap I3cSt
  engines : KMap EngSt
  ctxCache : List CtxLine
  ctxFreed : List Nat
  ctxUndef : List Nat
  netReply : PadReply
  umbra   : UmbraSt
  faults  : FaultSt
  scrubs  : List Scrub
  sec     : SecSt
  avs     : AvsSt
  jtag    : JtagSt
  env     : Readings
  railBad : Bool
  frames  : KMap FrameInfo
  frames2 : KMap FrameInfo
  ddr     : List Host.Cell
  fscratch : List Host.Cell
  scrPrev : Nat × KMap Byte
  hostMem : List Host.Cell
  free    : Nat
  pending : List Instr
  deriving DecidableEq, Repr

/-- The dictionary after hardware reset: every object at its default, no transaction, an empty journal whose first entry
takes SEQ 1 (R79, R89). -/
def dictReset : DictSt :=
  { num := [], blob := [], latched := [], latchedB := [], lastChange := [], txns := [], nextTxn := 1, commits := [],
    effects := [], segments := [], lastRead := [], vers := [], latchedV := [], journal := [], ring := [], nextSeq := 1, mirrored := 0 }

/-- The tick unit after hardware reset (R35): disabled, no edge yet. -/
def tickReset : TickSt := { lastEdge := none, enabledAt := 0, run := 0, lost := false, guard := false, tickIn := false, hostDue := none }

/-- The link after hardware reset: RESET (R349). -/
def linkReset : LinkSt :=
  { u0 := none, u1 := none, drop0 := false, drop1 := false, dlUp := false, failedAt := none, waiting := [], numVfs := 0, again := false,
    was0 := false, was1 := false }

/-- The field port after hardware reset: off, both key slots empty (R375). -/
def canReset : CanSt :=
  { queue := [], waiting := [], msg := none, statusAt := 0, key0 := none, key1 := none, dueRaised := false,
    busOffAt := none, recovering := false, lastReply := none, lastTx := [] }

/-- The firmware after hardware reset: nothing loaded (R399). -/
def fwReset : FwSt :=
  { restartAt := [], restarts := [], watchdog := [], running := [], images := [], flash := [], floors := [], update := [],
    dumps := [], dumpDue := [], noDdr := false }

/-- The checker after hardware reset: nothing loaded, SAFE_N low (R433). -/
def umbraReset : UmbraSt :=
  { halted := false, tables := [], judged := [], ready := false, ruleBits := 0, failed := 0, first := 0xFFFF,
    published := false, prev := none, missing := none, held := [], rate := [], released := [], history := [], bad := [],
    selftest := false, lasting := false, transient := false, safeN := false, wentLow := true, cleared := false, seq := 0 }

/-- The fault unit after hardware reset. -/
def faultReset : FaultSt :=
  { failing := [], suspects := [], transients := [], raised := [], poisoned := [], toCopy := [], copied := [], withdrawn := [],
    poolNext := 0, toList := [], toMove := [], dead := [], consumed := [], claimed := [], redos := [], redoCount := [], records := [] }

/-- SEC's services after hardware reset: no keys, no session. -/
def secReset : SecSt := { keys := [], phase := 0, sessions := [], resp := .none, deferred := none }

/-- PMC's voltage control after hardware reset. -/
def avsReset : AvsSt :=
  { flight := none, second := false, queue := [], goal := none, hold := none, asked := none, floor := 0, proj := [], spent := [] }

/-- The TAP in Test-Logic-Reset, with IDCODE in the instruction register (log 8). -/
def jtagReset : JtagSt := { tap := 0, ir := 1, irs := 0, dr := [], latch := [], tdo := false }

/-- Readings before any were taken (log 6). -/
def envReset : Readings :=
  { temps := [], margins := [], currentMa := 0, powerMw := 0, powerW := 0, sramMv := 0, ucieMv := 0, ddrMv := 0 }

/-- The machine at the last moment of a hardware reset: RESET_N low, every register at its reset value (R475–R477). -/
def State.reset : State :=
  { now := 0, resetN := false, stopped := false, tick := tickReset, dict := dictReset, plans := [], fns := [],
    link := linkReset, seen := .none, can := canReset, fw := fwReset, elog := { entries := [], nextLog := 1, traces := [] }, pads := [], cores := [], tasks := [],
    nextId := 1, idleAt := [], quotaWait := [], winDone := [], queues := [], chans := [], dmas := [], ports := [], streams := [], i3cs := [], engines := [], ctxCache := [], ctxFreed := [], ctxUndef := [],
    netReply := { status := 0, bytes := [] },
    umbra := umbraReset, faults := faultReset, scrubs := [], sec := secReset, avs := avsReset, jtag := jtagReset,
    env := envReset, railBad := false, frames := [], frames2 := [], ddr := [], fscratch := [], scrPrev := (0, []), hostMem := [],
    free := 0, pending := [] }

end Sys2Proof.Machine
end

