-- ==== Sys2Proof/WellFormed.lean ====
section
/-! DEFINITION. Which commands are well formed: what the manual bounds in an operand and its type does not. The machine gives every
command a meaning, well formed or not; a command that is not well formed is no command of the block. Also the cycle of a command, and the
command put at another cycle. -/

namespace Sys2Proof

/-- A dictionary request carries at most 4,096 bytes (R71). -/
def Req.wf (r : Req) : Bool := decide (r.payload.length ≤ 4096)

/-- Eight junction sensors are read (R478), and margins of units of OD 81uu (R457). -/
def Readings.wf (e : Readings) : Bool := decide (e.temps.length = 8) && e.margins.all (fun m => decide (m.1 < 256))

/-- Bytes of an access. -/
def Access.size : Access → Nat
  | .rd n => n
  | .wr bs => bs.length

/-- An access moves 1 to 4,096 bytes. -/
def Access.wf (a : Access) : Bool := decide (1 ≤ a.size) && decide (a.size ≤ 4096)

/-- A narrow access moves one word of 8 bytes (R134). -/
def Access.word (a : Access) : Bool := decide (a.size = 8)

/-- A wide write moves 256 bytes and a narrow one 8, and a column read names one of 32 words (R133, R134). -/
def PadKind.wf : PadKind → Bool
  | .wideRead off => decide (off < 10240)
  | .wideWrite off bytes => decide (off < 10240) && decide (bytes.length = 256)
  | .column off word => decide (off < 10240) && decide (word < 32)
  | .narrowRead off => decide (off < 327680)
  | .narrowWrite off bytes => decide (off < 327680) && decide (bytes.length = 8)

/-- Which ports make which requests (R133): reads on E0, E1 and DR, writes on EW and DW, columns on E0, narrow accesses on N. -/
def PadReq.wf (r : PadReq) : Bool :=
  r.kind.wf && (match r.kind with
    | .wideRead _ => decide (r.port.val = 0) || decide (r.port.val = 1) || decide (r.port.val = 4)
    | .wideWrite _ _ => decide (r.port.val = 2) || decide (r.port.val = 3)
    | .column _ _ => decide (r.port.val = 0)
    | .narrowRead _ => decide (r.port.val = 5)
    | .narrowWrite _ _ => decide (r.port.val = 5))

/-- No port presents two requests in a cycle. -/
def portsOnce : List PadReq → Bool
  | [] => true
  | r :: rs => rs.all (fun x => decide (x.port ≠ r.port)) && portsOnce rs

/-- A NumVFs of at most 8 (R351), and registers of the first 4 KiB. -/
def ConfigReq.wf : ConfigReq → Bool
  | .numVfs n => decide (n ≤ 8)
  | .other offset => decide (offset < 4096)
  | _ => true

/-- A standard identifier has 11 bits. -/
def canId (id : BitVec 29) (ext : Bool) : Bool := ext || decide (id.toNat < 2 ^ 11)

/-- A row of a scratchpad (R128), an address of LPDDR5 (R489). -/
def ErrSite.wf : ErrSite → Bool
  | .lpddr5 addr => decide (addr < 2 ^ 35)
  | .pad _ row _ => decide (row < 10240)
  | .fscratch word => decide (word < 2 ^ 19)
  | .lineMem _ word => decide (word < 32768)
  | _ => true

/-- A command is well formed. -/
def Instr.wf : Instr → Bool
  | .tickEdge _ env => env.wf
  | .tickInEdge _ _ env => env.wf
  | .hostTick _ _ r env => r.wf && env.wf
  | .flywheelTick _ env => env.wf
  | .tickSourceLost _ => true
  | .guardIntervalStart _ => true
  | .fsyncAssert _ _ => true
  | .fsyncDeassert _ _ => true
  | .nodeRelease _ _ node => decide (node < 65534)
  | .nodeEligible _ _ node => decide (node < 65534)
  | .taskSelect _ _ => true
  | .hostTaskMaxCycles _ _ => true
  | .todFetch _ _ => true
  | .todStart _ _ => true
  | .todComplete _ _ => true
  | .taskComplete _ _ => true
  | .scratchpadRequest _ _ reqs => !reqs.isEmpty && portsOnce reqs && reqs.all PadReq.wf
  | .remoteNarrowRequest _ _ _ _ _ _ _ a => a.word
  | .rawNarrowAccess _ _ _ word a => decide (word < 327680) && a.word
  | .rowValidClearDone _ _ => true
  | .dmaDescriptorLoad _ _ _ => true
  | .dmaShadowActivate _ _ _ => true
  | .dmaReadData _ _ _ hostData => decide (hostData.length ≤ 256)
  | .dmaWriteLanded _ _ _ => true
  | .dmaBusError _ _ _ cause => decide (1 ≤ cause.toNat) && decide (cause.toNat ≤ 3)
  | .dmaBusTimeout _ _ _ => true
  | .dmaRetryReissue _ _ _ => true
  | .reshardEntryEnd _ _ _ => true
  | .maintYield _ _ _ => true
  | .maintResume _ _ _ => true
  | .facetDescriptorActivate _ _ => true
  | .facetProgressFlag _ _ => true
  | .facetDescriptorEnd _ _ => true
  | .refinePassStart _ _ => true
  | .refineTileStart _ _ => true
  | .trackActivate _ => true
  | .trackContextUpdate _ => true
  | .trackAllocate _ => true
  | .flagWaitPoll _ _ => true
  | .flagWaitExpired _ _ => true
  | .flagWaitCopyDone _ _ => true
  | .portHsRequest _ _ => true
  | .frameStart _ _ _ _ => true
  | .frameEnd _ _ _ _ => true
  | .lineStartEnd _ _ _ _ _ => true
  | .longPacket _ _ _ dt payload _ => decide (dt.toNat < 64) && decide (payload.length ≤ 65535)
  | .genericShortPacket _ _ _ dt _ => decide (8 ≤ dt.toNat) && decide (dt.toNat < 16)
  | .otherShortPacket _ _ _ dt _ => decide (4 ≤ dt.toNat) && decide (dt.toNat < 8)
  | .ulpsEntry _ _ => true
  | .laneFault _ _ _ code => decide (code.val ≤ 4)
  | .portRecover _ _ => true
  | .streamLoss _ _ => true
  | .feRowDone _ _ => true
  | .statsRecordWrite _ _ => true
  | .glintCheckLatch _ _ _ => true
  | .inlineWindowRead _ _ => true
  | .inlineRingRoom _ _ => true
  | .i3cWriteDone _ _ => true
  | .i3cNack _ _ => true
  | .i3cBusStuck _ _ => true
  | .i3cRecoveryTimeout _ _ => true
  | .i3cIbi _ _ _ => true
  | .dasaAssignment _ _ => true
  | .read _ _ r => r.wf
  | .write _ _ r => r.wf
  | .begin _ _ r => r.wf
  | .commit _ _ r => r.wf
  | .admissionDone _ => true
  | .commitComplete _ => true
  | .rollback _ _ r => r.wf
  | .txnQuery _ _ r => r.wf
  | .txnIdleExpiry _ _ => true
  | .journalMirrorCopy _ => true
  | .planImage _ _ _ r => r.wf
  | .planStop _ _ _ r => r.wf
  | .clearOverrun _ _ _ r => r.wf
  | .clearCounts _ _ r => r.wf
  | .hostIfVersion _ _ r => r.wf
  | .functionIfVersion _ _ r => r.wf
  | .ringEnable _ _ r => r.wf
  | .journalRead _ _ r => r.wf
  | .logRead _ _ r => r.wf
  | .abort _ _ r => r.wf
  | .maintDesc _ _ r => r.wf
  | .quota _ _ _ r => r.wf
  | .retrain _ _ r => r.wf
  | .keyWrite _ _ _ r => r.wf
  | .evEnable _ _ r => r.wf
  | .resEnable _ _ r => r.wf
  | .loadImage _ _ r => r.wf
  | .start _ _ r => r.wf
  | .updateImage _ _ r => r.wf
  | .updateCommit _ _ r => r.wf
  | .svnRaise _ _ r => r.wf
  | .dumpRelease _ _ r => r.wf
  | .restart _ _ _ r => r.wf
  | .safeClear _ _ r => r.wf
  | .listErase _ _ r => r.wf
  | .serviceNow _ _ r => r.wf
  | .reqSeq _ _ _ => true
  | .ack _ _ _ => true
  | .overrunClear _ _ _ => true
  | .mailboxDone _ _ => true
  | .sqTail _ _ _ _ => true
  | .cqHead _ _ _ _ => true
  | .evTail _ _ _ => true
  | .resTail _ _ _ => true
  | .registerWindowRead _ _ off len => (decide (len = 4) || decide (len = 8)) && decide (off % len = 0) && decide (off + len ≤ 0x40000)
  | .registerWindowWrite _ _ off => decide (off < 0x10000)
  | .registerWrite _ _ off bytes => !bytes.isEmpty && decide (off + bytes.length ≤ 0x40000)
  | .lpddr5ApertureAccess _ _ addr a => a.wf && decide (addr + a.size ≤ 2 ^ 35)
  | .scratchpadApertureAccess _ _ addr a => a.wf && decide (addr + a.size ≤ 2 ^ 34)
  | .configRequest _ _ r => r.wf
  | .vfEnable _ _ => true
  | .d3hotEntry _ _ => true
  | .flrVf _ _ => true
  | .flrPf _ => true
  | .hotReset _ _ => true
  | .ucieModuleTrained _ _ _ => true
  | .linkTrainingRetry _ => true
  | .dlUp _ => true
  | .linkRetrain _ => true
  | .linkRetrainDone _ _ _ => true
  | .ideKeyProgram _ session _ _ _ key => decide (session < 2 ^ 32) && decide (key.length = 32)
  | .kSetGo _ session _ => decide (session < 2 ^ 32)
  | .ideMacFailure _ => true
  | .ideRekey _ _ => true
  | .ideHardLimit _ _ => true
  | .getVersion _ => true
  | .getCapabilities _ => true
  | .negotiateAlgorithms _ _ _ _ _ => true
  | .getDigests _ => true
  | .getCertificate _ _ offset length => decide (offset < 65536) && decide (length < 65536)
  | .challenge _ _ nonce => decide (nonce.length = 32)
  | .getMeasurements _ _ => true
  | .keyExchange _ session => decide (session < 2 ^ 32)
  | .finish _ session _ => decide (session < 2 ^ 32)
  | .keyUpdate _ session => decide (session < 2 ^ 32)
  | .heartbeat _ session => decide (session < 2 ^ 32)
  | .endSession _ session => decide (session < 2 ^ 32)
  | .respondIfReady _ => true
  | .dictRequest _ id ext frame => canId id ext && decide (frame.length ≤ 64)
  | .keySwitch _ id ext frame => canId id ext && decide (frame.length ≤ 64)
  | .canFrameIgnored _ id ext => canId id ext
  | .aedsyPartialTimeout _ => true
  | .aedsyRekeyDue _ => true
  | .aedsyFreshLimit _ => true
  | .aedsyStatusFrame _ => true
  | .canTxComplete _ => true
  | .canBusOff _ tec => decide (256 ≤ tec)
  | .busoffDelayExpiry _ => true
  | .canRecovered _ => true
  | .msixCoalesceExpiry _ _ _ => true
  | .tickVector _ _ => true
  | .eventOverflowEntry _ _ => true
  | .pairJudge _ _ pair => decide (pair < 256)
  | .verdictDeadline _ _ => true
  | .verdictPublish _ => true
  | .missingVerdict _ => true
  | .checkerFault _ _ => true
  | .selftestLapse _ _ => true
  | .detectionCheckFail _ site _ => site.wf
  | .detectionRetryResult _ _ => true
  | .retirementListAppend _ => true
  | .scrubFillDone _ => true
  | .serviceWindow _ => true
  | .avsResponse _ _ => true
  | .avsTimeout _ => true
  | .avsHoldExpiry _ => true
  | .thermalTrip _ _ => true
  | .pllLossOfLock _ _ => true
  | .resetNAssert _ => true
  | .resetNRelease _ => true
  | .romRelease _ => true
  | .lpddr5TrainingDone _ bytes _ => decide (2 ^ 33 ≤ bytes) && decide (bytes ≤ 2 ^ 35)
  | .watchdogExpiry _ _ => true
  | .firmwareFault _ _ => true
  | .crashDumpCaptured _ _ => true
  | .processorRestartDone _ _ => true
  | .processorFailed _ _ => true
  | .dmaRequestIssue _ _ => true
  | .engineWindowStart _ _ _ => true
  | .engineWindowEnd _ _ _ => true
  | .i3cSdaHigh _ _ => true
  | .canErrorPassive _ e => decide (e.tecCount ≤ 255) && decide (e.recCount ≤ 255) && (decide (127 < e.tecCount) || decide (127 < e.recCount))
  | .schFirstRunsImage _ => true
  | .railOutOfRange _ _ => true
  | .jtagTapClock _ _ _ _ => true

/-- The cycle at which a command happens. -/
def Instr.time : Instr → Nat
  | .tickEdge t _ => t
  | .tickInEdge t _ _ => t
  | .hostTick t _ _ _ => t
  | .flywheelTick t _ => t
  | .tickSourceLost t => t
  | .guardIntervalStart t => t
  | .fsyncAssert t _ => t
  | .fsyncDeassert t _ => t
  | .nodeRelease t _ _ => t
  | .nodeEligible t _ _ => t
  | .taskSelect t _ => t
  | .hostTaskMaxCycles t _ => t
  | .todFetch t _ => t
  | .todStart t _ => t
  | .todComplete t _ => t
  | .taskComplete t _ => t
  | .scratchpadRequest t _ _ => t
  | .remoteNarrowRequest t _ _ _ _ _ _ _ => t
  | .rawNarrowAccess t _ _ _ _ => t
  | .rowValidClearDone t _ => t
  | .dmaDescriptorLoad t _ _ => t
  | .dmaShadowActivate t _ _ => t
  | .dmaReadData t _ _ _ => t
  | .dmaWriteLanded t _ _ => t
  | .dmaBusError t _ _ _ => t
  | .dmaBusTimeout t _ _ => t
  | .dmaRetryReissue t _ _ => t
  | .reshardEntryEnd t _ _ => t
  | .maintYield t _ _ => t
  | .maintResume t _ _ => t
  | .facetDescriptorActivate t _ => t
  | .facetProgressFlag t _ => t
  | .facetDescriptorEnd t _ => t
  | .refinePassStart t _ => t
  | .refineTileStart t _ => t
  | .trackActivate t => t
  | .trackContextUpdate t => t
  | .trackAllocate t => t
  | .flagWaitPoll t _ => t
  | .flagWaitExpired t _ => t
  | .flagWaitCopyDone t _ => t
  | .portHsRequest t _ => t
  | .frameStart t _ _ _ => t
  | .frameEnd t _ _ _ => t
  | .lineStartEnd t _ _ _ _ => t
  | .longPacket t _ _ _ _ _ => t
  | .genericShortPacket t _ _ _ _ => t
  | .otherShortPacket t _ _ _ _ => t
  | .ulpsEntry t _ => t
  | .laneFault t _ _ _ => t
  | .portRecover t _ => t
  | .streamLoss t _ => t
  | .feRowDone t _ => t
  | .statsRecordWrite t _ => t
  | .glintCheckLatch t _ _ => t
  | .inlineWindowRead t _ => t
  | .inlineRingRoom t _ => t
  | .i3cWriteDone t _ => t
  | .i3cNack t _ => t
  | .i3cBusStuck t _ => t
  | .i3cRecoveryTimeout t _ => t
  | .i3cIbi t _ _ => t
  | .dasaAssignment t _ => t
  | .read t _ _ => t
  | .write t _ _ => t
  | .begin t _ _ => t
  | .commit t _ _ => t
  | .admissionDone t => t
  | .commitComplete t => t
  | .rollback t _ _ => t
  | .txnQuery t _ _ => t
  | .txnIdleExpiry t _ => t
  | .journalMirrorCopy t => t
  | .planImage t _ _ _ => t
  | .planStop t _ _ _ => t
  | .clearOverrun t _ _ _ => t
  | .clearCounts t _ _ => t
  | .hostIfVersion t _ _ => t
  | .functionIfVersion t _ _ => t
  | .ringEnable t _ _ => t
  | .journalRead t _ _ => t
  | .logRead t _ _ => t
  | .abort t _ _ => t
  | .maintDesc t _ _ => t
  | .quota t _ _ _ => t
  | .retrain t _ _ => t
  | .keyWrite t _ _ _ => t
  | .evEnable t _ _ => t
  | .resEnable t _ _ => t
  | .loadImage t _ _ => t
  | .start t _ _ => t
  | .updateImage t _ _ => t
  | .updateCommit t _ _ => t
  | .svnRaise t _ _ => t
  | .dumpRelease t _ _ => t
  | .restart t _ _ _ => t
  | .safeClear t _ _ => t
  | .listErase t _ _ => t
  | .serviceNow t _ _ => t
  | .reqSeq t _ _ => t
  | .ack t _ _ => t
  | .overrunClear t _ _ => t
  | .mailboxDone t _ => t
  | .sqTail t _ _ _ => t
  | .cqHead t _ _ _ => t
  | .evTail t _ _ => t
  | .resTail t _ _ => t
  | .registerWindowRead t _ _ _ => t
  | .registerWindowWrite t _ _ => t
  | .registerWrite t _ _ _ => t
  | .lpddr5ApertureAccess t _ _ _ => t
  | .scratchpadApertureAccess t _ _ _ => t
  | .configRequest t _ _ => t
  | .vfEnable t _ => t
  | .d3hotEntry t _ => t
  | .flrVf t _ => t
  | .flrPf t => t
  | .hotReset t _ => t
  | .ucieModuleTrained t _ _ => t
  | .linkTrainingRetry t => t
  | .dlUp t => t
  | .linkRetrain t => t
  | .linkRetrainDone t _ _ => t
  | .ideKeyProgram t _ _ _ _ _ => t
  | .kSetGo t _ _ => t
  | .ideMacFailure t => t
  | .ideRekey t _ => t
  | .ideHardLimit t _ => t
  | .getVersion t => t
  | .getCapabilities t => t
  | .negotiateAlgorithms t _ _ _ _ => t
  | .getDigests t => t
  | .getCertificate t _ _ _ => t
  | .challenge t _ _ => t
  | .getMeasurements t _ => t
  | .keyExchange t _ => t
  | .finish t _ _ => t
  | .keyUpdate t _ => t
  | .heartbeat t _ => t
  | .endSession t _ => t
  | .respondIfReady t => t
  | .dictRequest t _ _ _ => t
  | .keySwitch t _ _ _ => t
  | .canFrameIgnored t _ _ => t
  | .aedsyPartialTimeout t => t
  | .aedsyRekeyDue t => t
  | .aedsyFreshLimit t => t
  | .aedsyStatusFrame t => t
  | .canTxComplete t => t
  | .canBusOff t _ => t
  | .busoffDelayExpiry t => t
  | .canRecovered t => t
  | .msixCoalesceExpiry t _ _ => t
  | .tickVector t _ => t
  | .eventOverflowEntry t _ => t
  | .pairJudge t _ _ => t
  | .verdictDeadline t _ => t
  | .verdictPublish t => t
  | .missingVerdict t => t
  | .checkerFault t _ => t
  | .selftestLapse t _ => t
  | .detectionCheckFail t _ _ => t
  | .detectionRetryResult t _ => t
  | .retirementListAppend t => t
  | .scrubFillDone t => t
  | .serviceWindow t => t
  | .avsResponse t _ => t
  | .avsTimeout t => t
  | .avsHoldExpiry t => t
  | .thermalTrip t _ => t
  | .pllLossOfLock t _ => t
  | .resetNAssert t => t
  | .resetNRelease t => t
  | .romRelease t => t
  | .lpddr5TrainingDone t _ _ => t
  | .watchdogExpiry t _ => t
  | .firmwareFault t _ => t
  | .crashDumpCaptured t _ => t
  | .processorRestartDone t _ => t
  | .processorFailed t _ => t
  | .dmaRequestIssue t _ => t
  | .engineWindowStart t _ _ => t
  | .engineWindowEnd t _ _ => t
  | .i3cSdaHigh t _ => t
  | .canErrorPassive t _ => t
  | .schFirstRunsImage t => t
  | .railOutOfRange t _ => t
  | .jtagTapClock t _ _ _ => t

/-- The command put at cycle `cyc`. -/
def Instr.retime (cyc : Nat) : Instr → Instr
  | .tickEdge _ env => .tickEdge cyc env
  | .tickInEdge _ level env => .tickInEdge cyc level env
  | .hostTick _ c r env => .hostTick cyc c r env
  | .flywheelTick _ env => .flywheelTick cyc env
  | .tickSourceLost _ => .tickSourceLost cyc
  | .guardIntervalStart _ => .guardIntervalStart cyc
  | .fsyncAssert _ n => .fsyncAssert cyc n
  | .fsyncDeassert _ n => .fsyncDeassert cyc n
  | .nodeRelease _ p node => .nodeRelease cyc p node
  | .nodeEligible _ p node => .nodeEligible cyc p node
  | .taskSelect _ r => .taskSelect cyc r
  | .hostTaskMaxCycles _ c => .hostTaskMaxCycles cyc c
  | .todFetch _ c => .todFetch cyc c
  | .todStart _ c => .todStart cyc c
  | .todComplete _ c => .todComplete cyc c
  | .taskComplete _ q => .taskComplete cyc q
  | .scratchpadRequest _ c reqs => .scratchpadRequest cyc c reqs
  | .remoteNarrowRequest _ initiator tag c h gen off a => .remoteNarrowRequest cyc initiator tag c h gen off a
  | .rawNarrowAccess _ initiator c word a => .rawNarrowAccess cyc initiator c word a
  | .rowValidClearDone _ c => .rowValidClearDone cyc c
  | .dmaDescriptorLoad _ u ch => .dmaDescriptorLoad cyc u ch
  | .dmaShadowActivate _ u ch => .dmaShadowActivate cyc u ch
  | .dmaReadData _ u ch hostData => .dmaReadData cyc u ch hostData
  | .dmaWriteLanded _ u ch => .dmaWriteLanded cyc u ch
  | .dmaBusError _ u ch cause => .dmaBusError cyc u ch cause
  | .dmaBusTimeout _ u ch => .dmaBusTimeout cyc u ch
  | .dmaRetryReissue _ u ch => .dmaRetryReissue cyc u ch
  | .reshardEntryEnd _ u ch => .reshardEntryEnd cyc u ch
  | .maintYield _ u ch => .maintYield cyc u ch
  | .maintResume _ u ch => .maintResume cyc u ch
  | .facetDescriptorActivate _ e => .facetDescriptorActivate cyc e
  | .facetProgressFlag _ e => .facetProgressFlag cyc e
  | .facetDescriptorEnd _ e => .facetDescriptorEnd cyc e
  | .refinePassStart _ e => .refinePassStart cyc e
  | .refineTileStart _ e => .refineTileStart cyc e
  | .trackActivate _ => .trackActivate cyc
  | .trackContextUpdate _ => .trackContextUpdate cyc
  | .trackAllocate _ => .trackAllocate cyc
  | .flagWaitPoll _ c => .flagWaitPoll cyc c
  | .flagWaitExpired _ c => .flagWaitExpired cyc c
  | .flagWaitCopyDone _ c => .flagWaitCopyDone cyc c
  | .portHsRequest _ n => .portHsRequest cyc n
  | .frameStart _ n pk fn => .frameStart cyc n pk fn
  | .frameEnd _ n pk fn => .frameEnd cyc n pk fn
  | .lineStartEnd _ n pk isEnd line => .lineStartEnd cyc n pk isEnd line
  | .longPacket _ n pk dt payload crcOk => .longPacket cyc n pk dt payload crcOk
  | .genericShortPacket _ n pk dt data => .genericShortPacket cyc n pk dt data
  | .otherShortPacket _ n pk dt data => .otherShortPacket cyc n pk dt data
  | .ulpsEntry _ n => .ulpsEntry cyc n
  | .laneFault _ n pos code => .laneFault cyc n pos code
  | .portRecover _ n => .portRecover cyc n
  | .streamLoss _ s => .streamLoss cyc s
  | .feRowDone _ s => .feRowDone cyc s
  | .statsRecordWrite _ s => .statsRecordWrite cyc s
  | .glintCheckLatch _ s seen => .glintCheckLatch cyc s seen
  | .inlineWindowRead _ ch => .inlineWindowRead cyc ch
  | .inlineRingRoom _ n => .inlineRingRoom cyc n
  | .i3cWriteDone _ n => .i3cWriteDone cyc n
  | .i3cNack _ n => .i3cNack cyc n
  | .i3cBusStuck _ n => .i3cBusStuck cyc n
  | .i3cRecoveryTimeout _ n => .i3cRecoveryTimeout cyc n
  | .i3cIbi _ n hotJoin => .i3cIbi cyc n hotJoin
  | .dasaAssignment _ n => .dasaAssignment cyc n
  | .read _ c r => .read cyc c r
  | .write _ c r => .write cyc c r
  | .begin _ c r => .begin cyc c r
  | .commit _ c r => .commit cyc c r
  | .admissionDone _ => .admissionDone cyc
  | .commitComplete _ => .commitComplete cyc
  | .rollback _ c r => .rollback cyc c r
  | .txnQuery _ c r => .txnQuery cyc c r
  | .txnIdleExpiry _ id => .txnIdleExpiry cyc id
  | .journalMirrorCopy _ => .journalMirrorCopy cyc
  | .planImage _ c p r => .planImage cyc c p r
  | .planStop _ c p r => .planStop cyc c p r
  | .clearOverrun _ c p r => .clearOverrun cyc c p r
  | .clearCounts _ c r => .clearCounts cyc c r
  | .hostIfVersion _ c r => .hostIfVersion cyc c r
  | .functionIfVersion _ c r => .functionIfVersion cyc c r
  | .ringEnable _ c r => .ringEnable cyc c r
  | .journalRead _ c r => .journalRead cyc c r
  | .logRead _ c r => .logRead cyc c r
  | .abort _ c r => .abort cyc c r
  | .maintDesc _ c r => .maintDesc cyc c r
  | .quota _ c s r => .quota cyc c s r
  | .retrain _ c r => .retrain cyc c r
  | .keyWrite _ c slot r => .keyWrite cyc c slot r
  | .evEnable _ c r => .evEnable cyc c r
  | .resEnable _ c r => .resEnable cyc c r
  | .loadImage _ c r => .loadImage cyc c r
  | .start _ c r => .start cyc c r
  | .updateImage _ c r => .updateImage cyc c r
  | .updateCommit _ c r => .updateCommit cyc c r
  | .svnRaise _ c r => .svnRaise cyc c r
  | .dumpRelease _ c r => .dumpRelease cyc c r
  | .restart _ c x r => .restart cyc c x r
  | .safeClear _ c r => .safeClear cyc c r
  | .listErase _ c r => .listErase cyc c r
  | .serviceNow _ c r => .serviceNow cyc c r
  | .reqSeq _ f value => .reqSeq cyc f value
  | .ack _ f value => .ack cyc f value
  | .overrunClear _ f value => .overrunClear cyc f value
  | .mailboxDone _ f => .mailboxDone cyc f
  | .sqTail _ f q value => .sqTail cyc f q value
  | .cqHead _ f q value => .cqHead cyc f q value
  | .evTail _ f value => .evTail cyc f value
  | .resTail _ f value => .resTail cyc f value
  | .registerWindowRead _ f off len => .registerWindowRead cyc f off len
  | .registerWindowWrite _ f off => .registerWindowWrite cyc f off
  | .registerWrite _ f off bytes => .registerWrite cyc f off bytes
  | .lpddr5ApertureAccess _ f addr a => .lpddr5ApertureAccess cyc f addr a
  | .scratchpadApertureAccess _ f addr a => .scratchpadApertureAccess cyc f addr a
  | .configRequest _ f r => .configRequest cyc f r
  | .vfEnable _ n => .vfEnable cyc n
  | .d3hotEntry _ f => .d3hotEntry cyc f
  | .flrVf _ v => .flrVf cyc v
  | .flrPf _ => .flrPf cyc
  | .hotReset _ dlDown => .hotReset cyc dlDown
  | .ucieModuleTrained _ m rate => .ucieModuleTrained cyc m rate
  | .linkTrainingRetry _ => .linkTrainingRetry cyc
  | .dlUp _ => .dlUp cyc
  | .linkRetrain _ => .linkRetrain cyc
  | .linkRetrainDone _ u0 u1 => .linkRetrainDone cyc u0 u1
  | .ideKeyProgram _ session set sub tx key => .ideKeyProgram cyc session set sub tx key
  | .kSetGo _ session set => .kSetGo cyc session set
  | .ideMacFailure _ => .ideMacFailure cyc
  | .ideRekey _ sub => .ideRekey cyc sub
  | .ideHardLimit _ sub => .ideHardLimit cyc sub
  | .getVersion _ => .getVersion cyc
  | .getCapabilities _ => .getCapabilities cyc
  | .negotiateAlgorithms _ ecdsaP256 sha256 secp256r1 aesGcm => .negotiateAlgorithms cyc ecdsaP256 sha256 secp256r1 aesGcm
  | .getDigests _ => .getDigests cyc
  | .getCertificate _ slot offset length => .getCertificate cyc slot offset length
  | .challenge _ slot nonce => .challenge cyc slot nonce
  | .getMeasurements _ index => .getMeasurements cyc index
  | .keyExchange _ session => .keyExchange cyc session
  | .finish _ session macOk => .finish cyc session macOk
  | .keyUpdate _ session => .keyUpdate cyc session
  | .heartbeat _ session => .heartbeat cyc session
  | .endSession _ session => .endSession cyc session
  | .respondIfReady _ => .respondIfReady cyc
  | .dictRequest _ id ext frame => .dictRequest cyc id ext frame
  | .keySwitch _ id ext frame => .keySwitch cyc id ext frame
  | .canFrameIgnored _ id ext => .canFrameIgnored cyc id ext
  | .aedsyPartialTimeout _ => .aedsyPartialTimeout cyc
  | .aedsyRekeyDue _ => .aedsyRekeyDue cyc
  | .aedsyFreshLimit _ => .aedsyFreshLimit cyc
  | .aedsyStatusFrame _ => .aedsyStatusFrame cyc
  | .canTxComplete _ => .canTxComplete cyc
  | .canBusOff _ tec => .canBusOff cyc tec
  | .busoffDelayExpiry _ => .busoffDelayExpiry cyc
  | .canRecovered _ => .canRecovered cyc
  | .msixCoalesceExpiry _ f v => .msixCoalesceExpiry cyc f v
  | .tickVector _ f => .tickVector cyc f
  | .eventOverflowEntry _ f => .eventOverflowEntry cyc f
  | .pairJudge _ p pair => .pairJudge cyc p pair
  | .verdictDeadline _ p => .verdictDeadline cyc p
  | .verdictPublish _ => .verdictPublish cyc
  | .missingVerdict _ => .missingVerdict cyc
  | .checkerFault _ source => .checkerFault cyc source
  | .selftestLapse _ c => .selftestLapse cyc c
  | .detectionCheckFail _ site reader => .detectionCheckFail cyc site reader
  | .detectionRetryResult _ passed => .detectionRetryResult cyc passed
  | .retirementListAppend _ => .retirementListAppend cyc
  | .scrubFillDone _ => .scrubFillDone cyc
  | .serviceWindow _ => .serviceWindow cyc
  | .avsResponse _ a => .avsResponse cyc a
  | .avsTimeout _ => .avsTimeout cyc
  | .avsHoldExpiry _ => .avsHoldExpiry cyc
  | .thermalTrip _ sensor => .thermalTrip cyc sensor
  | .pllLossOfLock _ pll => .pllLossOfLock cyc pll
  | .resetNAssert _ => .resetNAssert cyc
  | .resetNRelease _ => .resetNRelease cyc
  | .romRelease _ => .romRelease cyc
  | .lpddr5TrainingDone _ bytes channelsOk => .lpddr5TrainingDone cyc bytes channelsOk
  | .watchdogExpiry _ x => .watchdogExpiry cyc x
  | .firmwareFault _ x => .firmwareFault cyc x
  | .crashDumpCaptured _ x => .crashDumpCaptured cyc x
  | .processorRestartDone _ x => .processorRestartDone cyc x
  | .processorFailed _ x => .processorFailed cyc x
  | .dmaRequestIssue _ u => .dmaRequestIssue cyc u
  | .engineWindowStart _ p e => .engineWindowStart cyc p e
  | .engineWindowEnd _ p e => .engineWindowEnd cyc p e
  | .i3cSdaHigh _ n => .i3cSdaHigh cyc n
  | .canErrorPassive _ e => .canErrorPassive cyc e
  | .schFirstRunsImage _ => .schFirstRunsImage cyc
  | .railOutOfRange _ rail => .railOutOfRange cyc rail
  | .jtagTapClock _ tms tdi trstN => .jtagTapClock cyc tms tdi trstN

end Sys2Proof
end

