-- ==== Sys2Proof/Machine/Ops.lean ====
section
/-! DEFINITION. The named operations that every chapter's commands share: time, registers of the dictionary, free values,
memories, host-bound writes, interrupts (R362), events (R363–R365), the journal (R85–R89) and the partitions' resources
(R401). -/

namespace Sys2Proof.Machine

/-- What a command answers. -/
abbrev Out := Host.Outcome State Fault Refusal

/-- Time moved on to cycle `t`: commands come in the order of their times (log 1). -/
def State.at (s : State) (t : Nat) : State := { s with now := max s.now t }

/-- Is the die running: RESET_N high and no stop under R478? -/
def State.live (s : State) : Bool := s.resetN && !s.stopped

/-- A command whose effect is `f`, while the die runs: time moves on, and then the effect (log 3). In hardware reset, or
stopped under R478, nothing but time moves. -/
def whileLive (t : Nat) (s : State) (f : State → State) : Out :=
  .next (if s.live then f (s.at t) else s.at t)

/-- A draw of a free value: the number of the draw, and the state after it (log 9). -/
def State.draw (s : State) : Nat × State := (s.free, { s with free := s.free + 1 })

/-! ### Registers of the dictionary -/

/-- Object `idx`.`sub` as held for function `fn`. -/
def State.regF (s : State) (fn idx sub : Nat) : Nat := kget (defNum idx sub) s.dict.num (okey fn idx sub)

/-- Object `idx`.`sub`. -/
def State.reg (s : State) (idx sub : Nat) : Nat := s.regF 0 idx sub

/-- Object `idx`.`sub` of function `fn` set to `v`. -/
def State.setRegF (s : State) (fn idx sub v : Nat) : State :=
  { s with dict := { s.dict with num := kput s.dict.num (okey fn idx sub) v } }

/-- Object `idx`.`sub` set to `v`. -/
def State.setReg (s : State) (idx sub v : Nat) : State := s.setRegF 0 idx sub v

/-- Byte-string object `idx`.`sub` as held for function `fn`. -/
def State.blobF (s : State) (fn idx sub : Nat) : List Byte := kget (defBytes idx sub) s.dict.blob (okey fn idx sub)

/-- Byte-string object `idx`.`sub`. -/
def State.blob (s : State) (idx sub : Nat) : List Byte := s.blobF 0 idx sub

/-- Byte-string object `idx`.`sub` of function `fn` set to `b`. -/
def State.setBlobF (s : State) (fn idx sub : Nat) (b : List Byte) : State :=
  { s with dict := { s.dict with
      blob := kput s.dict.blob (okey fn idx sub) b,
      vers := if s.blobF fn idx sub = b then s.dict.vers else kmod 0 s.dict.vers (okey fn idx sub) (· + 1) } }

/-- A byte string that is computed has changed (R76). -/
def State.newVersion (s : State) (fn idx sub : Nat) : State :=
  { s with dict := { s.dict with vers := kmod 0 s.dict.vers (okey fn idx sub) (· + 1) } }

/-- The key under which the changes of a staged value of function `fn` are told apart (R76): functions are 0 to 9. -/
def stagedFn (fn : Nat) : Nat := fn + 16

/-- How often context `x` has changed (R76): OD 6013.03 does not exist, so its keys count contexts. -/
def State.ctxVersion (s : State) (x : Nat) : Nat := kget 0 s.dict.vers (okey x 0x6013 3)

/-- Context `x` has changed (R76). -/
def State.ctxChanged (s : State) (x : Nat) : State := s.newVersion x 0x6013 3

/-- Byte-string object `idx`.`sub` set to `b`. -/
def State.setBlob (s : State) (idx sub : Nat) (b : List Byte) : State := s.setBlobF 0 idx sub b

/-- A counter of function `fn` raised by `n`: a U32 saturates, a U64 counts (R66). -/
def State.bumpF (s : State) (w fn idx sub n : Nat) : State := s.setRegF fn idx sub (satAdd w (s.regF fn idx sub) n)

/-- A counter raised by `n`, `w` bits wide. -/
def State.bump (s : State) (w idx sub n : Nat) : State := s.bumpF w 0 idx sub n

/-- Counters `subs` of index `idx` set to 0. -/
def State.clearSubs (s : State) (idx : Nat) (subs : List Nat) : State :=
  subs.foldl (fun s sub => s.setReg idx sub 0) s

/-- A stream object: `off` within the block of stream `st` (R9, R251). -/
def stIdx (st off : Nat) : Nat := 0x4000 + 0x40 * st + off

/-! ### The tick -/

/-- The tick counter OD 2001.01 (R35). -/
def State.tickCount (s : State) : Nat := s.reg 0x2001 1

/-- Does the tick run (OD 2000.03)? -/
def State.tickOn (s : State) : Bool := decide (s.reg 0x2000 3 = 1)

/-- P_nom of R30 at a rate in mHz. -/
def pNomOf (rate : Nat) : Nat := 500000000000 / rate

/-- P_nom in force. -/
def State.pNom (s : State) : Nat := pNomOf (s.reg 0x2000 2)

/-- P_min of R32 at a source and a rate. -/
def pMinOf (src rate : Nat) : Nat := if src = 0 then pNomOf rate else pNomOf rate * 99 / 100

/-- P_min in force. -/
def State.pMin (s : State) : Nat := pMinOf (s.reg 0x2000 1) (s.reg 0x2000 2)

/-- Cycles since the last tick edge, or since the enable while there is none (R31, R34). -/
def State.sinceEdge (s : State) : Nat := s.now - (s.tick.lastEdge.getD s.tick.enabledAt)

/-- The cycle at which the internal generator makes its next edge (R29, R34). -/
def State.innerDue (s : State) : Nat := s.tick.lastEdge.getD s.tick.enabledAt + s.pNom

/-- The cycle at which the tick unit makes the edge itself while its source stays silent (R31). -/
def State.flyDue (s : State) : Option Nat := s.tick.lastEdge.map (fun e => e + s.pNom * 101 / 100)

/-- Would an edge of the source at cycle `c` come too early (R31)? It is measured from the last edge, and where the source stays silent past
101 % of P_nom, from the last of the flywheel edges that come before `c`. -/
def State.tooEarly (s : State) (c : Nat) : Bool :=
  match s.tick.lastEdge with
  | some e =>
    let p := s.pNom * 101 / 100
    decide (c < e + (c - e - 1) / p * p + s.pNom * 99 / 100)
  | none => false

/-- Does a row that waits in this cycle make an edge now: a TICK_IN transition or a host tick of 3 cycles ago (R18, R29; log 78)? -/
def State.edgeQueued (s : State) : Bool :=
  (s.pending.takeWhile (fun i => decide (i.time ≤ s.now))).any (fun i => match i with
    | .tickInEdge t _ _ => decide (t + 3 ≤ s.now)
    | .hostTick t _ _ _ => decide (t + 3 ≤ s.now)
    | _ => false)

/-- Is a tick edge due that has not been made: its cycle is reached (R29, R31)? -/
def State.edgeDue (s : State) : Bool :=
  s.tickOn && (s.edgeQueued || (match s.tick.hostDue with
    | some c => decide (c ≤ s.now)
    | none => if s.reg 0x2000 1 = 0 then decide (s.innerDue ≤ s.now) else s.flyDue.any (fun c => decide (c ≤ s.now))))

/-- Cycles in `n` milliseconds of ACLK. -/
def msCycles (n : Nat) : Nat := 500000 * n

/-- Cycles in `n` microseconds of ACLK. -/
def usCycles (n : Nat) : Nat := 500 * n

/-! ### Partitions (R401) -/

/-- Does partition `p` hold core `c`? -/
def State.coreIn (s : State) (p c : Nat) : Bool := (s.reg (0x3100 + p) 2).testBit c

/-- Does partition `p` hold port `n`? -/
def State.portIn (s : State) (p n : Nat) : Bool := (s.reg (0x3100 + p) 3).testBit n

/-- Does partition `p` hold queue `q`? -/
def State.queueIn (s : State) (p q : Nat) : Bool :=
  decide (s.reg (0x3100 + p) 4 ≤ q) && decide (q < s.reg (0x3100 + p) 4 + s.reg (0x3100 + p) 5)

/-- Does partition `p` hold granule `g`? -/
def State.granuleIn (s : State) (p g : Nat) : Bool :=
  decide (s.reg (0x3100 + p) 6 ≤ g) && decide (g < s.reg (0x3100 + p) 6 + s.reg (0x3100 + p) 7)

/-- Does partition `p` hold Facet unit `u`? -/
def State.unitIn (s : State) (p u : Nat) : Bool :=
  decide (s.reg (0x3100 + p) 8 ≤ u) && decide (u < s.reg (0x3100 + p) 8 + s.reg (0x3100 + p) 9)

/-- Does partition `p` hold context `x`? -/
def State.ctxIn (s : State) (p x : Nat) : Bool :=
  decide (s.reg (0x3100 + p) 10 ≤ x) && decide (x < s.reg (0x3100 + p) 10 + s.reg (0x3100 + p) 11)

/-- The partition among P0 to P7 for which `f` holds. -/
def partOf (f : Nat → Bool) : Option Nat := (List.range 8).find? f

/-- The partition of a core. -/
def State.corePart (s : State) (c : Nat) : Option Nat := partOf (fun p => s.coreIn p c)

/-- The partition of a port. -/
def State.portPart (s : State) (n : Nat) : Option Nat := partOf (fun p => s.portIn p n)

/-- The partition of a stream: that of its port (R237, R401). -/
def State.streamPart (s : State) (st : Nat) : Option Nat := s.portPart (st / 4)

/-- The partition of a queue. -/
def State.queuePart (s : State) (q : Nat) : Option Nat := partOf (fun p => s.queueIn p q)

/-- The partition of a granule. -/
def State.granulePart (s : State) (g : Nat) : Option Nat := partOf (fun p => s.granuleIn p g)

/-- The partition of a Facet unit. -/
def State.unitPart (s : State) (u : Nat) : Option Nat := partOf (fun p => s.unitIn p u)

/-- The window of partition `p` on engine `e` (by RESOURCE − 0x20): start and end, none for 0 (R402). -/
def State.window (s : State) (p e : Nat) : Option (Nat × Nat) :=
  let w := s.reg (0x3110 + p) (e + 1)
  if w = 0 then none else some (w % 2 ^ 32, w / 2 ^ 32)

/-- PROC_STATE. -/
def State.proc (s : State) (x : Nat) : Nat := s.reg (0x2060 + x) 1

/-- The plan state of partition `p` (R50). -/
def State.planState (s : State) (p : Nat) : Nat := s.reg (0x2110 + p) 2

/-- A partition's plans. -/
def plan0 : PlanSt := { staging := [], waiting := none, cur := none, old := none, changeTick := 0, gone := none, primed := false }

/-- The plans of partition `p`. -/
def State.planSt (s : State) (p : Nat) : PlanSt := kget plan0 s.plans p

/-- The plans of partition `p` set. -/
def State.setPlanSt (s : State) (p : Nat) (x : PlanSt) : State := { s with plans := kput s.plans p x }

/-- The capacity found at training (OD 1002.07). -/
def State.capacity (s : State) : Nat := s.reg 0x1002 7

/-- The capacity in use: less the inline code reserve of 1/32, in whole granules, less the spare granule (R5, R452). -/
def State.capacityUsed (s : State) : Nat := (s.capacity * 31 / 32 / 67108864 - 1) * 67108864

/-! ### Memories -/

/-- What an unlisted byte of LPDDR5 or of the Facet shared scratch reads as: 0, by the fill of R412 (log 7). -/
def memDefault : Byte := 0

/-- `len` bytes of LPDDR5. -/
def State.ddrRead (s : State) (addr len : Nat) : List Byte := kgets memDefault s.ddr addr len

/-- Bytes written to LPDDR5. A block of which all 64 bytes are written loses its poison (R444). -/
def State.ddrWrite (s : State) (addr : Nat) (bs : List Byte) : State :=
  let whole (k : Nat) : Bool := decide (addr ≤ 64 * k) && decide (64 * k + 64 ≤ addr + bs.length)
  { s with ddr := ksets memDefault s.ddr addr bs,
           faults := { s.faults with poisoned := s.faults.poisoned.filter (fun e => !whole e.1) } }

/-- Is a 64-byte block of the span poisoned (R444)? -/
def State.spanPoisoned (s : State) (addr len : Nat) : Bool :=
  s.faults.poisoned.any (fun e => e.2 && decide (addr < 64 * e.1 + 64) && decide (64 * e.1 < addr + len))

/-- Does a span of LPDDR5 meet a withdrawn page (R452)? -/
def State.spanRetired (s : State) (addr len : Nat) : Bool :=
  s.faults.withdrawn.any (fun e => e.2 && decide (addr < 4096 * e.1 + 4096) && decide (4096 * e.1 < addr + len))

/-- Bytes of LPDDR5 written where one is given: a block of which a byte is left out stays poisoned (R206, R444). -/
def State.ddrMerge (s : State) (addr : Nat) (bs : List (Option Byte)) : State :=
  let whole (k : Nat) : Bool := decide (addr ≤ 64 * k) && decide (64 * k + 64 ≤ addr + bs.length)
    && (List.range 64).all (fun i => (bs.getD (64 * k + i - addr) none).isSome)
  { s with ddr := ksets memDefault s.ddr addr (mergeBytes (s.ddrRead addr bs.length) bs),
           faults := { s.faults with poisoned := s.faults.poisoned.filter (fun e => !whole e.1) } }

/-! ### Detection codes: where, who, and the error records (R443, R444, R461, R462) -/

/-- The store code of R443. -/
def siteCode : ErrSite → Nat
  | .lpddr5 _ => 0
  | .pad _ _ _ => 1
  | .fscratch _ => 2
  | .lineMem _ _ => 3
  | .control _ => 4
  | .network => 5
  | .descriptor => 6
  | .host _ => 7
  | .engine _ => 8

/-- The location as an error record gives it; none where the manual names none (log 38). -/
def sitePlace : ErrSite → Option Nat
  | .lpddr5 a => some a
  | .pad c row _ => some (65536 * c.val + row)
  | .fscratch w => some w
  | .lineMem _ w => some w
  | .host a => some a
  | _ => none

/-- A number given, or a free one. -/
def State.orFree (s : State) (x : Option Nat) : Nat × State :=
  match x with
  | some n => (n, s)
  | none => (let d := s.draw; (Config.freeNat d.1, d.2))

/-- An error record put first (R462): its site, the initiator that read, its class and its outcome. 32 are kept. -/
def State.addRecord (s : State) (site : ErrSite) (who : Option Nat) (cls outcome : Nat) : State :=
  let a := s.orFree (sitePlace site)
  let i := a.2.orFree who
  let b := leBytes 8 a.1 ++ leBytes 1 (siteCode site) ++ leBytes 1 cls ++ leBytes 1 i.1 ++ leBytes 1 outcome ++ leBytes 4 i.2.tickCount
  let s := i.2.newVersion 0 0x8001 1
  { s with faults := { s.faults with records := (b :: s.faults.records).take 32 } }

/-- A read of a span of LPDDR5 with a poisoned block: counted, and recorded with the first of them (R444, R462). -/
def State.countPoison (s : State) (addr len : Nat) (who : Option Nat) : State :=
  let k := ((s.faults.poisoned.find? (fun e => e.2 && decide (addr < 64 * e.1 + 64) && decide (64 * e.1 < addr + len))).map (fun e => e.1)).getD (addr / 64)
  (s.bump 64 0x8000 4 1).addRecord (.lpddr5 (64 * k)) who 2 2

/-- A CRC over a descriptor or an entry that has failed twice: a lasting error of code 6 (R443, R445). -/
def State.crcLasting (s : State) (who : Option Nat) : State := (s.bump 64 0x8000 2 1).addRecord .descriptor who 1 2

/-- The bytes of the Facet shared scratch that writes of this cycle have changed, as they were before them (R283). -/
def State.scrOld (s : State) : KMap Byte := if s.scrPrev.1 = s.now then s.scrPrev.2 else []

/-- `len` bytes of the Facet shared scratch: reads of a cycle come before its writes (R283). -/
def State.scrRead (s : State) (addr len : Nat) : List Byte :=
  (List.range len).map (fun i => (klook s.scrOld (addr + i)).getD (kget memDefault s.fscratch (addr + i)))

/-- Bytes written to the Facet shared scratch. -/
def State.scrWrite (s : State) (addr : Nat) (bs : List Byte) : State :=
  let was := (List.range bs.length).map (fun i => (addr + i, kget memDefault s.fscratch (addr + i)))
  { s with fscratch := ksets memDefault s.fscratch addr bs, scrPrev := (s.now, s.scrOld ++ was) }

/-- The key of a byte of host memory, as function `fn` addresses it. -/
def hostKey (fn addr : Nat) : Nat := fn * 2 ^ 64 + addr

/-- A byte of host memory: what the device wrote there, else what the host holds there, an input (log 9). -/
def State.hostByte (s : State) (fn addr : Nat) : Byte :=
  (klook s.hostMem (hostKey fn addr)).getD (Config.hostByte fn addr s.now)

/-- `len` bytes of host memory. -/
def State.hostRead (s : State) (fn addr len : Nat) : List Byte :=
  (List.range len).map (fun i => s.hostByte fn (addr + i))

/-- Bytes that the die puts out: free after a rail left its range (R466). -/
def State.drives (s : State) (b : List Byte) : List Byte × State :=
  if s.railBad then (let d := s.draw; (slice (Config.freeBytes d.1 b.length) 0 b.length, d.2)) else (b, s)

/-- Bytes laid down in host memory. -/
def State.hostLand (s : State) (fn addr : Nat) (bs : List Byte) : State :=
  let d := s.drives bs
  { d.2 with hostMem := (List.range bs.length).foldl (fun m i => kput m (hostKey fn (addr + i)) (d.1.getD i 0)) s.hostMem }

/-- What the host reads from the device. -/
def State.complete (s : State) (c : Completion) : State :=
  match c with
  | .data b => (let d := s.drives b; { d.2 with seen := .data d.1 })
  | x => { s with seen := x }

/-! ### The link and host-bound requests (R349, R415) -/

/-- What becomes of a host-bound request: sent, waits, or fails at once. -/
inductive LinkPath where
  | sent | waits | fails
  deriving DecidableEq, Repr

/-- The fate of host-bound requests in the link state and the IDE state. -/
def State.hostPath (s : State) : LinkPath :=
  let st := s.reg 0x1100 1
  if st = 6 then .fails
  else if st = 2 ∨ st = 3 ∨ st = 4 then
    (if s.reg 0x9001 1 = 1 ∧ s.reg 0x9001 2 ≠ 1 then .waits else .sent)
  else .waits

/-- A write of the device to host memory: sent, queued while the link waits, lost in FAILED. -/
def State.hostWrite (s : State) (fn addr : Nat) (bs : List Byte) : State :=
  match s.hostPath with
  | .sent => s.hostLand fn addr bs
  | .waits => { s with link := { s.link with waiting := s.link.waiting ++ [{ fn := fn, addr := addr, bytes := bs }] } }
  | .fails => s

/-- How long host-bound requests have waited in all (R350). -/
def State.hostWaited (s : State) : Nat := s.link.waited + (match s.link.waitAt with
  | some a => s.now - a
  | none => 0)

/-- The wait of host-bound requests begins or ends with what the link and IDE have become (R349, R350, R415). -/
def State.noteWait (s : State) : State :=
  match s.hostPath, s.link.waitAt with
  | .waits, none => { s with link := { s.link with waitAt := some s.now } }
  | .waits, some _ => s
  | _, none => s
  | _, some _ => { s with link := { s.link with waited := s.hostWaited, waitAt := none } }

/-- What waited goes, in order, once the link carries host-bound requests. -/
def State.flushHost (s : State) : State :=
  let s := s.noteWait
  match s.hostPath with
  | .sent =>
    let ws := s.link.waiting
    ws.foldl (fun s w => s.hostLand w.fn w.addr w.bytes) { s with link := { s.link with waiting := [] } }
  | _ => s

/-! ### PCIe functions and interrupts (R351–R353, R362) -/

/-- A function as FLR leaves its own state, disabled. -/
def fn0 : FnSt :=
  { enabled := false, d3 := false, memSpace := false, busMaster := false, bars := [0, 0, 0], mbState := 0,
    overrun := false, reqSeq := 0, respSeq := 0, reqBuf := [], respBuf := [], answer := none, msixTable := zeros 128,
    msixPend := 0, lastFire := [], fresh := [], fires := [], evHead := 0, evTail := 0, evSeq := 0, evLost := 0,
    resHead := 0, resTail := 0, resLost := false }

/-- Function `f`. The PF is always enabled. -/
def State.fnSt (s : State) (f : Nat) : FnSt := kget { fn0 with enabled := decide (f = 0) } s.fns f

/-- Function `f` set. -/
def State.setFn (s : State) (f : Nat) (x : FnSt) : State := { s with fns := kput s.fns f x }

/-- The function that serves partition `p`: its VF where enabled, else the PF (R351). -/
def State.servedBy (s : State) (p : Nat) : Nat := if (s.fnSt (p + 1)).enabled then p + 1 else 0

/-- A message of vector `v` of function `f`: a write of the table entry's data to its address, or, under the entry's mask
bit, a pending bit (PCIe MSI-X; vector 7 never fires, R362). -/
def State.fire (s : State) (f v : Nat) : State :=
  let x := s.fnSt f
  let e := slice x.msixTable (16 * v) 16
  if v = 7 ∨ x.enabled = false then s
  else
    let y := { x with fires := kput x.fires v (kget 0 x.fires v + 1), lastFire := kput x.lastFire v s.now,
                      fresh := kput x.fresh v false }
    if (wordAt e 3).testBit 0 then s.setFn f { y with msixPend := putBit y.msixPend v true }
    else (s.setFn f y).hostWrite f (dwordAt e 0) (slice e 8 4)

/-- Has the coalescing period of a vector ended: OD 1106.02 µs since it last fired? -/
def State.coalesceOver (s : State) (f v : Nat) : Bool :=
  match klook (s.fnSt f).lastFire v with
  | none => true
  | some t => decide (t + usCycles (s.regF f 0x1106 2) ≤ s.now)

/-- A coalesced vector: it fires at once, or when its period ends (R362). -/
def State.fireLater (s : State) (f v : Nat) : State :=
  if s.coalesceOver f v then s.fire f v
  else s.setFn f { s.fnSt f with fresh := kput (s.fnSt f).fresh v true }

/-! ### Events (R363–R365, R371, R377) -/

/-- The 32 bytes of an event entry but for SEQ. -/
def eventBytes (code : Nat) (part : Option Nat) (tick source d0 d1 d2 : Nat) : List Byte :=
  wordBytes [code + 65536 * (match part with | some p => p % 8 | none => 8), tick % 2 ^ 32, tick / 2 ^ 32 % 2 ^ 32, source,
    d0 % 2 ^ 32, d1 % 2 ^ 32, d2 % 2 ^ 32]

/-- Room in the event ring of function `f`: enabled, not full, not in D3hot. -/
def State.evRoom (s : State) (f : Nat) : Bool :=
  let x := s.fnSt f
  decide (s.regF f 0x1104 3 = 1) && !x.d3 && decide (x.evHead - x.evTail < 2 ^ s.regF f 0x1104 2)

/-- One entry stored at the head of the event ring, with its SEQ; then vector 1. -/
def State.evStore (s : State) (f : Nat) (e : List Byte) : State :=
  let x := s.fnSt f
  let seq := x.evSeq + 1
  let addr := s.regF f 0x1104 1 + 32 * (x.evHead % 2 ^ s.regF f 0x1104 2)
  let s := s.hostWrite f addr (slice e 0 28 ++ leBytes 4 seq)
  (s.setFn f { x with evHead := x.evHead + 1, evSeq := seq }).fireLater f 1

/-- The OVERFLOW entry that carries the number dropped, where entries were dropped and the ring has room (R365). -/
def State.evOverflow (s : State) (f : Nat) : State :=
  let x := s.fnSt f
  if x.evLost ≠ 0 ∧ s.evRoom f = true then
    (s.setFn f { x with evLost := 0 }).evStore f (eventBytes 1 (if f = 0 then none else some (f - 1)) s.tickCount 0 x.evLost 0 0)
  else s

/-- An entry written to the ring of function `f`, or dropped and counted (R365). -/
def State.evWrite (s : State) (f : Nat) (e : List Byte) : State :=
  let s := s.evOverflow f
  if s.evRoom f then s.evStore f e
  else (s.setFn f { s.fnSt f with evLost := (s.fnSt f).evLost + 1 }).bumpF 32 f 0x1104 4 1

/-- Is function `f` entitled to an event (R365)? -/
def entitled (code : Nat) (part : Option Nat) (f : Nat) : Bool :=
  decide (f = 0) || decide (code = 0x10) || decide (code = 0x64) || decide (code = 0x65)
    || (match part with
        | some p => decide (f = p + 1)
        | none => false)

/-- The class bit of OD 1111.09 to which an event belongs (R377). -/
def canClass (code : Nat) : Option Nat :=
  if 0x40 ≤ code ∧ code ≤ 0x43 then some 0
  else if 0x70 ≤ code ∧ code ≤ 0x7F then some 1
  else if 0x80 ≤ code ∧ code ≤ 0x8F then some 2
  else if code = 0x10 ∨ code = 0x11 then some 3
  else none

/-- Has the device a key to send Aedsy frames under (R375)? -/
def State.canKeyed (s : State) : Bool := decide (s.reg 0x1111 3 ≠ 0xFF)

/-- A frame put into the transmit queue in order of identifier and then of age; a full queue of 8 answers none (R371). -/
def canInsert : List CanTx → CanTx → List CanTx
  | [], f => [f]
  | g :: gs, f => if f.idOff < g.idOff then f :: g :: gs else g :: canInsert gs f

/-- Is this frame a REKEY_PENDING response? -/
def rekeyResponse (f : CanTx) : Bool := decide (f.ty = 2) && decide (f.seg = 0) && decide (wordAt f.body 3 % 65536 = 0x0502)

/-- May the device still send this frame at TX_FRESH (R374)? -/
def canMaySend (tx : Nat) (f : CanTx) : Bool :=
  decide (tx < 0xFFFFFFFF) && (decide (tx < 0xFFFF0000) || decide (f.ty = 3) || rekeyResponse f)

/-- A VERDICT or STATUS frame queued: it replaces a queued frame of its own type (R371). -/
def State.canQueueOwn (s : State) (f : CanTx) : State :=
  if s.canKeyed && decide (s.reg 0x1110 1 = 1) && canMaySend (s.reg 0x1111 5) f then
    let q := s.can.queue.filter (fun g => decide (g.ty ≠ f.ty))
    if q.length < 8 then { s with can := { s.can with queue := canInsert q f } } else s
  else s

/-- An EVENT frame queued, or dropped and counted where the queue is full (R371, R377). -/
def State.canEvent (s : State) (code : Nat) (e : List Byte) : State :=
  match canClass code with
  | none => s
  | some b =>
    let f : CanTx := { idOff := 4, ty := 5, seg := 0, count := 1, body := slice e 0 48 }
    if s.canKeyed && decide (s.reg 0x1110 1 = 1) && (s.reg 0x1111 9).testBit b && canMaySend (s.reg 0x1111 5) f then
      if s.can.queue.length < 8 then { s with can := { s.can with queue := canInsert s.can.queue f } }
      else s.bump 32 0x1111 12 1
    else s

/-! ### The log (R396, R397) -/

/-- An entry put at the end of the log, whose ring holds 8,192. -/
def State.logPush (s : State) (e : LogEntry) : State :=
  { s with elog := { s.elog with entries := keepLast 8192 (s.elog.entries ++ [{ e with seq := s.elog.nextLog }]), nextLog := s.elog.nextLog + 1 } }

/-- An entry of the log, where its LEVEL is not above OD 2054.04. -/
def State.logAdd (s : State) (proc level : Nat) (part : Option Nat) (code : Nat) (args : List Nat) : State :=
  if s.reg 0x2054 4 < level then s
  else
    (s.logPush { seq := 0, tick := s.tickCount, proc := proc, level := level, isGlobal := part.isNone, part := part.getD 0, code := code,
                 args := args }).setReg 0x2054 3 s.elog.nextLog

/-- The 32 bytes of a log entry (R396). -/
def logBytes (e : LogEntry) : List Byte :=
  leBytes 8 e.seq ++ leBytes 8 e.tick
    ++ leBytes 4 (e.proc + 16 * e.level + 128 * b2n e.isGlobal + 256 * (if e.isGlobal then 0 else e.part) + 65536 * e.code)
    ++ wordBytes [e.args.getD 0 0, e.args.getD 1 0, e.args.getD 2 0]

/-- Has a function that may see the entry set this trace point (R397)? -/
def State.traceWanted (s : State) (proc : Nat) (part : Option Nat) (point : Nat) : Bool :=
  (List.range 9).any (fun f =>
    (decide (f = 0) || (match part with
      | some p => decide (f = p + 1)
      | none => false)) && bitOfBytes (s.blobF f 0x2054 5) (256 * proc + point))

/-- A trace entry: at most 1,024 for each processor in a tick. Its arguments are free (log 30). -/
def State.trace (s : State) (proc : Nat) (part : Option Nat) (point : Nat) : State :=
  if s.reg 0x2054 4 < 3 ∨ s.traceWanted proc part point = false then s
  else if 1024 ≤ kget 0 s.elog.traces proc then s.bump 32 0x2054 7 1
  else
    let d := s.draw
    let s := { d.2 with elog := { d.2.elog with traces := kmod 0 d.2.elog.traces proc (· + 1) } }
    s.logAdd proc 3 part point (wordsOf (Config.freeBytes d.1 12))
where
  /-- Three words of a byte string. -/
  wordsOf (b : List Byte) : List Nat := [wordAt b 0, wordAt b 1, wordAt b 2]

/-- A trace entry of whichever processor does the work: which one is free (log 30). -/
def State.traceAny (s : State) (part : Option Nat) (point : Nat) : State :=
  if s.reg 0x2054 4 < 3 then s
  else
    let d := s.draw
    d.2.trace (Config.freeNat d.1 % 9) part point

/-- Does a processor restart, or has it failed (R394)? -/
def State.away (s : State) (x : Nat) : Bool := decide (s.proc x = 2) || decide (s.proc x = 3)

/-- SCH hands prepared changes to the hardware, and traces point 2 (R396; log 30). -/
def State.handOver (s : State) (part : Option Nat) : State := if s.proc 2 = 1 then s.trace 2 part 2 else s

/-- An event raised: an entry in the ring of each enabled function entitled to it, and an EVENT frame (R363–R365, R377); trace point 3
(R396). -/
def State.raiseEvent (s : State) (code : Nat) (part : Option Nat) (source d0 d1 d2 : Nat) : State :=
  let e := eventBytes code part s.tickCount source d0 d1 d2
  let s := (List.range 9).foldl (fun s f => if entitled code part f && (s.fnSt f).enabled then s.evWrite f e else s) s
  (s.canEvent code e).traceAny part 3

/-! ### The journal (R85–R89) -/

/-- Bytes of SHA-256 that an entry keeps: 96 bits (R87). -/
def hash96 (bs : List Byte) : List Byte := (sha256 bs).take 12

/-- The zero hash. -/
def hash0 : List Byte := zeros 12

/-- Entries that await mirroring (OD 1020.07): 0 while the ring is off (R86). The on-chip journal holds no more than 4,096: an entry that it
lets go uncopied awaits nothing (log 66). -/
def State.lag (s : State) : Nat := if s.reg 0x1020 4 = 1 then min 4096 (s.dict.nextSeq - 1 - s.dict.mirrored) else 0

/-- Is the on-chip journal full of entries that await mirroring (R78, R86)? -/
def State.journalFull (s : State) : Bool := decide (4096 ≤ s.lag)

/-- An entry put at the end of the on-chip journal, which keeps the latest 4,096. With the mirror ring off nothing waits (R86). -/
def State.journalPush (s : State) (e : JEntry) : State :=
  let seq := s.dict.nextSeq
  { s with dict := { s.dict with journal := keepLast 4096 (s.dict.journal ++ [{ e with seq := seq }]), nextSeq := seq + 1,
                                 mirrored := if s.reg 0x1020 4 ≠ 1 then seq else s.dict.mirrored } }

/-- An entry made: it takes the next sequence number (R86, R89). OD 1020.01, .02 and .07 show the newest, the oldest and the lag. -/
def State.journalAdd (s : State) (e : JEntry) : State :=
  let seq := s.dict.nextSeq
  let s := s.journalPush e
  let s := s.setReg 0x1020 1 seq
  let s := s.setReg 0x1020 2 ((s.dict.journal.head?.map (fun (x : JEntry) => x.seq)).getD seq)
  s.setReg 0x1020 7 s.lag

/-- An entry of the current tick with no value and no transaction, by the device, through no transport. -/
def State.entry0 (s : State) (kind : Nat) : JEntry :=
  { seq := 0, tick := s.tickCount, txn := 0, index := 0, sub := 0, role := 4, part := 0, isGlobal := true, kind := kind,
    outcome := 0, count := 0, transport := 4, oldHash := hash0, newHash := hash0 }

/-- The sequence number of the last change of an object (R81). -/
def State.changed (s : State) (fn idx sub : Nat) : State :=
  { s with dict := { s.dict with lastChange := kput s.dict.lastChange (okey fn idx sub) (s.dict.nextSeq - 1) } }

/-- The bytes of a value of `n` bytes for hashing: little-endian. -/
def numBytes (n v : Nat) : List Byte := leBytes n v

/-- A change that the device makes itself to a number object of function `fn`: journaled with KIND 0x08 (R85, R88). -/
def State.deviceSetF (s : State) (fn idx sub v : Nat) (part : Option Nat) : State :=
  let n := match objRow idx sub with
    | some o => tySize o.ty
    | none => 0
  let e := { s.entry0 8 with index := idx, sub := sub, part := part.getD 0, isGlobal := part.isNone,
                             oldHash := hash96 (numBytes n (s.regF fn idx sub)), newHash := hash96 (numBytes n v) }
  ((s.setRegF fn idx sub v).journalAdd e).changed fn idx sub

/-- A change that the device makes itself to a number object. -/
def State.deviceSet (s : State) (idx sub v : Nat) (part : Option Nat) : State := s.deviceSetF 0 idx sub v part

/-- A number object that the device makes 0, where it is not 0 already. -/
def State.deviceClear (s : State) (fn idx sub : Nat) (part : Option Nat) : State :=
  if s.regF fn idx sub = 0 then s else s.deviceSetF fn idx sub 0 part

/-- The 64 bytes of a journal entry (R87). -/
def entryBytes (e : JEntry) : List Byte :=
  let b := leBytes 8 e.seq ++ leBytes 8 e.tick ++ leBytes 4 e.txn ++ leBytes 4 (e.index + 65536 * e.sub)
    ++ leBytes 4 (e.role + 8 * e.part + 64 * b2n e.isGlobal + 256 * e.kind + 65536 * e.outcome)
    ++ leBytes 4 (e.count + 65536 * e.transport) ++ slice e.oldHash 0 12 ++ slice e.newHash 0 12 ++ zeros 4
  b ++ leBytes 4 (crc32 b)

end Sys2Proof.Machine
end

