-- ==== Sys2Proof/Machine/Flags.lean ====
section
/-! DEFINITION. Status codes of the dictionary (R94) and the checks of a request in the order of R75. -/

namespace Sys2Proof.Machine

/-- Status codes (R94). -/
def stOk : Nat := 0x0000
def stBadEncoding : Nat := 0x0001
def stBadLength : Nat := 0x0002
def stNoObject : Nat := 0x0003
def stReservedIndex : Nat := 0x0004
def stAccessDenied : Nat := 0x0005
def stReadOnly : Nat := 0x0006
def stOutOfRange : Nat := 0x0007
def stBusy : Nat := 0x0008
def stHeld : Nat := 0x0009
def stVersionMismatch : Nat := 0x000A
def stSegmentOrder : Nat := 0x000B
def stValueChanged : Nat := 0x000C
def stJournalLost : Nat := 0x000D
def stRetired : Nat := 0x000E
def stInternalError : Nat := 0x000F
def stTxnRequired : Nat := 0x0100
def stTxnOpen : Nat := 0x0101
def stTxnUnknown : Nat := 0x0102
def stTxnFull : Nat := 0x0103
def stConflict : Nat := 0x0104
def stTxnScope : Nat := 0x0105
def stTickEarly : Nat := 0x0200
def stTickInUse : Nat := 0x0201
def stPlanFormat : Nat := 0x0202
def stPlanVersion : Nat := 0x0203
def stAdmitEngines : Nat := 0x0204
def stAdmitCores : Nat := 0x0205
def stAdmitMemory : Nat := 0x0206
def stAdmitTick : Nat := 0x0207
def stAdmitFsync : Nat := 0x0208
def stAdmitSpare : Nat := 0x0209
def stAdmitLoop : Nat := 0x020A
def stAdmitBandwidth : Nat := 0x020B
def stAdmitSafety : Nat := 0x020C
def stAdmitChangeover : Nat := 0x020D
def stTickNotHost : Nat := 0x020E
def stOverlap : Nat := 0x0300
def stWriteAlias : Nat := 0x0301
def stBusError : Nat := 0x0302
def stTaskAborted : Nat := 0x0303
def stHandleStale : Nat := 0x0304
def stHandleQuarantined : Nat := 0x0305
def stAlreadyComplete : Nat := 0x0400
def stQueueFull : Nat := 0x0401
def stQueueUnbound : Nat := 0x0402
def stAuthFailed : Nat := 0x0500
def stFreshness : Nat := 0x0501
def stRekeyPending : Nat := 0x0502
def stPartitionActive : Nat := 0x0503
def stNoStream : Nat := 0x0600

/-- What the fetch of a block of 64 bytes from LPDDR5 meets: a withdrawn page (R452), a poisoned block (R444). -/
def State.fetchStatus (s : State) (addr : Nat) : Nat :=
  if s.spanRetired addr 64 then stRetired else if s.spanPoisoned addr 64 then stTaskAborted else stOk

/-- The first nonzero status of a list of checks (R75, R81): 0 where all pass. -/
def firstFail : List Nat → Nat
  | [] => 0
  | x :: xs => if x = 0 then firstFail xs else x

/-- A check as a status: `st` where it fails. -/
def need (ok : Bool) (st : Nat) : Nat := if ok then 0 else st

end Sys2Proof.Machine
end

