-- ==== Sys2Proof/Machine/Operands.lean ====
section
/-! DEFINITION. The operands of a dictionary request (R66, R68, R71, R92): who calls, which object, what value. -/

namespace Sys2Proof.Machine

/-- The function through which a caller reaches the dictionary: 0 to 8, and 9 for the field port. -/
def callerFn : Caller → Nat
  | .fn f => f.val
  | .field => 9

/-- The role of R68 that acts through function `fn`. -/
def roleOf (fn : Nat) : Nat := if fn = 0 then 0 else if fn = 9 then 2 else 1

/-- TRANSPORT of R87: 0 PF mailbox, 1 VF mailbox, 3 Aedsy. -/
def transportOf (fn : Nat) : Nat := if fn = 0 then 0 else if fn = 9 then 3 else 1

/-- The partition of a partition owner's function. -/
def callerPart (fn : Nat) : Nat := fn - 1

/-- The request's FLAGS: LAST and STAGED_READ (R71). -/
def reqLast (r : Req) : Bool := r.flags.getLsbD 0
def reqStagedRead (r : Req) : Bool := r.flags.getLsbD 1

/-- The scope that BEGIN and TXN_QUERY name: a partition, or none for the global scope (R71). -/
def reqScope (r : Req) : Option Nat := if r.scopeGlobal then none else some r.scopePart.toNat

/-- The partition to which an object belongs; none for a global object. -/
def State.objPart (s : State) (fn : Nat) (o : ObjRow) (idx : Nat) : Option Nat :=
  let i := objInst o idx
  match o.home with
  | .part => some i
  | .stream => s.streamPart i
  | .port => s.portPart i
  | .core => s.corePart i
  | .res => if i < 32 then s.corePart i else if 0x40 ≤ i then s.portPart (i - 0x40) else none
  | .unit => if i < 32 then s.corePart i else none
  | .fn => if 1 ≤ fn ∧ fn ≤ 8 then some (callerPart fn) else none
  | _ => none

/-- Is the object one of partition `p`'s own, in the sense of the chapters' access rules? -/
def State.owns (s : State) (p : Nat) (o : ObjRow) (idx : Nat) : Bool :=
  let i := objInst o idx
  match o.home with
  | .part => decide (i = p)
  | .stream => s.portIn p (i / 4)
  | .port => s.portIn p i
  | .core => s.coreIn p i
  | .res => decide (i < 32) && s.coreIn p i
  | .engine => (s.window p (idx - 0x6000)).isSome
  | .dma => decide (1 ≤ s.reg (0x3120 + p) (i + 1))
  | .unit => if i < 32 then s.coreIn p i else decide (i ≤ 0x2E) && (s.window p (i - 0x20)).isSome
  | _ => true

/-- May the device owner write the object? The chapters of these objects name those that it writes (R127, R152, R183, R198, R227, R304,
R325, R346, R380, R482); of the others it writes what the access code allows. -/
def deviceWrites (o : ObjRow) (idx : Nat) : Bool :=
  let named := (decide (0x5000 ≤ idx) && decide (idx < 0x6040)) || (decide (0x1100 ≤ idx) && decide (idx ≤ 0x1102)) || decide (idx = 0x1111)
    || (decide (0x2070 ≤ idx) && decide (idx ≤ 0x2072))
  !named || (decide (o.acc ≠ .ro) && decide (o.acc ≠ .konst))

/-- May the role of `fn` read, or write, the object (R69 and each chapter's access rule)? -/
def State.mayReach (s : State) (fn : Nat) (o : ObjRow) (idx : Nat) (write : Bool) : Bool :=
  if fn = 0 then !write || deviceWrites o idx
  else if fn = 9 then (if write then o.mcWrite else o.mcRead)
  else
    match (if write then o.poWrite else o.poRead) with
    | .no => false
    | .all => true
    | .own => s.owns (callerPart fn) o idx

/-- The function under which an object's value is held. -/
def holdFn (o : ObjRow) (fn : Nat) : Nat := if o.home = .fn then fn else 0

/-- The value of a payload under a type: a number of fixed-size types, bytes otherwise (R66). -/
def parseVal (t : OTy) (b : List Byte) : Val := if tySize t = 0 then .bytes b else .num (leNat b)

/-- The bytes of a value under a type (R66). -/
def valBytes (t : OTy) : Val → List Byte
  | .num n => leBytes (tySize t) n
  | .bytes b => b

/-- Is the F32 with these bits a NaN or an infinity (R66)? -/
def f32Special (n : Nat) : Bool := decide (n / 2 ^ 23 % 256 = 255)

/-- The signed types of R66. -/
def tySigned : OTy → Bool
  | .i8 => true | .i16 => true | .i32 => true | .i64 => true | _ => false

/-- The common check of a value: reserved values, then the range; UTF-8 of a STRING (R66). -/
def valueCheck (o : ObjRow) (v : Val) : Nat :=
  match v with
  | .num n =>
    if o.resv.any (fun r => decide (r.1 ≤ n) && decide (n ≤ r.2)) then stBadEncoding
    else if o.ty = .f32 then need (!f32Special n) stOutOfRange
    else if tySigned o.ty then stOk
    else need (decide (o.lo ≤ n) && decide (n ≤ o.hi)) stOutOfRange
  | .bytes b => if o.ty = .str then need (utf8Ok b.length b) stBadEncoding else stOk

/-- Zero of an object's type: what a read of a WO object returns (R67). -/
def zeroBytes (o : ObjRow) : List Byte := zeros (tySize o.ty)

/-- A BUSY payload: the retry time in ms (R74). -/
def retryPayload (ms : Nat) : List Byte := leBytes 4 ms

/-- A response to a request. -/
def mkResp (opcode : Nat) (r : Req) (ty txn status : Nat) (payload : List Byte) : Resp :=
  { opcode := opcode, ty := ty, tag := r.tag.toNat, txn := txn, idx := r.index.toNat, sub := r.sub.toNat,
    status := status, payload := payload }

/-- The bytes of a response (R72). -/
def respBytes (r : Resp) : List Byte :=
  leBytes 4 (r.opcode + 256 * r.ty + 65536 * r.tag) ++ leBytes 4 r.txn ++ leBytes 4 (r.idx + 65536 * r.sub)
    ++ leBytes 4 r.status ++ leBytes 4 r.payload.length ++ r.payload

/-- The 20-byte header of a request and its payload, read back from a buffer (R71): opcode and request. -/
def reqOfBytes (b : List Byte) : Nat × Req :=
  let w0 := wordAt b 0
  let w2 := wordAt b 2
  let len := wordAt b 4
  (w0 % 256,
   { flags := BitVec.ofNat 8 (w0 / 256), tag := BitVec.ofNat 16 (w0 / 65536), txn := BitVec.ofNat 32 (wordAt b 1),
     index := BitVec.ofNat 16 w2, sub := BitVec.ofNat 8 (w2 / 65536), scopePart := BitVec.ofNat 3 (w2 / 2 ^ 24),
     scopeGlobal := w2.testBit 27, rsvd := BitVec.ofNat 4 (w2 / 2 ^ 28), offset := BitVec.ofNat 32 (wordAt b 3),
     length := BitVec.ofNat 32 len, payload := if w0 % 256 = 2 then slice b 20 (min len 4096) else [] })

/-! ### Responses -/

/-- Segments of a response over Aedsy (R376). -/
def respFrames (r : Resp) : List CanTx :=
  let b := respBytes r
  let n := ceilDiv b.length 48
  (List.range n).map (fun i => { idOff := 1, ty := 2, seg := i, count := n, body := slice b (48 * i) 48 })

/-- Frames of responses queued while there is room; the others wait in SCH (R371). -/
def State.canSend (s : State) (fs : List CanTx) : State :=
  let all := s.can.waiting ++ fs
  let n := 8 - s.can.queue.length
  { s with can := { s.can with queue := (all.take n).foldl canInsert s.can.queue, waiting := all.drop n } }

/-- A response over Aedsy: none while no key is active, the controller is off, or the counters forbid it (R374, R375). -/
def State.canRespond (s : State) (r : Resp) : State :=
  let fs := respFrames r
  if s.canKeyed && decide (s.reg 0x1110 1 = 1) && fs.all (canMaySend (s.reg 0x1111 5)) then s.canSend fs else s

/-- A response counted on the calling function (R91, OD 1012.03 and .04). -/
def State.countResp (s : State) (fn : Nat) (r : Resp) : State :=
  let s := if r.status = stOk then s else s.bumpF 64 fn 0x1012 3 1
  if r.status = stBusy then s.bumpF 64 fn 0x1012 4 1 else s

/-- A response on its way: for the field port as frames, for a function as what its mailbox answers. -/
def State.deliver (s : State) (fn : Nat) (r : Resp) : State :=
  let s := s.countResp fn r
  if fn = 9 then s.canRespond r else s.setFn fn { s.fnSt fn with answer := some r }

/-- The response of a COMMIT that ends, unless its function was reset (R353). -/
def State.deliverRun (s : State) (run : CommitRun) (r : Resp) : State := if run.silent then s else s.deliver run.fn r

/-- COMMITs that end before their decision: the transaction stays open, its idle time runs from now (R84, R395), and the field port gets its
response at once (R77). A function's request stays PENDING, and its mailbox is answered when it is served again. -/
def State.cutAdmission (s : State) (status : Nat) (payload : List Byte) (which : Txn → Bool) : State :=
  let cut (c : CommitRun) : Bool := c.decided.isNone && which c.txn
  let gone := s.dict.commits.filter cut
  let s := { s with dict := { s.dict with
    commits := s.dict.commits.filter (fun c => !cut c),
    txns := s.dict.txns.map (fun t => if gone.any (fun c => decide (c.txn.id = t.id)) then { t with lastCmd := s.now } else t) } }
  (gone.filter (fun c => decide (c.fn = 9))).foldl (fun s c =>
    s.deliverRun c (mkResp 4 c.req 0 c.txn.id status payload)) s

end Sys2Proof.Machine
end

