-- ==== Sys2Proof/Machine/P256.lean ====
section
/-! DEFINITION. ECDSA over P-256: the check of a signature (R384, R385). -/

namespace Sys2Proof.Machine

/-- The field prime of P-256. -/
def p256P : Nat := 0xffffffff00000001000000000000000000000000ffffffffffffffffffffffff
/-- The group order of P-256. -/
def p256N : Nat := 0xffffffff00000000ffffffffffffffffbce6faada7179e84f3b9cac2fc632551
/-- The curve's constant b. -/
def p256B : Nat := 0x5ac635d8aa3a93e7b3ebbd55769886bc651d06b0cc53b0f63bce3c3e27d2604b
/-- The base point. -/
def p256G : Nat × Nat :=
  (0x6b17d1f2e12c4247f8bce6e563a440f277037d812deb33a0f4a13945d898c296,
   0x4fe342e2fe1a7f9b8ee7eb4a7c0f9e162bce33576b315ececbb6406837bf51f5)

/-- `x ^ e` modulo `m`, over `n` bits of `e`. -/
def powMod (m : Nat) : Nat → Nat → Nat → Nat
  | 0, _, _ => 1 % m
  | n + 1, x, e =>
    let r := powMod m n (x * x % m) (e / 2)
    if e % 2 = 1 then r * x % m else r

/-- The inverse modulo a prime, by Fermat. -/
def invMod (p x : Nat) : Nat := powMod p 256 (x % p) (p - 2)

/-- The sum of two points; none is the point at infinity. -/
def p256Add : Option (Nat × Nat) → Option (Nat × Nat) → Option (Nat × Nat)
  | none, q => q
  | q, none => q
  | some (x1, y1), some (x2, y2) =>
    if x1 = x2 ∧ (y1 + y2) % p256P = 0 then none
    else
      let l := if x1 = x2 then (3 * x1 * x1 + (p256P - 3)) * invMod p256P (2 * y1) % p256P
        else (y2 + (p256P - y1)) * invMod p256P (x2 + (p256P - x1)) % p256P
      let x3 := (l * l + (p256P - x1) + (p256P - x2)) % p256P
      some (x3, (l * (x1 + (p256P - x3)) + (p256P - y1)) % p256P)

/-- The multiple of a point over `n` bits of the factor. -/
def p256Mul : Nat → Nat → Option (Nat × Nat) → Option (Nat × Nat)
  | 0, _, _ => none
  | n + 1, k, q =>
    let r := p256Mul n (k / 2) (p256Add q q)
    if k % 2 = 1 then p256Add r q else r

/-- Is the signature `r ‖ s` valid for a digest under the public key `x ‖ y`, every number big-endian? -/
def ecdsaVerify (pub digest sig : List Byte) : Bool :=
  let x := beNat (slice pub 0 32)
  let y := beNat (slice pub 32 32)
  let r := beNat (slice sig 0 32)
  let s := beNat (slice sig 32 32)
  let z := beNat (slice digest 0 32)
  let onCurve := decide (x < p256P) && decide (y < p256P)
    && decide (y * y % p256P = (x * x * x + (p256P - 3) * x + p256B) % p256P)
  let inRange := decide (0 < r) && decide (r < p256N) && decide (0 < s) && decide (s < p256N)
  let w := invMod p256N s
  let pt := p256Add (p256Mul 256 (z * w % p256N) (some p256G)) (p256Mul 256 (r * w % p256N) (some (x, y)))
  onCurve && inRange &&
    (match pt with
     | none => false
     | some (px, _) => decide (px % p256N = r))

end Sys2Proof.Machine
end

