-- ==== Sys2Proof/Machine/Pad.lean ====
section
/-! DEFINITION. Scratchpads and handles (05): geometry, the six ports and their arbitration, same-row requests, handles,
row-valid bits, remote and raw narrow access, and the firewall's refusals (R407). -/

namespace Sys2Proof.Machine

/-! ### The firewall's record (R407) -/

/-- A refusal counted and latched: initiator, tag, direction, target kind of R199, target core or unit. -/
def State.firewallRefuse (s : State) (init tag : Nat) (write : Bool) (kind target : Nat) : State :=
  (s.bump 64 0x3000 5 1).setReg 0x3000 6
    (init % 256 + 256 * (tag % 8) + 2048 * b2n write + 4096 * (kind % 16) + 65536 * (target % 16)
      + 2 ^ 32 * (s.tickCount % 2 ^ 32))

/-- Is an initiator ID privileged (R406)? -/
def privileged (init : Nat) : Bool := (decide (0x50 ≤ init) && decide (init ≤ 0x58)) || decide (init = 0x70)

/-! ### Geometry (R128–R131) -/

/-- The sub-bank index of a row (R130): its seven 2-bit digits XORed. -/
def subBank (row : Nat) : Nat :=
  (List.range 7).foldl (fun a i => Nat.xor a (row / 4 ^ i % 4)) 0

/-- The bank of word `w` of row `r` (R131). -/
def bankOf (diag : Bool) (r w : Nat) : Nat := if diag then (w + r) % 32 else w

/-- Where byte `b` of word `w` of row `r` is stored. -/
def cellAt (diag : Bool) (r w b : Nat) : Nat := (r * 32 + bankOf diag r w) * 8 + b

/-- An unbound handle-table entry (R139). -/
def handle0 : HandleE :=
  { bound := false, base := 0, count := 0, layout := 0, diag := false, guard := false, quar := false, gen := 0, fill := 0,
    bindTick := 0 }

/-- A scratchpad after hardware reset: no row valid, no handle bound. The stored bytes are not given (R144) and no read can
return them; the model holds 0 (log 6). -/
def pad0 : PadSt := { cells := [], valid := [], handles := [], pend := [], clearAt := none, held := [], replies := [],
                      cycle := 0, served := [], taken := [], counted := false, netLast := false }

/-- The scratchpad of core `c`. -/
def State.pad (s : State) (c : Nat) : PadSt := kget pad0 s.pads c

/-- The scratchpad of core `c` set. -/
def State.setPad (s : State) (c : Nat) (p : PadSt) : State := { s with pads := kput s.pads c p }

/-- Handle `h` of a scratchpad. -/
def PadSt.handle (p : PadSt) (h : Nat) : HandleE := kget handle0 p.handles h

/-- Is a row's valid bit set (R144)? -/
def PadSt.isValid (p : PadSt) (row : Nat) : Bool := kget false p.valid row

/-- Is row `r` of core `c` withdrawn: is a sub-bank of its index retired (R451)? -/
def State.rowWithdrawn (s : State) (c r : Nat) : Bool :=
  let map := s.blob (0x8100 + c) 7
  (List.range 32).any (fun b => bitOfBytes map (4 * b + subBank r))

/-- The fill pattern as the eight bytes of a word (R139). -/
def fillWord (fill : Nat) : List Byte := leBytes 4 fill ++ leBytes 4 fill

/-- A whole row of fill. -/
def fillRow (fill : Nat) : List Byte := (List.range 32).flatMap (fun _ => fillWord fill)

/-! ### Rows and words (R131, R145) -/

/-- Word `w` of a row as stored. -/
def PadSt.storedWord (p : PadSt) (diag : Bool) (r w : Nat) : List Byte :=
  (List.range 8).map (fun b => kget 0 p.cells (cellAt diag r w b))

/-- A row as a read gives it: `fill` for every word while its valid bit is clear (R145). -/
def PadSt.readRow (p : PadSt) (diag : Bool) (fill r : Nat) : List Byte :=
  if p.isValid r then (List.range 32).flatMap (p.storedWord diag r) else fillRow fill

/-- A word as a read gives it. -/
def PadSt.readWord (p : PadSt) (diag : Bool) (fill r w : Nat) : List Byte :=
  if p.isValid r then p.storedWord diag r w else fillWord fill

/-- A row stored. -/
def PadSt.putRow (p : PadSt) (diag : Bool) (r : Nat) (row : List Byte) : PadSt :=
  { p with
    cells := (List.range 256).foldl (fun m i => kset 0 m (cellAt diag r (i / 8) (i % 8)) (row.getD i 0)) p.cells,
    valid := kset false p.valid r true }

/-- Bytes written into a row from byte `at'` on: bytes that are not given keep what the row holds, or take `fill` where its
valid bit is clear (R145). The row becomes valid (R144). -/
def PadSt.writeRow (p : PadSt) (diag : Bool) (fill r at' : Nat) (bs : List (Option Byte)) : PadSt :=
  let old := p.readRow diag fill r
  p.putRow diag r (slice old 0 at' ++ mergeBytes (slice old at' bs.length) bs ++ old.drop (at' + bs.length))

/-- OD 51cc.07: rows whose valid bit is set. -/
def State.countValid (s : State) (c : Nat) : State :=
  s.setReg (0x5100 + c) 7 (((s.pad c).valid.filter (fun e => e.2)).length)

/-! ### Handles (R141) -/

/-- Checks 1 to 3 of R141. -/
def handleCheck (h : HandleE) (gen : Nat) : Nat :=
  if !h.bound then stHandleStale
  else if h.gen ≠ gen then stHandleStale
  else if h.quar then stHandleQuarantined
  else stOk

/-- A guard event (R138, R141): counted, latched in OD 51cc.0A, raised to the owner of the core (R364). `p2` is 0xF for an
access beyond ROW_COUNT. -/
def State.guardEvent (s : State) (c row p1 p2 : Nat) : State :=
  let s := s.bump 64 (0x5100 + c) 2 1
  let s := s.setReg (0x5100 + c) 10 (row % 2 ^ 14 + 2 ^ 14 * (p1 % 16) + 2 ^ 18 * (p2 % 16) + 2 ^ 32 * (s.tickCount % 2 ^ 32))
  s.raiseEvent 0x20 (s.corePart c) c (row % 2 ^ 14 + 2 ^ 14 * (p1 % 16) + 2 ^ 18 * (p2 % 16)) (s.tickCount % 2 ^ 32) 0

/-- A stale refusal counted (OD 51cc.05). -/
def State.countStale (s : State) (c st : Nat) : State := if st = stHandleStale then s.bump 64 (0x5100 + c) 5 1 else s

/-! ### One cycle of the ports (R133–R138) -/

/-- Does a request write? -/
def padWrites : PadKind → Bool
  | .wideWrite _ _ => true
  | .narrowWrite _ _ => true
  | _ => false

/-- The row offsets in the handle that a request touches. -/
def padOffs : PadKind → List Nat
  | .wideRead off => [off]
  | .wideWrite off _ => [off]
  | .column off _ => (List.range 32).map (fun i => off + i)
  | .narrowRead off => [off / 32]
  | .narrowWrite off _ => [off / 32]

/-- May this port make a request of this kind (R133)? Column reads are made on E0, narrow accesses on N, reads on E0, E1 and DR,
writes on EW and DW. -/
def portAllows (port : Nat) (k : PadKind) : Bool :=
  match k with
  | .wideRead _ => decide (port = 0) || decide (port = 1) || decide (port = 4)
  | .wideWrite _ _ => decide (port = 2) || decide (port = 3)
  | .column _ w => decide (port = 0) && decide (w < 32)
  | .narrowRead _ => decide (port = 5)
  | .narrowWrite _ _ => decide (port = 5)

/-- The rows that a presented request still touches. -/
def PadPend.rows (q : PadPend) : List Nat := q.left.map (fun o => q.entry.base + o)

/-- Does a presented request write? -/
def PadPend.writes (q : PadPend) : Bool := padWrites q.req.kind

/-- Does a request come from the core's sequencer, or another port's own user, and not over the network (R133)? -/
def PadPend.own (q : PadPend) : Bool := decide (q.src = .port)

/-- The (bank, sub-bank) pairs of all 32 banks of a row, with the row. -/
def widePairs (r : Nat) : List (Nat × Nat) := (List.range 32).map (fun b => (4 * b + subBank r, r))

/-- The pair of one word of a row, with the row. -/
def wordPair (diag : Bool) (r w : Nat) : Nat × Nat := (4 * bankOf diag r w + subBank r, r)

/-- Is a pair taken by another row? Reads of one row are served from one access (R134, R138). -/
def pairBusy (taken : List (Nat × Nat)) (x : Nat × Nat) : Bool := taken.any (fun t => decide (t.1 = x.1) && decide (t.2 ≠ x.2))

/-- The rows of a column read that one cycle serves: at most one per (bank, sub-bank) pair (R132). -/
def columnPick (diag : Bool) (base w : Nat) : List Nat → List (Nat × Nat) → List Nat × List Nat
  | [], _ => ([], [])
  | o :: os, taken =>
    let x := wordPair diag (base + o) w
    if pairBusy taken x then (let r := columnPick diag base w os taken; (r.1, o :: r.2))
    else (let r := columnPick diag base w os (x :: taken); (o :: r.1, r.2))

/-- The pairs that a request other than a column read needs (R134). A masked write to a row that is not valid takes the whole row
(R145). -/
def PadPend.pairs (p : PadSt) (q : PadPend) : List (Nat × Nat) :=
  match q.req.kind with
  | .narrowRead off => [wordPair q.entry.diag (q.entry.base + off / 32) (off % 32)]
  | .narrowWrite off _ =>
    let r := q.entry.base + off / 32
    if p.isValid r then [wordPair q.entry.diag r (off % 32)] else widePairs r
  | _ => q.rows.flatMap widePairs

/-- Rank of a presented request: deferred ones first, then aged ones, then the rest; within a class the port order (R135, R138). -/
def PadPend.rank (q : PadPend) : Nat :=
  (if q.deferred then 0 else if 4 ≤ q.lost then 8 else 16) + q.req.port.val

/-- Rank within a group for one row: age is ignored (R138). -/
def PadPend.rowRank (q : PadPend) : Nat := (if q.deferred then 0 else 8) + q.req.port.val

/-- Requests in order of rank. -/
def insertRank (q : PadPend) : List PadPend → List PadPend
  | [] => [q]
  | x :: xs => if q.rank < x.rank then q :: x :: xs else x :: insertRank q xs

/-- The requests that a cycle arbitrates: of each port the one that has waited longest; of port N that of the sequencer and that of the
network in alternate cycles where both wait. A port that the cycle has served makes no second request in it (R133). -/
def PadSt.heads (p : PadSt) : List PadPend :=
  let idle (q : PadPend) : Bool := p.served.all (fun x => decide (x.req.port ≠ q.req.port))
  let first (i : Nat) (own : Bool) := p.pend.find? (fun q => decide (q.req.port.val = i) && decide (q.own = own))
  let n := match first 5 true, first 5 false with
    | some a, some b => some (if p.netLast then a else b)
    | some a, none => some a
    | none, x => x
  (((List.range 5).filterMap (fun i => first i true)) ++ n.toList).filter idle

/-- Does a request meet one of `others` on a row that it shares with it, where one of the row's requests writes or both are deferred?
`seen` are the cycle's requests. -/
def meets (seen others : List PadPend) (q : PadPend) : Bool :=
  q.rows.any (fun r =>
    let writing := seen.any (fun x => decide (r ∈ x.rows) && x.writes)
    others.any (fun x => decide (r ∈ x.rows) && (writing || (x.deferred && q.deferred))))

/-- Must a request stand back in this cycle for another one for a row of its own (R138)? Of the requests for a row on which one writes, one
is served in a cycle, in the port order; so are those that such a group has deferred. `done` are the requests that the cycle has served. -/
def standsBack (all done : List PadPend) (q : PadPend) : Bool :=
  meets (all ++ done) (done ++ all.filter (fun x => decide (x.rowRank < q.rowRank))) q

/-- A request loses cycle `k`, once. -/
def PadPend.lose (q : PadPend) (k : Nat) : PadPend :=
  if q.lostAt = some k then q else { q with lost := q.lost + 1, lostAt := some k }

/-- What arbitration has settled: the requests that still wait, those served with the rows of this cycle, the pairs taken. -/
structure PadRound where
  waits  : List PadPend
  served : List PadPend
  taken  : List (Nat × Nat)

/-- One request's turn in a cycle. It waits while it stands back for its row, or while one of its pairs is taken by another row; a column
read takes the rows that it can, and is not held to have lost the cycle (R132, R134, R135, R138). -/
def PadRound.turn (p : PadSt) (k : Nat) (all done : List PadPend) (x : PadRound) (q : PadPend) : PadRound :=
  if standsBack all done q then { x with waits := x.waits ++ [q.lose k] }
  else
    match q.req.kind with
    | .column _ w =>
      let pick := columnPick q.entry.diag q.entry.base w q.left x.taken
      let now := { q with left := pick.1 }
      let got := q.got ++ pick.1.map (fun o => (o, p.readWord q.entry.diag q.entry.fill (q.entry.base + o) w))
      let rest := if pick.1.isEmpty then q.lose k
        else { q with left := pick.2, got := got, lost := if 4 ≤ q.lost then q.lost else 0 }
      { waits := x.waits ++ [rest], served := x.served ++ (if pick.1.isEmpty then [] else [now]),
        taken := pick.1.map (fun o => wordPair q.entry.diag (q.entry.base + o) w) ++ x.taken }
    | _ =>
      if (q.pairs p).any (pairBusy x.taken) then { x with waits := x.waits ++ [q.lose k] }
      else { x with served := x.served ++ [q], taken := q.pairs p ++ x.taken }

/-- A served request: the scratchpad after it and what it answers. Words of a column read beyond ROW_COUNT are FILL (R141). -/
def PadSt.serve (p : PadSt) (q : PadPend) : PadSt × List Byte :=
  let h := q.entry
  match q.req.kind with
  | .wideRead off => (p, p.readRow h.diag h.fill (h.base + off))
  | .wideWrite off bs => (p.writeRow h.diag h.fill (h.base + off) 0 (bs.take 256), [])
  | .column off _ => (p, (List.range 32).flatMap (fun i =>
      ((q.got.find? (fun g => decide (g.1 = off + i))).map (fun g => g.2)).getD (fillWord h.fill)))
  | .narrowRead off => (p, p.readWord h.diag h.fill (h.base + off / 32) (off % 32))
  | .narrowWrite off bs => (p.writeRow h.diag h.fill (h.base + off / 32) (8 * (off % 32)) (bs.take 8), [])

/-- The answer to a scratchpad request. One through an aperture that is refused is counted, and a refused read completes with Unsupported
Request (R356). -/
def State.padAnswer (s : State) (c port : Nat) (src : PadSrc) (r : PadReply) : State :=
  match src with
  | .port => s.setPad c { s.pad c with replies := kput (s.pad c).replies port r }
  | .net => { s with netReply := r }
  | .host f lo a =>
    let s := { (if r.status = stOk then s else s.bumpF 32 f 0x1102 3 1) with netReply := { r with host := some f } }
    match a with
    | .rd n => s.complete (if r.status = stOk then .data (slice r.bytes lo n) else .unsupported)
    | .wr _ => s

/-- A request presented at its port with the entry that it goes through and the status of R141's checks: refused, answered without a row, or
made to wait for its turn. A guard event is raised for an access beyond ROW_COUNT (R141). -/
def State.present (s : State) (c : Nat) (src : PadSrc) (r : PadReq) (h : HandleE) (st : Nat) : State :=
  let none8 := if src = .port then [] else zeros 8
  let offs := padOffs r.kind
  if st ≠ stOk then (s.countStale c st).padAnswer c r.port.val src { status := st, bytes := none8 }
  else
    let beyond := offs.filter (fun o => decide (h.count ≤ o))
    let s := if !beyond.isEmpty && h.guard then s.guardEvent c (beyond.headD 0) r.port.val 15 else s
    let inside := offs.filter (fun o => decide (o < h.count))
    if inside.isEmpty then
      s.padAnswer c r.port.val src { status := stOk, bytes := match r.kind with
        | .wideRead _ => fillRow h.fill
        | .column _ _ => fillRow h.fill
        | .narrowRead _ => fillWord h.fill
        | _ => [] }
    else if inside.any (fun o => s.rowWithdrawn c (h.base + o)) then s.padAnswer c r.port.val src { status := stRetired, bytes := none8 }
    else
      let p := s.pad c
      s.setPad c { p with pend := p.pend ++ [{ req := r, src := src, entry := h, lost := 0, deferred := false, left := inside, got := [] }] }

/-- A request of a port's own user (R133, R141). One that the port does not make is not presented. -/
def State.presentPad (s : State) (c : Nat) (r : PadReq) : State :=
  let h := (s.pad c).handle r.handle.val
  if portAllows r.port.val r.kind then s.present c .port r h (handleCheck h r.gen.toNat) else s

/-- A narrow request at port N for word `w`. -/
def narrowReq (h : Nat) (gen : BitVec 12) (w : Nat) (a : Access) : PadReq :=
  { port := 5, handle := Fin.ofNat 64 h, gen := gen, kind := match a with
    | .rd _ => .narrowRead w
    | .wr bs => .narrowWrite w bs }

/-- What a raw access goes through: the whole scratchpad, words in place, 0 for a row that is not valid (R145, R148). -/
def rawEntry : HandleE := { handle0 with bound := true, count := 10240 }

/-- The requests of each row on which requests meet, one of them a write (R138). -/
def rowGroups (all : List PadPend) : List (Nat × List PadPend) :=
  let rows := (all.filter PadPend.writes).flatMap PadPend.rows
  (rows.eraseDups.map (fun r => (r, all.filter (fun q => decide (r ∈ q.rows))))).filter (fun g => decide (2 ≤ g.2.length))

/-- Cycle `k` opened: nothing is served in it yet. -/
def PadSt.openCycle (p : PadSt) (k : Nat) : PadSt :=
  if p.cycle = k then p else { p with cycle := k, served := [], taken := [], counted := false, waited := false, guarded := [] }

/-- Same-row groups of the cycle that stands: the cycle is counted once, and the guard event of a row raised once in it (R138). -/
def State.noteGroups (s : State) (c : Nat) (groups : List (Nat × List PadPend)) : State :=
  let p := s.pad c
  let s := if groups.isEmpty || p.counted then s else s.bump 64 (0x5100 + c) 1 1
  let guard := groups.filter (fun g => g.2.any (fun q => q.entry.guard) && !decide (g.1 ∈ p.guarded))
  let s := guard.foldl (fun s g =>
    let ports := (List.range 6).filter (fun i => g.2.any (fun q => decide (q.req.port.val = i)))
    s.guardEvent c g.1 (ports.getD 0 0) (ports.getD 1 (ports.getD 0 0))) s
  s.setPad c { s.pad c with counted := p.counted || !groups.isEmpty, guarded := p.guarded ++ guard.map (fun g => g.1) }

/-- Port N's other source loses the cycle too where the one presented does: R136 counts one cycle for their alternation. -/
def loseWith (k : Nat) (n : Option PadPend) (waits behind : List PadPend) : List PadPend :=
  match n with
  | none => behind
  | some q =>
    if waits.any (fun x => decide (x.req.port.val = 5)) then
      match behind.find? (fun x => decide (x.req.port.val = 5) && decide (x.own ≠ q.own)) with
      | some x => behind.replace x (x.lose k)
      | none => behind
    else behind

/-- Cycle `k` of a scratchpad's ports: same-row groups counted and guarded, requests arbitrated, served and answered (R133–R138). A request
whose group serves another one is deferred. Requests that come later in the same cycle take what it has left (log 68). -/
def State.padCycleAt (s : State) (c k : Nat) : State :=
  let s := s.setPad c ((s.pad c).openCycle k)
  let p := s.pad c
  let all := p.heads.foldr insertRank []
  let s := s.noteGroups c (rowGroups (all ++ p.served))
  let out := all.foldl (PadRound.turn p k all p.served) { waits := [], served := [], taken := p.taken }
  let wait := out.waits.any (fun q => decide (q.req.port.val ≤ 1) && decide (q.lostAt = some k))
  let s := if wait && !p.waited then s.bump 64 (0x5100 + c) 3 1 else s
  let done := p.served ++ out.served
  let still := (out.waits.filter (fun q => !q.left.isEmpty)).map (fun q => { q with deferred := q.deferred || meets (all ++ done) done q })
  let ended := out.waits.filter (fun q => q.left.isEmpty) ++ out.served.filter (fun q => match q.req.kind with
    | .column _ _ => false
    | _ => true)
  let n := all.find? (fun q => decide (q.req.port.val = 5))
  let behind := loseWith k n out.waits (all.foldl List.erase p.pend)
  let s := s.setPad c { s.pad c with pend := still ++ behind, served := done, taken := out.taken, waited := p.waited || wait,
                                     netLast := match n with
                                       | some q => !q.own
                                       | none => p.netLast }
  let s := ended.foldl (fun s q =>
    let x := (s.pad c).serve q
    (s.setPad c x.1).padAnswer c q.req.port.val q.src { status := stOk, bytes := x.2 }) s
  s.countValid c

/-- The cycle that stands. -/
def State.padCycle (s : State) (c : Nat) : State := s.padCycleAt c s.now

/-- Cycles that have passed since the last one, `n` at most, while requests wait. -/
def State.padCycles (c : Nat) : Nat → State → State
  | 0, s => s
  | n + 1, s =>
    if (s.pad c).pend.isEmpty || decide (s.now ≤ (s.pad c).cycle + 1) then s
    else State.padCycles c n (s.padCycleAt c ((s.pad c).cycle + 1))

/-- The cycles between the last one and this: each serves a request or a row of one, so that no request waits for more than 32 of them. -/
def State.padRun (s : State) (c : Nat) : State := State.padCycles c (32 * (s.pad c).pend.length) s

/-- Every request that waits served, before the core's rows are cleared (R144). -/
def State.padDrain (s : State) (c : Nat) : State :=
  let s := s.padRun c
  let n := 32 * (s.pad c).pend.length
  let s := (List.range n).foldl (fun s i => if (s.pad c).pend.isEmpty then s else s.padCycleAt c (s.now + 1 + i)) s
  s.setPad c { s.pad c with cycle := s.now }

/-- An access of a DMA unit or a TOD that takes place in this cycle joins the requests of it for its rows (R138): those of them that wait come
after it, and its port has made its request. -/
def State.joinRows (s : State) (c h port off len : Nat) (write : Bool) : State :=
  let s := s.setPad c ((s.pad c).openCycle s.now)
  let p := s.pad c
  let e := p.handle h
  let offs := ((List.range ((off + len - 1) / 256 + 1 - off / 256)).map (fun i => off / 256 + i)).filter (fun o => decide (o < e.count))
  if len = 0 ∨ offs.isEmpty = true then s
  else
    let q : PadPend := { req := { port := Fin.ofNat 6 port, handle := Fin.ofNat 64 h, gen := BitVec.ofNat 12 e.gen,
                                  kind := if write then .wideWrite (offs.headD 0) [] else .wideRead (offs.headD 0) },
                         src := .port, entry := e, lost := 0, deferred := false, left := offs, got := [] }
    let s := s.noteGroups c ((rowGroups (q :: (p.heads ++ p.served))).filter (fun g => decide (g.1 ∈ q.rows)))
    s.setPad c { s.pad c with served := (s.pad c).served ++ [q] }

/-- Does a scratchpad still clear its row-valid bits (R144)? -/
def State.padClearing (s : State) (c : Nat) : Bool :=
  match (s.pad c).clearAt with
  | some e => decide (s.now < e)
  | none => false

/-- An access kept until the clear ends. -/
def State.holdPad (s : State) (c : Nat) (x : PadHeld) : State :=
  let p := s.pad c
  s.setPad c { p with held := p.held ++ [x] }

/-- An access presented at its port (those of a DMA channel and of a TOD come with their own commands): a port's own, a network's through a handle with the generation that it carries, a raw one, or a
function's through its aperture, in the narrow view with the generation in force (R147, R148, R356). -/
def State.servePad (s : State) (c : Nat) (x : PadHeld) : State :=
  let h (i : Nat) := (s.pad c).handle (i % 64)
  match x with
  | .port r => s.presentPad c r
  | .narrow i gen off a => s.present c .net (narrowReq i (BitVec.ofNat 12 gen) off a) (h i) (handleCheck (h i) gen)
  | .raw w a => s.present c .net (narrowReq 0 0 w a) rawEntry stOk
  | .host f raw i off lo a =>
    let word : Access := match a with
      | .rd _ => .rd 8
      | .wr bs => .wr (List.replicate lo none ++ bs)
    if raw then s.present c (.host f lo a) (narrowReq 0 0 off word) rawEntry stOk
    else s.present c (.host f lo a) (narrowReq i (BitVec.ofNat 12 (h i).gen) off word) (h i) (handleCheck (h i) (h i).gen)
  | .dma _ _ _ => s
  | .reshard _ _ => s
  | .tod _ => s

/-- Requests of one cycle: they wait while the row-valid bits are cleared (R144); else the cycles up to this one pass, they are presented,
and this cycle passes. -/
def State.padServe (s : State) (c : Nat) (xs : List PadHeld) : State :=
  if s.padClearing c then xs.foldl (fun s x => s.holdPad c x) s
  else (xs.foldl (fun s x => s.servePad c x) (s.padRun c)).padCycle c

/-! ### Bytes through a handle, for TODs and DMA -/

/-- Byte `off` of a handle's buffer (R141, R145). -/
def State.padByte (s : State) (c h off : Nat) : Byte :=
  let p := s.pad c
  let e := p.handle h
  let r := off / 256
  let fillB := (fillWord e.fill).getD (off % 8) 0
  if e.count ≤ r then fillB
  else if p.isValid (e.base + r) then kget 0 p.cells (cellAt e.diag (e.base + r) (off % 256 / 8) (off % 8))
  else fillB

/-- `len` bytes of a handle's buffer. -/
def State.padBytes (s : State) (c h off len : Nat) : List Byte := (List.range len).map (fun i => s.padByte c h (off + i))

/-- One byte written into a handle's buffer; beyond ROW_COUNT it is dropped. -/
def State.padPut (s : State) (c h off : Nat) (b : Byte) : State :=
  let p := s.pad c
  let e := p.handle h
  let r := off / 256
  if e.count ≤ r then s else s.setPad c (p.writeRow e.diag e.fill (e.base + r) (off % 256) [some b])

/-- Bytes written into a handle's buffer at the offsets given. -/
def State.padPuts (s : State) (c h : Nat) (ws : List (Nat × Byte)) : State :=
  (ws.foldl (fun s w => s.padPut c h w.1 w.2) s).countValid c

/-- Does an access to the rows of bytes `off` to `off + len - 1` meet a withdrawn row (R451)? -/
def State.spanWithdrawn (s : State) (c h off len : Nat) : Bool :=
  let e := (s.pad c).handle h
  decide (0 < len) && (List.range ((off + len - 1) / 256 + 1 - off / 256)).any (fun i =>
    decide (off / 256 + i < e.count) && s.rowWithdrawn c (e.base + off / 256 + i))

/-- Does an access reach beyond ROW_COUNT through a handle with GUARD 1 (R141)? The guard event is raised once. -/
def State.guardSpan (s : State) (c h off len port : Nat) : State :=
  let e := (s.pad c).handle h
  if e.guard && decide (0 < len) && decide (e.count * 256 < off + len) then s.guardEvent c (max e.count (off / 256)) port 15 else s

/-! ### Commands -/

/-- SCRATCHPAD_REQUEST: one cycle in which ports of core `c` present requests (R133–R138, R141, R145). While the row-valid bits
are being cleared the requests wait (R144). -/
def execScratchpadRequest (t : Nat) (c : CoreId) (reqs : List PadReq) (s : State) : Out :=
  whileLive t s (fun s => s.padServe c.val (reqs.map .port))

/-- Has an initiator a narrow path to scratchpads over the network (R16): a core, a firmware processor, a host function? -/
def hasNarrowPath (i : Nat) : Bool :=
  decide (i < 0x20) || (decide (0x50 ≤ i) && decide (i ≤ 0x58)) || (decide (0x70 ≤ i) && decide (i ≤ 0x78))

/-- The partition tag that the hardware sets on a narrow request by its path (R406): a core's partition, n − 1 for VF n; a firmware processor
acts for the partition given. -/
def State.tagOf (s : State) (i tag : Nat) : Option Nat :=
  if i < 0x20 then s.corePart i else if 0x71 ≤ i ∧ i ≤ 0x78 then some (i - 0x71) else some tag

/-- A narrow request that the firewall refuses at core `c`: counted, latched, answered with zero data (R147, R407). -/
def State.narrowRefuse (s : State) (i tag kind c : Nat) (a : Access) : State :=
  let w := match a with
    | .wr _ => true
    | .rd _ => false
  { ((s.firewallRefuse i ((s.tagOf i tag).getD tag) w kind c).bump 64 (0x5100 + c) 4 1) with
    netReply := { status := stAccessDenied, bytes := zeros 8 } }

/-- REMOTE_NARROW_REQUEST: a narrow request over the network, checked by the firewall before R141 (R147, R407). One of an initiator without
such a path reaches nothing (R16, log 65). -/
def execRemoteNarrowRequest (t : Nat) (initiator : BitVec 8) (tag : Part) (c : CoreId) (h : Fin 64) (gen : BitVec 12)
    (off : Nat) (a : Access) (s : State) : Out :=
  whileLive t s (fun s =>
    let i := initiator.toNat
    if !hasNarrowPath i then { s with netReply := { status := stAccessDenied, bytes := zeros 8 } }
    else if privileged i || ((s.corePart c.val).isSome && decide (s.corePart c.val = s.tagOf i tag.val)) then
      s.padServe c.val [.narrow h.val gen.toNat off a]
    else s.narrowRefuse i tag.val 1 c.val a)

/-- RAW_NARROW_ACCESS: a word by its number, open to privileged initiators only (R148). -/
def execRawNarrowAccess (t : Nat) (initiator : BitVec 8) (c : CoreId) (word : Nat) (a : Access) (s : State) : Out :=
  whileLive t s (fun s =>
    let i := initiator.toNat
    if !hasNarrowPath i then { s with netReply := { status := stAccessDenied, bytes := zeros 8 } }
    else if !privileged i then s.narrowRefuse i 0 2 c.val a
    else if 327680 ≤ word then s
    else s.padServe c.val [.raw word a])

/-- A handle-table entry bound: its GEN goes up by 1, and a wrap puts it in quarantine. -/
def State.bindHandle (s : State) (x : Nat × Nat × Nat × Nat × Nat × Nat × Nat) : State :=
  let c := x.1
  let h := x.2.1
  let p := s.pad c
  let e := p.handle h
  let wrap := decide (e.gen = 4095)
  let e' : HandleE :=
    { bound := true, base := x.2.2.1, count := x.2.2.2.1, layout := x.2.2.2.2.1, diag := x.2.2.2.2.2.1.testBit 0,
      guard := x.2.2.2.2.2.1.testBit 1, quar := wrap, gen := (e.gen + 1) % 4096, fill := x.2.2.2.2.2.2, bindTick := s.tickCount % 2 ^ 32 }
  let s := (s.setPad c { p with handles := kput p.handles h e' }).newVersion 0 (0x5100 + c) 8
  if wrap then s.bump 32 (0x5100 + c) 6 1 else s

end Sys2Proof.Machine
end

