-- ==== Sys2Proof/Machine/PlanFormat.lean ====
section
/-! DEFINITION. The plan object (R39–R46, R497): its parts read from bytes, and admission checks 1 to 3 (R52, R498). -/

namespace Sys2Proof.Machine

/-- A header field of a plan. -/
def plHdr (b : List Byte) (w hi lo : Nat) : Nat := fld (wordAt b w) hi lo

/-- The directory: (type, byte offset, size) of each entry (R40). -/
def plDir (b : List Byte) : List (Nat × Nat × Nat) :=
  (List.range (plHdr b 3 7 0)).map (fun i =>
    (fld (wordAt b (16 + 2 * i)) 7 0, 64 * fld (wordAt b (16 + 2 * i)) 31 8, wordAt b (17 + 2 * i)))

/-- The section of a type: offset and size. -/
def plSec (b : List Byte) (ty : Nat) : Option (Nat × Nat) :=
  ((plDir b).find? (fun e => decide (e.1 = ty))).map (fun e => e.2)

/-- Offset of a section, 0 where it is missing. -/
def plOff (b : List Byte) (ty : Nat) : Nat := ((plSec b ty).map (fun e => e.1)).getD 0

/-- Bytes of a section. -/
def plBytes (b : List Byte) (ty : Nat) : List Byte :=
  match plSec b ty with
  | some e => slice b e.1 e.2
  | none => []

/-- Node `n` of the frame graph (R42). -/
def nodeOf (sec : List Byte) (n : Nat) : PNode :=
  let w (i : Nat) : Nat := wordAt sec (8 * n + i)
  { kind := fld (w 0) 19 16, phase := fld (w 0) 23 20, stream := fld (w 0) 29 24, bound := (w 0).testBit 30,
    safety := (w 0).testBit 31, res := fld (w 1) 7 0, prio := fld (w 1) 11 8, wcet := w 2, release := w 3,
    deadline := w 4,
    preds := [fld (w 5) 15 0, fld (w 5) 31 16, fld (w 6) 15 0, fld (w 6) 31 16].filter (fun x => decide (x ≠ 0xFFFF)),
    queue := fld (w 7) 12 0 }

/-- Slot record `i` (R44). -/
def slotOf (sec : List Byte) (i : Nat) : Slot :=
  let w (j : Nat) : Nat := wordAt sec (4 * i + j)
  { inl := (w 0).testBit 6, fmt := fld (w 0) 11 8, width := fld (w 1) 15 0, height := fld (w 1) 31 16,
    firstNode := fld (w 2) 15 0, nodeSpan := fld (w 2) 31 16, stripeRows := fld (w 3) 7 0, haloRows := fld (w 3) 15 8 }

/-- Buffer record `i` (R497). -/
def bufOf (sec : List Byte) (i : Nat) : BufRec :=
  let d (j : Nat) : Nat := dwordAt sec (256 + 16 * i + j)
  { rawA := d 0, rawB := d 2, statsA := d 4, statsB := d 6, param := d 8, loop := d 10 }

/-- Phase record `i` (R45). -/
def phaseOf (sec : List Byte) (i : Nat) : PhaseRec :=
  let w (j : Nat) : Nat := wordAt sec (4 * i + j)
  { phase := fld (w 0) 3 0, wRead := fld (w 0) 7 4, wWrite := fld (w 0) 11 8, wRemote := fld (w 0) 15 12,
    winStart := w 1, winEnd := w 2, blocks := w 3 }

/-- Port timing record `i` (R46). Nothing reads its I3C_OFFSET, the I3C node's RELEASE says when it starts (log 81). -/
def portOf (sec : List Byte) (i : Nat) : PortTiming :=
  let w (j : Nat) : Nat := wordAt sec (4 * i + j)
  { tsync := w 0, latency := w 1, readout := w 2, i3c := w 3 }

/-- Binding `i` of the queue-binding section (R185). -/
def bindingOf (sec : List Byte) (i : Nat) : Binding :=
  let w (j : Nat) : Nat := wordAt sec (4 + 8 * i + j)
  { queue := fld (w 0) 12 0, res := fld (w 0) 23 16, prio := fld (w 0) 27 24, hostFed := (w 0).testBit 28,
    outstanding := fld (w 1) 6 0, log2Depth := fld (w 1) 11 8, budgetNode := fld (w 2) 15 0, budgetCycles := w 3,
    sqAddr := w 4, cqAddr := w 5 }

/-- Number of bindings. -/
def bindingCount (sec : List Byte) : Nat := fld (wordAt sec 0) 13 0

/-- The plan that the bytes hold (R39–R46). -/
def parsePlan (b : List Byte) : Plan :=
  let g := plBytes b 1
  let sl := plBytes b 2
  let ph := plBytes b 3
  let pt := plBytes b 4
  let qb := plBytes b 6
  { part := plHdr b 3 10 8, length := wordAt b 2, maxRate := wordAt b 4, workCores := plHdr b 5 7 0, spare := plHdr b 5 10 8,
    inlineStream := plHdr b 5 17 12, inlineEn := (wordAt b 5).testBit 18, planId := dwordAt b 9, digest := slice b 44 16,
    nodes := (List.range (plHdr b 8 15 0)).map (nodeOf g), slots := (List.range 64).map (slotOf sl),
    bufs := (List.range 64).map (bufOf sl), phases := (List.range 7).map (phaseOf ph),
    ports := (List.range 16).map (portOf pt), bindings := (List.range (bindingCount qb)).map (bindingOf qb),
    sections := [(5, plBytes b 5), (7, plBytes b 7), (8, plBytes b 8), (9, plBytes b 9)],
    memBytes := ((plDir b).filter (fun e => decide (e.1 ≠ 5))).foldl (fun a e => a + e.2.2) 0, moved := [] }

/-- The bytes of a section that a plan keeps raw. -/
def planSection (pl : Plan) (ty : Nat) : List Byte :=
  ((pl.sections.find? (fun e => decide (e.1 = ty))).map (fun e => e.2)).getD []

/-- Node `n` of a plan. -/
def node0 : PNode :=
  { kind := 15, phase := 15, stream := 0, bound := false, safety := false, res := 0xFF, prio := 0, wcet := 0, release := 0,
    deadline := 0, preds := [], queue := 0 }

/-- Node `n` of a plan. -/
def planNode (pl : Plan) (n : Nat) : PNode := pl.nodes.getD n node0

/-- The binding of a queue in a plan. -/
def planBinding (pl : Plan) (q : Nat) : Option Binding := pl.bindings.find? (fun x => decide (x.queue = q))

/-- Is the resource code a tensor core, a Facet engine, a DMA unit, an I3C controller (R43)? -/
def isCore (r : Nat) : Bool := decide (r < 0x20)
def isEngine (r : Nat) : Bool := decide (0x20 ≤ r) && decide (r < 0x2F)
def isDma (r : Nat) : Bool := decide (0x30 ≤ r) && decide (r < 0x36)
def isI3c (r : Nat) : Bool := decide (0x40 ≤ r) && decide (r < 0x50)

/-- The kind of a Facet engine: 0 PYR, 1 WRP, 2 FLW, 3 STE, 4 FTR (R43). -/
def engineKind (r : Nat) : Nat := if r < 0x24 then 0 else if r < 0x28 then 1 else if r < 0x2A then 2 else if r < 0x2E then 3 else 4

/-- Can a resource run a node kind (R43)? -/
def kindRuns (kind r : Nat) : Bool :=
  if kind = 0 ∨ kind = 1 ∨ kind = 7 ∨ kind = 8 ∨ kind = 12 then isCore r
  else if 2 ≤ kind ∧ kind ≤ 6 then isEngine r && decide (engineKind r = kind - 2)
  else if kind = 9 ∨ kind = 10 then isDma r
  else isI3c r

/-- The tests of check 1 and check 3 in order: whether each passes and the failing item. -/
abbrev Tests := List (Bool × Nat)

/-- The item of the first test that fails. -/
def firstBad : Tests → Option Nat
  | [] => none
  | (ok, item) :: ts => if ok then firstBad ts else some item

/-- Do two spans of bytes meet? -/
def spansMeet (a la b lb : Nat) : Bool := decide (a < b + lb) && decide (b < a + la) && decide (0 < la) && decide (0 < lb)

/-- Is this section type defined (R41)? -/
def secDefined (ty : Nat) : Bool := decide (1 ≤ ty) && decide (ty ≤ 9)

/-- The bytes that a section's records need, by its own counts (R41, R498). -/
def secNeeds (b : List Byte) (ty : Nat) : Nat :=
  let sec := plBytes b ty
  if ty = 1 then 32 * plHdr b 8 15 0
  else if ty = 2 then 5120
  else if ty = 3 then 112
  else if ty = 4 then 256
  else if ty = 6 then 16 + 32 * bindingCount sec
  else if ty = 7 then
    (let n := fld (wordAt sec 0) 15 0
     (List.range n).foldl (fun a i => max a (wordAt sec (5 + 4 * i) + 64 * fld (wordAt sec (4 + 4 * i)) 31 16)) (16 + 16 * n))
  else if ty = 8 then
    16 + 16 * ceilDiv (fld (wordAt sec 0) 31 16) 4 + 32 * fld (wordAt sec 0) 15 0 + 32 * fld (wordAt sec 1) 15 0
  else if ty = 9 then 16 + 4 * fld (wordAt sec 0) 12 0
  else 0

/-- The directory's tests (R40, R41, R498; the item of a substitution section too many is the model's, log 77). -/
def dirTests (b : List Byte) : Tests :=
  let d := plDir b
  let real := (List.zip (List.range d.length) d).filter (fun e => secDefined e.2.1)
  let len := wordAt b 2
  let spare := plHdr b 5 10 8
  [(decide (7 ≤ plHdr b 3 7 0) && decide (plHdr b 3 7 0 ≤ 9), 12)]
  ++ real.map (fun e => (decide (e.2.2.1 + e.2.2.2 ≤ len), 64 + 8 * e.1 + 4))
  ++ real.map (fun e =>
      (!(real.any (fun g => decide (g.1 < e.1) &&
          (decide (g.2.1 = e.2.1) || spansMeet g.2.2.1 g.2.2.2 e.2.2.1 e.2.2.2))), 64 + 8 * e.1))
  ++ [1, 2, 3, 4, 5, 6, 7].map (fun ty => ((plSec b ty).isSome, 12))
  ++ [(decide ((plSec b 9).isSome = decide (0 < spare ∧ spare ≤ 4)) || decide (4 < spare), 12)]
  ++ real.map (fun e => (decide (secNeeds b e.2.1 ≤ e.2.2.2), 64 + 8 * e.1 + 4))

/-- The header's tests beyond MAGIC, CRC, LENGTH and digest (R39, R47, R498). -/
def headerTests (b : List Byte) (p : Nat) : Tests :=
  [(decide (plHdr b 3 10 8 = p), 12),
   (decide (1 ≤ plHdr b 5 7 0) && decide (plHdr b 5 7 0 ≤ 32), 20),
   (decide (1 ≤ plHdr b 8 15 0) && decide (plHdr b 8 15 0 ≤ 65534), 32)]

/-- The frame graph's tests (R42–R44, R54, R186). -/
def nodeTests (b : List Byte) (pl : Plan) : Tests :=
  let off := plOff b 1
  let sec := plBytes b 1
  (List.zip (List.range pl.nodes.length) pl.nodes).flatMap (fun e =>
    let n := e.1
    let x := e.2
    let at' := off + 32 * n
    let slot := pl.slots.getD x.stream (slotOf [] 0)
    let q := planBinding pl x.queue
    [(decide (fld (wordAt sec (8 * n)) 15 0 = n), at'),
     (kindRuns x.kind x.res || decide (13 ≤ x.kind) || !resValid x.res, at'),
     (decide (x.phase ≠ 6) || (x.bound && pl.inlineEn && decide (x.stream = pl.inlineStream)), at'),
     (!x.bound || (decide (slot.firstNode ≤ n) && decide (n < slot.firstNode + slot.nodeSpan)), at'),
     (x.preds.all (fun k => decide (k < n)), at'),
     (match q with
      | none => false
      | some y => decide (y.res = x.res) && decide (y.prio = x.prio), at')])

/-- The nodes of KIND 0x0 of a stream's slot, in order. -/
def stripeNodes (pl : Plan) (st : Nat) : List PNode := pl.nodes.filter (fun x => decide (x.kind = 0) && x.bound && decide (x.stream = st))

/-- The slot table's tests (R44, R263, R264). -/
def slotTests (b : List Byte) (pl : Plan) : Tests :=
  let off := plOff b 2
  let sec := plBytes b 2
  (List.zip (List.range 64) pl.slots).flatMap (fun e =>
    let st := e.1
    let x := e.2
    let at' := off + 16 * st
    let stripes := (stripeNodes pl st).length
    [(decide (fld (wordAt sec (4 * st)) 5 0 = st), at'),
     (!(pl.inlineEn && decide (st = pl.inlineStream)) || x.inl, at'),
     (!x.inl || (pl.inlineEn && decide (st = pl.inlineStream)), at'),
     (decide (stripes = 0) ||
       (decide (x.stripeRows % 2 = 0) && decide (8 ≤ x.stripeRows) && decide (x.stripeRows ≤ 254)
        && decide (x.haloRows % 2 = 0) && decide (x.haloRows ≤ 32) && decide (x.haloRows ≤ x.stripeRows)
        && decide (stripes = ceilDiv x.height x.stripeRows) && decide (x.haloRows < x.height)), at')])

/-- The phase table's tests (R45). -/
def phaseTests (b : List Byte) (pl : Plan) : Tests :=
  (List.zip (List.range 7) pl.phases).map (fun e =>
    (decide (e.2.phase = e.1) && decide (e.2.wRead + e.2.wWrite + e.2.wRemote = 16), plOff b 3 + 16 * e.1))

/-- The bindings' tests (R185, R186). -/
def bindingTests (b : List Byte) (pl : Plan) : Tests :=
  let off := plOff b 6
  [(decide (1 ≤ bindingCount (plBytes b 6)) && decide (bindingCount (plBytes b 6) ≤ 8192), off)]
  ++ (List.zip (List.range pl.bindings.length) pl.bindings).flatMap (fun e =>
    let x := e.2
    let at' := off + 16 + 32 * e.1
    let budget := planNode pl x.budgetNode
    [(!((pl.bindings.take e.1).any (fun y => decide (y.queue = x.queue))), at'),
     (!x.hostFed || (isCore x.res && decide (x.budgetNode < pl.nodes.length)
        && (decide (budget.kind = 7) || decide (budget.kind = 8)) && decide (budget.res = x.res)), at'),
     (!x.hostFed || decide (((pl.bindings.filter (fun y => y.hostFed && decide (y.budgetNode = x.budgetNode))).foldl
        (fun a y => a + y.budgetCycles) 0) + 16384 ≤ budget.wcet), at'),
     (x.hostFed || (decide (x.budgetNode = 0xFFFF) && decide (x.budgetCycles = 0) && decide (x.sqAddr = 0)), at')])

/-! ### Owner tables (R174–R178) -/

/-- An owner table: its node, its entries' count and offset, its mapping. -/
structure OwnerTable where
  node    : Nat
  entries : Nat
  offset  : Nat
  mapping : Nat
  deriving DecidableEq, Repr

/-- The owner tables of a section (R174, R175). -/
def ownerTables (sec : List Byte) : List OwnerTable :=
  (List.range (fld (wordAt sec 0) 15 0)).map (fun i =>
    { node := fld (wordAt sec (4 + 4 * i)) 15 0, entries := fld (wordAt sec (4 + 4 * i)) 31 16,
      offset := wordAt sec (5 + 4 * i), mapping := fld (wordAt sec (6 + 4 * i)) 2 0 })

/-- An owner-table entry (R176). -/
structure OwnerEntry where
  srcKind : Nat
  srcCore : Nat
  srcHandle : Nat
  srcLayout : Nat
  dstLayout : Nat
  dstCore : Nat
  dstHandle : Nat
  fmt : Nat
  stream : Nat
  bound : Bool
  srcAddr : Nat
  srcH : Nat
  srcW : Nat
  srcC : Nat
  srcPitch : Nat
  dstH : Nat
  dstW : Nat
  dstC : Nat
  dstPitch : Nat
  sy : Int
  sx : Int
  sc : Nat
  dy : Nat
  dx : Nat
  dc : Nat
  eh : Nat
  ew : Nat
  ec : Nat
  deriving DecidableEq, Repr

/-- The entry at a byte offset of the section (R176). -/
def ownerEntry (sec : List Byte) (off : Nat) : OwnerEntry :=
  let b := slice sec off 64
  let w (i hi lo : Nat) : Nat := fld (wordAt b i) hi lo
  { srcKind := w 0 1 0, srcCore := w 0 6 2, srcHandle := w 0 12 7, srcLayout := w 0 23 16, dstLayout := w 0 31 24,
    dstCore := w 1 4 0, dstHandle := w 1 10 5, fmt := w 1 14 11, stream := w 1 21 16, bound := (wordAt b 1).testBit 22,
    srcAddr := wordAt b 2, srcH := w 3 15 0, srcW := w 3 31 16, srcC := w 4 15 0, srcPitch := w 4 31 16,
    dstH := w 5 15 0, dstW := w 5 31 16, dstC := w 6 15 0, dstPitch := w 6 31 16,
    sy := sgn 16 (w 7 15 0), sx := sgn 16 (w 7 31 16), sc := w 8 15 0, dy := w 9 15 0, dx := w 9 31 16, dc := w 10 15 0,
    eh := w 11 15 0, ew := w 11 31 16, ec := w 12 15 0 }

/-- The entries of a table. -/
def tableEntries (sec : List Byte) (t : OwnerTable) : List OwnerEntry :=
  (List.range t.entries).map (fun i => ownerEntry sec (t.offset + 64 * i))

/-- The in-bounds part of an entry's destination region: y, x and c spans (R158, R177). -/
def dstSpan (e : OwnerEntry) : (Nat × Nat) × (Nat × Nat) × (Nat × Nat) :=
  ((e.dy, min (e.dy + e.eh) e.dstH), (e.dx, min (e.dx + e.ew) e.dstW), (e.dc, min (e.dc + e.ec) e.dstC))

/-- Do two spans have a common member? -/
def spanMeets (a b : Nat × Nat) : Bool := decide (max a.1 b.1 < min a.2 b.2)

/-- Do two entries write a common in-bounds destination element (R177)? -/
def entriesMeet (a b : OwnerEntry) : Bool :=
  decide (a.dstCore = b.dstCore) && decide (a.dstHandle = b.dstHandle) && spanMeets (dstSpan a).1 (dstSpan b).1
    && spanMeets (dstSpan a).2.1 (dstSpan b).2.1 && spanMeets (dstSpan a).2.2 (dstSpan b).2.2

/-- The owner tables' tests of check 1 (R175–R177). Extents of 0 pass; the items where no entry stands are log 81's. -/
def ownerTests (b : List Byte) (pl : Plan) : Tests :=
  let off := plOff b 7
  let sec := plBytes b 7
  let ts := ownerTables sec
  let idx := List.zip (List.range ts.length) ts
  (List.zip (List.range pl.nodes.length) pl.nodes).map (fun e =>
    (decide (e.2.kind ≠ 9) || decide ((ts.filter (fun t => decide (t.node = e.1))).length = 1), plOff b 1 + 32 * e.1))
  ++ idx.flatMap (fun e =>
    let t := e.2
    let x := planNode pl t.node
    let es := tableEntries sec t
    [(decide (x.kind = 9) && decide (x.res ≠ 0x35) && decide (1 ≤ t.entries) && decide (t.offset % 64 = 0),
      off + 16 + 16 * e.1)]
    ++ (List.zip (List.range es.length) es).map (fun g =>
      ((decide (0x34 ≤ x.res) || decide (g.2.dstCore / 8 = x.res - 0x30))
        && decide (1 ≤ g.2.eh) && decide (1 ≤ g.2.ew) && decide (1 ≤ g.2.ec)
        && !((es.take g.1).any (fun h => entriesMeet h g.2)), off + t.offset + 64 * g.1)))

/-! ### The substitution table (R455) -/

/-- The entries of the substitution table: FROM and TO. -/
def substEntries (sec : List Byte) : List (Nat × Nat) :=
  (List.range (fld (wordAt sec 0) 12 0)).map (fun i => (fld (wordAt sec (4 + i)) 7 0, fld (wordAt sec (4 + i)) 15 8))

/-- Does a resource carry a node of the plan other than self-test slots? -/
def carriesWork (pl : Plan) (r : Nat) : Bool := pl.nodes.any (fun x => decide (x.res = r) && decide (x.kind ≠ 12))

/-- The spares: the cores named in TO that carry no work (R455). -/
def spareCores (pl : Plan) : List Nat :=
  ((substEntries (planSection pl 9)).map (fun e => e.2)).filter (fun c => isCore c && !carriesWork pl c) |>.eraseDups

/-- The substitution table's tests of check 1 (R455, R498). -/
def substTests (b : List Byte) (pl : Plan) (window : Nat → Bool) : Tests :=
  match plSec b 9 with
  | none => []
  | some s =>
    let es := substEntries (plBytes b 9)
    let spares := spareCores pl
    let unit (r : Nat) : Bool := isCore r || isEngine r
    [(decide (1 ≤ es.length) && decide (es.length ≤ 4096), s.1)]
    ++ (List.zip (List.range es.length) es).map (fun e =>
        (unit e.2.1 && unit e.2.2
          && (if isCore e.2.1 then isCore e.2.2 && decide (e.2.2 ∈ spares)
              else isEngine e.2.2 && decide (engineKind e.2.1 = engineKind e.2.2)
                && window (e.2.1 - 0x20) && window (e.2.2 - 0x20)), s.1 + 16 + 4 * e.1))
    ++ [(decide (spares.length = pl.spare), 20)]
    ++ (List.range 32).map (fun c =>
        (!carriesWork pl c || spares.all (fun sp => decide ((es.filter (fun e => decide (e = (c, sp)))).length = 1)), s.1))

/-! ### Safety marks, ranges of check 1 (R424–R426) -/

/-- Number of output pairs, node-pair words and rules. -/
def markCounts (sec : List Byte) : Nat × Nat × Nat :=
  (fld (wordAt sec 0) 15 0, fld (wordAt sec 0) 31 16, fld (wordAt sec 1) 15 0)

/-- Byte offset of the output-pair records and of the rule records in the section. -/
def pairOff (sec : List Byte) : Nat := 16 + 16 * ceilDiv (markCounts sec).2.1 4
def ruleOff (sec : List Byte) : Nat := pairOff sec + 32 * (markCounts sec).1

/-- Is an F32 at least 0 (R425)? -/
def tolOk (w : Nat) : Bool := decide (w ≤ 0x7F800000) || decide (w = 0x80000000)

/-- The safety section's tests of check 1: counts, SECTION_CRC and ranges of the pairs and of the rules. -/
def markTests (b : List Byte) : Tests :=
  match plSec b 8 with
  | none => []
  | some s =>
    let sec := plBytes b 8
    let c := markCounts sec
    [(decide (1 ≤ c.1) && decide (c.1 ≤ 256) && decide (c.2.1 ≤ 65534) && decide (c.2.2 ≤ 1024), s.1),
     (decide (crc32 (overlay sec 12 (zeros 4)) = wordAt sec 3), s.1)]
    ++ (List.range c.1).map (fun i =>
      let o := pairOff sec + 32 * i
      (tolOk (wordAt (slice sec o 32) 4) && tolOk (wordAt (slice sec o 32) 5), s.1 + o))
    ++ (List.range c.2.2).map (fun i =>
      let o := ruleOff sec + 32 * i
      let w (j : Nat) : Nat := wordAt (slice sec o 32) j
      (decide (1 ≤ fld (w 2) 23 0) && decide (1 ≤ fld (w 3) 23 0)
        && (decide (fld (w 0) 3 0 = 3) || (decide (fld (w 0) 31 24 = 0) && decide (w 6 = 0)))
        && (decide (fld (w 0) 3 0 = 1) || decide (w 5 = 0)), s.1 + o))

/-- Check 1 of R52 for partition `p`: the failing byte offset, or none. -/
def check1 (b : List Byte) (p : Nat) (window : Nat → Bool) : Option Nat :=
  let len := wordAt b 2
  match firstBad [(decide (wordAt b 0 = 0x4E414C50), 0), (decide (crc32 (slice b 0 60) = wordAt b 15), 60),
      (decide (len % 64 = 0) && decide (64 ≤ len) && decide (len = b.length), 8),
      (decide ((sha256 (slice b 64 (len - 64))).take 16 = slice b 44 16), 44)] with
  | some i => some i
  | none =>
    match firstBad (dirTests b ++ headerTests b p) with
    | some i => some i
    | none =>
      let pl := parsePlan b
      firstBad (nodeTests b pl ++ slotTests b pl ++ phaseTests b pl ++ bindingTests b pl ++ ownerTests b pl
        ++ markTests b ++ substTests b pl window)

/-! ### Check 3: reserved encodings and fields (R13, R14) -/

/-- Are bits `hi` to `lo` of a word zero? -/
def bitsZero (w hi lo : Nat) : Bool := decide (fld w hi lo = 0)

/-- Is every word from `i` to `j` of a record zero? -/
def wordsZero (b : List Byte) (i j : Nat) : Bool := (List.range (j + 1 - i)).all (fun k => decide (wordAt b (i + k) = 0))

/-- The layout pairs that R178 lists are checked there; here the layout codes of R154 are 0 to 7. -/
def layoutValid (l : Nat) : Bool := decide (l ≤ 7)

/-- Check 3 of R52: the failing byte offset, or none. `pairOk` says whether a re-shard entry's layouts and format are a pair
that R178 allows. -/
def check3 (b : List Byte) (pairOk : OwnerEntry → Bool) : Option Nat :=
  let w (i : Nat) : Nat := wordAt b i
  let hdr : Tests := [(bitsZero (w 3) 31 11, 12), (decide (plHdr b 5 10 8 ≤ 4) && bitsZero (w 5) 11 11 && bitsZero (w 5) 31 19, 20),
    (bitsZero (w 8) 31 16, 32)]
  let dir : Tests := (List.zip (List.range (plDir b).length) (plDir b)).map (fun e => (secDefined e.2.1, 64 + 8 * e.1))
  let g := plBytes b 1
  let nodes : Tests := (List.range (plHdr b 8 15 0)).map (fun n =>
    let x := nodeOf g n
    (decide (x.kind ≤ 12) && decide (x.phase ≤ 6) && resValid x.res && bitsZero (wordAt g (8 * n + 1)) 31 12
      && bitsZero (wordAt g (8 * n + 7)) 31 13, plOff b 1 + 32 * n))
  let sl := plBytes b 2
  let slots : Tests := (List.range 64).map (fun i =>
    (bitsZero (wordAt sl (4 * i)) 7 7 && decide ((slotOf sl i).fmt ≤ 1) && bitsZero (wordAt sl (4 * i)) 31 12
      && bitsZero (wordAt sl (4 * i + 3)) 31 16, plOff b 2 + 16 * i))
  let bufs : Tests := (List.range 64).map (fun i => (wordsZero sl (256 + 16 * i + 12) (256 + 16 * i + 15), plOff b 2 + 1024 + 64 * i))
  let ph := plBytes b 3
  let phases : Tests := (List.range 7).map (fun i => (bitsZero (wordAt ph (4 * i)) 31 16, plOff b 3 + 16 * i))
  let qb := plBytes b 6
  let binds : Tests := (bitsZero (wordAt qb 0) 31 14 && wordsZero qb 1 3, plOff b 6) ::
    (List.range (bindingCount qb)).map (fun i =>
      let o := 4 + 8 * i
      let x := bindingOf qb i
      (bitsZero (wordAt qb o) 15 13 && resValid x.res && bitsZero (wordAt qb o) 31 29
        && decide (1 ≤ x.outstanding) && decide (x.outstanding ≤ 64) && bitsZero (wordAt qb (o + 1)) 7 7
        && decide (4 ≤ x.log2Depth) && decide (x.log2Depth ≤ 12) && bitsZero (wordAt qb (o + 1)) 31 12
        && bitsZero (wordAt qb (o + 2)) 31 16 && wordsZero qb (o + 6) (o + 7), plOff b 6 + 4 * o))
  let ow := plBytes b 7
  let tabs := ownerTables ow
  let owners : Tests := (bitsZero (wordAt ow 0) 31 16 && wordsZero ow 1 3, plOff b 7) ::
    (List.zip (List.range tabs.length) tabs).flatMap (fun e =>
      (decide (e.2.mapping ≤ 3) && bitsZero (wordAt ow (6 + 4 * e.1)) 31 3 && bitsZero (wordAt ow (7 + 4 * e.1)) 31 0,
        plOff b 7 + 16 + 16 * e.1) ::
      (List.range e.2.entries).map (fun i =>
        let o := e.2.offset + 64 * i
        let x := slice ow o 64
        let r := ownerEntry ow o
        (decide (r.srcKind ≤ 2) && bitsZero (wordAt x 0) 15 13 && bitsZero (wordAt x 1) 15 15 && bitsZero (wordAt x 1) 31 23
          && bitsZero (wordAt x 8) 31 16 && bitsZero (wordAt x 10) 31 16 && bitsZero (wordAt x 12) 31 16
          && wordsZero x 13 15 && layoutValid r.srcLayout && layoutValid r.dstLayout && pairOk r, plOff b 7 + o)))
  let mk := plBytes b 8
  let marks : Tests := if (plSec b 8).isNone then [] else
    (bitsZero (wordAt mk 1) 31 16, plOff b 8) ::
    ((List.range (markCounts mk).1).map (fun i =>
      let x := slice mk (pairOff mk + 32 * i) 32
      (bitsZero (wordAt x 2) 7 4 && decide (fld (wordAt x 2) 3 0 ≤ 10), plOff b 8 + pairOff mk + 32 * i))
     ++ (List.range (markCounts mk).2.2).map (fun i =>
      let x := slice mk (ruleOff mk + 32 * i) 32
      let k := fld (wordAt x 0) 3 0
      (decide (1 ≤ k) && decide (k ≤ 3) && bitsZero (wordAt x 0) 15 4 && bitsZero (wordAt x 2) 31 24
        && bitsZero (wordAt x 3) 31 24 && bitsZero (wordAt x 7) 31 0, plOff b 8 + ruleOff mk + 32 * i)))
  let sb := plBytes b 9
  let subst : Tests := if (plSec b 9).isNone then [] else
    (bitsZero (wordAt sb 0) 31 13 && wordsZero sb 1 3, plOff b 9) ::
    (List.range (substEntries sb).length).map (fun i => (bitsZero (wordAt sb (4 + i)) 31 16, plOff b 9 + 16 + 4 * i))
  firstBad (hdr ++ dir ++ nodes ++ slots ++ bufs ++ phases ++ binds ++ owners ++ marks ++ subst)

end Sys2Proof.Machine
end

