-- ==== Sys2Proof/Machine/Tasks.lean ====
section
/-! DEFINITION. Tasks and queues (07): entries and their eligibility (R187), marks, the end of a task, completion and result
records (R194, R195, R366), completion flags that the dispatcher writes (R300). -/

namespace Sys2Proof.Machine

/-- A task that has not started. -/
def task0 : Task :=
  { id := 0, part := 0, num := 0, node := node0, old := false, tick := 0, edge := 0, stage := 0, eligAt := 0, startAt := 0, endAt := 0,
    started := false, skipped := false, settled := false, status := 0, flags := 0, late := false, absent := false,
    aborted := false, corrupt := false, recomp := false, inLate := false, inAbsent := false, inCorrupt := false,
    inRecomp := false, stop := false, tag := 0, ring := none, budget := 0, maxCyc := 0, prog := 0, maint := none, desc := [],
    redo := 0, redoFor := 0, wrote := false, outKind := 0, outAddr := 0, outLen := 0 }

/-- Task `id`. -/
def State.task? (s : State) (id : Nat) : Option Task := s.tasks.find? (fun t => decide (t.id = id))

/-- A task replaced by its new form. -/
def State.putTask (s : State) (t : Task) : State := { s with tasks := s.tasks.map (fun u => if u.id = t.id then t else u) }

/-- A task changed. -/
def State.modTask (s : State) (id : Nat) (f : Task → Task) : State :=
  { s with tasks := s.tasks.map (fun u => if u.id = id then f u else u) }

/-- A new task added; its identifier. -/
def State.addTask (s : State) (t : Task) : State :=
  { s with tasks := s.tasks ++ [{ t with id := s.nextId }], nextId := s.nextId + 1 }

/-- The entries of node `n` of partition `p` of the current tick; two in a changeover tick where both plans have the number. -/
def State.nodeTasks (s : State) (p n : Nat) : List Task :=
  s.tasks.filter (fun t => decide (t.part = p) && decide (t.num = n) && decide (t.tick = s.tickCount) && t.maint.isNone
    && t.ring.isNone && decide (t.redo = 0))

/-- The tasks of the same plan and tick as `t`. -/
def State.peers (s : State) (t : Task) : List Task :=
  s.tasks.filter (fun u => decide (u.part = t.part) && decide (u.old = t.old) && decide (u.tick = t.tick) && u.maint.isNone
    && u.ring.isNone && decide (u.redo = 0))

/-- Has a task ended: run, skipped or cancelled? -/
def Task.ended (t : Task) : Bool := decide (t.stage = 3) || decide (t.stage = 4)

/-- A queue that nothing has bound. -/
def queue0 : QueueSt :=
  { bind := none, part := 0, sqHead := 0, sqTail := 0, cqHead := 0, cqTail := 0, sqTimes := [], aborted := [], used := 0, done := 0, aborts := 0,
    dropped := 0, refused := 0, was := none }

/-- Queue `q`. -/
def State.queue (s : State) (q : Nat) : QueueSt := kget queue0 s.queues q

/-- Queue `q` set. -/
def State.setQueue (s : State) (q : Nat) (x : QueueSt) : State := { s with queues := kput s.queues q x }

/-- Depth of a bound queue's rings (R185). -/
def Binding.depth (b : Binding) : Nat := 2 ^ b.log2Depth

/-- OUTSTANDING as its resource takes it: an engine holds two entries, a core prefetches one, an I3C controller has one (R190, R284). -/
def Binding.limit (b : Binding) : Nat :=
  if isCore b.res ∨ isEngine b.res then min b.outstanding 2 else if isI3c b.res then min b.outstanding 1 else b.outstanding

/-- The completion ring of a queue as bound now. -/
def QueueSt.ring (x : QueueSt) : Option Ring := x.bind.map (fun b => { bind := b, part := x.part, cqHead := x.cqHead, cqTail := x.cqTail })

/-- Does an entry write its record into the ring of the binding before: its plan is gone, or the queue is unbound (R194)? -/
def QueueSt.usesWas (x : QueueSt) (old : Bool) : Bool := x.was.isSome && (old || x.bind.isNone)

/-- The ring that takes an entry's record. -/
def QueueSt.ringFor (x : QueueSt) (old : Bool) : Option Ring := if x.usesWas old then x.was else x.ring

/-- Is a ring full (R195)? -/
def Ring.full (g : Ring) : Bool := decide (g.bind.depth ≤ g.cqTail - g.cqHead)

/-- A ring with one more record: a full one loses its oldest (R195). -/
def Ring.push (g : Ring) : Ring := { g with cqTail := g.cqTail + 1, cqHead := if g.full then g.cqHead + 1 else g.cqHead }

/-- Byte address of an offset in 64-byte units within a partition's LPDDR5 range. -/
def State.rangeAddr (s : State) (p units : Nat) : Nat := 67108864 * s.reg (0x3100 + p) 6 + 64 * units

/-- Entries of a queue dispatched and not completed (R187, condition 4). -/
def State.outstanding (s : State) (q : Nat) : Nat :=
  (s.tasks.filter (fun t => decide (t.node.queue = q) && t.maint.isNone && decide (t.redo = 0) && !t.skipped
    && (decide (t.stage = 1) || decide (t.stage = 2) || decide (t.stage = 3) || decide (t.stage = 5)))).length

/-- A core's sequencer that has nothing to do. -/
def core0 : CoreSt :=
  { task := none, budget := none, fetch := [], fetched := 0, next := none, nfetch := [], run := none, runAt := 0, ran := 0,
    lastTod := [], line := [], stop := 0, wait := 0, cursor := 0, slotAt := 0, paused := none, passAt := 0, lapseAt := 0 }

/-- The sequencer of core `c`. -/
def State.core (s : State) (c : Nat) : CoreSt := kget core0 s.cores c

/-- The sequencer of core `c` set. -/
def State.setCore (s : State) (c : Nat) (x : CoreSt) : State := { s with cores := kput s.cores c x }

/-- Is resource `r` retired or out of service (R451)? A DMA unit and an I3C controller never are. -/
def State.resRetired (s : State) (r : Nat) : Bool :=
  if isCore r then decide (s.reg (0x5000 + r) 1 = 2)
  else if isEngine r then decide (s.reg (0x6000 + r - 0x20) 1 = 1)
  else false

/-- Is a node of the intake half of a tick: intake or in-line phase (R23, R27)? -/
def intakeHalf (x : PNode) : Bool := decide (x.phase = 0) || decide (x.phase = 6)

/-- The conditions of R187 for an entry, and the engine window of R402. After its tick only an entry that R268 lets run on late
becomes eligible. -/
def State.eligible (s : State) (t : Task) : Bool :=
  let ps := s.peers t
  let lower := (ps.filter (fun u => decide (u.node.res = t.node.res) && decide (u.num < t.num)))
  let before := lower.foldl (fun (a : Option Task) u => match a with
    | none => some u
    | some b => if b.num < u.num then some u else some b) none
  decide (t.stage = 0) && (decide (t.tick = s.tickCount) || t.late) && decide (t.edge + t.node.release ≤ s.now)
    && t.node.preds.all (fun n => match ps.find? (fun u => decide (u.num = n)) with
        | some u => u.ended
        | none => true)
    && (match before with
        | some u => u.started || u.ended
        | none => true)
    && (match (s.queue t.node.queue).ringFor t.old with
        | some g => decide (s.outstanding t.node.queue < g.bind.limit)
        | none => false)
    && (!isEngine t.node.res ||
        (match s.window t.part (t.node.res - 0x20) with
         | some w => decide (t.edge + w.1 ≤ s.now)
         | none => false))

/-- An engine with nothing to do. -/
def eng0 : EngSt := { task := none, next := none, seq := 0, run := none }

/-- Engine `e`, by RESOURCE − 0x20. -/
def State.eng (s : State) (e : Nat) : EngSt := kget eng0 s.engines e

/-- Engine `e` set. -/
def State.setEng (s : State) (e : Nat) (x : EngSt) : State := { s with engines := kput s.engines e x }

/-- Does an engine hold the entry as its second (R284)? -/
def State.heldSecond (s : State) (t : Task) : Bool := isEngine t.node.res && decide ((s.eng (t.node.res - 0x20)).next = some t.id)

/-- Is an entry in its resource's ready list: eligible for 4 cycles, and not held by an engine as its second entry (R188, R284)? -/
def State.listed (s : State) (t : Task) : Bool :=
  decide (t.stage = 1) && t.ring.isNone && decide (t.eligAt + 4 ≤ s.now) && !s.heldSecond t

/-- Entries of host-fed queues in a core's ready list: while a budget node runs on it, those of the queues that name the node, 4 cycles after
they were submitted (R188, R191). -/
def State.hostListed (s : State) (r : Nat) : Nat :=
  match (if isCore r then (s.core r).budget.bind (fun id => s.task? id) else none) with
  | none => 0
  | some bt => s.queues.foldl (fun a (e : Nat × QueueSt) =>
      match e.2.bind with
      | some b =>
        if b.hostFed && decide (b.budgetNode = bt.num) && decide (e.2.part = bt.part) && decide (b.res = r) then
          a + ((List.range (e.2.sqTail - e.2.sqHead)).filter (fun i =>
            decide (e.2.sqTimes.getD i 0 + 4 ≤ s.now) && decide (e.2.sqHead + i ∉ e.2.aborted))).length
        else a
      | none => a) 0

/-- Entries in a resource's ready list (OD 53rr.01). -/
def State.readyDepth (s : State) (r : Nat) : Nat :=
  (s.tasks.filter (fun t => decide (t.node.res = r) && s.listed t)).length + s.hostListed r

/-- OD 53rr.01 and .02 brought up to date for a resource (R197). An entry enters its list by the passing of time alone, so the count before
each removal and at each look is the largest. -/
def State.countReady (s : State) (r : Nat) : State :=
  let n := s.readyDepth r
  let s := s.setReg (0x5300 + r) 1 n
  if s.reg (0x5300 + r) 2 < n then s.setReg (0x5300 + r) 2 n else s

/-- An entry that meets the conditions becomes eligible now; it stands in the ready list 4 cycles later (R188). -/
def State.tryEligible (s : State) (t : Task) : State :=
  if s.eligible t then (s.putTask { t with stage := 1, eligAt := s.now }).countReady t.node.res else s

/-- The marks that reach a task through its predecessors (R366). -/
def State.withMarks (s : State) (t : Task) : Task :=
  let ps := (s.peers t).filter (fun u => decide (u.num ∈ t.node.preds))
  { t with
    inLate := t.inLate || ps.any (fun u => u.late || u.inLate), inAbsent := t.inAbsent || ps.any (fun u => u.absent || u.inAbsent),
    inCorrupt := t.inCorrupt || ps.any (fun u => u.corrupt || u.inCorrupt),
    inRecomp := t.inRecomp || ps.any (fun u => u.recomp || u.inRecomp) }

/-- Is the node a self-test slot (R437)? -/
def Task.selfTest (t : Task) : Bool := decide (t.node.kind = 12)

/-- L in force (R53). -/
def State.limitL (s : State) : Nat := s.pMin * 96 / 100

/-- What the end of a node does to OD 213p (R58, R61): the latest end and its tick; an end after L and before the edge. Self-test
slots count in nothing. -/
def State.countEnd (s : State) (t : Task) : State :=
  if t.selfTest || t.maint.isSome || t.ring.isSome then s
  else
    let d := s.now - t.edge
    let s := if s.reg (0x2130 + t.part) 5 < d then (s.setReg (0x2130 + t.part) 5 (min d (2 ^ 32 - 1))).setReg (0x2130 + t.part) 6 t.tick else s
    if t.tick = s.tickCount ∧ s.limitL < d then s.bump 64 (0x2130 + t.part) 4 1 else s

/-- Does a resource run a task? -/
def State.resBusy (s : State) (r : Nat) : Bool := s.tasks.any (fun t => decide (t.node.res = r) && decide (t.stage = 2))

/-- Cycles that a resource has been blocked with an empty list since `idleAt` (OD 53rr.06): up to the entry that came first into its
list, or up to now. -/
def State.blockedNow (s : State) (r : Nat) : Nat :=
  if s.resBusy r then 0
  else
    let from' := kget 0 s.idleAt r
    let upto := (s.tasks.filter (fun t => decide (t.node.res = r) && decide (t.stage = 1))).foldl (fun a t => min a (t.eligAt + 4)) s.now
    upto - from'

/-- Cycles that a resource has run a task since `idleAt` (OD 53rr.05): two tasks of a DMA unit at once count once. -/
def State.busyNow (s : State) (r : Nat) : Nat := if s.resBusy r then s.now - kget 0 s.idleAt r else 0

/-- The busy and the blocked cycles of a resource counted up to now. -/
def State.settleRes (s : State) (r : Nat) : State :=
  let s' := (s.bump 64 (0x5300 + r) 5 (s.busyNow r)).bump 64 (0x5300 + r) 6 (s.blockedNow r)
  { s' with idleAt := kput s.idleAt r (max (kget 0 s.idleAt r) s.now) }

/-- A task started on a resource after a wait, counted (OD 53rr.03, .04, .07). -/
def State.countStart (s : State) (r w : Nat) : State :=
  let s := (s.bump 64 (0x5300 + r) 3 w).bump 64 (0x5300 + r) 7 1
  if s.reg (0x5300 + r) 4 < w then s.setReg (0x5300 + r) 4 (min w (2 ^ 32 - 1)) else s

/-- A task starts on its resource (R187–R189): its marks, its time and the counters of R197. -/
def State.startTask (s : State) (id : Nat) : State :=
  match s.task? id with
  | none => s
  | some t =>
    let r := t.node.res
    let s := (s.settleRes r).countReady r
    let w := s.now - t.eligAt
    let s := s.putTask { s.withMarks t with stage := 2, started := true, startAt := s.now }
    (s.countStart r w).countReady r

/-- STRIPES_DONE and STRIPES_LATE (OD 4000 + 40h × s + 0Ch.07 and .08) of a stripe node that ended or carries the late flag. -/
def State.countStripe (s : State) (t : Task) (ran : Bool) : State :=
  if t.node.kind = 0 ∧ t.node.bound = true ∧ t.redo = 0 ∧ t.maint.isNone = true then
    let s := if ran then s.bump 64 (stIdx t.node.stream 0x0C) 7 1 else s
    if t.late then s.bump 64 (stIdx t.node.stream 0x0C) 8 1 else s
  else s

/-- A task ends on its resource: its status and time, and the resource's counters. -/
def State.closeTask (s : State) (t : Task) (st : Nat) : State :=
  let s := s.settleRes t.node.res
  s.putTask { t with stage := 3, endAt := s.now, status := st }

/-- A task ends, and counts. The record follows with TASK_COMPLETE. -/
def State.endTask (s : State) (id st : Nat) : State :=
  match s.task? id with
  | none => s
  | some t => ((s.closeTask t st).countStripe t true).countEnd t

/-- An entry that never runs ends: skipped, cancelled or aborted before its start. -/
def State.endUnstarted (s : State) (id st : Nat) (late aborted : Bool) : State :=
  match s.task? id with
  | none => s
  | some t =>
    let s := s.countReady t.node.res
    let t := { t with stage := 3, endAt := s.now, status := st, skipped := true, absent := true, late := t.late || late,
                      aborted := t.aborted || aborted }
    (s.putTask t).countStripe t false

/-- The 16 bytes of a completion record (R194). -/
def completionBytes (t : Task) : List Byte :=
  wordBytes [t.status + 65536 * (t.flags % 16) + 2 ^ 20 * b2n t.late + 2 ^ 21 * b2n t.absent + 2 ^ 22 * b2n t.aborted,
    t.tag + 65536 * (if t.ring.isSome then 0xFFFF else t.num), t.tick % 2 ^ 32,
    if t.started then min (t.endAt - t.startAt) (2 ^ 32 - 1) else 0]

/-- A completion record written to its ring (R194, R195): a full plan-fed ring loses its oldest record. -/
def State.writeCompletion (s : State) (t : Task) : State :=
  let q := t.node.queue
  let x := s.queue q
  match x.ringFor t.old with
  | none => s
  | some g =>
    let s := s.ddrWrite (s.rangeAddr g.part g.bind.cqAddr + 16 * (g.cqTail % g.bind.depth)) (completionBytes t)
    let y := if x.usesWas t.old then { x with was := some g.push } else { x with cqHead := g.push.cqHead, cqTail := g.push.cqTail }
    let s := s.setQueue q { y with done := x.done + 1, dropped := if g.full then x.dropped + 1 else x.dropped }
    if g.bind.hostFed then s.fireLater (s.servedBy g.part) 3 else s

/-- The frame of a stream in the processing half of tick `tick`: of the present tick, or of the tick before (R17). -/
def State.frameFor (s : State) (tick st : Nat) : Option FrameInfo :=
  if tick = s.tickCount then klook s.frames st else klook s.frames2 st

/-- The output pairs of a plan's safety section: (primary output node, copy output node) (R425). -/
def outputPairs (sec : List Byte) : List (Nat × Nat) :=
  (List.range (markCounts sec).1).map (fun i =>
    let w := wordAt (slice sec (pairOff sec + 32 * i) 32) 0
    (fld w 15 0, fld w 31 16))

/-- Where the checker holds the section of a task's plan (R424). -/
def tableKey (part : Nat) (old : Bool) : Nat := if old then 8 + part else part

/-- The plan of a task: for one that runs past its tick, the released plan where the partition holds it no more. -/
def State.taskPlan (s : State) (t : Task) : Option Plan :=
  let x := s.planSt t.part
  match (if t.old then x.old else x.cur) with
  | some pl => some pl
  | none => x.gone

/-- Is the task an output node of a safety pair of its plan (R425)? -/
def State.pairOutput (s : State) (t : Task) : Bool :=
  match s.taskPlan t with
  | none => false
  | some pl => (outputPairs (planSection pl 8)).any (fun e => decide (e.1 = t.num) || decide (e.2 = t.num))

/-- Does the checker run: enabled and not halted (R433, R434)? -/
def State.checkerOn (s : State) : Bool := decide (s.reg 0x7000 1 = 1) && !s.umbra.halted

/-- Do judged pairs withhold an output node of a plan's pairs, in partition `p`? -/
def withholdsNode (js : List JudgedPair) (p : Nat) (pairs : List (Nat × Nat)) (n : Nat) : Bool :=
  js.any (fun j => decide (j.part = p) && j.withheld && (match pairs[j.pair]? with
    | some e => decide (e.1 = n) || decide (e.2 = n)
    | none => false))

/-- What the verdict of a pair node's tick says of its record: none while that verdict is to come, else whether the record is withheld. One of a
node that ended after the deadline, or of a tick without a verdict, is withheld (R432; log 36). -/
def State.verdictOf (s : State) (t : Task) : Option Bool :=
  match s.taskPlan t with
  | none => some true
  | some pl =>
    let sec := planSection pl 8
    let js : Option (List JudgedPair) :=
      if t.tick = s.tickCount then (if s.umbra.published then some s.umbra.judged else none)
      else if t.tick + 1 = s.tickCount then s.umbra.prev
      else none
    if t.edge + wordAt sec 2 < t.endAt then some true
    else
      match js with
      | some js => some (withholdsNode js t.part (outputPairs sec) t.num)
      | none => if s.checkerOn && decide (t.tick = s.tickCount) && (klook s.umbra.tables (tableKey t.part t.old)).isSome then none else some true

/-- The 32 bytes of a result record (R366). DROPPED_BEFORE is set when it is written. -/
def State.resultBytes (s : State) (t : Task) (safety withheld : Bool) : List Byte :=
  let fr := if t.node.bound then s.frameFor t.tick t.node.stream else none
  wordBytes [b2n (t.late || t.inLate) + 2 * b2n (t.absent || t.inAbsent) + 4 * b2n (t.corrupt || t.inCorrupt) + 8 * b2n withheld
      + 16 * b2n safety + 32 * b2n (t.recomp || t.inRecomp) + 256 * t.node.stream * b2n t.node.bound + 2 ^ 14 * b2n t.node.bound
      + 65536 * t.num,
    ((fr.map (fun f => f.number)).getD 0) % 2 ^ 32, (fr.map (fun f => f.status)).getD 0,
    (if t.wrote then t.outKind else 0) + 8 * t.part, if t.wrote then t.outLen % 2 ^ 32 else 0, t.tick % 2 ^ 32]
    ++ leBytes 8 (if t.wrote then t.outAddr else 0)

/-- A result record written to a function's ring, or dropped and counted (R367); then vector 4. -/
def State.writeResult (s : State) (fn : Nat) (b : List Byte) : State :=
  let x := s.fnSt fn
  let size := 2 ^ s.regF fn 0x1105 2
  if s.regF fn 0x1105 3 = 1 ∧ x.d3 = false ∧ x.resHead - x.resTail < size then
    let b := overlay b 0 (leBytes 4 (wordAt b 0 + 64 * b2n x.resLost))
    let s := s.hostWrite fn (s.regF fn 0x1105 1 + 32 * (x.resHead % size)) b
    (s.setFn fn { x with resHead := x.resHead + 1, resLost := false }).fireLater fn 4
  else (s.setFn fn { x with resLost := true }).bumpF 32 fn 0x1105 4 1

/-- The result record of an output node: written, or held for its verdict (R366, R432). -/
def State.reportResult (s : State) (t : Task) : State :=
  if t.node.kind = 10 ∧ t.node.phase = 5 ∧ t.redo = 0 then
    let fn := s.servedBy t.part
    if s.pairOutput t then
      match s.verdictOf t with
      | none => { s with umbra := { s.umbra with held := s.umbra.held ++
          [{ part := t.part, fn := fn, node := t.num, tick := t.tick, bytes := s.resultBytes t true false }] } }
      | some withheld => s.writeResult fn (s.resultBytes t true withheld)
    else s.writeResult fn (s.resultBytes t t.node.safety false)
  else s

/-! ### Completion flags in Facet shared scratch (R281, R299) -/

/-- Address of a flag. -/
def flagAddr (f : Nat) : Nat := 0x7F8000 + 8 * f

/-- A flag's bits (R299). -/
def flagWord (tick progress : Nat) (done absent late corrupt : Bool) : Nat :=
  tick % 2 ^ 44 + 2 ^ 44 * min progress 16383 + 2 ^ 58 * b2n done + 2 ^ 59 * b2n absent + 2 ^ 60 * b2n late + 2 ^ 61 * b2n corrupt

/-- A flag written (R300). LATE stands when the edge that ended the task's tick has passed. -/
def State.writeFlag (s : State) (f tick progress : Nat) (done absent corrupt : Bool) : State :=
  s.scrWrite (flagAddr f) (leBytes 8 (flagWord tick progress done absent (decide (tick ≠ s.tickCount)) corrupt))

/-- Byte address of a node's first TOD or descriptor: the TOD programs section is copied to the program region (R47, R187), the same
in every tick (log 70). -/
def State.nodeProg (_s : State) (pl : Plan) (n : Nat) : Nat :=
  Config.programPlace pl.part (planSection pl 5) + 64 * Config.nodeProgram (planSection pl 5) n

/-- The most descriptors that a chain holds: the staging buffer of a plan is 2 MiB (R47). -/
def chainMax : Nat := 32768

/-- The descriptors of a chain from an address on, up to LAST. -/
def State.chain (s : State) : Nat → Nat → List (List Byte)
  | 0, _ => []
  | n + 1, addr =>
    let b := s.ddrRead addr 64
    if (wordAt b 0).testBit 8 then [b] else b :: s.chain n (addr + 64)

/-- The flags that the dispatcher writes for a Facet node that was skipped, cancelled or aborted (R300). -/
def State.absentFlags (s : State) (t : Task) : State :=
  if isEngine t.node.res then
    (s.chain chainMax t.prog).foldl (fun s b =>
      if (wordAt b 0).testBit 9 then s.writeFlag (fld (wordAt b 1) 11 0) t.tick 0 true true false else s) s
  else s

/-- The nodes of a stream that do no work for a frame of height `h` (R265): the stripes beyond ceil(h ÷ S), and what feeds them alone. -/
def idleStripes (pl : Plan) (st h : Nat) : List Nat :=
  let nodes := List.zip (List.range pl.nodes.length) pl.nodes
  let stripes := nodes.filter (fun e => decide (e.2.kind = 0) && e.2.bound && decide (e.2.stream = st))
  let rows := (pl.slots.getD st (slotOf [] 0)).stripeRows
  let busy := stripes.take (ceilDiv h (max 1 rows))
  let idle := stripes.drop (ceilDiv h (max 1 rows))
  let feeds (es : List (Nat × PNode)) (n : Nat) : Bool := es.any (fun e => decide (n ∈ e.2.preds))
  idle.map (fun e => e.1) ++ (nodes.filter (fun e => decide (e.2.kind = 10) && e.2.bound && decide (e.2.stream = st)
    && feeds idle e.1 && !feeds busy e.1)).map (fun e => e.1)

/-- An entry without work ends at once: STATUS OK, ABSENT 0, CYCLES 0 (R265). A channel that it holds transfers nothing more. -/
def State.endIdle (s : State) (id : Nat) : State :=
  let s := match s.task? id with
    | some t => if t.stage ≤ 2 then
        (((s.settleRes t.node.res).countReady t.node.res).putTask { t with stage := 3, endAt := s.now, status := 0, started := false }).countStripe t true else s
    | none => s
  { s with chans := s.chans.map (fun e => if e.2.task = some id then
      (e.1, { e.2 with shadow := none, shadowSt := 0, live := [], slots := [], reqs := [] }) else e) }

/-- A node skipped under R26: its record carries ABSENT, and it counts as ended at once (R187). -/
def State.skipNode (s : State) (id : Nat) : State :=
  match s.task? id with
  | none => s
  | some t => (s.endUnstarted id stOk false false).absentFlags t

/-- A node cancelled (R58, R451, R456): ABSENT and late where the edge cancels it. -/
def State.cancelNode (s : State) (id : Nat) (late : Bool) : State :=
  match s.task? id with
  | none => s
  | some t => ((s.endUnstarted id stOk late false).absentFlags t).countReady t.node.res

end Sys2Proof.Machine
end

