-- ==== Sys2Proof/Machine/Retire.lean ====
section
/-! DEFINITION. Retirement of pages, sub-banks, cores and engines (R446, R451–R454): one operation for every cause. -/

namespace Sys2Proof.Machine

/-- CRC-8 of R453: polynomial 0x07, initial 0x00. -/
def crc8 (bs : List Byte) : Nat :=
  bs.foldl (fun c b => (List.range 8).foldl (fun c _ =>
    if c.testBit 7 then Nat.xor (c * 2 % 256) 7 else c * 2 % 256) (Nat.xor c b.toNat)) 0

/-- A retirement record of 8 bytes (R453). -/
def retireRecord (kind cause index : Nat) : List Byte :=
  let b := leBytes 7 (kind + 16 * cause + 256 * (index % 2 ^ 40))
  b ++ leBytes 1 (crc8 b)

/-- The place of the first record of 8 bytes of 0xFF, from record `i` on. -/
def listEnd (flash : KMap Byte) : Nat → Nat → Nat
  | i, 0 => i
  | i, n + 1 => if kgets 0xFF#8 flash (0x110000 + 8 * i) 8 = List.replicate 8 0xFF#8 then i else listEnd flash (i + 1) n

/-- Records that the list holds, the skipped ones among them (R453): those before the first of which every byte is 0xFF. -/
def State.listRecords (s : State) : Nat := listEnd s.fw.flash 0 8192

/-- Is the list in flash full, with what SEC has still to append (R453)? -/
def State.listFull (s : State) : Bool := decide (8192 ≤ s.listRecords + s.faults.toList.length)

/-- The bytes of a device object's value. -/
def State.objBytes (s : State) (idx sub : Nat) : List Byte :=
  match objRow idx sub with
  | some o => if tySize o.ty = 0 then s.blob idx sub else leBytes (tySize o.ty) (s.reg idx sub)
  | none => []

/-- A retirement recorded: for the list in flash, in the journal, and as an event (R453, R454, R461). `idx`.`sub` is the unit's
state object, `jpart` the partition that it belongs to, `was` the state before the retirement. -/
def State.recordRetire (s was : State) (kind cause index : Nat) (part jpart : Option Nat) (idx sub data2 : Nat) : State :=
  let s := if s.listFull then s.bump 32 0x8010 4 1
    else { s with faults := { s.faults with toList := s.faults.toList ++ [retireRecord kind cause index] } }
  let s := s.journalAdd { s.entry0 8 with index := idx, sub := sub, part := jpart.getD 0, isGlobal := jpart.isNone,
                                          oldHash := hash96 (was.objBytes idx sub), newHash := hash96 (s.objBytes idx sub) }
  (s.changed 0 idx sub).raiseEvent 0x81 part kind (index % 2 ^ 32) cause data2

/-- The partition whose run holds the granule of an LPDDR5 address. -/
def State.addrPart (s : State) (addr : Nat) : Option Nat := s.granulePart (addr / 67108864)

/-- A page retired (R451, R452): it awaits its copy to the next pool page, or is withdrawn where the pool is exhausted. -/
def State.retirePage (s : State) (page cause : Nat) : State :=
  if (s.faults.toCopy ++ s.faults.copied).any (fun e => decide (e.1 = page)) || kget false s.faults.withdrawn page then s
  else
    let left := s.reg 0x8010 2
    let pool := s.faults.poolNext
    let was := s
    let s := s.bump 32 0x8010 1 1
    let s := if left = 0 then { s with faults := { s.faults with withdrawn := kput s.faults.withdrawn page true } }
      else { s with faults := { s.faults with toCopy := s.faults.toCopy ++ [(page, pool)], poolNext := s.faults.poolNext + 1 } }.setReg
        0x8010 2 (left - 1)
    s.recordRetire was 0 cause page (s.addrPart (4096 * page)) none 0x8010 1 (if left = 0 then 0xFFFFFFFF else pool)

/-- Where a unit's work moves: the first entry of the plan's substitution table whose TO is in service and, for a core, not yet
consumed, nor taken for a unit that was retired before and moves at the coming edge (R456). -/
def State.substituteFor (s : State) (pl : Plan) (r : Nat) : Option Nat :=
  ((substEntries (planSection pl 9)).find? (fun e => decide (e.1 = r) && !s.resRetired e.2
    && (!isCore e.2 || (decide (s.reg (0x5000 + e.2) 1 = 1) && !kget false s.faults.consumed e.2
      && decide (kget r s.faults.claimed e.2 = r))))).map (fun e => e.2)

/-- The plan that runs in a partition and carries work on a resource. -/
def State.planOn (s : State) (r : Nat) : Option Plan :=
  ((List.range 8).filterMap (fun p => (s.planSt p).cur)).find? (fun pl => carriesWork pl r)

/-- TO of the substitution that a retirement leads to, or 0xFFFFFFFF (R461). -/
def State.substTo (s : State) (r : Nat) : Nat :=
  match s.planOn r with
  | none => 0xFFFFFFFF
  | some pl => (s.substituteFor pl r).getD 0xFFFFFFFF

/-- A spare core taken for a core whose work moves to it at the next edge. -/
def State.claimFor (s : State) (goal c : Nat) : State :=
  if isCore goal then { s with faults := { s.faults with claimed := kput s.faults.claimed goal c } } else s

/-- A unit's work put down for the move at the next edge. -/
def State.moveLater (s : State) (r : Nat) : State :=
  if r ∈ s.faults.toMove then s else { s with faults := { s.faults with toMove := s.faults.toMove ++ [r] } }

/-- An entry leaves the place in which an engine holds it second, or a core has prefetched it. -/
def State.unnext (s : State) (t : Task) : State :=
  let r := t.node.res
  if isEngine r ∧ (s.eng (r - 0x20)).next = some t.id then s.setEng (r - 0x20) { s.eng (r - 0x20) with next := none, pre := none }
  else if isCore r ∧ (s.core r).next = some t.id then s.setCore r { s.core r with next := none, nfetch := [] }
  else s

/-- The recompute entries of a reader that have not started are dropped (R449). -/
def State.dropRedo (s : State) (c : Task) : State :=
  let mine (u : Task) : Bool := decide (u.redo = 1) && decide (u.redoFor = c.id) && decide (u.stage < 2)
  let ps := s.tasks.filter mine
  let s := ps.foldl State.unnext (s.unnext c)
  let s : State := { s with tasks := s.tasks.filter (fun u => !mine u),
                            faults := { s.faults with redos := s.faults.redos.filter (fun x => decide (x.reader ≠ c.id)) } }
  ps.foldl (fun s u => s.countReady u.node.res) s

/-- A recomputation whose entry is cancelled: its reader ends with TASK_ABORTED, the corrupt mark and the late flag (R449). -/
def State.cancelRedo (s : State) (c : Task) : State :=
  (((s.dropRedo c).putTask { c with late := true, corrupt := true }).endTask c.id stTaskAborted).countReady c.node.res

/-- The reader of a recomputation that an entry belongs to: the reader's own second run, or its producer's rerun. -/
def State.redoReader (s : State) (t : Task) : Option Task :=
  if t.redo = 1 then s.task? t.redoFor else if t.recomp then some t else none

/-- Entries on a resource that have not started in this tick are cancelled; they count in OD 213p.03 only (R58, R451). -/
def State.cancelOn (s : State) (r : Nat) : State :=
  (s.tasks.filter (fun (t : Task) => decide (t.node.res = r) && decide (t.tick = s.tickCount) && (decide (t.stage = 0) || decide (t.stage = 1))
    && t.maint.isNone && t.ring.isNone)).foldl (fun s (t : Task) =>
      let s := s.unnext t
      if t.selfTest then (s.skipNode t.id).countReady r
      else
        ((match s.redoReader t with
          | some c => s.cancelRedo c
          | none => s.cancelNode t.id true).bump 64 (0x2130 + t.part) 3 1)) s

/-- A retired core that runs no task puts down a self-test slot that had yielded, and its budget node (R451). -/
def State.putDown (s : State) (c : Nat) : State :=
  let x := s.core c
  if s.reg (0x5000 + c) 1 ≠ 2 ∨ x.task.isSome then s
  else
    let s := { s with tasks := s.tasks.filter (fun (t : Task) => !(decide (t.node.res = c) && t.ring.isSome && decide (t.stage = 1))) }
    let s := s.setCore c { x with paused := none, budget := none, next := none, nfetch := [] }
    [(x.paused, stOk), (x.budget, stRetired)].foldl (fun s e => match e.1 with
      | some id => s.endTask id e.2
      | none => s) s

/-- A tensor core retired (R451): the running task stops at the end of its TOD with the corrupt mark, the others of this tick are
cancelled, and the work moves at the next edge. A retired spare consumes SPARE_LEFT (R456). -/
def State.retireCore (s : State) (c cause : Nat) : State :=
  if s.reg (0x5000 + c) 1 = 2 then s
  else
    let spare := decide (s.reg (0x5000 + c) 1 = 1)
    let part := s.corePart c
    let goal := s.substTo c
    let was := s
    let s := (s.setReg (0x5000 + c) 1 2).setReg (0x8100 + c) 6 cause
    let x := s.core c
    let s := s.setCore c { x with stop := if x.task.isSome then 3 else 0 }
    let s := (x.task.toList ++ x.budget.toList).foldl (fun s id => s.modTask id (fun t => { t with corrupt := true })) s
    let s := (s.cancelOn c).putDown c
    let s := match part with
      | some p => if spare ∧ 0 < s.reg (0x2110 + p) 6 then s.setReg (0x2110 + p) 6 (s.reg (0x2110 + p) 6 - 1) else s
      | none => s
    ((s.claimFor goal c).moveLater c).recordRetire was 2 cause c part part (0x5000 + c) 1 goal

/-- The partition that holds an engine for an event: the lowest with a window on it (log 37). -/
def State.enginePart (s : State) (e : Nat) : Option Nat := partOf (fun p => (s.window p e).isSome)

/-- A Facet engine retired (R451). `r` is its RESOURCE. -/
def State.retireEngine (s : State) (r cause : Nat) : State :=
  if s.reg (0x6000 + r - 0x20) 1 = 1 then s
  else
    let goal := s.substTo r
    let part := s.enginePart (r - 0x20)
    let was := s
    let s := (s.setReg (0x6000 + r - 0x20) 1 1).setReg (0x8100 + r) 6 cause
    let s := { s with engines := s.engines.map (fun (e : Nat × EngSt) => if e.1 = r - 0x20 then (e.1, { e.2 with next := none }) else e) }
    let s := { s with tasks := s.tasks.map (fun (t : Task) =>
      if t.node.res = r ∧ t.stage = 2 then { t with stop := true, corrupt := true } else t) }
    ((s.cancelOn r).moveLater r).recordRetire was 3 cause r part none (0x6000 + r - 0x20) 1 goal

/-- Rows of a core that are withdrawn (OD 81uu.08): 2,560 for each sub-bank index with a retired sub-bank. -/
def State.withdrawnRows (s : State) (c : Nat) : Nat :=
  2560 * ((List.range 4).filter (fun sb => (List.range 32).any (fun b => bitOfBytes (s.blob (0x8100 + c) 7) (4 * b + sb)))).length

/-- A sub-bank of a core retired (R451): its rows are withdrawn at once, and the core's work moves at the next edge where a plan
binds a handle over one. -/
def State.retireSubBank (s : State) (c bank sub cause : Nat) : State :=
  let map := s.blob (0x8100 + c) 7
  if bitOfBytes map (4 * bank + sub) then s
  else
    let n := leNat (slice map 0 16) + 2 ^ (4 * bank + sub)
    let was := s
    let s := s.setBlob (0x8100 + c) 7 (leBytes 16 n)
    let s := s.setReg (0x8100 + c) 8 (s.withdrawnRows c)
    let bound := ((s.pad c).handles).any (fun h => h.2.bound &&
      (List.range h.2.count).any (fun i => s.rowWithdrawn c (h.2.base + i)))
    let goal := if bound then s.substTo c else 0xFFFFFFFF
    let s := if bound && (s.planOn c).isSome then (s.claimFor goal c).moveLater c else s
    s.recordRetire was 1 cause (128 * c + 4 * bank + sub) (s.corePart c) (s.corePart c) (0x8100 + c) 7 goal

/-- A unit of KIND `kind` and INDEX `index` of R453 retired. -/
def State.retireUnit (s : State) (kind index cause : Nat) : State :=
  if kind = 0 then s.retirePage index cause
  else if kind = 1 then s.retireSubBank (index / 128) (index / 4 % 32) (index % 4) cause
  else if kind = 2 then s.retireCore index cause
  else s.retireEngine index cause

/-- OD 81uu.05 of the unit that holds a store location raised by 1. -/
def State.countUnit (s : State) (kind index : Nat) : State :=
  if kind = 1 then s.bump 32 (0x8100 + index / 128) 5 1
  else if kind = 2 ∨ kind = 3 then s.bump 32 (0x8100 + index) 5 1
  else s

/-- A lasting error charged to a page, a sub-bank or an engine (R446): suspect, or retired where it was suspect from an earlier
tick. Answers whether it was retired. -/
def State.chargeUnit (s : State) (kind index : Nat) : State × Bool :=
  let s := s.countUnit kind index
  match s.faults.suspects.find? (fun x => decide (x.kind = kind) && decide (x.index = index)) with
  | some x =>
    if x.tick = s.tickCount then (s, false)
    else
      let left := s.faults.suspects.filter (fun y => decide (y ≠ x))
      let s := ({ s with faults := { s.faults with suspects := left } }).setReg 0x8001 2 left.length
      (s.retireUnit kind index 1, true)
  | none =>
    let now := s.faults.suspects ++ [{ kind := kind, index := index, tick := s.tickCount }]
    let now := keepLast 1024 now
    (({ s with faults := { s.faults with suspects := now } }).setReg 0x8001 2 now.length, false)

end Sys2Proof.Machine
end

