-- ==== Sys2Proof/Machine/Firm.lean ====
section
/-! DEFINITION. The firmware processors (15): the boot flash and its images, the start sequence, restarts, the log, crash dumps. -/

namespace Sys2Proof.Machine

/-! ### The boot flash and images (R382–R385) -/

/-- Bytes of the boot flash: a byte that nothing has programmed reads as erased (log 7). -/
def State.flashRead (s : State) (off len : Nat) : List Byte := kgets 0xFF#8 s.fw.flash off len

/-- Bytes programmed into the boot flash, erased first where they need it. -/
def State.flashWrite (s : State) (off : Nat) (bs : List Byte) : State :=
  { s with fw := { s.fw with flash := ksets 0xFF#8 s.fw.flash off bs } }

/-- The start of slot A (0) or B (1) (R382). -/
def slotBase (slot : Nat) : Nat := 0x10000 + 0x80000 * (slot % 2)

/-- Fields of an image header (R384). -/
def imTarget (b : List Byte) : Nat := fld (wordAt b 1) 7 0
def imKey (b : List Byte) : Nat := fld (wordAt b 1) 9 8
def imVersion (b : List Byte) : Nat := wordAt b 2
def imSvn (b : List Byte) : Nat := fld (wordAt b 3) 15 0
def imBody (b : List Byte) : Nat := wordAt b 4
def imDigest (b : List Byte) : List Byte := slice b 24 32

/-- Is BODY_LENGTH a multiple of 64 from 64 to 131,072? -/
def bodyOk (b : List Byte) : Bool := decide (imBody b % 64 = 0) && decide (64 ≤ imBody b) && decide (imBody b ≤ 131072)

/-- Bytes of a whole image with its signature. -/
def imLength (b : List Byte) : Nat := 128 + imBody b

/-- Are MAGIC, HEADER_CRC and the reserved fields right? -/
def imForm (b : List Byte) : Bool :=
  decide (wordAt b 0 = 0x474D4946) && decide (crc32 (slice b 0 60) = wordAt b 15) && bitsZero (wordAt b 1) 31 10
    && bitsZero (wordAt b 3) 31 16 && decide (wordAt b 14 = 0)

/-- Is a header one of a flash image: KEY_INDEX 0, and for a key manifest a body of four records (R384)? -/
def flashForm (b : List Byte) : Bool := imForm b && decide (imKey b = 0) && (decide (imTarget b ≠ 0x10) || decide (imBody b = 256))

/-- Are BODY_DIGEST and the signature under `pub` right? -/
def imSigned (pub b : List Byte) : Bool :=
  let n := 64 + imBody b
  decide (sha256 (slice b 64 (imBody b)) = imDigest b) && ecdsaVerify pub (sha256 (slice b 0 n)) (slice b n 64)

/-- The SVN floor of a TARGET in fuses, a number of SVN's 16 bits: a key manifest has none (R384, R391, R418). -/
def State.svnFloor (s : State) (target : Nat) : Nat :=
  if target ≤ 8 then max (Config.svnFloor target % 65536) (kget 0 s.fw.floors target) else 0

/-- The processor codes and images of the flash stage in the order of the checks: TARGET, offset in the slot, fault bit (R385). -/
def flashStage : List (Nat × Nat × Nat) := [(0x10, 0x1000, 2), (0, 0x10000, 3), (1, 0x40000, 4)]

/-- An image of a slot, as long as its header says. -/
def State.slotImage (s : State) (slot off : Nat) : List Byte :=
  let h := s.flashRead (slotBase slot + off) 64
  s.flashRead (slotBase slot + off) (if bodyOk h then imLength h else 64)

/-- What the ROM finds wrong with a slot (R385, steps 2 and 3): the bit of OD 2050.06 of its first failure, none where it passes. -/
def State.romSlot (s : State) (slot : Nat) : Option Nat :=
  let root := s.flashRead (slotBase slot) 64
  if sha256 root ≠ Config.rootKeyHash then some 1
  else
    flashStage.findSome? (fun e =>
      let b := s.slotImage slot e.2.1
      if !(bodyOk b && flashForm b && decide (imTarget b = e.1) && imSigned root b) then some e.2.2
      else if imSvn b < s.svnFloor e.1 then some 5
      else none)

/-- A directory copy with a valid DIR_CRC and MAGIC (R383): ACTIVE and GEN. -/
def State.dirCopy (s : State) (i : Nat) : Option (Nat × Nat) :=
  let b := s.flashRead (0x1000 * i) 64
  if wordAt b 0 = 0x52494446 ∧ crc32 (slice b 0 60) = wordAt b 15 then some (wordAt b 1 % 2, wordAt b 2) else none

/-- The slot that the directory names: the valid copy with the higher GEN, slot A where none is valid (R385, step 1). -/
def State.dirSlot (s : State) : Nat :=
  match s.dirCopy 0, s.dirCopy 1 with
  | some a, some b => if a.2 < b.2 then b.1 else a.1
  | some a, none => a.1
  | none, some b => b.1
  | none, none => 0

/-! ### Crash dumps (R398) -/

/-- A dump slot that was never used. -/
def dump0 : DumpSlot :=
  { proc := 0, cause := 0, dumpId := 0, tick := 0, version := 0, pc := 0, code := 0, size := 128, released := true, done := false }

/-- The slot for the next dump: the oldest released one, or the oldest one. -/
def State.dumpSlot (s : State) : Nat :=
  let age (i : Nat) : Nat := (kget dump0 s.fw.dumps i).dumpId
  let free := (List.range 4).filter (fun i => (kget dump0 s.fw.dumps i).released)
  let among := if free.isEmpty then List.range 4 else free
  among.foldl (fun a i => if age i < age a then i else a) (among.headD 0)

/-- The 64-byte header of a dump. -/
def dumpHeader (d : DumpSlot) (length boot : Nat) : List Byte :=
  let b := wordBytes [0x504D5544, d.proc + 256 * d.cause, d.dumpId, length] ++ leBytes 8 d.tick ++ leBytes 8 boot
    ++ wordBytes [d.version, d.pc, d.code] ++ zeros 16
  b ++ leBytes 4 (crc32 b)

/-- A signature by SEC's DICE alias key, whose layer holds what has been measured (R385, R386, R398, R417). -/
def State.aliasSign (s : State) (m : List Byte) : List Byte := slice (Config.aliasSign s.fw.layers m) 0 64

/-- The body of a dump of processor `x`: registers, control SRAM image and data, and the last 256 log entries that it wrote; registers and
data are free bytes, and so are their lengths (log 30). -/
def State.dumpBody (s : State) (x draw : Nat) : List Byte :=
  let image := slice (kget [] s.fw.running x) 64 (imBody (kget [] s.fw.running x))
  let log := (keepLast 256 (s.elog.entries.filter (fun e => decide (e.proc = x)))).flatMap logBytes
  let room := 1048576 - 128 - image.length - log.length
  let w := Config.freeBytes draw 8
  let n := wordAt w 0 % (room + 1)
  let regs := wordAt w 1 % (n + 1)
  slice (Config.freeBytes (draw + 1) n) 0 regs ++ image ++ slice (Config.freeBytes (draw + 1) n) regs (n - regs) ++ log

/-- The dump engine puts a crash dump into its slot, yet unsigned. Program counter and code are free (R392, R398; log 30). -/
def State.captureDump (s : State) (x cause : Nat) : State :=
  let i := s.dumpSlot
  let d := s.draw
  let w := Config.freeBytes d.1 8
  let n := s.reg 0x2055 4 + 1
  let body := d.2.dumpBody x (d.1 + 1)
  let e : DumpSlot := { proc := x, cause := cause, dumpId := n, tick := s.tickCount,
                        version := imVersion (kget [] s.fw.running x), pc := wordAt w 0, code := wordAt w 1,
                        size := 128 + body.length, released := false, done := false }
  let s := (d.2.draw.2.draw.2).ddrWrite (dumpArea i) (dumpHeader e e.size (s.reg 0x1000 7) ++ body)
  { s with fw := { s.fw with dumps := kput s.fw.dumps i e, dumpDue := kdel s.fw.dumpDue x } }.setReg 0x2055 4 n

/-- SEC signs the dump in slot `i`, where it is not signed yet: the event, and vector 6 (R398). -/
def State.signDump (s : State) (i : Nat) : State :=
  match klook s.fw.dumps i with
  | none => s
  | some e =>
    if e.done then s
    else
      let s := s.ddrWrite (dumpArea i + e.size - 64) (s.aliasSign (s.ddrRead (dumpArea i) (e.size - 64)))
      let s := { s with fw := { s.fw with dumps := kput s.fw.dumps i { e with done := true } } }
      (s.raiseEvent 0x91 none e.proc i e.dumpId 0).fire 0 6

/-- CRASH_DUMP_CAPTURED (R392, R398): the dump is in its slot, and signed, which waits while SEC restarts. -/
def execCrashDumpCaptured (t : Nat) (x : ProcId) (s : State) : Out :=
  whileLive t s fun s =>
    match klook s.fw.dumpDue x.val with
    | none => s
    | some cause =>
      let i := s.dumpSlot
      let s := s.captureDump x.val cause
      if s.proc 0 = 1 then s.signDump i else s

/-- A write of 1 to OD 2055.05: the selected slot is released. -/
def State.dumpReleaseOp (s : State) : State :=
  let i := s.reg 0x2055 1
  { s with fw := { s.fw with dumps := kput s.fw.dumps i { kget dump0 s.fw.dumps i with released := true } } }

/-- OD 2055.02: the header of the selected slot, zeros where it is empty. -/
def State.dumpHeaderValue (s : State) : List Byte :=
  match klook s.fw.dumps (s.reg 0x2055 1) with
  | some d => if d.done then s.ddrRead (dumpArea (s.reg 0x2055 1)) 64 else zeros 64
  | none => zeros 64

/-! ### Processors (R381, R392–R395) -/

/-- A processor serves its image: version, measurement, watchdog armed. -/
def State.procServe (s : State) (x : Nat) (image : List Byte) : State :=
  let s := ((s.setReg (0x2060 + x) 1 1).setReg 0x1001 (x + 1) (imVersion image)).setBlob (0x2060 + x) 7 (imDigest image)
  { s with fw := { s.fw with running := kput s.fw.running x image, watchdog := kput s.fw.watchdog x s.now } }

/-- Restarts of a processor within the 60 s up to its last one (R393). -/
def State.recentRestarts (s : State) (x : Nat) : Nat :=
  ((kget [] s.fw.restarts x).filter (fun c => decide (kget 0 s.fw.restartAt x < c + msCycles 60000))).length

/-- A processor restarts (R392): a cause for one that does not run is ignored. SCH leaves a COMMIT in admission undecided, with the
transaction open (R395). -/
def State.restartProc (s : State) (x cause : Nat) : State :=
  if s.proc x ≠ 1 then s
  else
    let s := ((s.setReg (0x2060 + x) 1 2).bump 32 (0x2060 + x) 2 1).setReg (0x2060 + x) 3 cause
    let s := { s with fw := { s.fw with
      restartAt := kput s.fw.restartAt x s.now, restarts := kmod [] s.fw.restarts x (· ++ [s.now]),
      watchdog := kdel s.fw.watchdog x,
      dumpDue := if cause = 1 ∨ cause = 2 then kput s.fw.dumpDue x cause else s.fw.dumpDue } }
    let s := if x = 2 then s.cutAdmission stBusy (retryPayload (restartMs 2)) (fun _ => true) else s
    s.raiseEvent 0x90 none x cause (s.reg (0x2060 + x) 2) (restartMs x)

/-- WATCHDOG_EXPIRY (R392): no kick for the watchdog period. -/
def execWatchdogExpiry (t : Nat) (x : ProcId) (s : State) : Out :=
  whileLive t s fun s =>
    match klook s.fw.watchdog x.val with
    | some w => if w + msCycles (wdtMs x.val) ≤ s.now then s.restartProc x.val 1 else s
    | none => s

/-- FIRMWARE_FAULT (R392): an exception, or an internal check that returns INTERNAL_ERROR. -/
def execFirmwareFault (t : Nat) (x : ProcId) (s : State) : Out := whileLive t s fun s => s.restartProc x.val 2

/-- PROCESSOR_FAILED (R393): the third restart within 60 s. -/
def execProcessorFailed (t : Nat) (x : ProcId) (s : State) : Out :=
  whileLive t s fun s =>
    if s.proc x.val = 2 ∧ 3 ≤ s.recentRestarts x.val then s.setReg (0x2060 + x.val) 1 3 else s

/-- Has the verified copy of an image in LPDDR5 still the BODY_DIGEST under which the image was loaded? SEC checks it before it releases the
processor (R392). -/
def State.copyGood (s : State) (x : Nat) : Bool :=
  let image := kget [] s.fw.images x
  decide (sha256 (slice (s.ddrRead (imageCopy x) image.length) 64 (imBody image)) = imDigest image)

/-- Does the reload of a processor pass: for SEC and PMC the ROM path of R385 on the slot that booted, else the check by a SEC that serves
(R392, R394)? -/
def State.reloadGood (s : State) (x : Nat) : Bool :=
  if x ≤ 1 then (s.romSlot (s.reg 0x2050 5)).isNone else decide (s.proc 0 = 1) && s.copyGood x

/-- The image that a restarted processor is reloaded with. -/
def State.reloadImage (s : State) (x : Nat) : List Byte :=
  if x ≤ 1 then s.slotImage (s.reg 0x2050 5) (if x = 0 then 0x10000 else 0x40000) else kget [] s.fw.images x

/-- What waited for processor `x` is done once it serves again: dumps are signed, handles of its cluster are bound (R394, R398). -/
def State.doDeferred (s : State) (x : Nat) : State :=
  let s := if x = 0 then (List.range 4).foldl State.signDump s else s
  let due := s.fw.bindDue.filter (fun b => decide (3 + b.1 / 8 = x))
  let bind (b : Nat × List Nat) : Nat × Nat × Nat × Nat × Nat × Nat × Nat :=
    (b.1, b.2.getD 0 0, b.2.getD 1 0, b.2.getD 2 0, b.2.getD 3 0, b.2.getD 4 0, b.2.getD 5 0)
  due.foldl (fun s b => s.bindHandle (bind b)) { s with fw := { s.fw with bindDue := s.fw.bindDue.filter (fun b => decide (3 + b.1 / 8 ≠ x)) } }

/-- PROCESSOR_RESTART_DONE (R392, R394): with the dump taken, the processor is reloaded, by SEC's check or by the ROM, and serves again. The
idle time of transactions has not run while SCH restarted (R84). -/
def execProcessorRestartDone (t : Nat) (x : ProcId) (s : State) : Out :=
  whileLive t s fun s =>
    let c := x.val
    if s.proc c = 2 ∧ s.recentRestarts c < 3 ∧ (klook s.fw.dumpDue c).isNone = true ∧ s.reloadGood c = true then
      let at' := kget 0 s.fw.restartAt c
      let image := s.reloadImage c
      let s := s.procServe c image
      let s := if c = 2 then
          { s with dict := { s.dict with txns := s.dict.txns.map (fun (t : Txn) => { t with lastCmd := s.now - (at' - t.lastCmd) }) } }
        else s
      (s.doDeferred c).trace c none 4
    else s

/-! ### The start sequence (R385–R390) -/

/-- The journal's START entry and a new BOOT_ID (R89). -/
def State.startJournal (s : State) : State :=
  let d := s.draw
  (d.2.setReg 0x1000 7 (Config.bootId d.1).toNat).journalAdd { d.2.entry0 9 with role := 4 }

/-- The bits of OD 2050.06 for the directory copies: copy 0 under slot A, copy 1 under slot B (log 31). -/
def State.dirFaults (s : State) : Nat := b2n (s.dirCopy 0).isNone + 256 * b2n (s.dirCopy 1).isNone

/-- The ROM's work: the slot that the directory names, else the other one; SEC and PMC run, BOOT_ID is drawn and PMC requests 720 mV.
Where both slots fail, RECOVERY (R385, R386, R468). -/
def State.romBoot (s : State) : State :=
  let a := s.dirSlot
  let fault (slot : Nat) : Nat := match s.romSlot slot with
    | some b => 2 ^ (b + 8 * slot)
    | none => 0
  let s := s.setReg 0x2050 6 s.dirFaults
  let s := s.setReg 0x2050 6 (s.reg 0x2050 6 + fault a)
  let boot := if fault a = 0 then some a else if fault (1 - a) = 0 then some (1 - a) else none
  let s := if fault a = 0 then s else s.setReg 0x2050 6 (s.reg 0x2050 6 + fault (1 - a))
  match boot with
  | none => s.setReg 0x2050 1 4
  | some b =>
    let s := (s.setReg 0x2050 5 b).setReg 0x2050 1 1
    let s := { s with fw := { s.fw with images := kput s.fw.images 0x10 (s.slotImage b 0x1000),
                                        layers := [imDigest (s.slotImage b 0x10000), imDigest (s.slotImage b 0x40000)] } }
    let s := (s.procServe 0 (s.slotImage b 0x10000)).procServe 1 (s.slotImage b 0x40000)
    let s := s.startJournal
    { s with avs := { s.avs with flight := some 720, second := false, sentAt := s.now } }.bump 64 0x2070 7 1

/-- ROM_RELEASE (R385): the ROM runs once after reset. -/
def execRomRelease (t : Nat) (s : State) : Out :=
  whileLive t s fun s => if s.reg 0x2050 1 = 0 then s.romBoot else s

/-- A record of the retirement list applied at boot (R453): no event and no journal entry, no new record. -/
def State.applyRecord (s : State) (b : List Byte) : State :=
  let kind := fld (leNat (slice b 0 1)) 3 0
  let cause := fld (leNat (slice b 0 1)) 7 4
  let index := leNat (slice b 1 5)
  if crc8 (slice b 0 7) ≠ leNat (slice b 7 1) ∨ 4 ≤ kind then s.bump 16 0x8010 5 1
  else
    let s := s.bump 16 0x8010 3 1
    if kind = 0 then
      let s := s.bump 32 0x8010 1 1
      if s.reg 0x8010 2 = 0 then { s with faults := { s.faults with withdrawn := kput s.faults.withdrawn index true } }
      else { s with faults := { s.faults with poolNext := s.faults.poolNext + 1 } }.setReg 0x8010 2 (s.reg 0x8010 2 - 1)
    else if kind = 1 then
      let c := index / 128 % 32
      let n := leNat (slice (s.blob (0x8100 + c) 7) 0 16)
      let s := s.setBlob (0x8100 + c) 7 (leBytes 16 (putBit n (index % 128) true))
      s.setReg (0x8100 + c) 8 (s.withdrawnRows c)
    else if kind = 2 then (s.setReg (0x5000 + index % 32) 1 2).setReg (0x8100 + index % 32) 6 cause
    else
      if isEngine index then (s.setReg (0x6000 + index - 0x20) 1 1).setReg (0x8100 + index) 6 cause else s

/-- The records of the list in flash, up to the first erased one (R453). -/
def listUpTo : Nat → List Byte → List (List Byte)
  | 0, _ => []
  | n + 1, b => if slice b 0 8 = List.replicate 8 0xFF#8 then [] else slice b 0 8 :: listUpTo n (b.drop 8)

/-- LPDDR5_TRAINING_DONE (R386, R412, R453, R489): the capacity found, memory filled with zeros, the list applied, LOADING. Where a
channel has failed three attempts, the start sequence stays at FLASH_UP until hardware reset. -/
def execLpddr5TrainingDone (t : Nat) (bytes : Nat) (channelsOk : Bool) (s : State) : Out :=
  whileLive t s fun s =>
    if s.reg 0x2050 1 ≠ 1 ∨ s.proc 1 ≠ 1 ∨ s.fw.noDdr = true then s
    else if channelsOk = true then
      let s := { s with ddr := [], fscratch := [] }.setReg 0x1002 7 bytes
      let s := s.setReg 0x3100 7 (s.capacityUsed / 67108864 - 4)
      let s := (listUpTo 8192 (s.flashRead 0x110000 65536)).foldl State.applyRecord s
      s.setReg 0x2050 1 2
    else { s with fw := { s.fw with noDdr := true } }

/-- Record `k` of the key manifest in force (R384). -/
def State.manifestKey (s : State) (k : Nat) : List Byte := slice (kget [] s.fw.images 0x10) (64 + 64 * k) 64

/-- The checks of a driver-loaded image in order (R389): OD 2051.04 and the status. -/
def State.loadCheck (s : State) (x off : Nat) : Nat × Nat :=
  let h := s.ddrRead (s.reg 0x2050 3 + off) 64
  let b := s.ddrRead (s.reg 0x2050 3 + off) (imLength h)
  if off % 4096 ≠ 0 ∨ 8388608 < off + 64 ∨ bodyOk h = false ∨ 8388608 < off + imLength h then (1, stOutOfRange)
  else if imForm h = false then (2, stBadEncoding)
  else if imTarget h ≠ x then (3, stBadEncoding)
  else if s.manifestKey (imKey h) = zeros 64 then (4, stAuthFailed)
  else if imSigned (s.manifestKey (imKey h)) b = false then (5, stAuthFailed)
  else if imSvn h < s.svnFloor x then (6, stOutOfRange)
  else (0, stOk)

/-- A write of OD 2051.01 (R389): the image is verified and installed. -/
def State.loadImageOp (s : State) (b : List Byte) : State × Nat :=
  let x := (b.getD 0 0).toNat
  let off := wordAt b 1
  let r := s.loadCheck x off
  let image := s.ddrRead (s.reg 0x2050 3 + off) (imLength (s.ddrRead (s.reg 0x2050 3 + off) 64))
  let s := (s.setReg 0x2051 3 r.2).setReg 0x2051 4 r.1
  if r.2 = stOk then
    let s := s.ddrWrite (imageCopy x) image
    ({ s with fw := { s.fw with images := kput s.fw.images x image, layers := s.fw.layers ++ [imDigest image] } }.setReg 0x2051 2 (putBit (s.reg 0x2051 2) x true), stOk)
  else (s, r.2)

/-- A write of OD 2050.02 (R389): with every image verified, the loaded processors are released. -/
def State.startOp (s : State) (v : Nat) : State × Nat :=
  if v ≠ 1 then (s, stOk)
  else if s.reg 0x2051 2 / 4 % 128 ≠ 127 then (s, stOutOfRange)
  else if s.reg 0x2050 1 ≠ 2 then (s, stOk)
  else ([2, 3, 4, 5, 6, 7, 8].foldl (fun s x => if s.proc x = 0 then s.procServe x (kget [] s.fw.images x) else s) s, stOk)

/-- SCH_FIRST_RUNS_IMAGE (R361, R387): SCH takes over the dictionary. -/
def execSchFirstRunsImage (t : Nat) (s : State) : Out :=
  whileLive t s fun s => if s.reg 0x2050 1 = 2 ∧ s.proc 2 = 1 then s.setReg 0x2050 1 3 else s

/-! ### Updating the flash stage (R391) -/

/-- TARGET and place in a slot of an image kind: 0 SEC, 1 PMC, 2 key manifest. -/
def updateTarget (kind : Nat) : Nat := if kind = 2 then 0x10 else kind
def updatePlace (kind : Nat) : Nat := if kind = 0 then 0x10000 else if kind = 1 then 0x40000 else 0x1000

/-- A staged image in the load area: a new root key block before a manifest, then the image (R391). -/
def State.updateParts (s : State) (kind off : Nat) : Option (List Byte) × List Byte :=
  let base := s.reg 0x2050 3 + off
  let h := s.ddrRead base 64
  if kind = 2 ∧ wordAt h 0 ≠ 0x474D4946 then
    (some h, s.ddrRead (base + 64) (imLength (s.ddrRead (base + 64) 64)))
  else (none, s.ddrRead base (imLength h))

/-- The root key under which a staged image is checked: a new block, the one written with a staged manifest, the slot's that
booted. -/
def State.updateRoot (s : State) (new : Option (List Byte)) : List Byte :=
  match new with
  | some b => b
  | none => (klook s.fw.update 3).getD (s.flashRead (slotBase (s.reg 0x2050 5)) 64)

/-- The checks of a staged image: as for a load (R389), under the root key and step 2 of R385 (log 32). -/
def State.updateCheck (s : State) (kind off : Nat) : Nat :=
  let p := s.updateParts kind off
  let b := p.2
  let root := s.updateRoot p.1
  if off % 4096 ≠ 0 ∨ bodyOk b = false ∨ 8388608 < off + imLength b + (if p.1.isSome then 64 else 0) then stOutOfRange
  else if flashForm b = false ∨ imTarget b ≠ updateTarget kind then stBadEncoding
  else if sha256 root ≠ Config.rootKeyHash ∨ imSigned root b = false then stAuthFailed
  else if imSvn b < s.svnFloor (updateTarget kind) then stOutOfRange
  else stOk

/-- A write of OD 2053.01 (R391): the image verified and written to the slot that did not boot. -/
def State.updateImageOp (s : State) (v : List Byte) : State × Nat :=
  let kind := (v.getD 0 0).toNat
  let off := wordAt v 1
  let st := s.updateCheck kind off
  if st ≠ stOk then (s.setReg 0x2053 3 4, st)
  else
    let p := s.updateParts kind off
    let base := slotBase (1 - s.reg 0x2050 5)
    let root := s.updateRoot p.1
    let s := (s.flashWrite (base + updatePlace kind) p.2)
    let s := if kind = 2 then s.flashWrite base root else s
    let u := kput (kput s.fw.update kind p.2) (0x40 + kind) p.2
    let u := match p.1 with
      | some r => kput u 3 r
      | none => u
    let s := { s with fw := { s.fw with update := u } }
    let whole := [0, 1, 2].all (fun k => (klook u k).isSome)
    (s.setReg 0x2053 3 (if whole then 2 else 1), stOk)

/-- A directory copy (R383). -/
def dirBytes (active gen : Nat) : List Byte :=
  let b := wordBytes [0x52494446, active, gen] ++ zeros 48
  b ++ leBytes 4 (crc32 b)

/-- The directory copy that is written first: the one with the lower GEN, one that is not valid before one that is; of equal ones either
(R383). -/
def State.dirFirst (s : State) : Nat :=
  match s.dirCopy 0, s.dirCopy 1 with
  | some a, some b => if a.2 < b.2 then 0 else if b.2 < a.2 then 1 else b2n (Config.freeBit s.free)
  | some _, none => 1
  | none, some _ => 0
  | none, none => b2n (Config.freeBit s.free)

/-- A write of OD 2053.02 (R391): the directory names the slot of the staged set, with GEN + 1 in both copies. -/
def State.updateCommitOp (s : State) (v : Nat) : State × Nat :=
  if v ≠ 1 then (s, stOk)
  else if [0, 1, 2].any (fun k => (klook s.fw.update k).isNone) then (s, stOutOfRange)
  else
    let gen := max (((s.dirCopy 0).map (fun e => e.2)).getD 0) (((s.dirCopy 1).map (fun e => e.2)).getD 0) + 1
    let d := dirBytes (1 - s.reg 0x2050 5) gen
    let first := s.dirFirst
    let s := { s with fw := { s.fw with dirWrite := some (s.now, first, s.flashRead (0x1000 * (1 - first)) 64) } }
    let s := ((s.flashWrite (0x1000 * first) d).flashWrite (0x1000 * (1 - first)) d).draw.2
    ({ s with fw := { s.fw with update := s.fw.update.filter (fun e => decide (3 < e.1)) } }.setReg 0x2053 3 3, stOk)

/-- The flash as a hardware reset finds it: a copy of the directory that is still being written is free bytes, and the one that follows it is
as before (R383). -/
def State.tornFlash (s : State) : State :=
  match s.fw.dirWrite with
  | none => s
  | some (c, first, old) =>
    let d := s.draw
    let part := slice (Config.freeBytes d.1 64) 0 64
    if s.now < c + Config.dirCycles then (d.2.flashWrite (0x1000 * first) part).flashWrite (0x1000 * (1 - first)) old
    else if s.now < c + 2 * Config.dirCycles then d.2.flashWrite (0x1000 * (1 - first)) part
    else d.2

/-- A write of OD 2053.04 (R391): each processor's SVN floor rises to the SVN of its running image. -/
def State.svnRaiseOp (s : State) : State :=
  let raise (m : KMap Nat) (x : Nat) : KMap Nat :=
    match klook s.fw.running x with
    | some b => kput m x (max (kget 0 m x) (imSvn b))
    | none => m
  { s with fw := { s.fw with floors := (List.range 9).foldl raise s.fw.floors } }

end Sys2Proof.Machine
end

