-- ==== Sys2Proof/Machine/Intake.lean ====
section
/-! DEFINITION. Ports and streams as other blocks see them: their state, the plan whose intake half runs, raw packing (R105), the
in-line window and the statistics view of target kind 6 (R267). -/

namespace Sys2Proof.Machine

/-- A port after hardware reset. -/
def port0 : PortSt :=
  { maps := [], headers := 0, work := [], ring := [], ringTick := 0, ringTop := 0, stalled := none, fsync := false, fsyncAt := 0,
    fsyncUp := false, early := [], term := false }

/-- Port `n`. -/
def State.port (s : State) (n : Nat) : PortSt := kget port0 s.ports n

/-- Port `n` set. -/
def State.setPort (s : State) (n : Nat) (x : PortSt) : State := { s with ports := kput s.ports n x }

/-- A stream after hardware reset. -/
def stream0 : StreamSt := { cur := none, late := [], fs := none, seen := false, missed := 0, h := 0 }

/-- Stream `st`. -/
def State.stream (s : State) (st : Nat) : StreamSt := kget stream0 s.streams st

/-- Stream `st` set. -/
def State.setStream (s : State) (st : Nat) (x : StreamSt) : State := { s with streams := kput s.streams st x }

/-- The plan of a partition whose intake half runs in this tick: CHANGEOVER or RUNNING (R27, R49, R50). -/
def State.intakePlan (s : State) (p : Nat) : Option Plan :=
  if s.planState p = 1 ∨ s.planState p = 2 ∨ s.planState p = 3 then (s.planSt p).cur else none

/-- The plan whose buffers and offsets a partition shows: that of the intake half, or the stopped plan in DRAINING (R37, R278). -/
def State.shownPlan (s : State) (p : Nat) : Option Plan :=
  if s.planState p ≠ 0 then (s.planSt p).cur else none

/-- The slot of a stream in the plan that takes its frames in. -/
def State.slotFor (s : State) (st : Nat) : Option Slot :=
  ((s.streamPart st).bind (fun p => s.intakePlan p)).map (fun pl => pl.slots.getD st (slotOf [] 0))

/-- Bits of a pixel of a slot: RAW10 or RAW12 (R44). -/
def Slot.bits (x : Slot) : Nat := if x.fmt = 0 then 10 else 12

/-- Bytes of a packed row (R105). -/
def packedBytes (bits w : Nat) : Nat := ceilDiv (w * bits) 8

/-- RAW_PITCH of a slot (R266). -/
def Slot.pitch (x : Slot) : Nat := ceilDiv (packedBytes x.bits x.width) 64 * 64

/-- Whole groups of a line in its CSI-2 packing: bytes of a group and pixels of a group. -/
def rawGroup (bits : Nat) : Nat × Nat := if bits = 10 then (5, 4) else (3, 2)

/-- The pixels of a line: an incomplete last group is lost (R105, R238). -/
def unpackRow (bits : Nat) (b : List Byte) : List Nat :=
  let g := rawGroup bits
  (List.range (b.length / g.1)).flatMap (fun k =>
    let x (i : Nat) : Nat := (b.getD (g.1 * k + i) 0).toNat
    if bits = 10 then (List.range 4).map (fun i => 4 * x i + x 4 / 4 ^ i % 4)
    else [16 * x 0 + x 2 % 16, 16 * x 1 + x 2 / 16])

/-- Pixels packed (R105). -/
def packRow (bits : Nat) (ps : List Nat) : List Byte :=
  let g := rawGroup bits
  (List.range (ceilDiv ps.length g.2)).flatMap (fun k =>
    let p (i : Nat) : Nat := ps.getD (g.2 * k + i) 0
    if bits = 10 then
      ((List.range 4).map (fun i => BitVec.ofNat 8 (p i / 4)))
        ++ [BitVec.ofNat 8 (p 0 % 4 + 4 * (p 1 % 4) + 16 * (p 2 % 4) + 64 * (p 3 % 4))]
    else [BitVec.ofNat 8 (p 0 / 16), BitVec.ofNat 8 (p 1 / 16), BitVec.ofNat 8 (p 0 % 16 + 16 * (p 1 % 16))])

/-- The in-line stream of a port and its slot, where the plan that takes in names one (R23). -/
def State.inlineOf (s : State) (n : Nat) : Option (Nat × Slot) :=
  match (s.portPart n).bind (fun p => s.shownPlan p) with
  | none => none
  | some pl => if pl.inlineEn ∧ pl.inlineStream / 4 = n then some (pl.inlineStream, pl.slots.getD pl.inlineStream (slotOf [] 0)) else none

/-- Bytes of the in-line ring at the top of a port's line memory: 32 rows (R267). -/
def State.ringBytes (s : State) (n : Nat) : Nat :=
  match s.inlineOf n with
  | some x => 32 * x.2.pitch
  | none => 0

/-- The size of a port's kind-6 space as descriptors may use it (R199, R267). -/
def State.kind6Size (s : State) (n : Nat) : Nat :=
  match s.inlineOf n with
  | some x => 0x1000000 + (x.2.height + 64) * x.2.pitch
  | none => 0x800000 + 4 * 8192

/-- The source row of window row `r` of a frame of height `h`: reflected about the edge rows (R264, R267). -/
def reflectRow (h : Nat) (r : Int) : Nat :=
  if r < 0 then (-r).toNat else if (h : Int) ≤ r then 2 * (h - 1) - r.toNat else r.toNat

/-- The frame of a stream in intake in this tick. -/
def State.intakeFrame (s : State) (st tick : Nat) : Option Frame :=
  let x := s.stream st
  (x.late ++ x.cur.toList).find? (fun f => decide (f.tick = tick))

/-- Is the glint check of a stream's frame of intake tick `tick` still to be latched (R249)? -/
def State.glintOpen (s : State) (st tick : Nat) : Bool :=
  let x := s.stream st
  (x.late ++ x.cur.toList).any (fun f => decide (f.tick = tick) && (decide (f.glint = 1) || decide (f.glint = 2)))

/-- The streams whose frames reach a node of a plan: its own and those of the nodes before it. -/
def Plan.streamsOf (pl : Plan) (n : Nat) : List Nat :=
  let ns := (List.range (n + 1)).reverse.foldl (fun ns k => if k ∈ ns then ns ++ (planNode pl k).preds else ns) [n]
  (ns.filter (fun k => (planNode pl k).bound)).map (fun k => (planNode pl k).stream)

/-- Does an output wait for the glint check of a frame that reaches it (R25)? -/
def State.outputHeld (s : State) (t : Task) : Bool :=
  decide (t.node.kind = 10) && decide (t.node.phase = 5) && ((t.node.bound && s.glintOpen t.node.stream (t.tick - 1))
    || (match s.taskPlan t with
        | some pl => (pl.streamsOf t.num).any (fun st => s.glintOpen st (t.tick - 1))
        | none => false))

/-- The place in the in-line ring of row `y` of the frame of intake tick `tick`. -/
def ringKey (tick y : Nat) : Nat := 1048576 * tick + y

/-- The expected height of the in-line frame of intake tick `tick`: the latest one, or that of the tick before, which a late node still
reads (R265, R268). -/
def State.ringHeight (s : State) (n tick : Nat) : Nat :=
  let p := s.port n
  if tick = p.ringTick then p.ringTop
  else ((s.inlineOf n).bind (fun x => (klook s.frames x.1).map (fun f => f.h))).getD p.ringTop

/-- What a read of kind 6 meets: it waits, or bytes; none where the manual gives no content (the line memory itself). -/
inductive View where
  | waits
  | bytes (b : List Byte)
  | free
  deriving DecidableEq, Repr

/-- A read of `len` bytes of a port's kind-6 space for a task of tick `tick` (R267). -/
def State.view6 (s : State) (n tick off len : Nat) : View :=
  if off < 0x40000 then .free
  else if off < 0x1000000 then
    (let st := 4 * n + (off - 0x800000) / 8192 % 4
     match s.intakeFrame st tick with
     | some f => if f.record then .bytes (slice (s.blob (stIdx st 0x0B) 5) (off % 8192) len) else .waits
     | none =>
       -- The frame has left the intake with its record and its glint check done.
       let b := s.blob (stIdx st 0x0B) 5
       if b.length = 7232 ∧ leNat (slice b 8 8) = tick then .bytes (slice b (off % 8192) len) else .waits)
  else
    match s.inlineOf n with
    | none => .waits
    | some x =>
      let p := s.port n
      let pitch := max 1 x.2.pitch
      let r : Int := ((off - 0x1000000) / pitch : Nat) - 32
      match klook p.ring (ringKey tick (reflectRow (s.ringHeight n tick) r)) with
      | some row => .bytes (slice row ((off - 0x1000000) % pitch) len)
      | none => .waits

end Sys2Proof.Machine
end

