-- ==== Sys2Proof/Machine/Float.lean ====
section
/-! DEFINITION. The number formats of the tensor cores (04 R97–R110): exact values, decoding, one rounding, saturation, and the
arithmetic of the array and the vector unit over them. -/

namespace Sys2Proof.Machine

/-- A value: not a number, an infinity, or sign × m × 2^e exactly. -/
inductive FV where
  | nan
  | inf (neg : Bool)
  | fin (neg : Bool) (m : Nat) (e : Int)
  deriving DecidableEq, Repr

/-- A floating-point format (R99): exponent bits, mantissa bits, bias, and whether it is FP8-E4M3, which has no infinity. -/
structure FFmt where
  eb   : Nat
  mb   : Nat
  bias : Int
  e4m3 : Bool
  deriving DecidableEq, Repr

/-- The floating-point format of a FMT code (R97, R99). -/
def ffmt (f : Nat) : FFmt :=
  if f = 6 then ⟨4, 3, 7, true⟩
  else if f = 7 then ⟨5, 2, 15, false⟩
  else if f = 8 then ⟨5, 10, 15, false⟩
  else if f = 9 then ⟨8, 7, 127, false⟩
  else ⟨8, 23, 127, false⟩

/-- Bits per element (R97). -/
def fmtBits (f : Nat) : Nat :=
  if f = 0 then 4 else if f = 1 ∨ f = 2 ∨ f = 6 ∨ f = 7 then 8 else if f = 3 ∨ f = 4 ∨ f = 8 ∨ f = 9 then 16
  else if f = 5 ∨ f = 10 then 32 else if f = 11 then 8 else if f = 12 then 4 else if f = 13 then 10 else 12

/-- Is the code an integer format, a floating-point format (R97)? -/
def isIntFmt (f : Nat) : Bool := decide (f ≤ 5)
def isFloatFmt (f : Nat) : Bool := decide (6 ≤ f) && decide (f ≤ 10)
/-- BS8 and BS4; RAW10 and RAW12. -/
def isBsFmt (f : Nat) : Bool := decide (f = 11) || decide (f = 12)
def isRawFmt (f : Nat) : Bool := decide (f = 13) || decide (f = 14)

/-- The range of an integer format (R98). -/
def intLo (f : Nat) : Int :=
  if f = 0 then -8 else if f = 1 then -128 else if f = 3 then -32768 else if f = 5 then -2147483648 else 0
def intHi (f : Nat) : Int :=
  if f = 0 then 7 else if f = 1 then 127 else if f = 2 then 255 else if f = 3 then 32767 else if f = 4 then 65535 else 2147483647

/-- The integer that the bits of an integer format hold (R98). -/
def intVal (f bits : Nat) : Int := if f = 2 ∨ f = 4 then (bits : Int) else sgn (fmtBits f) bits

/-- The arithmetic flags of R117. -/
def fAccSat : Nat := 1
def fOutSat : Nat := 2
def fNan : Nat := 4
def fInf : Nat := 8

/-- Flags joined. -/
def orF (a b : Nat) : Nat := Nat.lor a b

/-- The value of the bits of a floating-point format (R99). -/
def fdec (k : FFmt) (bits : Nat) : FV :=
  let neg := bits.testBit (k.eb + k.mb)
  let ex := bits / 2 ^ k.mb % 2 ^ k.eb
  let man := bits % 2 ^ k.mb
  if ex = 2 ^ k.eb - 1 ∧ k.e4m3 = false then (if man = 0 then .inf neg else .nan)
  else if k.e4m3 = true ∧ ex = 15 ∧ man = 7 then .nan
  else if ex = 0 then .fin neg man (1 - k.bias - k.mb)
  else .fin neg (2 ^ k.mb + man) (ex - k.bias - k.mb)

/-- The canonical NaN of a format (R100). -/
def canonNan (k : FFmt) : Nat :=
  if k.e4m3 then 0x7F else (2 ^ k.eb - 1) * 2 ^ k.mb + 2 ^ (k.mb - 1)

/-- The infinity of a format. -/
def infBits (k : FFmt) (neg : Bool) : Nat := (2 ^ k.eb - 1) * 2 ^ k.mb + b2n neg * 2 ^ (k.eb + k.mb)

/-- The largest finite magnitude of a format as bits (R99). -/
def maxBits (k : FFmt) (neg : Bool) : Nat :=
  (if k.e4m3 then 0x7E else (2 ^ k.eb - 1) * 2 ^ k.mb - 1) + b2n neg * 2 ^ (k.eb + k.mb)

/-- `m × 2^e` as a whole number, rounded under RND (R107): `m × 2^e` is at least 0. 0 nearest even, 1 nearest away, 2 toward
zero. -/
def roundNat (rnd m : Nat) (e : Int) : Nat :=
  if 0 ≤ e then m * 2 ^ e.toNat
  else
    let d := 2 ^ (-e).toNat
    let q := m / d
    let r := m % d
    if rnd = 2 then q
    else if d < 2 * r then q + 1
    else if 2 * r < d then q
    else if rnd = 1 then q + 1
    else q + q % 2

/-- `m × 2^e` rounded to a format: mantissa and quantum exponent, `none` beyond the largest finite value. -/
def fround (k : FFmt) (rnd m : Nat) (e : Int) : Option (Nat × Int) :=
  if m = 0 then some (0, 1 - k.bias - k.mb)
  else
    let msb : Int := (Nat.log2 m : Int) + e
    let q0 : Int := max (msb - k.mb) (1 - k.bias - k.mb)
    let n := roundNat rnd m (e - q0)
    let n' := if 2 ^ (k.mb + 1) ≤ n then n / 2 else n
    let q := if 2 ^ (k.mb + 1) ≤ n then q0 + 1 else q0
    let ex : Int := q + k.bias + k.mb
    let top : Int := if k.e4m3 then 15 else 2 ^ k.eb - 2
    if top < ex ∨ (k.e4m3 = true ∧ ex = 15 ∧ n' = 15) then none else some (n', q)

/-- Bits of a rounded finite value. -/
def fpack (k : FFmt) (neg : Bool) (x : Nat × Int) : Nat :=
  let s := b2n neg * 2 ^ (k.eb + k.mb)
  if x.1 < 2 ^ k.mb then s + x.1
  else s + (x.2 + k.bias + k.mb).toNat * 2 ^ k.mb + (x.1 - 2 ^ k.mb)

/-- A value converted to a floating-point format under RND and SATF, with its flags (R100, R107, R108). -/
def fenc (k : FFmt) (rnd : Nat) (satf : Bool) : FV → Nat × Nat
  | .nan => (canonNan k, fNan)
  | .inf neg =>
    if satf then (maxBits k neg, fOutSat)
    else if k.e4m3 then (canonNan k, fNan)
    else (infBits k neg, fInf)
  | .fin neg m e =>
    match fround k rnd m e with
    | some x => (fpack k neg x, 0)
    | none =>
      if satf then (maxBits k neg, fOutSat)
      else if k.e4m3 then (canonNan k, fNan)
      else (infBits k neg, fInf)

/-- FP32. -/
def f32 : FFmt := ⟨8, 23, 127, false⟩

/-- A value rounded once to FP32, to nearest even (R106, R110): overflow gives an infinity and INF_SEEN. -/
def to32 (v : FV) : FV × Nat :=
  let x := fenc f32 0 false v
  (fdec f32 x.1, x.2)

/-- The exact sum of two finite values, as an integer over a common exponent. -/
def fsum (n1 : Bool) (m1 : Nat) (e1 : Int) (n2 : Bool) (m2 : Nat) (e2 : Int) : FV :=
  let e := min e1 e2
  let a : Int := (if n1 then -1 else 1) * ((m1 * 2 ^ (e1 - e).toNat : Nat) : Int)
  let b : Int := (if n2 then -1 else 1) * ((m2 * 2 ^ (e2 - e).toNat : Nat) : Int)
  let c := a + b
  .fin (if c = 0 then n1 && n2 else decide (c < 0)) c.natAbs e

/-- The exact sum. -/
def fvAdd : FV → FV → FV
  | .nan, _ => .nan
  | _, .nan => .nan
  | .inf a, .inf b => if a = b then .inf a else .nan
  | .inf a, _ => .inf a
  | _, .inf b => .inf b
  | .fin n1 m1 e1, .fin n2 m2 e2 => fsum n1 m1 e1 n2 m2 e2

/-- The exact product. -/
def fvMul : FV → FV → FV
  | .nan, _ => .nan
  | _, .nan => .nan
  | .inf a, .inf b => .inf (a != b)
  | .inf a, .fin n m _ => if m = 0 then .nan else .inf (a != n)
  | .fin n m _, .inf b => if m = 0 then .nan else .inf (n != b)
  | .fin n1 m1 e1, .fin n2 m2 e2 => .fin (n1 != n2) (m1 * m2) (e1 + e2)

/-- The negated value. -/
def fvNeg : FV → FV
  | .nan => .nan
  | .inf a => .inf (!a)
  | .fin n m e => .fin (!n) m e

/-- The magnitude. -/
def fvAbs : FV → FV
  | .nan => .nan
  | .inf _ => .inf false
  | .fin _ m e => .fin false m e

/-- Is the first value above the second? False with a NaN. -/
def fvGt (a b : FV) : Bool :=
  match fvAdd a (fvNeg b) with
  | .fin n m _ => !n && decide (m ≠ 0)
  | .inf n => !n
  | .nan =>
    match a, b with
    | .inf false, .inf true => true
    | _, _ => false

/-- Is it a NaN? -/
def fvIsNan : FV → Bool
  | .nan => true
  | _ => false

/-- An integer as a value. -/
def fvInt (i : Int) : FV := .fin (decide (i < 0)) i.natAbs 0

/-- A value converted to an integer format: rounded under RND, saturated with OUT_SAT; a NaN gives 0 (R100, R108). -/
def fvToInt (f rnd : Nat) : FV → Int × Nat
  | .nan => (0, fNan)
  | .inf neg => (if neg then intLo f else intHi f, fOutSat)
  | .fin neg m e =>
    let r : Int := (if neg then -1 else 1) * (roundNat rnd m e : Int)
    if r < intLo f then (intLo f, fOutSat) else if intHi f < r then (intHi f, fOutSat) else (r, 0)

/-- An integer saturated into a format, with OUT_SAT (R109). -/
def satInt (f : Nat) (i : Int) : Int × Nat :=
  if i < intLo f then (intLo f, fOutSat) else if intHi f < i then (intHi f, fOutSat) else (i, 0)

/-- An INT32 sum, saturating with ACC_SAT (R106). -/
def satAcc (i : Int) : Int × Nat :=
  if i < -2147483648 then (-2147483648, fAccSat) else if 2147483647 < i then (2147483647, fAccSat) else (i, 0)

/-- The shift with rounding of R109: floor and remainder. -/
def roundShift (p : Int) (sh rnd : Nat) : Int :=
  if sh = 0 then p
  else
    let d : Int := 2 ^ sh
    let q := p / d
    let rem := p % d
    let half : Int := 2 ^ (sh - 1)
    if rnd = 2 then (if p < 0 ∧ rem ≠ 0 then q + 1 else q)
    else if half < rem then q + 1
    else if rem < half then q
    else if rnd = 0 then q + q % 2
    else if p < 0 then q else q + 1

/-- The scaled value of R109 before the zero point: saturated sum with the bias, multiplied, shifted. -/
def requantCore (acc bias qmult : Int) (qshift rnd : Nat) : Int × Nat :=
  let x := satAcc (acc + bias)
  (roundShift (x.1 * qmult) qshift rnd, x.2)

/-- Requantisation of R109. -/
def requant (f : Nat) (acc bias qmult : Int) (qshift : Nat) (zp : Int) (rnd : Nat) : Int × Nat :=
  let r := requantCore acc bias qmult qshift rnd
  let y := satInt f (r.1 + zp)
  (y.1, orF r.2 y.2)

/-! ### Sums whose order is not fixed (R111) -/

/-- Is `|a| ≤ |b| × n / 2^24`, for finite values? -/
def withinUlp (a b : FV) (n : Nat) : Bool :=
  match a, b with
  | .fin _ m1 e1, .fin _ m2 e2 =>
    let e := min e1 (e2 - 24)
    decide (m1 * 2 ^ (e1 - e).toNat ≤ m2 * n * 2 ^ (e2 - 24 - e).toNat)
  | _, _ => false

/-- The sum in the order given, each addition rounded to FP32 (R106). -/
def seqSum (xs : List FV) (acc : FV) : FV × Nat :=
  xs.foldl (fun a x => let y := to32 (fvAdd a.1 x); (y.1, orF a.2 y.2)) (acc, 0)

/-- Values added two at a time, each addition rounded to FP32, in the order that the number `n` picks, for `fuel` additions at most. -/
def pickSum : Nat → Nat → List FV → Nat → FV × Nat
  | 0, _, xs, fl => (xs.headD (.fin false 0 0), fl)
  | fuel + 1, n, xs, fl =>
    if xs.length ≤ 1 then (xs.headD (.fin false 0 0), fl)
    else
      let i := n % xs.length
      let rest := xs.eraseIdx i
      let j := n / xs.length % rest.length
      let y := to32 (fvAdd (xs.getD i (.fin false 0 0)) (rest.getD j (.fin false 0 0)))
      pickSum fuel (n / xs.length / rest.length) (y.1 :: rest.eraseIdx j) (orF fl y.2)

/-- An FP32 accumulation (R106): its additions are rounded to nearest even, and their order is not fixed (R111), so the order is a free
value. A single term is added to the accumulator. `draw` is the number of the free value. -/
def freeSum (draw : Nat) (acc : FV) (xs : List FV) : FV × Nat :=
  if xs.length ≤ 1 then seqSum xs acc else pickSum xs.length (Config.freeNat draw) (acc :: xs) 0

/-! ### RECIP, RSQRT and EXP (R111, R123) -/

/-- e^x for `x = ± m × 2^e` with `|x| < 128`, as `n × 2^-160`: reduced by 2^12, summed, and squared twelve times. -/
def expFix (neg : Bool) (m : Nat) (e : Int) : Nat :=
  let one : Nat := 2 ^ 160
  let x : Nat := roundNat 2 m (e + 160 - 12)
  let term := (List.range 24).foldl (fun (a : Nat × Nat × Nat) i =>
      let t := a.1 * x / one / (i + 1)
      (t, if i % 2 = 0 then a.2.1 + t else a.2.1, if i % 2 = 0 then a.2.2 else a.2.2 + t)) (one, 0, 0)
  let y := if neg then one + term.2.2 - term.2.1 else one + term.2.2 + term.2.1
  (List.range 12).foldl (fun y _ => y * y / one) y

/-- Is `a` within 2^-20 of `b`, relative to `b`? -/
def near20 (a b : FV) : Bool := withinUlp (fvAdd a (fvNeg b)) b 16

/-- RECIP of `m × 2^e` to 2^-40, as a value. -/
def recipVal (neg : Bool) (m : Nat) (e : Int) : FV :=
  let sh := 64 + Nat.log2 m
  .fin neg (2 ^ sh / m) (-e - sh)

/-- RSQRT of `m × 2^e` to 2^-40, as a value. -/
def rsqrtVal (m : Nat) (e : Int) : FV :=
  let m' := if e % 2 = 0 then m else 2 * m
  let e' := if e % 2 = 0 then e else e - 1
  let sh := 2 * (80 + Nat.log2 m')
  .fin false (Nat.sqrt (2 ^ sh / m')) (-(e' / 2) - (sh / 2 : Nat))

/-- EXP of a finite value, as a value. -/
def expVal (neg : Bool) (m : Nat) (e : Int) : FV :=
  if m ≠ 0 ∧ 7 ≤ (Nat.log2 m : Int) + e then (if neg then .fin false 0 0 else .fin false 1 200)
  else .fin false (expFix neg m e) (-160)

/-- The result of a unary function near an exact value: the die's own value where it lies within 2^-20 of it, else the exact
value rounded (R111). -/
def unaryNear (op bits : Nat) (exact : FV) : FV × Nat :=
  let cand := fdec f32 (Config.unaryValue op bits % 2 ^ 32)
  if near20 cand exact then (cand, 0) else to32 exact

/-- A value that the manual does not state: free, the same for the same input on every core (R111). -/
def unaryFree (op bits : Nat) : FV × Nat := (fdec f32 (Config.unaryValue op bits % 2 ^ 32), 0)

/-- RECIP, RSQRT and EXP (0x10, 0x11, 0x12 of R123) of FP32 bits. -/
def unaryOp (op bits : Nat) : FV × Nat :=
  match fdec f32 bits with
  | .nan => (.nan, fNan)
  | .inf neg =>
    if op = 0x12 then (if neg then (.fin false 0 0, 0) else (.inf false, fInf))
    else if op = 0x11 ∧ neg = true then (.nan, fNan)
    else (.fin neg 0 0, 0)
  | .fin neg m e =>
    if op = 0x12 then unaryNear op bits (expVal neg m e)
    else if m = 0 then unaryFree op bits
    else if op = 0x10 then unaryNear op bits (recipVal neg m e)
    else if neg then (.nan, fNan)
    else unaryNear op bits (rsqrtVal m e)

end Sys2Proof.Machine
end

