-- ==== Sys2Proof/Machine/TodFormat.lean ====
section
/-! DEFINITION. Tile-operation descriptors: their fields, the checks at load (R112–R115 and the tables of each TYPE), the tensor
layouts of 06 (R153–R162) and the uncontended cycle counts. -/

namespace Sys2Proof.Machine

/-- Field [hi:lo] of word `i` of a 64-byte descriptor. -/
def df (b : List Byte) (i hi lo : Nat) : Nat := fld (wordAt b i) hi lo

/-- TYPE, LAST, SATF, RND, TOD_SEQ (R112). -/
def todType (b : List Byte) : Nat := df b 0 7 0
def todLast (b : List Byte) : Bool := (wordAt b 0).testBit 8
def todSatf (b : List Byte) : Bool := (wordAt b 0).testBit 9
def todRnd (b : List Byte) : Nat := df b 0 11 10
def todSeq (b : List Byte) : Nat := df b 0 31 16

/-- Handle of an operand: 0 DST, 1 A, 2 B, 3 C; its USE bit; its expected generation (R112). -/
def todHandle (b : List Byte) (o : Nat) : Nat := df b 1 (6 * o + 5) (6 * o)
def todUse (b : List Byte) (o : Nat) : Bool := (wordAt b 1).testBit (24 + o)
def todGen (b : List Byte) (o : Nat) : Nat :=
  if o = 0 then df b 2 11 0 else if o = 1 then df b 2 23 12 else if o = 2 then df b 3 11 0 else df b 3 23 12

/-- Is every word from `i` to `j` zero? -/
def dz (b : List Byte) (i j : Nat) : Bool := (List.range (j + 1 - i)).all (fun k => decide (wordAt b (i + k) = 0))

/-- Is the field zero? -/
def fz (b : List Byte) (i hi lo : Nat) : Bool := decide (df b i hi lo = 0)

/-- Kc of an operand pair of R95; 0 for any other pair. -/
def pairKc (a b : Nat) : Nat :=
  if (a = 1 ∨ a = 2) ∧ (b = 1 ∨ b = 0) then 128
  else if a = 0 ∧ b = 0 then 256
  else if (a = 6 ∨ a = 7) ∧ (b = 6 ∨ b = 7) then 128
  else if a = 11 ∧ b = 11 then 128
  else if a = 12 ∧ b = 12 then 256
  else if a = 8 ∧ b = 8 then 64
  else if a = 9 ∧ b = 9 then 64
  else if a = 10 ∧ b = 10 then 8
  else 0

/-- Rows of a weight tile, scale rows included (R121, R157). -/
def tileRows (a b : Nat) : Nat :=
  if b = 11 ∨ b = 12 then 34 else if b = 0 ∧ a ≠ 0 then 16 else if b = 10 then 8 else 32

/-- Does the pair accumulate in INT32 (R95)? -/
def pairInt (a : Nat) : Bool := decide (a ≤ 2)

/-- MATMUL's fields (R118). -/
structure Matmul where
  m     : Nat
  n     : Nat
  k     : Nat
  aFmt  : Nat
  bFmt  : Nat
  dFmt  : Nat
  perCol : Bool
  cEn   : Bool
  accIn : Bool
  aOff  : Nat
  bOff  : Nat
  dOff  : Nat
  cOff  : Nat
  aLd   : Nat
  dLd   : Nat
  zpA   : Int
  zpOut : Int
  act   : Nat
  deriving DecidableEq, Repr

/-- MATMUL read from its words. -/
def matmulOf (b : List Byte) : Matmul :=
  { m := df b 4 15 0, n := df b 4 31 16, k := df b 5 15 0, aFmt := df b 5 19 16, bFmt := df b 5 23 20, dFmt := df b 5 27 24,
    perCol := (wordAt b 5).testBit 28, cEn := (wordAt b 5).testBit 29, accIn := (wordAt b 5).testBit 30,
    aOff := df b 6 19 0, bOff := df b 7 19 0, dOff := df b 8 19 0, cOff := df b 9 19 0, aLd := df b 10 15 0,
    dLd := df b 10 31 16, zpA := if df b 5 19 16 = 2 then (df b 11 7 0 : Int) else 0, zpOut := sgn 8 (df b 11 15 8),
    act := df b 11 19 16 }

/-- CONV's fields (R168). -/
structure Conv where
  inH   : Nat
  inW   : Nat
  inC   : Nat
  n     : Nat
  outH  : Nat
  outW  : Nat
  inY0  : Int
  inX0  : Int
  outY0 : Nat
  outX0 : Nat
  obH   : Nat
  obW   : Nat
  fh    : Nat
  fw    : Nat
  sy    : Nat
  sx    : Nat
  dy    : Nat
  dx    : Nat
  inFmt : Nat
  wFmt  : Nat
  dFmt  : Nat
  perCol : Bool
  cEn   : Bool
  act   : Nat
  keep  : Nat
  bOff  : Nat
  zpA   : Int
  cOff  : Nat
  zpOut : Int
  deriving DecidableEq, Repr

/-- CONV read from its words. -/
def convOf (b : List Byte) : Conv :=
  { inH := df b 4 15 0, inW := df b 4 31 16, inC := df b 5 15 0, n := df b 5 31 16, outH := df b 6 15 0, outW := df b 6 31 16,
    inY0 := sgn 16 (df b 7 15 0), inX0 := sgn 16 (df b 7 31 16), outY0 := df b 8 15 0, outX0 := df b 8 31 16,
    obH := df b 9 8 0, obW := df b 9 17 9, fh := df b 9 21 18, fw := df b 9 25 22, sy := df b 9 27 26 + 1,
    sx := df b 9 29 28 + 1, dy := df b 10 1 0 + 1, dx := df b 10 3 2 + 1, inFmt := df b 10 7 4, wFmt := df b 10 11 8,
    dFmt := df b 10 15 12, perCol := (wordAt b 10).testBit 16, cEn := (wordAt b 10).testBit 17, act := df b 10 21 18,
    keep := df b 10 26 22, bOff := df b 11 19 0, zpA := if df b 10 7 4 = 2 then (df b 11 27 20 : Int) else 0,
    cOff := df b 12 19 0, zpOut := sgn 8 (df b 12 27 20) }

/-- The input region of a CONV block (R171). -/
def convRows (c : Conv) : Nat := (c.obH - 1) * c.sy + (c.fh - 1) * c.dy + 1
def convCols (c : Conv) : Nat := (c.obW - 1) * c.sx + (c.fw - 1) * c.dx + 1

/-- Channels per block of a blocked layout (R156). -/
def layCb (layout : Nat) : Nat := if layout = 5 ∨ layout = 7 then 32 else 16

/-- IN_C rounded up to the block of the input layout (R169). -/
def convCp (c : Conv) (layout : Nat) : Nat := ceilDiv c.inC (layCb layout) * layCb layout

/-- A region copied between tensors: LAYOUT_LOAD, LAYOUT_STORE (R164) and re-shard entries (R176). -/
structure Move where
  fmt   : Nat
  transpose : Bool
  srcL  : Nat
  dstL  : Nat
  srcH  : Nat
  srcW  : Nat
  srcC  : Nat
  srcP  : Nat
  dstH  : Nat
  dstW  : Nat
  dstC  : Nat
  dstP  : Nat
  sy    : Int
  sx    : Int
  sc    : Nat
  dy    : Nat
  dx    : Nat
  dc    : Nat
  eh    : Nat
  ew    : Nat
  ec    : Nat
  deriving DecidableEq, Repr

/-- The move of a LAYOUT TOD, with the layouts of its two sides. -/
def layoutOf (b : List Byte) (srcL dstL : Nat) : Move :=
  { fmt := df b 4 3 0, transpose := (wordAt b 4).testBit 10, srcL := srcL, dstL := dstL, srcH := df b 5 15 0,
    srcW := df b 5 31 16, srcC := df b 6 15 0, srcP := df b 6 31 16, dstH := df b 7 15 0, dstW := df b 7 31 16,
    dstC := df b 8 15 0, dstP := df b 8 31 16, sy := sgn 16 (df b 9 15 0), sx := sgn 16 (df b 9 31 16), sc := df b 10 15 0,
    dc := df b 10 31 16, dy := df b 11 15 0, dx := df b 11 31 16, eh := df b 12 15 0, ew := df b 12 31 16, ec := df b 13 15 0 }

/-- REMOTE, REMOTE_CORE, REMOTE_LAYOUT (R164). -/
def layRemote (b : List Byte) : Bool := (wordAt b 4).testBit 4
def layCore (b : List Byte) : Nat := df b 4 9 5
def layRLayout (b : List Byte) : Nat := df b 4 23 16

/-- The kinds of layout: ROWS or PLANAR; blocked; zero-compressed (R153). -/
def layLine (l : Nat) : Bool := decide (l = 1) || decide (l = 2)
def layBlock (l : Nat) : Bool := decide (l = 4) || decide (l = 5)
def layZc (l : Nat) : Bool := decide (l = 6) || decide (l = 7)

/-- The layout pairs of R165, and of R178 where nothing may be compressed. -/
def layPair (compress : Bool) (s d : Nat) : Bool :=
  (decide (s = d) && (layLine s || layBlock s || layZc s))
    || (layBlock s && layBlock d) || (layLine s && layBlock d) || (layBlock s && layLine d)
    || (decide (s = 6) && decide (d = 4)) || (decide (s = 7) && decide (d = 5))
    || (compress && ((decide (s = 4) && decide (d = 6)) || (decide (s = 5) && decide (d = 7))))

/-- Pixels along x in a tile (R156). -/
def layP (layout fmt : Nat) : Nat := 256 * 8 / fmtBits fmt / layCb layout

/-- A span of a move's destination that lies in bounds. -/
def moveSpan (at' ext bound : Nat) : Nat × Nat := (at', min (at' + ext) bound)

/-- Does the region cover whole tiles of a zero-compressed destination, with its out-of-bounds positions (R165)? -/
def zcWhole (m : Move) : Bool :=
  let cb := layCb m.dstL
  let p := layP m.dstL m.fmt
  decide (m.dc % cb = 0) && decide (m.dx % p = 0)
    && (decide ((m.dc + m.ec) % cb = 0) || decide (m.dstC ≤ m.dc + m.ec))
    && (decide ((m.dx + m.ew) % p = 0) || decide (m.dstW ≤ m.dx + m.ew))

/-- May a move with these layouts and format run: pair, element width of ZC, TRANSPOSE, whole tiles (R161, R164, R165, R178)? -/
def moveOk (compress : Bool) (m : Move) : Bool :=
  let wide := decide (fmtBits m.fmt = 8) || decide (fmtBits m.fmt = 16)
  layPair compress m.srcL m.dstL && (isIntFmt m.fmt || isFloatFmt m.fmt)
    && (!(layZc m.srcL || layZc m.dstL) || wide)
    && (!m.transpose || (decide (m.srcL = 1) && decide (m.dstL = 1) && decide (m.fmt ≠ 0)))
    && (!layZc m.dstL || zcWhole m)

/-- VOP's marks of R123: integer IN_FMT, floating IN_FMT. -/
def vopInt (v : Nat) : Bool := decide (1 ≤ v) && decide (v ≤ 0x0F) && decide (v ≠ 5)
def vopFloat (v : Nat) : Bool := (decide (1 ≤ v) && decide (v ≤ 0x0A)) || (decide (0x10 ≤ v) && decide (v ≤ 0x12))

/-- Check 2 of R115: reserved encodings and reserved fields, by TYPE. Bits 7–6 of VECTOR's word 11 count as reserved (log 77). -/
def todEncoding (b : List Byte) (seq : Nat) : Bool :=
  let ty := todType b
  let use := df b 1 27 24
  decide (todSeq b = seq) && decide (todRnd b ≤ 2) && fz b 0 15 12 && fz b 1 31 28 && fz b 2 31 24 && fz b 3 31 24
  && (if ty = 1 then
        decide (df b 5 19 16 ≤ 14) && decide (df b 5 23 20 ≤ 14) && decide (df b 5 27 24 ≤ 14) && fz b 5 31 31
          && fz b 6 31 20 && fz b 7 31 20 && fz b 8 31 20 && fz b 9 31 20 && decide (df b 11 19 16 ≤ 3) && fz b 11 31 20 && dz b 12 14
      else if ty = 2 then
        (vopInt (df b 4 31 24) || vopFloat (df b 4 31 24)) && decide (df b 5 3 0 ≤ 14) && decide (df b 5 7 4 ≤ 14)
          && fz b 5 31 9 && fz b 6 31 20 && fz b 7 31 20 && fz b 8 31 20 && fz b 11 7 6 && fz b 11 31 16 && dz b 12 14
      else if ty = 3 then
        decide (1 ≤ df b 4 31 24) && decide (df b 4 31 24 ≤ 5) && decide (df b 5 19 16 ≤ 14) && decide (df b 5 23 20 ≤ 14)
          && fz b 5 31 24 && fz b 6 31 20 && fz b 7 31 20 && fz b 8 31 20 && dz b 9 14
      else if ty = 4 then
        fz b 4 31 24 && decide (df b 5 3 0 ≤ 14) && decide (df b 5 7 4 ≤ 14) && fz b 5 31 8 && fz b 6 31 20 && fz b 7 31 20 && dz b 10 14
      else if ty = 0x10 then
        decide (1 ≤ df b 9 21 18) && decide (df b 9 21 18 ≤ 11) && decide (1 ≤ df b 9 25 22) && decide (df b 9 25 22 ≤ 11)
          && fz b 9 31 30 && decide (df b 10 7 4 ≤ 14) && decide (df b 10 11 8 ≤ 14) && decide (df b 10 15 12 ≤ 14)
          && decide (df b 10 21 18 ≤ 3) && fz b 10 31 27 && fz b 11 31 28 && fz b 12 31 28 && dz b 13 14
      else if ty = 0x11 ∨ ty = 0x12 then
        decide (df b 4 3 0 ≤ 10) && fz b 4 15 11 && fz b 4 31 24 && fz b 13 31 16 && dz b 14 14
          && decide (layRLayout b ≤ 7)
      else if ty = 0x20 then
        decide (df b 4 13 12 ≤ 1) && fz b 4 15 14 && fz b 4 31 31 && fz b 5 31 23 && fz b 6 31 24 && fz b 7 31 20 && dz b 8 14
          && decide (use = (if (wordAt b 4).testBit 30 then 1 else 0))
      else if ty = 0x30 then
        decide (1 ≤ df b 4 3 0) && decide (df b 4 3 0 ≤ 8) && fz b 4 31 4 && fz b 7 31 14 && fz b 8 31 12 && dz b 9 14
          && decide (use = (if df b 4 3 0 = 8 then 1 else 0))
      else false)

/-- Bytes that `n` elements of a format take, packed (R98, R105). -/
def fmtBytes (f n : Nat) : Nat := ceilDiv (fmtBits f * n) 8

/-- Elements per cycle of a VECTOR (R96). -/
def vectorRate (vop inF outF : Nat) : Nat :=
  let narrow (f : Nat) : Bool := decide (f = 0) || decide (11 ≤ f)
  if 0x10 ≤ vop then 16
  else if vop = 1 ∧ (narrow inF || narrow outF) = true then 256
  else 2048 / max 8 (max (fmtBits inF) (fmtBits outF))

/-- Cycles for each destination row that a move writes (R165). -/
def moveRowCost (m : Move) (diag : Bool) : Nat :=
  if (layLine m.srcL && layBlock m.dstL) || (layBlock m.srcL && layLine m.dstL) || m.transpose then (if diag then 1 else 8)
  else if layBlock m.srcL && layZc m.dstL then 2 else 1

/-- The destination region of a move that lies in bounds: y, x and c. -/
def moveDstIn (m : Move) : (Nat × Nat) × (Nat × Nat) × (Nat × Nat) :=
  (moveSpan m.dy (if m.transpose then m.ew else m.eh) m.dstH, moveSpan m.dx (if m.transpose then m.eh else m.ew) m.dstW,
    moveSpan m.dc m.ec m.dstC)

/-- The numbers from `a` to `b - 1`. -/
def upTo (a b : Nat) : List Nat := (List.range (b - a)).map (· + a)

/-- The blocks of `n` that a span of positions touches, and those that it covers. -/
def blocksOf (n : Nat) (e : Nat × Nat) : List Nat := if e.1 < e.2 then upTo (e.1 / n) (ceilDiv e.2 n) else []
def wholeBlocks (n : Nat) (e : Nat × Nat) : Nat := ((blocksOf n e).filter (fun k => decide (e.1 ≤ k * n) && decide (k * n + n ≤ e.2))).length

/-- Tiles that the region of a blocked destination touches (R156). -/
def moveTiles (m : Move) : List Nat :=
  let e := moveDstIn m
  let cb := layCb m.dstL
  let p := max 1 (layP m.dstL m.fmt)
  (upTo e.1.1 e.1.2).flatMap (fun y => (blocksOf cb e.2.2).flatMap (fun k => (blocksOf p e.2.1).map (fun x =>
    (y * ceilDiv m.dstC cb + k) * ceilDiv m.dstW p + x)))

/-- Destination rows of 256 bytes that a move writes, and those that it writes only in part (R165). A value row of a zero-compressed tile
counts as written whole (log 67). -/
def moveRows (m : Move) : Nat × Nat :=
  let e := moveDstIn m
  if layZc m.dstL then
    let ts := moveTiles m
    let total := m.dstH * ceilDiv m.dstC (layCb m.dstL) * ceilDiv m.dstW (max 1 (layP m.dstL m.fmt))
    let gs := (ts.map (· / 8)).eraseDups
    (ts.length + gs.length, (gs.filter (fun g => decide ((ts.filter (fun t => decide (t / 8 = g))).length < min 8 (total - 8 * g)))).length)
  else if layBlock m.dstL then
    let ts := moveTiles m
    (ts.length, ts.length - (e.1.2 - e.1.1) * wholeBlocks (layCb m.dstL) e.2.2 * wholeBlocks (max 1 (layP m.dstL m.fmt)) e.2.1)
  else
    let n := fmtBits m.fmt
    let line (y c : Nat) : Nat × Nat :=
      let at' := (if m.dstL = 2 then c * m.dstH + y else y) * m.dstP * 64
      (at' + e.2.1.1 * n, at' + e.2.1.2 * n)
    let runs := (upTo e.1.1 e.1.2).flatMap (fun y => (if m.dstL = 2 then upTo e.2.2.1 e.2.2.2 else [0]).map (line y))
    let rows := (runs.flatMap (blocksOf 2048)).eraseDups
    (rows.length, (rows.filter (fun r => decide
      (runs.foldl (fun a x => a + (min x.2 (2048 * r + 2048) - max x.1 (2048 * r))) 0 < 2048))).length)

/-- Cycles of a LAYOUT TOD (R165). `diag` is DIAG of the source handle. -/
def moveCycles (m : Move) (diag : Bool) : Nat := 12 + (moveRows m).1 * moveRowCost m diag + (moveRows m).2

/-- Uncontended cycles of a TOD (R96, R121, R165, R173, R436). `layA` and `layD` are the layouts of A and DST, `diag` is DIAG of A. -/
def todCycles (b : List Byte) (layA layD : Nat) (diag : Bool) : Nat :=
  let ty := todType b
  if ty = 1 then
    let x := matmulOf b
    24 + ceilDiv x.n 64 * ceilDiv x.k (max 1 (pairKc x.aFmt x.bFmt)) * max x.m (tileRows x.aFmt x.bFmt) + 16
      + ceilDiv (x.m * 64 * fmtBits x.dFmt) 2048
  else if ty = 2 then ceilDiv (df b 4 23 0) (vectorRate (df b 4 31 24) (df b 5 3 0) (df b 5 7 4))
  else if ty = 3 then df b 5 15 0 * ceilDiv (df b 4 23 0) 64
  else if ty = 4 then ceilDiv (df b 4 23 0) 64
  else if ty = 0x10 then
    let x := convOf b
    let kc := max 1 (pairKc x.inFmt x.wFmt)
    let p := max 1 (layP layA x.inFmt)
    let ys := ((List.range (convRows x - x.keep)).map (fun i => x.inY0 + x.keep + i)).filter (fun (y : Int) => decide (0 ≤ y) && decide (y < x.inH))
    let xs := blocksOf p ((max x.inX0 0).toNat, (min (x.inX0 + convCols x) (x.inW : Int)).toNat)
    let cb := ceilDiv x.inC (layCb layA)
    let tiles := ys.flatMap (fun y => (List.range cb).flatMap (fun k => xs.map (fun t => (y.toNat * cb + k) * ceilDiv x.inW p + t)))
    tiles.length + (if layZc layA then ((tiles.map (· / 8)).eraseDups).length else 0)
      + 24 + ceilDiv x.n 64 * ceilDiv (x.fh * x.fw * convCp x layA) kc * max (x.obH * x.obW) (tileRows x.inFmt x.wFmt) + 16
      + ceilDiv (x.obH * x.obW * 64 * fmtBits x.dFmt) 2048
  else if ty = 0x11 ∨ ty = 0x12 then moveCycles (layoutOf b layA layD) diag
  else if ty = 0x30 then df b 8 11 0
  else 0

/-- Check 3 of R115: operand pairs and limits. `core` runs the TOD, `part` is its partition, `prev` the TOD before it, `layA` and
`layD` the layouts of A and DST. -/
def todLimits (b prev : List Byte) (core part layA : Nat) : Nat :=
  let ty := todType b
  if ty = 1 then
    let x := matmulOf b
    firstFail [
      need (decide (pairKc x.aFmt x.bFmt ≠ 0) && decide (x.dFmt ≤ 10)) stBadEncoding,
      need (!x.accIn || (!x.cEn && decide (x.dFmt = (if pairInt x.aFmt then 5 else 10)))) stBadEncoding,
      need (decide (1 ≤ x.m) && decide (x.m ≤ 256) && decide (1 ≤ x.n) && decide (1 ≤ x.k)) stBadLength,
      need ((decide (x.aFmt ≠ 0 ∧ x.bFmt ≠ 0) || decide (x.k % 2 = 0)) && (!isBsFmt x.aFmt || decide (x.k % 32 = 0))) stBadLength]
  else if ty = 2 then
    let v := df b 4 31 24
    let inF := df b 5 3 0
    let outF := df b 5 7 4
    let len := df b 4 23 0
    let special := isBsFmt inF || isRawFmt inF || isBsFmt outF || isRawFmt outF
    firstFail [
      need (if special then decide (v = 1) && (!isRawFmt inF || decide (outF = 4) || decide (outF = 8))
              && (!isRawFmt outF || decide (inF = 4))
            else (isIntFmt inF && vopInt v) || (isFloatFmt inF && vopFloat v)) stBadEncoding,
      need (decide (1 ≤ len)) stBadLength,
      need ((decide (inF ≠ 13 ∧ outF ≠ 13) || decide (len % 4 = 0)) && (decide (inF ≠ 14 ∧ outF ≠ 14) || decide (len % 2 = 0)))
        stBadLength]
  else if ty = 3 then
    firstFail [
      need (decide (df b 5 19 16 ≤ 10) && decide (df b 5 23 20 ≤ 10)
        && (decide (df b 4 31 24 ≠ 4) || decide (df b 5 23 20 = 5))) stBadEncoding,
      need (decide (1 ≤ df b 4 23 0) && decide (1 ≤ df b 5 15 0)) stBadLength]
  else if ty = 4 then
    firstFail [
      need (isFloatFmt (df b 5 3 0) && decide (df b 5 7 4 ≤ 10)) stBadEncoding,
      need (decide (1 ≤ df b 4 23 0)) stBadLength,
      need (fvGt (fdec f32 (wordAt b 9)) (fdec f32 (wordAt b 8))) stOutOfRange]
  else if ty = 0x10 then
    let x := convOf b
    let p := convOf prev
    firstFail [
      need (decide (pairKc x.inFmt x.wFmt ≠ 0) && !isBsFmt x.inFmt && decide (x.dFmt ≤ 10)) stBadEncoding,
      need (decide (1 ≤ x.inH) && decide (1 ≤ x.inW) && decide (1 ≤ x.inC) && decide (1 ≤ x.n)
        && decide (1 ≤ x.obH) && decide (x.obH ≤ 256) && decide (1 ≤ x.obW) && decide (x.obW ≤ 256)
        && decide (x.obH * x.obW ≤ 256)) stBadLength,
      need (decide (convRows x * convCols x * convCp x layA * fmtBits x.inFmt ≤ 65536 * 8)) stBadLength,
      need (decide (x.keep = 0) || (decide (todType prev = 0x10) && decide (todHandle prev 1 = todHandle b 1)
        && decide (p.inW = x.inW) && decide (p.inC = x.inC) && decide (p.inX0 = x.inX0) && decide (p.obW = x.obW)
        && decide (p.fw = x.fw) && decide (p.sx = x.sx) && decide (p.dx = x.dx) && decide (x.keep < convRows x))) stBadEncoding]
  else if ty = 0x11 ∨ ty = 0x12 then
    let m := layoutOf b 0 0
    firstFail [
      need (!layRemote b || decide (layCore b ≠ core)) stBadEncoding,
      need (!m.transpose || decide (m.fmt ≠ 0)) stBadEncoding,
      need ([m.srcH, m.srcW, m.srcC, m.dstH, m.dstW, m.dstC, m.eh, m.ew, m.ec].all (fun v => decide (1 ≤ v))) stBadLength]
  else if ty = 0x20 then
    firstFail [
      need (decide (df b 4 11 0 / 512 = part)) stAccessDenied,
      need (!(wordAt b 4).testBit 30 || decide (1 ≤ df b 6 23 0)) stBadLength,
      need (!(wordAt b 4).testBit 30 || decide (df b 5 22 0 % 8 = 0)) stBadEncoding]
  else if ty = 0x30 then
    firstFail [
      need (decide (1 ≤ df b 8 11 0) && decide (df b 8 11 0 ≤ 2048)) stBadLength,
      need (if df b 4 3 0 = 8 then decide (1 ≤ df b 7 13 0) && decide (df b 7 13 0 ≤ 10240) else decide (df b 7 13 0 = 0))
        stBadLength]
  else stOk

/-- Do the layouts of the handles fit the TOD (R165, R167)? -/
def todLayouts (b : List Byte) (layA layB layC layD : Nat) : Bool :=
  let ty := todType b
  if ty = 1 then
    decide (layA ≤ 1) && decide (layB = 3) && decide (layD ≤ 1) && (!todUse b 3 || decide (layC = 0))
  else if ty = 0x10 then
    (layBlock layA || layZc layA) && decide (layB = 3) && (layBlock layD || layZc layD) && (!todUse b 3 || decide (layC = 0))
      && (!layZc layA || decide (fmtBits (df b 10 7 4) = 8) || decide (fmtBits (df b 10 7 4) = 16))
      && (!layZc layD || decide (fmtBits (df b 10 15 12) = 8) || decide (fmtBits (df b 10 15 12) = 16))
  else if ty = 0x11 ∨ ty = 0x12 then moveOk true (layoutOf b layA layD)
  else true

end Sys2Proof.Machine
end

