-- ==== Sys2Proof/Machine/TensorMath.lean ====
section
/-! DEFINITION. What a TOD computes (04 R101–R125, 06 R154–R173): from the bytes its handles hold to the bytes it writes and the
arithmetic flags it sets. Bytes are read through `rd slot offset`, slot 0 DST, 1 A, 2 B, 3 C. -/

namespace Sys2Proof.Machine

/-- The work of a TOD: spans of its handles that it touches, bytes it writes to DST, flags (R117), cycles in which the array
multiplied, free values drawn, operand rows not issued (R163), the elements that stand in the line buffer after it (R171). -/
structure TodWork where
  spans  : List (Nat × Nat × Nat)
  writes : List (Nat × Byte)
  flags  : Nat
  busy   : Nat
  draws  : Nat
  zeroRows : Nat
  line   : List Nat
  deriving DecidableEq, Repr

/-- No work. -/
def work0 : TodWork := { spans := [], writes := [], flags := 0, busy := 0, draws := 0, zeroRows := 0, line := [] }

abbrev Rd := Nat → Nat → Byte

/-- `n` bytes of a slot as a number. -/
def rdNat (rd : Rd) (slot off n : Nat) : Nat := leNat ((List.range n).map (fun i => rd slot (off + i)))

/-- Element `i` of a run of elements of a format that starts at byte `off` (R98, R99). -/
def rdElem (rd : Rd) (slot f off i : Nat) : Nat :=
  if fmtBits f = 4 then (rd slot (off + i / 2)).toNat / (if i % 2 = 0 then 1 else 16) % 16
  else rdNat rd slot (off + i * (fmtBits f / 8)) (fmtBits f / 8)

/-- An element's bits as a value, for integer and floating-point formats. -/
def elemVal (f bits : Nat) : FV := if isIntFmt f then fvInt (intVal f bits) else fdec (ffmt f) bits

/-- A run of elements of a format as bytes. -/
def packElems (f : Nat) (xs : List Nat) : List Byte := packBits (fmtBits f) xs

/-- Writes of consecutive bytes. -/
def writesAt (off : Nat) (bs : List Byte) : List (Nat × Byte) := (List.zip (List.range bs.length) bs).map (fun e => (off + e.1, e.2))

/-! ### Block-scaled and packed elements (R101–R105) -/

/-- Bytes of a group of 256 elements (R102). -/
def bsGroup (f : Nat) : Nat := if f = 11 then 264 else 136

/-- Element `i` of a block-scaled run at byte `off`: its integer and the scale byte of its block (R102). -/
def bsElem (rd : Rd) (slot f off i : Nat) : Int × Nat :=
  let base := off + bsGroup f * (i / 256)
  let j := i % 256
  let scale := (rd slot (base + j / 32)).toNat
  if f = 11 then (sgn 8 (rd slot (base + 8 + j)).toNat, scale)
  else (sgn 4 ((rd slot (base + 8 + j / 2)).toNat / (if j % 2 = 0 then 1 else 16) % 16), scale)

/-- A block-scaled element's value (R101). -/
def bsVal (f : Nat) (e : Int × Nat) : FV :=
  if f = 11 then .fin (decide (e.1 < 0)) e.1.natAbs (sgn 8 e.2) else fvMul (fvInt e.1) (fdec (ffmt 6) e.2)

/-- Pixel `i` of a packed run (R105). -/
def rawPixel (rd : Rd) (slot f off i : Nat) : Nat :=
  if f = 13 then
    let b := off + i / 4 * 5
    4 * (rd slot (b + i % 4)).toNat + (rd slot (b + 4)).toNat / 4 ^ (i % 4) % 4
  else
    let b := off + i / 2 * 3
    16 * (rd slot (b + i % 2)).toNat + (rd slot (b + 2)).toNat / 16 ^ (i % 2) % 16

/-- Pixels packed into RAW10 or RAW12 (R105). -/
def packRaw (f : Nat) : List Nat → List Byte
  | a :: b :: c :: d :: xs =>
    if f = 13 then
      [a / 4, b / 4, c / 4, d / 4, a % 4 + 4 * (b % 4) + 16 * (c % 4) + 64 * (d % 4)].map (fun v => BitVec.ofNat 8 v) ++ packRaw f xs
    else
      [a / 16, b / 16, a % 16 + 16 * (b % 16), c / 16, d / 16, c % 16 + 16 * (d % 16)].map (fun v => BitVec.ofNat 8 v)
        ++ packRaw f xs
  | [a, b] => if f = 14 then [a / 16, b / 16, a % 16 + 16 * (b % 16)].map (fun v => BitVec.ofNat 8 v) else []
  | _ => []

/-- Bytes of a run of `n` elements of a format, block-scaled runs padded to whole groups (R102). -/
def runBytes (f n : Nat) : Nat := if isBsFmt f then bsGroup f * ceilDiv n 256 else fmtBytes f n

/-- A value rounded under RND to an integer that may lie outside the element range: BS elements (R104). -/
def fvRoundInt (rnd : Nat) : FV → Int
  | .fin neg m e => (if neg then -1 else 1) * (roundNat rnd m e : Int)
  | _ => 0

/-- Does a value lie above the largest magnitude that a block can hold: 127 × 2^127 for BS8, 7 × 448 for BS4 (R104)? -/
def bsOver (f : Nat) (x : FV) : Bool := fvGt (fvAbs x) (if f = 11 then .fin false 127 127 else .fin false 3136 0)

/-- Is it zero? -/
def fvIsZero : FV → Bool
  | .fin _ m _ => decide (m = 0)
  | _ => false

/-- The exponent of a BS8 block (R104): the smallest for which every rounded element lies in -128 to 127. -/
def bs8Exp (rnd : Nat) (xs : List FV) : Int :=
  let fits (e : Int) : Bool := xs.all (fun x => match x with
    | .fin neg m q => (let r := fvRoundInt rnd (.fin neg m (q - e)); decide (-128 ≤ r) && decide (r ≤ 127))
    | _ => false)
  if xs.all fvIsZero then 0
  else (((List.range 256).map (fun i => (i : Int) - 128)).find? fits).getD 127

/-- A value over a scale, rounded under RND to a whole number (R104): the quotient to 2^-64 with a sticky bit. -/
def fvQuotInt (rnd : Nat) : FV → FV → Int
  | .fin neg m e, .fin _ d q =>
    fvRoundInt rnd (.fin neg (m * 2 ^ 64 / max 1 d * 2 + b2n (decide (m * 2 ^ 64 % max 1 d ≠ 0))) (e - q - 65))
  | _, _ => 0

/-- The scale of a BS4 block as an FP8-E4M3 encoding (R104). -/
def bs4Scale (rnd : Nat) (xs : List FV) : Nat :=
  let fits (s : Nat) : Bool := xs.all (fun x => (let r := fvQuotInt rnd x (fdec (ffmt 6) s); decide (-8 ≤ r) && decide (r ≤ 7)))
  if xs.all fvIsZero then 0x38
  else (((List.range 126).map (fun i => i + 1)).find? fits).getD 0x7E

/-- A block of 32 values as BS8 or BS4: scale byte, element bits, flags (R104). A NaN gives an element 0 and NAN_SEEN (R100). Where
the largest magnitude lies above what a block can hold, the block takes the largest scale, its elements saturate, and OUT_SAT is
set. -/
def bsBlock (f rnd : Nat) (xs : List FV) : Nat × List Nat × Nat :=
  let numbers := xs.filter (fun x => !fvIsNan x)
  let above := numbers.any (bsOver f)
  let lo : Int := if f = 11 then -128 else -8
  let hi : Int := if f = 11 then 127 else 7
  let e : Int := if above then 127 else bs8Exp rnd numbers
  let sc : Nat := if f = 11 then uns 8 e else if above then 0x7E else bs4Scale rnd numbers
  let one (x : FV) : Int :=
    match x with
    | .nan => 0
    | .inf neg => if neg then lo else hi
    | .fin neg m q => max lo (min hi (if f = 11 then fvRoundInt rnd (.fin neg m (q - e)) else fvQuotInt rnd x (fdec (ffmt 6) sc)))
  (sc, xs.map (fun x => uns (if f = 11 then 8 else 4) (one x)),
    orF (if xs.any fvIsNan then fNan else 0) (if above then fOutSat else 0))

/-- A run of values as block-scaled bytes (R102, R104): padded to whole groups with zero elements in blocks of the neutral scale. -/
def packBs (f rnd : Nat) (xs : List FV) : List Byte × Nat :=
  let groups := ceilDiv xs.length 256
  (List.range groups).foldl (fun (acc : List Byte × Nat) g =>
    let blocks := (List.range 8).map (fun k =>
      let vs := (xs.drop (256 * g + 32 * k)).take 32
      bsBlock f rnd (vs ++ List.replicate (32 - vs.length) (.fin false 0 0)))
    (acc.1 ++ blocks.map (fun b => BitVec.ofNat 8 b.1) ++ packBits (if f = 11 then 8 else 4) (blocks.flatMap (fun b => b.2.1)),
      blocks.foldl (fun a b => orF a b.2.2) acc.2)) ([], 0)

/-! ### Accumulation (R103, R106, R111) -/

/-- A list in the order that the number `n` names: every order is that of some number. -/
def freeOrder : Nat → List Int → List Int
  | _, [] => []
  | n, x :: xs =>
    let k := xs.length + 1
    let r := freeOrder (n / k) xs
    r.take (n % k) ++ x :: r.drop (n % k)

/-- Sums added to an INT32 accumulator one after another, each addition saturating (R106). -/
def accumIn (acc : Int) (steps : List Int) : Int × Nat :=
  steps.foldl (fun (a : Int × Nat) x => let y := satAcc (a.1 + x); (y.1, orF a.2 y.2)) (acc, 0)

/-- The INT32 accumulation of the sums of the reduction steps (R106). The order of accumulation is not fixed (R111): where some order
could saturate, the order is a free value. -/
def intAccum (draw : Nat) (acc : Int) (steps : List Int) : Int × Nat :=
  let bound := steps.foldl (fun a x => a + x.natAbs) acc.natAbs
  accumIn acc (if bound < 2147483648 then steps else freeOrder (Config.freeNat draw) steps)

/-- Element (k, n) of a weight-tile operand (R157): bits, and the scale byte for BS. -/
def wtElem (rd : Rd) (aFmt bFmt bOff kTotal k n : Nat) : Nat × Nat :=
  let kc := max 1 (pairKc aFmt bFmt)
  let rows := tileRows aFmt bFmt
  let tile := 8 * bOff + ((n / 64) * ceilDiv kTotal kc + k / kc) * rows * 256
  let scaleRows := if isBsFmt bFmt then 2 else 0
  let bits := if bFmt = 11 then 8 else fmtBits bFmt
  let per := 32 / bits
  let kk := k % kc
  let at' := tile + (scaleRows + kk / per) * 256 + 4 * (n % 64) + kk % per * bits / 8
  let v := if bits = 4 then (rd 2 at').toNat / (if kk % 2 = 0 then 1 else 16) % 16 else rdNat rd 2 at' (bits / 8)
  (v, if isBsFmt bFmt then (rd 2 (tile + (n % 64) * (kc / 32) + kk / 32)).toNat else 0)

/-- The bytes of B that `n` columns and `k` reduction elements span. -/
def wtBytes (aFmt bFmt k n : Nat) : Nat := ceilDiv n 64 * ceilDiv k (max 1 (pairKc aFmt bFmt)) * tileRows aFmt bFmt * 256

/-- A per-column record (R113): bias, multiplier or scale, shift. -/
structure ColRec where
  bias  : Nat
  mult  : Nat
  shift : Nat
  deriving DecidableEq, Repr

/-- The record of a column, or the neutral record while C_EN is 0 (R113, R118); QSHIFT modulo 64 (log 19). -/
def colRec (rd : Rd) (cEn perCol toInt : Bool) (cOff n : Nat) : ColRec :=
  if cEn then
    let at' := 8 * cOff + 16 * (if perCol then n else 0)
    { bias := rdNat rd 3 at' 4, mult := rdNat rd 3 (at' + 4) 4, shift := (rd 3 (at' + 8)).toNat % 64 }
  else if toInt then { bias := 0, mult := 2 ^ 30, shift := 30 }
  else { bias := 0, mult := 0x3F800000, shift := 0 }

/-- ACT of R119 on an integer before its zero point. 6.0 in output units is the die's (log 20). -/
def actInt (act rnd : Nat) (qmult : Int) (qshift : Nat) (x : Int) : Int :=
  if act = 1 then max x 0
  else if act = 2 then max 0 (min x (Config.clampSix qmult qshift))
  else if act = 3 then (if x < 0 then roundShift x 3 rnd else x)
  else x

/-- ACT of R119 on a value. -/
def actVal (act : Nat) (x : FV) : FV :=
  match x with
  | .nan => .nan
  | _ =>
    if act = 1 then (if fvGt x (.fin false 0 0) then x else .fin false 0 0)
    else if act = 2 then (if !fvGt x (.fin false 0 0) then .fin false 0 0 else if fvGt x (.fin false 6 0) then .fin false 6 0 else x)
    else if act = 3 then (match x with
      | .fin true m e => .fin true m (e - 3)
      | v => v)
    else x

/-- An accumulator, integer or floating-point. -/
inductive AccV where
  | i (v : Int)
  | f (v : FV)
  deriving DecidableEq, Repr

/-- A value converted to a floating-point output and then activated (R118, R119): bits and flags. -/
def actFloat (outF rnd : Nat) (satf : Bool) (act : Nat) (x : FV) : Nat × Nat :=
  let c := fenc (ffmt outF) rnd satf x
  if act = 0 then c else ((fenc (ffmt outF) rnd satf (actVal act (fdec (ffmt outF) c.1))).1, c.2)

/-- An accumulator converted to an output format (R108–R110, R119): bits and flags. The activation acts on the converted value, for an
integer output before the zero point. FP32 sums to integers, and NaN there: log 19. -/
def convertAcc (outF rnd : Nat) (satf : Bool) (act : Nat) (zp : Int) (r : ColRec) : AccV → Nat × Nat
  | .i acc =>
    if isIntFmt outF then
      let x := requantCore acc (sgn 32 r.bias) (sgn 32 r.mult) r.shift rnd
      let y := satInt outF (actInt act rnd (sgn 32 r.mult) r.shift x.1 + zp)
      (uns (fmtBits outF) y.1, orF x.2 y.2)
    else
      let a := to32 (fvMul (fvInt acc) (fdec f32 r.mult))
      let b := to32 (fvAdd a.1 (fdec f32 r.bias))
      let c := actFloat outF rnd satf act b.1
      (c.1, orF a.2 (orF b.2 c.2))
  | .f acc =>
    if isIntFmt outF then
      let q := fvMul (fvAdd acc (fvInt (sgn 32 r.bias))) (fvMul (fvInt (sgn 32 r.mult)) (.fin false 1 (-(r.shift : Int))))
      let y := fvToInt 5 rnd q
      let z := satInt outF (actInt act rnd (sgn 32 r.mult) r.shift y.1 + zp)
      (uns (fmtBits outF) z.1, orF (if fvIsNan q then fNan else y.2) z.2)
    else
      let a := to32 (fvMul acc (fdec f32 r.mult))
      let b := to32 (fvAdd a.1 (fdec f32 r.bias))
      let c := actFloat outF rnd satf act b.1
      (c.1, orF a.2 (orF b.2 c.2))

/-- The reduction of one output element (R103, R106): `a k` and `b k` give the operands' bits and scales for reduction element `k`;
rows of a step that are not issued (R163) are left out by `skip`. -/
def reduceOne (draw aFmt bFmt k : Nat) (zpA : Int) (acc : AccV) (a b : Nat → Int × FV × Nat) (skip : Nat → Bool) : AccV × Nat :=
  let kc := max 1 (pairKc aFmt bFmt)
  match acc with
  | .i v =>
    let steps := (List.range (ceilDiv k kc)).map (fun ks =>
      if skip ks then 0
      else (List.range (min kc (k - ks * kc))).foldl (fun s j => s + ((a (ks * kc + j)).1 - zpA) * (b (ks * kc + j)).1) 0)
    let r := intAccum draw v steps
    (.i r.1, r.2)
  | .f v =>
    let live := (List.range k).filter (fun j => !skip (j / kc))
    let prods : List (FV × Nat) :=
      if isBsFmt aFmt then
        (List.range (ceilDiv k 32)).map (fun blk =>
          let sum : Int := (List.range 32).foldl (fun s j => s + (a (32 * blk + j)).1 * (b (32 * blk + j)).1) 0
          let sa := (a (32 * blk)).2.2
          let sb := (b (32 * blk)).2.2
          if aFmt = 11 then to32 (.fin (decide (sum < 0)) sum.natAbs (sgn 8 sa + sgn 8 sb))
          else to32 (fvMul (fvMul (fdec (ffmt 6) sa) (fdec (ffmt 6) sb)) (fvInt sum)))
      else live.map (fun j =>
        let p := fvMul (a j).2.1 (b j).2.1
        if aFmt = 10 then to32 p else (p, if fvIsNan p then fNan else 0))
    let r := freeSum draw v (prods.map (fun p => p.1))
    (.f r.1, prods.foldl (fun fl p => orF fl p.2) r.2)

/-- The operands of a reduction element as integer, value and scale. -/
def operand (f bits scale : Nat) : Int × FV × Nat :=
  if isIntFmt f then (intVal f bits, .nan, 0)
  else if f = 11 then (sgn 8 bits, .nan, scale)
  else if f = 12 then (sgn 4 bits, .nan, scale)
  else (0, fdec (ffmt f) bits, 0)

/-- MATMUL (R118–R120). -/
def matmulWork (rd : Rd) (b : List Byte) (draw : Nat) : TodWork :=
  let x := matmulOf b
  let rnd := todRnd b
  let satf := todSatf b
  let aRow (m : Nat) : Nat := 8 * (x.aOff + m * x.aLd)
  let dRow (m : Nat) : Nat := 8 * (x.dOff + m * x.dLd)
  let aEl (m k : Nat) : Int × FV × Nat :=
    if isBsFmt x.aFmt then (let e := bsElem rd 1 x.aFmt (aRow m) k; (e.1, .nan, e.2))
    else operand x.aFmt (rdElem rd 1 x.aFmt (aRow m) k) 0
  let bEl (n k : Nat) : Int × FV × Nat := (let e := wtElem rd x.aFmt x.bFmt x.bOff x.k k n; operand x.bFmt e.1 e.2)
  let rows := (List.range x.m).map (fun m =>
    let outs := (List.range x.n).map (fun n =>
      let old := rdElem rd 0 x.dFmt (dRow m) n
      let start : AccV := if pairInt x.aFmt then .i (if x.accIn then sgn 32 old else 0)
        else .f (if x.accIn then fdec f32 old else .fin false 0 0)
      let r := reduceOne (draw + m * x.n + n) x.aFmt x.bFmt x.k x.zpA start (aEl m) (bEl n) (fun _ => false)
      let c := convertAcc x.dFmt rnd satf x.act x.zpOut (colRec rd x.cEn x.perCol (isIntFmt x.dFmt) x.cOff n) r.1
      (c.1, orF r.2 c.2))
    (dRow m, packElems x.dFmt (outs.map (fun o => o.1)), outs.foldl (fun a o => orF a o.2) 0))
  { spans := (List.range x.m).map (fun m => (1, aRow m, runBytes x.aFmt x.k))
      ++ [(2, 8 * x.bOff, wtBytes x.aFmt x.bFmt x.k x.n)]
      ++ (if x.cEn then [(3, 8 * x.cOff, 16 * (if x.perCol then x.n else 1))] else [])
      ++ rows.map (fun r => (0, r.1, r.2.1.length)),
    writes := rows.flatMap (fun r => writesAt r.1 r.2.1), flags := rows.foldl (fun a r => orF a r.2.2) 0,
    busy := ceilDiv x.n 64 * ceilDiv x.k (max 1 (pairKc x.aFmt x.bFmt)) * x.m,
    draws := x.m * x.n, zeroRows := 0, line := [] }

/-! ### VECTOR, REDUCE, LUT (R122–R125) -/

/-- A value converted to an output format: bits and flags (R107, R108). -/
def convertVal (outF rnd : Nat) (satf : Bool) (v : FV) : Nat × Nat :=
  if isIntFmt outF then (let y := fvToInt outF rnd v; (uns (fmtBits outF) y.1, y.2)) else fenc (ffmt outF) rnd satf v

/-- An INT32 operation of VECTOR (R123): result and flags. ABS and NEG of -2^31 have no stated result: a free value. -/
def vopIntOp (vop draw : Nat) (a b : Int) : Int × Nat :=
  let sh := (uns 32 b) % 32
  let bits (f : Nat → Nat → Nat) : Int := sgn 32 (f (uns 32 a) (uns 32 b))
  let guardMin (v : Int) : Int := if v = 2147483648 then sgn 32 (Config.freeNat draw) else v
  if vop = 1 then (a, 0)
  else if vop = 2 then satAcc (a + b)
  else if vop = 3 then satAcc (a - b)
  else if vop = 4 then satAcc (a * b)
  else if vop = 6 then (min a b, 0)
  else if vop = 7 then (max a b, 0)
  else if vop = 8 then (guardMin a.natAbs, 0)
  else if vop = 9 then (guardMin (-a), 0)
  else if vop = 0x0A then (if b < a then 1 else 0, 0)
  else if vop = 0x0B then (sgn 32 (uns 32 a * 2 ^ sh), 0)
  else if vop = 0x0C then (a / 2 ^ sh, 0)
  else if vop = 0x0D then (bits Nat.land, 0)
  else if vop = 0x0E then (bits Nat.lor, 0)
  else (bits Nat.xor, 0)

/-- A floating operation of VECTOR in FP32, rounded to nearest even (R123; log 19). -/
def vopFloatOp (vop : Nat) (a b d : FV) : FV × Nat :=
  let pick (v : FV) : FV × Nat := (v, if fvIsNan v then fNan else 0)
  if vop = 1 then pick a
  else if vop = 2 then to32 (fvAdd a b)
  else if vop = 3 then to32 (fvAdd a (fvNeg b))
  else if vop = 4 then to32 (fvMul a b)
  else if vop = 5 then to32 (fvAdd (fvMul a b) d)
  else if vop = 6 then (if fvIsNan a || fvIsNan b then (.nan, fNan) else if fvGt a b then (b, 0) else (a, 0))
  else if vop = 7 then (if fvIsNan a || fvIsNan b then (.nan, fNan) else if fvGt b a then (b, 0) else (a, 0))
  else if vop = 8 then pick (fvAbs a)
  else if vop = 9 then pick (fvNeg a)
  else if vop = 0x0A then (if fvIsNan a || fvIsNan b then (.nan, fNan) else (if fvGt a b then .fin false 1 0 else .fin false 0 0, 0))
  else (let x := to32 a; let y := unaryOp vop (fenc f32 0 false x.1).1; (y.1, orF x.2 y.2))

/-- VECTOR (R122, R123). -/
def vectorWork (rd : Rd) (b : List Byte) (draw : Nat) : TodWork :=
  let len := df b 4 23 0
  let vop := df b 4 31 24
  let inF := df b 5 3 0
  let outF := df b 5 7 4
  let scalar := (wordAt b 5).testBit 8
  let aOff := 8 * df b 6 19 0
  let bOff := 8 * df b 7 19 0
  let dOff := 8 * df b 8 19 0
  let rnd := todRnd b
  let satf := todSatf b
  let two := decide (2 ≤ vop) && decide (vop ≤ 0x0F) && decide (vop ≠ 8) && decide (vop ≠ 9)
  let aVal (i : Nat) : FV :=
    if isBsFmt inF then bsVal inF (bsElem rd 1 inF aOff i)
    else if isRawFmt inF then fvInt (rawPixel rd 1 inF aOff i)
    else elemVal inF (rdElem rd 1 inF aOff i)
  let bVal (i : Nat) : FV := if scalar then fdec f32 (wordAt b 9) else elemVal inF (rdElem rd 2 inF bOff i)
  let bInt (i : Nat) : Int := if scalar then sgn 32 (wordAt b 9) else intVal inF (rdElem rd 2 inF bOff i)
  let spans := [(1, aOff, runBytes inF len)] ++ (if two && !scalar then [(2, bOff, runBytes inF len)] else [])
    ++ [(0, dOff, runBytes outF len)]
  if isBsFmt outF then
    let r := packBs outF rnd ((List.range len).map aVal)
    { work0 with spans := spans, writes := writesAt dOff r.1, flags := r.2 }
  else if isRawFmt outF then
    let hi := if outF = 13 then 1023 else 4095
    let vs := (List.range len).map (fun i => rdElem rd 1 inF aOff i)
    { work0 with spans := spans, writes := writesAt dOff (packRaw outF (vs.map (fun v => min v hi))),
                 flags := if vs.any (fun v => decide (hi < v)) then fOutSat else 0 }
  else
    let one (i : Nat) : Nat × Nat :=
      if isIntFmt inF then
        let r := vopIntOp vop (draw + i) (intVal inF (rdElem rd 1 inF aOff i)) (bInt i)
        if isIntFmt outF then
          let y := requant outF r.1 0 (sgn 32 (wordAt b 10)) (df b 11 5 0) (sgn 8 (df b 11 15 8)) rnd
          (uns (fmtBits outF) y.1, orF r.2 y.2)
        else (let y := convertVal outF rnd satf (fvInt r.1); (y.1, orF r.2 y.2))
      else
        let r := vopFloatOp vop (aVal i) (bVal i) (elemVal outF (rdElem rd 0 outF dOff i))
        let y := convertVal outF rnd satf r.1
        (y.1, orF r.2 y.2)
    let outs := (List.range len).map one
    { work0 with spans := spans, writes := writesAt dOff (packElems outF (outs.map (fun o => o.1))),
                 flags := outs.foldl (fun a o => orF a o.2) 0, draws := len }

/-- The largest or smallest of values: a NaN gives a NaN (R100, R124). -/
def bestVal (big : Bool) (xs : List FV) : FV :=
  xs.foldl (fun a x => if fvIsNan a || fvIsNan x then .nan else if (if big then fvGt x a else fvGt a x) then x else a)
    (xs.headD (.fin false 0 0))

/-- The index of the first largest value, NaN ignored (R124). -/
def argMax (xs : List FV) : Nat :=
  let r := (List.zip (List.range xs.length) xs).foldl (fun (a : Option (Nat × FV)) e =>
    if fvIsNan e.2 then a
    else match a with
      | none => some e
      | some x => if fvGt e.2 x.2 then some e else a) none
  match r with
  | some e => e.1
  | none => 0xFFFFFFFF

/-- REDUCE (R124). ARGMAX passes over NaN (log 19). -/
def reduceWork (rd : Rd) (b : List Byte) (draw : Nat) : TodWork :=
  let len := df b 4 23 0
  let rop := df b 4 31 24
  let groups := df b 5 15 0
  let inF := df b 5 19 16
  let outF := df b 5 23 20
  let dOff := 8 * df b 8 19 0
  let start (g : Nat) : Nat := 8 * (df b 6 19 0 + g * df b 7 19 0)
  let one (g : Nat) : Nat × Nat :=
    let bits := (List.range len).map (fun i => rdElem rd 1 inF (start g) i)
    let vals := bits.map (elemVal inF)
    if rop = 4 then (argMax vals, 0)
    else if rop = 2 ∨ rop = 3 then
      let v := bestVal (decide (rop = 2)) vals
      if isIntFmt inF ∧ isIntFmt outF then (let y := satInt outF (fvRoundInt 0 v); (uns (fmtBits outF) y.1, y.2))
      else (let y := convertVal outF (todRnd b) (todSatf b) v; (y.1, y.2))
    else if isIntFmt inF then
      let xs := bits.map (fun v => (let i := intVal inF v; if rop = 5 then i * i else i))
      let r := intAccum (draw + g) 0 xs
      if isIntFmt outF then (let y := satInt outF r.1; (uns (fmtBits outF) y.1, orF r.2 y.2))
      else (let y := convertVal outF (todRnd b) (todSatf b) (fvInt r.1); (y.1, orF r.2 y.2))
    else
      let ps := vals.map (fun v => if rop = 5 then to32 (fvMul v v) else (v, if fvIsNan v then fNan else 0))
      let r := freeSum (draw + g) (.fin false 0 0) (ps.map (fun p => p.1))
      let y := convertVal outF (todRnd b) (todSatf b) r.1
      (y.1, orF (ps.foldl (fun a p => orF a p.2) r.2) y.2)
  let outs := (List.range groups).map one
  { work0 with
    spans := (List.range groups).map (fun g => (1, start g, fmtBytes inF len)) ++ [(0, dOff, fmtBytes outF groups)],
    writes := writesAt dOff (packElems outF (outs.map (fun o => o.1))), flags := outs.foldl (fun a o => orF a o.2) 0, draws := groups }

/-- floor(v) of a finite value times `n`, over a positive finite value. -/
def fvFloorQuot (a d : FV) (n : Nat) : Option Int :=
  match a, d with
  | .fin na ma ea, .fin _ md ed =>
    let e := min ea ed
    let num : Int := (if na then -1 else 1) * ((ma * n * 2 ^ (ea - e).toNat : Nat) : Int)
    let den : Int := ((md * 2 ^ (ed - e).toNat : Nat) : Int)
    if den = 0 then none else some (num / den)
  | _, _ => none

/-- LUT (R125). Where LO or HI is infinite the segment is not stated: a free value. -/
def lutWork (rd : Rd) (b : List Byte) (draw : Nat) : TodWork :=
  let len := df b 4 23 0
  let inF := df b 5 3 0
  let outF := df b 5 7 4
  let aOff := 8 * df b 6 19 0
  let dOff := 8 * df b 7 19 0
  let lo := fdec f32 (wordAt b 8)
  let hi := fdec f32 (wordAt b 9)
  let one (i : Nat) : Nat × Nat :=
    let x := (to32 (elemVal inF (rdElem rd 1 inF aOff i))).1
    let seg : Nat := match x with
      | .inf neg => if neg then 0 else 63
      | _ => match fvFloorQuot (fvAdd x (fvNeg lo)) (fvAdd hi (fvNeg lo)) 64 with
        | some q => (max 0 (min 63 q)).toNat
        | none => Config.freeNat (draw + i) % 64
    if fvIsNan x then (let y := convertVal outF (todRnd b) (todSatf b) .nan; (y.1, orF fNan y.2))
    else
      let r := to32 (fvAdd (fvMul (fdec f32 (rdNat rd 3 (8 * seg) 4)) x) (fdec f32 (rdNat rd 3 (8 * seg + 4) 4)))
      let y := convertVal outF (todRnd b) (todSatf b) r.1
      (y.1, orF r.2 y.2)
  let outs := (List.range len).map one
  { work0 with
    spans := [(1, aOff, fmtBytes inF len), (3, 0, 512), (0, dOff, fmtBytes outF len)],
    writes := writesAt dOff (packElems outF (outs.map (fun o => o.1))), flags := outs.foldl (fun a o => orF a o.2) 0, draws := len }

/-! ### Elements of tensors under R154 (R155, R156, R158–R162) -/

/-- A tensor: layout, element format, extents, pitch. -/
structure Tens where
  layout : Nat
  fmt    : Nat
  h      : Nat
  w      : Nat
  c      : Nat
  pitch  : Nat
  deriving DecidableEq, Repr

/-- The dense layout of a zero-compressed one. -/
def denseLayout (l : Nat) : Nat := if l = 6 then 4 else if l = 7 then 5 else l

/-- Tiles across a row, channel blocks (R156). -/
def tensWt (x : Tens) : Nat := ceilDiv x.w (layP x.layout x.fmt)
def tensCb (x : Tens) : Nat := ceilDiv x.c (layCb x.layout)

/-- Tile and index within the tile of an element of a blocked layout (R156). -/
def tileOf (x : Tens) (y xx c : Nat) : Nat × Nat :=
  let cb := layCb x.layout
  let p := layP x.layout x.fmt
  ((y * tensCb x + c / cb) * tensWt x + xx / p, xx % p * cb + c % cb)

/-- Bit position of an element of a dense layout from row 0 (R155, R156); any PITCH, and a ROWS tensor with any C, is taken (log 81). -/
def denseBit (x : Tens) (y xx c : Nat) : Nat :=
  if x.layout = 1 then y * x.pitch * 64 + xx * fmtBits x.fmt
  else if x.layout = 2 then (c * x.h + y) * x.pitch * 64 + xx * fmtBits x.fmt
  else (let t := tileOf x y xx c; t.1 * 2048 + t.2 * fmtBits x.fmt)

/-- Bits at a bit position of a slot: an element. -/
def rdBits (rd : Rd) (slot f bit : Nat) : Nat :=
  if fmtBits f = 4 then (rd slot (bit / 8)).toNat / 2 ^ (bit % 8) % 16 else rdNat rd slot (bit / 8) (fmtBits f / 8)

/-- Elements of a 64-byte block (R161). -/
def zcPer (f : Nat) : Nat := 512 / fmtBits f

/-- The mask of block `blk` of tile `tile` of a zero-compressed tensor (R161). -/
def zcMask (rd : Rd) (slot tile blk : Nat) : Nat := rdNat rd slot (9 * (tile / 8) * 256 + 32 * (tile % 8) + 8 * blk) 8

/-- Set bits of a number below bit `n`. -/
def popBelow (x n : Nat) : Nat := ((List.range n).filter (fun i => x.testBit i)).length

/-- An element of a zero-compressed tile: none where its mask bit is 0 (R161, R162). -/
def zcElem (rd : Rd) (slot f tile e : Nat) : Option Nat :=
  let per := zcPer f
  let blk := e / per
  let i := e % per
  if (zcMask rd slot tile blk).testBit i then
    let before := ((List.range blk).foldl (fun a k => a + popBelow (zcMask rd slot tile k) per) 0)
      + popBelow (zcMask rd slot tile blk) i
    some (rdNat rd slot ((9 * (tile / 8) + 1 + tile % 8) * 256 + before * (fmtBits f / 8)) (fmtBits f / 8))
  else none

/-- The element that a fill pattern gives at a bit position (R159). -/
def fillElem (fill f bit : Nat) : Nat := (fill + 2 ^ 32 * fill) / 2 ^ (bit % 64 / fmtBits f * fmtBits f) % 2 ^ fmtBits f

/-- Is (y, x, c) in bounds (R158)? -/
def tensIn (x : Tens) (y xx : Int) (c : Nat) : Bool :=
  decide (0 ≤ y) && decide (y < x.h) && decide (0 ≤ xx) && decide (xx < x.w) && decide (c < x.c)

/-- Where an out-of-bounds element would lie, for its fill (R159). -/
def fillBit (x : Tens) (xx : Int) (c : Nat) : Nat :=
  let f := fmtBits x.fmt
  if x.layout = 1 ∨ x.layout = 2 then (uns 16 xx) * f
  else (let cb := layCb x.layout; ((uns 16 xx) % layP x.layout x.fmt * cb + c % cb) * f)

/-- Element (y, x, c) as a read gives it (R158, R159, R162). -/
def tensRead (rd : Rd) (slot : Nat) (x : Tens) (fill : Nat) (y xx : Int) (c : Nat) : Nat :=
  if !tensIn x y xx c then fillElem fill x.fmt (fillBit x xx c)
  else if layZc x.layout then
    (let t := tileOf x y.toNat xx.toNat c
     (zcElem rd slot x.fmt t.1 t.2).getD 0)
  else rdBits rd slot x.fmt (denseBit x y.toNat xx.toNat c)

/-- The byte spans of an in-bounds element: of a zero-compressed one its tile's masks and value row (R161). -/
def tensSpans (x : Tens) (y xx c : Nat) : List (Nat × Nat) :=
  if layZc x.layout then
    (let t := (tileOf x y xx c).1
     [(9 * (t / 8) * 256 + 32 * (t % 8), 32), ((9 * (t / 8) + 1 + t % 8) * 256, 256)])
  else [(denseBit x y xx c / 8, max 1 (fmtBits x.fmt / 8))]

/-- A zero-compressed tile's bytes: 32 bytes of masks, and its value row up to the last value (R161). -/
def zcTile (f : Nat) (els : List (Option Nat)) : List Byte × List Byte :=
  let per := zcPer f
  let nz (o : Option Nat) : Bool := match o with
    | some v => decide (v ≠ 0)
    | none => false
  let masks := (List.range 4).flatMap (fun blk =>
    leBytes 8 ((List.range per).foldl (fun a i => a + b2n (nz (els.getD (blk * per + i) none)) * 2 ^ i) 0))
  (masks, (els.filter nz).flatMap (fun o => leBytes (fmtBits f / 8) (o.getD 0)))

/-- The masks of the tiles that a short final group does not have are zero (R161). -/
def zcMissing (x : Tens) (tiles : List Nat) : List (Nat × Byte) :=
  let n := x.h * tensCb x * tensWt x
  if n % 8 ≠ 0 ∧ tiles.any (fun t => decide (t / 8 = n / 8)) = true then
    writesAt (9 * (n / 8) * 256 + 32 * (n % 8)) (zeros (32 * (8 - n % 8)))
  else []

/-- Elements written to a tensor: (y, x, c, bits), those out of bounds dropped (R158). Zero-compressed tensors are written in whole
tiles: positions of a touched tile that are not given keep what they hold. -/
def tensWrites (rd : Rd) (x : Tens) (els : List (Nat × Nat × Nat × Nat)) : List (Nat × Byte) :=
  let inside := els.filter (fun e => tensIn x e.1 e.2.1 e.2.2.1)
  if layZc x.layout then
    let placed := inside.map (fun e => (tileOf x e.1 e.2.1 e.2.2.1, e.2.2.2))
    let tiles := (placed.map (fun e => e.1.1)).eraseDups
    zcMissing x tiles ++ tiles.flatMap (fun t =>
      let n := 2048 / fmtBits x.fmt
      let cb := layCb x.layout
      let wt := tensWt x
      let els := (List.range n).map (fun i =>
        match placed.find? (fun e => decide (e.1 = (t, i))) with
        | some e => some e.2
        | none =>
          let xx := t % wt * layP x.layout x.fmt + i / cb
          let c := t / wt % tensCb x * cb + i % cb
          if tensIn x (t / wt / tensCb x : Nat) xx c then zcElem rd 0 x.fmt t i else none)
      let z := zcTile x.fmt els
      writesAt (9 * (t / 8) * 256 + 32 * (t % 8)) z.1 ++ writesAt ((9 * (t / 8) + 1 + t % 8) * 256) z.2)
  else if fmtBits x.fmt = 4 then
    let placed := inside.map (fun e => (denseBit x e.1 e.2.1 e.2.2.1, e.2.2.2))
    let bytes := (placed.map (fun e => e.1 / 8)).eraseDups
    bytes.map (fun at' =>
      let nib (k : Nat) : Nat := match (placed.reverse.find? (fun e => decide (e.1 = 8 * at' + 4 * k))) with
        | some e => e.2
        | none => (rd 0 at').toNat / 16 ^ k % 16
      (at', BitVec.ofNat 8 (nib 0 + 16 * nib 1)))
  else
    inside.flatMap (fun e => writesAt (denseBit x e.1 e.2.1 e.2.2.1 / 8) (leBytes (fmtBits x.fmt / 8) e.2.2.2))

/-! ### Moves (R164, R165, R176, R178) and CONV (R168–R172) -/

/-- The source and destination tensors of a move. -/
def moveSrc (m : Move) : Tens := { layout := m.srcL, fmt := m.fmt, h := m.srcH, w := m.srcW, c := m.srcC, pitch := m.srcP }
def moveDst (m : Move) : Tens := { layout := m.dstL, fmt := m.fmt, h := m.dstH, w := m.dstW, c := m.dstC, pitch := m.dstP }

/-- The positions of a move's region, in order. -/
def moveCells (m : Move) : List (Nat × Nat × Nat) :=
  (List.range m.eh).flatMap (fun i => (List.range m.ec).flatMap (fun k => (List.range m.ew).map (fun j => (i, j, k))))

/-- The bytes a move writes to its destination (slot 0), reading its source through slot 1. -/
def moveWork (rd : Rd) (m : Move) (fill : Nat) : TodWork :=
  let cells := moveCells m
  let dstAt (e : Nat × Nat × Nat) : Nat × Nat :=
    if m.transpose then (m.dy + e.2.1, m.dx + e.1) else (m.dy + e.1, m.dx + e.2.1)
  let els := cells.map (fun e =>
    ((dstAt e).1, (dstAt e).2, m.dc + e.2.2, tensRead rd 1 (moveSrc m) fill (m.sy + e.1) (m.sx + e.2.1) (m.sc + e.2.2)))
  let src := cells.filter (fun e => tensIn (moveSrc m) (m.sy + e.1) (m.sx + e.2.1) (m.sc + e.2.2))
  let dst := els.filter (fun e => tensIn (moveDst m) e.1 e.2.1 e.2.2.1)
  { work0 with
    spans := src.flatMap (fun e => (tensSpans (moveSrc m) (m.sy + e.1).toNat (m.sx + e.2.1).toNat (m.sc + e.2.2)).map (fun p => (1, p)))
      ++ dst.flatMap (fun e => (tensSpans (moveDst m) e.1 e.2.1 e.2.2.1).map (fun p => (0, p))),
    writes := tensWrites rd (moveDst m) els }

/-- Bytes of the values that a zero-compressed tile holds (R161). -/
def zcValues (rd : Rd) (slot f tile : Nat) : Nat :=
  fmtBits f / 8 * (List.range 4).foldl (fun a b => a + popBelow (zcMask rd slot tile b) (zcPer f)) 0

/-- The source tile that a destination tile of a move takes over as it stands: same layout, same place within the tile. -/
def zcSource (m : Move) (tile : Nat) : Option Nat :=
  let x := moveDst m
  let p := layP m.dstL m.fmt
  let cb := layCb m.dstL
  let y : Int := m.sy + ((tile / (tensWt x * tensCb x) : Nat) - m.dy : Int)
  let xx : Int := m.sx + ((tile % tensWt x * p : Nat) - m.dx : Int)
  let c : Int := m.sc + ((tile / tensWt x % tensCb x * cb : Nat) - m.dc : Int)
  if 0 ≤ y ∧ 0 ≤ xx ∧ 0 ≤ c ∧ xx % (p : Int) = 0 ∧ c % (cb : Int) = 0 ∧ tensIn (moveSrc m) y xx c.toNat = true then
    some (tileOf (moveSrc m) y.toNat xx.toNat c.toNat).1
  else none

/-- What a re-shard entry between two zero-compressed tensors of one layout writes (R178): of each tile its masks, and its values in whole
sectors of 32 bytes. What lies in a sector behind the last value comes with the source's sector where the tile is taken over as it stands, and
is free otherwise. The masks of the tiles that the final group does not have are written with the whole group. -/
def zcReshard (rd : Rd) (m : Move) (ws : List (Nat × Byte)) (draw : Nat) : List (Nat × Byte) :=
  let x := moveDst m
  let tiles := ((ws.filter (fun w => decide (w.1 / 256 % 9 = 0) && decide (w.1 % 32 = 0))).map (fun w =>
    8 * (w.1 / 2304) + w.1 % 256 / 32)).eraseDups
  let n := x.h * tensCb x * tensWt x
  let whole := (List.range (n % 8)).all (fun j => decide (n - n % 8 + j ∈ tiles))
  let kept := ws.filter (fun w => whole || !(decide (w.1 / 2304 = n / 8) && decide (w.1 / 256 % 9 = 0) && decide (n % 8 ≤ w.1 % 256 / 32)))
  kept ++ tiles.flatMap (fun t =>
    let row := 256 * (9 * (t / 8) + 1 + t % 8)
    let len := (ws.filter (fun w => decide (w.1 / 256 = row / 256))).length
    let tail := (32 - len % 32) % 32
    let bytes := match zcSource m t with
      | some k => if zcValues rd 1 m.fmt k = len then (List.range tail).map (fun i => rd 1 (256 * (9 * (k / 8) + 1 + k % 8) + len + i))
                  else Config.freeBytes draw tail
      | none => Config.freeBytes draw tail
    writesAt (row + len) (slice bytes 0 tail))

/-- The spans of its source that a re-shard entry reads: of a zero-compressed tile the masks and the sectors that hold values (R178). -/
def reshardReads (rd : Rd) (m : Move) : List (Nat × Nat) :=
  let x := moveSrc m
  let cells := ((moveCells m).map (fun e => ((m.sy + e.1 : Int), (m.sx + e.2.1 : Int), m.sc + e.2.2))).filter (fun e => tensIn x e.1 e.2.1 e.2.2)
  if layZc x.layout then
    ((cells.map (fun e => (tileOf x e.1.toNat e.2.1.toNat e.2.2).1)).eraseDups).flatMap (fun t =>
      let n := ceilDiv (zcValues rd 1 m.fmt t) 32 * 32
      (9 * (t / 8) * 256 + 32 * (t % 8), 32) :: (if n = 0 then [] else [(256 * (9 * (t / 8) + 1 + t % 8), n)]))
  else (cells.flatMap (fun e => tensSpans x e.1.toNat e.2.1.toNat e.2.2)).eraseDups

/-- Destination rows of 256 bytes that writes touch. -/
def rowsTouched (ws : List (Nat × Byte)) : Nat := ((ws.map (fun w => w.1 / 256)).eraseDups).length

/-- CONV (R168–R172), with the layouts of A and DST and A's fill. `prev` is the TOD before it and `held` what that one left in the line
buffer: the top KEEP_ROWS rows of the region are its bottom rows, and are not loaded again (R171). -/
def convWork (rd : Rd) (b prev : List Byte) (held : List Nat) (layA layD fillA draw : Nat) : TodWork :=
  let x := convOf b
  let cp := convCp x layA
  let k := x.fh * x.fw * cp
  let kc := max 1 (pairKc x.inFmt x.wFmt)
  let src : Tens := { layout := layA, fmt := x.inFmt, h := x.inH, w := x.inW, c := x.inC, pitch := 0 }
  let dst : Tens := { layout := layD, fmt := x.dFmt, h := x.outH, w := x.outW, c := x.n, pitch := 0 }
  let cols := convCols x
  let above := convRows (convOf prev) - x.keep
  let line : List Nat := (List.range (convRows x)).flatMap (fun (r : Nat) => (List.range (cols * cp)).map (fun (q : Nat) =>
    let load := tensRead rd 1 src fillA (x.inY0 + r) (x.inX0 + (q / cp : Nat)) (q % cp)
    if r < x.keep then held.getD ((above + r) * cols * cp + q) load else load))
  let aBits (i j kk : Nat) : Nat :=
    let tap := kk / cp
    line.getD (((i * x.sy + tap / x.fw * x.dy) * cols + j * x.sx + tap % x.fw * x.dx) * cp + kk % cp) 0
  let skip (i j ks : Nat) : Bool :=
    layZc layA && (List.range (min kc (k - ks * kc))).all (fun q => decide (aBits i j (ks * kc + q) = 0))
  let pixels := (List.range x.obH).flatMap (fun i => (List.range x.obW).map (fun j => (i, j)))
  let outs := pixels.flatMap (fun e => (List.range x.n).map (fun n =>
    let start : AccV := if pairInt x.inFmt then .i 0 else .f (.fin false 0 0)
    let r := reduceOne (draw + (e.1 * x.obW + e.2) * x.n + n) x.inFmt x.wFmt k x.zpA start
      (fun kk => operand x.inFmt (aBits e.1 e.2 kk) 0)
      (fun kk => (let w := wtElem rd x.inFmt x.wFmt x.bOff k kk n; operand x.wFmt w.1 w.2)) (skip e.1 e.2)
    let c := convertAcc x.dFmt (todRnd b) (todSatf b) x.act x.zpOut (colRec rd x.cEn x.perCol (isIntFmt x.dFmt) x.cOff n) r.1
    ((x.outY0 + e.1, x.outX0 + e.2, n, c.1), orF r.2 c.2)))
  let zr := ceilDiv x.n 64 *
    (pixels.foldl (fun a e => a + ((List.range (ceilDiv k kc)).filter (skip e.1 e.2)).length) 0)
  let busy := ceilDiv x.n 64 * (List.range (ceilDiv k kc)).foldl (fun a ks =>
    a + (pixels.filter (fun e => !skip e.1 e.2 ks)).length) 0
  let reads := (List.range (convRows x - x.keep)).flatMap (fun (r : Nat) => (List.range (cols * cp)).flatMap (fun (q : Nat) =>
    let y : Int := x.inY0 + x.keep + r
    let xx : Int := x.inX0 + (q / cp : Nat)
    if tensIn src y xx (q % cp) then (tensSpans src y.toNat xx.toNat (q % cp)).map (fun z => (1, z)) else []))
  { spans := reads ++ [(2, 8 * x.bOff, wtBytes x.inFmt x.wFmt k x.n)]
      ++ (if x.cEn then [(3, 8 * x.cOff, 16 * (if x.perCol then x.n else 1))] else [])
      ++ ((outs.map (fun o => o.1)).filter (fun e => tensIn dst e.1 e.2.1 e.2.2.1)).flatMap (fun e =>
        (tensSpans dst e.1 e.2.1 e.2.2.1).map (fun z => (0, z))),
    writes := tensWrites rd dst (outs.map (fun o => o.1)), flags := outs.foldl (fun a o => orF a o.2) 0, busy := busy,
    draws := pixels.length * x.n, zeroRows := zr, line := line }

end Sys2Proof.Machine
end

