-- ==== Sys2Proof/Machine/DmaFormat.lean ====
section
/-! DEFINITION. The DMA descriptor (08 R199, R204–R216): its fields, extents, checks, and the order in which its bytes are read and
written. -/

namespace Sys2Proof.Machine

/-- One side of a descriptor: kind, core or port, handle, generation, access width, address, line length, stride, line count. -/
structure Side where
  kind   : Nat
  core   : Nat
  handle : Nat
  gen    : Nat
  width  : Nat
  addr   : Nat
  line   : Nat
  stride : Int
  lines  : Nat
  deriving DecidableEq, Repr

/-- The width of a side's accesses: the field's, where the kind has both widths, else the only one that it has (R199, R204; log 69). -/
def accessWidth (kind field : Nat) : Nat :=
  if kind = 1 ∨ kind = 2 then 256 else if kind = 6 then 64 else if field = 0 then 64 else 256

/-- A side read from its words (R204). -/
def sideOf (b : List Byte) (spec addr line stride lines : Nat) : Side :=
  { kind := df b spec 2 0, core := df b spec 7 3, handle := df b spec 13 8, gen := df b spec 25 14,
    width := accessWidth (df b spec 2 0) (df b spec 27 26), addr := wordAt b addr + 2 ^ 32 * df b (addr + 1) 15 0,
    line := df b line 23 0, stride := sgn 32 (wordAt b stride), lines := df b lines 23 0 }

/-- Source and destination of a descriptor. -/
def srcSide (b : List Byte) : Side := sideOf b 1 2 4 5 6
def dstSide (b : List Byte) : Side := sideOf b 7 8 10 11 12

/-- DTYPE, LAST, SWAP, LAST_WINS, FETCH_AHEAD, FENCE, DESC_SEQ, RATE, ESIZE, IDX_FMT, IDX_LIMIT, PARAM (R204). -/
def dType (b : List Byte) : Nat := df b 0 7 0
def dLast (b : List Byte) : Bool := (wordAt b 0).testBit 8
def dSwap (b : List Byte) : Nat := df b 0 10 9
def dLastWins (b : List Byte) : Bool := (wordAt b 0).testBit 11
def dAhead (b : List Byte) : Nat := df b 0 14 12 + 1
def dFence (b : List Byte) : Bool := (wordAt b 0).testBit 15
def dSeq (b : List Byte) : Nat := df b 0 31 16
def dRate (b : List Byte) : Nat := df b 4 29 24
def dEsize (b : List Byte) : Nat := 2 ^ df b 14 3 2
def dIdxBytes (b : List Byte) : Nat := if df b 14 1 0 = 0 then 2 else 4
def dIdxLimit (b : List Byte) : Nat := df b 14 31 8
def dParam (b : List Byte) : Nat := wordAt b 13

/-- Bytes that the index stream carries, and the other side moves. -/
def isIndexed (b : List Byte) : Bool := decide (dType b = 3) || decide (dType b = 4)

/-- Which kinds a unit reaches (R199). -/
def reaches (u kind : Nat) : Bool :=
  if kind ≤ 3 then true else if kind = 4 then decide (u < 5) else if kind = 5 then decide (u < 4) else decide (kind = 6) && decide (u = 5)

/-- The fields of a side that its kind leaves unused are 0 (R204). -/
def sideFields (b : List Byte) (spec addr : Nat) : Bool :=
  let k := df b spec 2 0
  (decide (k = 1 ∨ k = 2) || (if k = 6 then decide (df b spec 7 7 = 0) else decide (df b spec 7 3 = 0)))
    && (decide (k = 1) || decide (df b spec 13 8 = 0))
    && (decide (k = 3 ∨ k = 5) || decide (df b (addr + 1) 15 0 = 0))
    && decide (df b spec 27 26 ≤ 1) && fz b spec 31 28

/-- Check 2 of R214 on unit `u`: encodings, reserved fields, kinds, DESC_SEQ, the maintenance restriction (R224). -/
def dmaEncoding (b : List Byte) (u seq : Nat) (maint : Bool) : Bool :=
  let ty := dType b
  let s := srcSide b
  let d := dstSide b
  decide (1 ≤ ty) && decide (ty ≤ 6) && decide (dSeq b = seq) && decide (s.kind ≤ 6) && decide (d.kind ≤ 6)
    && reaches u s.kind && reaches u d.kind && decide (d.kind ≠ 0) && decide (d.kind ≠ 6)
    && decide (s.kind = 0 ↔ ty = 5) && sideFields b 1 2 && sideFields b 7 8
    && fz b 3 31 16 && fz b 4 31 30 && fz b 6 31 24 && fz b 9 31 16 && fz b 10 31 24 && fz b 12 31 24 && fz b 14 7 4
    && (maint || (decide (ty ≤ 4) && decide (s.kind ≠ 2) && decide (d.kind ≠ 2)))
    && (!maint || dLast b)
    && (if isIndexed b then decide (df b 14 1 0 ≤ 1) && decide (1 ≤ dIdxLimit b) else fz b 14 1 0 && fz b 14 31 8)
    && (decide (ty = 2) || fz b 14 3 2) && (isIndexed b || decide (ty = 5) || decide (dParam b = 0))
    && (decide (ty ≠ 2) || decide (dSwap b = 0))

/-- The size of the address space of a kind (R199); for a handle, its rows. -/
def State.kindSize (s : State) (x : Side) : Nat :=
  if x.kind = 1 then 256 * ((s.pad x.core).handle x.handle).count
  else if x.kind = 2 then 2621440
  else if x.kind = 3 then 2 ^ 35
  else if x.kind = 4 then 8388608
  else if x.kind = 5 then 2 ^ 48
  else if x.kind = 6 then s.kind6Size x.core
  else 0

/-- Where line `i` of a side starts (R208). -/
def lineStart (x : Side) (i : Nat) : Int := (x.addr : Int) + (i : Int) * x.stride

/-- The extent of a side of `n` lines: lowest line start, highest line end (R209). -/
def extentOf (x : Side) (n : Nat) : Int × Int :=
  let a := lineStart x 0
  let z := lineStart x (n - 1)
  (min a z, max a z + x.line)

/-- The lines that a side's extent spans: those of an indexed side are the indices below IDX_LIMIT (R212). -/
def extentLines (b : List Byte) (isSrc : Bool) (x : Side) : Nat :=
  if (isSrc && decide (dType b = 3)) || (!isSrc && decide (dType b = 4)) then dIdxLimit b else x.lines

/-- The source and destination extents of a descriptor. -/
def srcExtent (b : List Byte) : Int × Int := extentOf (srcSide b) (extentLines b true (srcSide b))
def dstExtent (b : List Byte) : Int × Int := extentOf (dstSide b) (extentLines b false (dstSide b))

/-- Check 3 of R214: lengths and shapes (R207–R211). -/
def State.dmaLengths (s : State) (b : List Byte) : Bool :=
  let ty := dType b
  let x := srcSide b
  let d := dstSide b
  let inside (e : Int × Int) (k : Side) : Bool := decide (0 ≤ e.1) && decide (e.2 ≤ s.kindSize k)
  decide (1 ≤ d.line) && decide (1 ≤ d.lines) && (decide (ty = 5) || (decide (1 ≤ x.line) && decide (1 ≤ x.lines)))
    && (if dSwap b = 1 then decide (x.line % 2 = 0) else if dSwap b = 0 then true else decide (x.line % 4 = 0))
    && (if ty = 2 then
          decide (x.line % dEsize b = 0) && decide (d.lines = x.line / dEsize b) && decide (d.line = x.lines * dEsize b)
        else if ty = 5 then true
        else decide (x.line * x.lines = d.line * d.lines))
    && (decide (ty = 5) || inside (srcExtent b) x) && inside (dstExtent b) d
    && (decide (ty ≠ 4) || dLastWins b || decide (d.lines ≤ 4096))

/-- A side's extent in its address space: space, start, end. Kinds 1 and 2 are physical rows of a core (R215). -/
def State.physExtent (s : State) (x : Side) (e : Int × Int) : Nat × Int × Int :=
  if x.kind = 1 then
    (let base : Int := 256 * (((s.pad x.core).handle x.handle).base : Int)
     (32 + x.core, base + e.1, base + e.2))
  else if x.kind = 2 then (32 + x.core, e.1, e.2)
  else if x.kind = 6 then (64 + x.core, e.1, e.2)
  else (x.kind, e.1, e.2)

/-- Do the two sides overlap (R215)? -/
def State.sidesOverlap (s : State) (b : List Byte) : Bool :=
  let p := s.physExtent (srcSide b) (srcExtent b)
  let q := s.physExtent (dstSide b) (dstExtent b)
  decide (p.1 = q.1) && decide (p.2.1 < q.2.2) && decide (q.2.1 < p.2.2)

/-- Does a COPY run line by line over overlapping sides (R215)? -/
def State.serialMode (s : State) (b : List Byte) : Bool := decide (dType b = 1) && decide (dSwap b = 0) && s.sidesOverlap b

/-- Check 4 of R214: overlap (R215). -/
def State.overlapOk (s : State) (b : List Byte) : Bool :=
  let x := srcSide b
  let d := dstSide b
  if dType b = 5 ∨ dType b = 6 ∨ s.sidesOverlap b = false then true
  else if dType b = 1 then
    (if dSwap b = 0 then decide (x.line = d.line) && decide (x.line ≤ 32768)
     else decide (x.kind = d.kind) && decide (x.core = d.core) && decide (x.handle = d.handle) && decide (x.addr = d.addr)
       && decide (x.line = d.line) && decide (x.stride = d.stride) && decide (x.lines = d.lines))
  else false

/-- Check 5 of R214: does the destination alias (R216)? `idx` is the index stream of a SCATTER. -/
def aliases (b : List Byte) (idx : List Nat) : Bool :=
  let d := dstSide b
  if dType b = 6 then false
  else if dType b = 4 then
    let live := idx.filter (fun i => decide (i < dIdxLimit b))
    (List.zip (List.range live.length) live).any (fun e => (live.take e.1).any (fun j =>
      decide ((max e.2 j - min e.2 j) * d.stride.natAbs < d.line)))
  else decide (1 < d.lines) && decide (d.stride.natAbs < d.line)

/-! ### The index stream (R212) -/

/-- Indices of a GATHER or SCATTER: as many as the indexed side has lines. -/
def idxCount (b : List Byte) : Nat :=
  if dType b = 3 then (srcSide b).lines else if dType b = 4 then (dstSide b).lines else 0

/-- 64-byte blocks of the index stream. -/
def idxBlocks (b : List Byte) : Nat := ceilDiv (dIdxBytes b * idxCount b) 64

/-- Index `k`, once its block is in. -/
def Desc.index (d : Desc) (k : Nat) : Option Nat :=
  let at' := dIdxBytes d.bytes * k
  (d.idxIn.find? (fun e => decide (e.1 = at' / 64))).map (fun e => leNat (slice e.2 (at' % 64) (dIdxBytes d.bytes)))

/-- The indices that are in, in order. -/
def Desc.indices (d : Desc) : List Nat := (List.range (idxCount d.bytes)).filterMap d.index

/-- Is the whole index stream in? -/
def Desc.idxWhole (d : Desc) : Bool := decide (idxBlocks d.bytes ≤ d.idxIn.length)

/-- Is the whole index stream to be checked for aliases before the descriptor becomes active (R216)? -/
def Desc.checksIdx (d : Desc) : Bool := decide (dType d.bytes = 4) && !dLastWins d.bytes

/-- Checks 1 to 5 of R214, in order; that of a SCATTER's indices follows when they are in (R216). A CRC mismatch persists on the retry
(R447). -/
def State.dmaCheck (s : State) (u : Nat) (b : List Byte) (seq : Nat) (maint : Bool) : Nat :=
  if crc32 (slice b 0 60) ≠ wordAt b 15 then stTaskAborted
  else firstFail [need (dmaEncoding b u seq maint) stBadEncoding, need (s.dmaLengths b) stBadLength,
    need (s.overlapOk b) stOverlap, need (dLastWins b || decide (dType b = 4) || !aliases b []) stWriteAlias]

/-- Check 6 of R214, at activation: handles of kind 1 (R141). -/
def State.dmaHandles (s : State) (b : List Byte) : Nat :=
  let one (x : Side) : Nat := if x.kind = 1 then handleCheck ((s.pad x.core).handle x.handle) x.gen else 0
  firstFail [one (srcSide b), one (dstSide b)]

/-! ### The order of bytes (R208, R210–R212) -/

/-- Bytes of the source's byte stream, and bytes that a descriptor writes. -/
def streamTotal (b : List Byte) : Nat := (srcSide b).line * (srcSide b).lines
def writeTotal (b : List Byte) : Nat := let d := dstSide b; if dType b = 6 then 0 else d.line * d.lines

/-- Is the source line read once and held for all its repetitions (R208)? The side of a SCATTER that is not indexed and the source of a COMPARE
iterate as a COPY's (R212, R225); in serial mode each line is read before it is written (R215). -/
def Desc.bcast (d : Desc) : Bool :=
  let x := srcSide d.bytes
  let t := dType d.bytes
  (decide (t = 1) || decide (t = 4) || decide (t = 6)) && decide (x.stride = 0) && decide (x.line ≤ 32768) && !d.serial

/-- Bytes that a descriptor reads of its source: of a line that is held, once. -/
def Desc.srcTotal (d : Desc) : Nat := if d.bcast then (srcSide d.bytes).line else streamTotal d.bytes

/-- Bytes that a descriptor reads. A COMPARE reads its destination too. -/
def Desc.readTotal (d : Desc) : Nat :=
  if dType d.bytes = 5 then 0 else if dType d.bytes = 6 then d.srcTotal + streamTotal d.bytes else d.srcTotal

/-- Where byte `b` of a source's stream stands after SWAP, and the same the other way round (R207). -/
def swapPos (b : List Byte) (k : Nat) : Nat :=
  if dSwap b = 1 then k / 2 * 2 + (1 - k % 2)
  else if dSwap b = 2 then k / 4 * 4 + (k % 4 + 2) % 4
  else if dSwap b = 3 then k / 4 * 4 + (3 - k % 4)
  else k

/-- A place in a TRANSPOSE, in tile order (R211): tiles of 64 lines × 256 bytes, rows of tiles first. Answers the source line and
byte of reading position `k`. -/
def tileRead (x : Side) (k : Nat) : Nat × Nat :=
  let band := k / (64 * x.line)
  let h := min 64 (x.lines - 64 * band)
  let r := k - 64 * x.line * band
  let col := r / (256 * h)
  let w := min 256 (x.line - 256 * col)
  let q := r - 256 * h * col
  (64 * band + q / w, 256 * col + q % w)

/-- The destination line and byte of writing position `k` of a TRANSPOSE, in tile order. -/
def tileWrite (x : Side) (e k : Nat) : Nat × Nat :=
  let band := k / (64 * x.line)
  let h := min 64 (x.lines - 64 * band)
  let r := k - 64 * x.line * band
  let col := r / (256 * h)
  let q := r - 256 * h * col
  (256 / e * col + q / (h * e), 64 * e * band + q % (h * e))

/-- The reading position that holds source line `i`, byte `j`, in tile order. -/
def tileReadPos (x : Side) (i j : Nat) : Nat :=
  let band := i / 64
  let h := min 64 (x.lines - 64 * band)
  let col := j / 256
  let w := min 256 (x.line - 256 * col)
  64 * x.line * band + 256 * h * col + i % 64 * w + j % 256

/-- The writing position of byte `o` of destination line `j`, in tile order. -/
def tileWritePos (x : Side) (e j o : Nat) : Nat :=
  let band := o / (64 * e)
  let h := min 64 (x.lines - 64 * band)
  64 * x.line * band + 256 * h * (j / (256 / e)) + j % (256 / e) * (h * e) + o % (64 * e)

/-- The reading position of byte `q` of a COMPARE's source or destination stream: the source's positions come before the destination's. -/
def Desc.comparePos (d : Desc) (onDst : Bool) (q : Nat) : Nat :=
  if onDst then d.srcTotal + q else if d.bcast then q % (srcSide d.bytes).line else q

/-- The stream position of a reading position, and whether it lies on the destination (COMPARE). -/
def Desc.streamPos (d : Desc) (k : Nat) : Bool × Nat :=
  if dType d.bytes = 6 ∧ d.srcTotal ≤ k then (true, k - d.srcTotal) else (false, k)

/-- The position that is read next. A COMPARE reads its source, and its destination once the source is ahead of it by the 256 bytes of an
access, or is held. -/
def Desc.rAt (d : Desc) : Nat :=
  let src := d.rPos - d.rDst
  if dType d.bytes ≠ 6 then d.rPos
  else if src < d.srcTotal ∧ (d.bcast = true ∨ streamTotal d.bytes ≤ d.rDst ∨ src < 256 * (d.rDst / 256 + 1)) then src
  else d.srcTotal + d.rDst

/-- Where a position of a descriptor lies: at an address, in a line that its index clips (R213), or in a line whose index is not in yet. -/
inductive Place where
  | unknown
  | clipped
  | here (a : Int)
  deriving DecidableEq, Repr

/-- The place of byte `o` of line `k` of the indexed side. -/
def Desc.indexed (d : Desc) (x : Side) (k o : Nat) : Place :=
  match d.index k with
  | none => .unknown
  | some i => if dIdxLimit d.bytes ≤ i then .clipped else .here (lineStart x i + (o : Int))

/-- The place of reading position `k`, and the bytes left in its line (R208, R211–R213). The flag says that the position lies on the
destination (COMPARE). -/
def Desc.readPlace (d : Desc) (k : Nat) : Bool × Place × Nat :=
  let b := d.bytes
  let x := srcSide b
  if dType b = 2 then
    (let p := tileRead x k
     (false, .here (lineStart x p.1 + p.2), min (256 - p.2 % 256) (x.line - p.2)))
  else if dType b = 6 then
    (let p := d.streamPos k
     let y := if p.1 then dstSide b else x
     (p.1, .here (lineStart y (p.2 / y.line) + (p.2 % y.line : Nat)), y.line - p.2 % y.line))
  else if dType b = 3 then (false, d.indexed x (k / x.line) (k % x.line), x.line - k % x.line)
  else (false, .here (lineStart x (k / x.line) + (k % x.line : Nat)), x.line - k % x.line)

/-- The place of writing position `k` and the bytes left in its line (R208, R211–R213). -/
def Desc.writePlace (d : Desc) (k : Nat) : Place × Nat :=
  let b := d.bytes
  let x := srcSide b
  let y := dstSide b
  if dType b = 2 then
    (let e := dEsize b
     let p := tileWrite x e k
     let h := min 64 (x.lines - p.2 / (64 * e) * 64)
     (.here (lineStart y p.1 + p.2), h * e - p.2 % (64 * e)))
  else if dType b = 4 then (d.indexed y (k / y.line) (k % y.line), y.line - k % y.line)
  else (.here (lineStart y (k / y.line) + (k % y.line : Nat)), y.line - k % y.line)

/-- The reading position of the byte that goes to writing position `k` (R207, R208, R211). -/
def Desc.sourcePos (d : Desc) (k : Nat) : Nat :=
  let b := d.bytes
  let x := srcSide b
  if dType b = 2 then
    (let e := dEsize b
     let p := tileWrite x e k
     tileReadPos x (p.2 / e) (p.1 * e + p.2 % e))
  else if d.bcast then swapPos b k % x.line
  else swapPos b k

/-- Does a byte of a TRANSPOSE under LAST_WINS stay as a later destination line has left it (R216)? The tiles of R211 write bytes of a later
line before bytes of an earlier one. -/
def Desc.masked (d : Desc) (k : Nat) : Bool :=
  let b := d.bytes
  let x := srcSide b
  let y := dstSide b
  if dType b = 2 ∧ dLastWins b = true then
    (let e := dEsize b
     let p := tileWrite x e k
     let a := lineStart y p.1 + p.2
     let last := if y.stride = 0 then y.lines - 1 - p.1 else min (y.lines - 1 - p.1) (y.line / y.stride.natAbs)
     (List.range last).any (fun i =>
       let o := a - lineStart y (p.1 + 1 + i)
       decide (0 ≤ o) && decide (o < y.line) && decide (tileWritePos x e (p.1 + 1 + i) o.toNat < k)))
  else false

/-- Bytes of a request at an address within a line: up to the end of its aligned unit, of the line, of 256 bytes (R206). -/
def requestLen (width : Nat) (addr : Int) (left : Nat) : Nat := min left (width - (uns 16 addr) % width)

/-- The tile in which a stream position lies (R220): a line, or 16,384 bytes of a longer one; a block of R211 for TRANSPOSE. -/
def tileIndex (b : List Byte) (k : Nat) : Nat :=
  let x := srcSide b
  if dType b = 2 then
    (let band := k / (64 * x.line)
     let h := max 1 (min 64 (x.lines - 64 * band))
     band * ceilDiv x.line 256 + (k - 64 * x.line * band) / (256 * h))
  else k / x.line * ceilDiv x.line 16384 + k % x.line / 16384

/-- The destination extent of a chain's LAST descriptor, as a result record shows it: kind, start, length (R209, R366). -/
def State.outExtent (s : State) (t : Task) : Nat × Nat × Nat :=
  match (s.chain chainMax t.prog).getLast? with
  | none => (0, 0, 0)
  | some b =>
    let k := (dstSide b).kind
    if k = 3 ∨ k = 5 then
      let e := dstExtent b
      (k, e.1.toNat, (e.2 - e.1).toNat)
    else (0, 0, 0)

end Sys2Proof.Machine
end

