-- ==== Sys2Proof/Machine/Tensor.lean ====
section
/-! DEFINITION. The tensor cores' sequencers (04 R112–R117, R301, R302, R436, R437): fetching, starting and completing TODs, flag
waits, self-test slices. -/

namespace Sys2Proof.Machine

/-- The task that a core's sequencer runs. -/
def State.coreTask (s : State) (c : Nat) : Option Task := (s.core c).task.bind (fun id => s.task? id)

/-- The core's sequencer cleared for the next task; the line buffer's content is lost (R171). -/
def State.clearCore (s : State) (c : Nat) : State :=
  s.setCore c { s.core c with task := none, fetch := [], fetched := 0, run := none, ran := 0, lastTod := [], line := [], stop := 0, wait := 0 }

/-- The cycles of a host task charged to its queue (R191). -/
def State.chargeHost (s : State) (t : Task) : State :=
  if t.ring.isSome ∧ t.started = true then
    let q := s.queue t.node.queue
    s.setQueue t.node.queue { q with used := q.used + (s.now - t.startAt) }
  else s

/-- A stripe node that ends with a refusal or an abort marks the rows that it owns as corrupt (R271). -/
def Task.stripeMark (t : Task) (st : Nat) : Task := if t.node.kind = 0 ∧ st ≠ stOk then { t with corrupt := true } else t

/-- The core's task ends with a status (R116); a retired core puts down what waits there too. A background pass of a spare writes no record (R437). -/
def State.coreFinish (s : State) (c st : Nat) : State :=
  match s.coreTask c with
  | none => s.clearCore c
  | some t =>
    let stop := (s.core c).stop
    let st := if stop = 0 then st else if stop = 3 then stRetired else stTaskAborted
    let s := if stop = 1 then s.modTask t.id (fun u => { u with aborted := true, absent := true }) else s
    let s := ((s.modTask t.id (fun u => u.stripeMark st)).endTask t.id st).chargeHost t
    let s := if t.redo = 3 then s.modTask t.id (fun u => { u with stage := 4 }) else s
    (s.clearCore c).putDown c

/-- Why a stopped task ends (R191, R196, R451): its status and marks. -/
def State.coreStop (s : State) (c : Nat) : State :=
  s.coreFinish c stTaskAborted

/-! ### TOD_FETCH (R115) -/

/-- The core that holds operand `o` of a TOD: a LAYOUT TOD's remote side lies elsewhere (R164). -/
def todCore (b : List Byte) (c o : Nat) : Nat :=
  if (todType b = 0x11 ∧ o = 1 ∧ layRemote b = true) ∨ (todType b = 0x12 ∧ o = 0 ∧ layRemote b = true) then layCore b else c

/-- The handle of operand `o`. -/
def State.todEntry (s : State) (b : List Byte) (c o : Nat) : HandleE := (s.pad (todCore b c o)).handle (todHandle b o)

/-- The layout of operand `o`: for a remote side the one that the TOD names. -/
def State.todLay (s : State) (b : List Byte) (c o : Nat) : Nat :=
  if todCore b c o ≠ c then layRLayout b else (s.todEntry b c o).layout

/-- Do the local handles of a LAYOUT TOD stand as it expects them, so that its layouts are known when it is loaded (R165)? -/
def State.layoutsKnown (s : State) (b : List Byte) (c : Nat) : Bool :=
  (decide (todType b = 0x11) || decide (todType b = 0x12)) && [0, 1].all (fun o =>
    !(todUse b o && decide (todCore b c o = c)) || decide (handleCheck (s.todEntry b c o) (todGen b o) = 0))

/-- The 8-byte words of the remote side of a LAYOUT TOD that its region touches in bounds (R164, R166). -/
def remoteWords (b : List Byte) (layA layD : Nat) : Nat :=
  let o := if todType b = 0x11 then 1 else 0
  let spans := (moveWork (fun _ _ => 0) (layoutOf b layA layD) 0).spans.filter (fun e => decide (e.1 = o))
  (spans.flatMap (fun e => upTo (e.2.1 / 8) (ceilDiv (e.2.1 + e.2.2) 8))).eraseDups.length

/-- Uncontended cycles of a TOD on core `c`: a remote LAYOUT TOD takes a cycle for each remote word, the best latency of R149, and 12 (R166). -/
def todCost (b : List Byte) (c layA layD : Nat) (diag : Bool) : Nat :=
  if (todType b = 0x11 ∨ todType b = 0x12) ∧ layRemote b = true then
    remoteWords b layA layD + (if layCore b / 8 = c / 8 then 20 else 32) + 12
  else todCycles b layA layD diag

/-- The status of a fetched TOD: CRC, encodings, KNOWN_ANSWER in self-test programs alone (R436), limits, the layout pair of a LAYOUT TOD, and the limit on host TODs (R115, R165, R191). A
CRC mismatch persists on the retry, since the program region holds the same bytes; the task then ends with TASK_ABORTED (R447). -/
def State.todCheck (s : State) (c : Nat) (t : Task) (b prev : List Byte) (seq : Nat) : Nat :=
  let layA := s.todLay b c 1
  let layD := s.todLay b c 0
  if crc32 (slice b 0 60) ≠ wordAt b 15 then stTaskAborted
  else if !todEncoding b seq || decide (decide (todType b = 0x30) ≠ t.selfTest) then stBadEncoding
  else
    firstFail [todLimits b prev c t.part layA, need (!s.layoutsKnown b c || todLayouts b layA 0 0 layD) stBadEncoding,
      need (t.ring.isNone || decide (todCost b c layA layD (s.todEntry b c 1).diag ≤ 8192)) stBadLength]

/-- The TOD at position `seq` of a task's program, checked. -/
def State.fetchOne (s : State) (c : Nat) (t : Task) (q : List TodQ) (lastDone : List Byte) (seq : Nat) : TodQ :=
  let b := s.ddrRead (t.prog + 64 * seq) 64
  let prev := match q.getLast? with
    | some x => x.bytes
    | none => lastDone
  { bytes := b, status := firstFail [s.fetchStatus (t.prog + 64 * seq), s.todCheck c t b prev seq] }

/-- Has a fetch queue room, and does the program go on (R115, R116)? -/
def fetchOpen (q : List TodQ) : Bool :=
  decide (q.length < 8) && (match q.getLast? with
    | some x => decide (x.status = 0) && !todLast x.bytes
    | none => true)

/-- A descriptor of task `id` fetched with outcome `st`: a block that could not be read marks the task's outputs (R223, R447, R452), a poisoned one
counts (R444), and a CRC that fails twice is a lasting error. -/
def State.countFetch (s : State) (addr st : Nat) (who : Option Nat) (id : Nat) : State :=
  if s.fetchStatus addr ≠ stOk then
    (if s.fetchStatus addr = stTaskAborted then s.countPoison addr 64 who else s).modTask id (fun t => { t with corrupt := true })
  else if st = stTaskAborted then s.crcLasting who
  else s

/-- Is the program of the running task fetched whole: its LAST TOD, or a refused one, is the last one fetched? -/
def CoreSt.fetchedAll (x : CoreSt) : Bool :=
  match x.fetch.getLast? with
  | some q => todLast q.bytes || decide (q.status ≠ 0)
  | none => decide (0 < x.fetched) && (match x.run with
      | some b => todLast b
      | none => false)

/-- TOD_FETCH: the next TOD of the running task enters the fetch queue with its checks; while a task runs and its program is
fetched whole, the next entry of the same queue is prefetched where OUTSTANDING allows (R115, R190). -/
def execTodFetch (t : Nat) (c : CoreId) (s : State) : Out :=
  whileLive t s (fun s =>
    let x := s.core c.val
    match s.coreTask c.val with
    | none => s
    | some k =>
      if !x.fetchedAll then
        if fetchOpen x.fetch then
          let q := s.fetchOne c.val k x.fetch (x.run.getD x.lastTod) x.fetched
          (s.countFetch (k.prog + 64 * x.fetched) q.status (some c.val) k.id).setCore c.val
            { x with fetch := x.fetch ++ [q], fetched := x.fetched + 1 }
        else s
      else
        let deep := match (s.queue k.node.queue).bind with
          | some b => decide (2 ≤ b.outstanding)
          | none => false
        let next := match x.next with
          | some id => s.task? id
          | none => s.tasks.find? (fun u => decide (u.stage = 1) && decide (u.node.queue = k.node.queue) && decide (u.node.res = c.val))
        match next with
        | none => s
        | some u =>
          if deep && fetchOpen x.nfetch then
            let q := s.fetchOne c.val u x.nfetch [] x.nfetch.length
            (s.countFetch (u.prog + 64 * x.nfetch.length) q.status (some c.val) u.id).setCore c.val { x with next := some u.id, nfetch := x.nfetch ++ [q] }
          else s)

/-! ### TOD_START (R115, R116, R141, R167) -/

/-- REMOTE_LAYOUT against the remote handle at its core, where the firewall and the handle's own checks let the TOD's requests through: what
those refuse is refused there, under R147 and R166. -/
def State.remoteLayout (s : State) (c part : Nat) (b : List Byte) : Bool :=
  [0, 1].all (fun o =>
    let rc := todCore b c o
    let h := s.todEntry b c o
    decide (rc = c) || decide (s.corePart rc ≠ some part) || decide (handleCheck h (todGen b o) ≠ 0) || decide (h.layout = layRLayout b))

/-- The checks at the start of a TOD: generations and quarantine of the local handles used, then layouts, the remote side's at its core (R167). An
operand whose USE bit is 0 is not checked (log 81). -/
def State.startCheck (s : State) (c part : Nat) (b : List Byte) : Nat :=
  let lay (o : Nat) : Nat := s.todLay b c o
  firstFail (([0, 1, 2, 3].map (fun o =>
      if todUse b o ∧ todCore b c o = c then handleCheck (s.todEntry b c o) (todGen b o) else 0))
    ++ [need (todLayouts b (lay 1) (lay 2) (lay 3) (lay 0)) stBadEncoding, need (s.remoteLayout c part b) stBadEncoding])

/-- A refused TOD: the task ends with the refusal's status (R116). -/
def State.refuseTod (s : State) (c st : Nat) : State :=
  (((s.bump 64 (0x5000 + c) 8 1).countStale c st).coreFinish c st)

/-- The latest cycle at which a slot may still run a slice (R437): its start plus WCET, and its DEADLINE. -/
def slotLimit (t : Task) : Nat := min (t.startAt + t.node.wcet) (t.edge + t.node.deadline)

/-- TOD_START: the head of the fetch queue starts once the TOD before it has written its last output. A slice of a self-test slot
that does not fit ends the slot (R437). -/
def execTodStart (t : Nat) (c : CoreId) (s : State) : Out :=
  whileLive t s (fun s =>
    let x := s.core c.val
    match s.coreTask c.val with
    | none => s
    | some k =>
      if x.run.isSome then s
      else if x.stop ≠ 0 then s.coreStop c.val
      else
        match x.fetch with
        | [] => s
        | q :: rest =>
          if q.status ≠ 0 then s.refuseTod c.val q.status
          else
            let st := s.startCheck c.val k.part q.bytes
            if st ≠ 0 then s.refuseTod c.val st
            else if k.selfTest && decide (k.redo = 0) && decide (slotLimit k < s.now + todCycles q.bytes 0 0 false) then
              (s.bump 64 (0x7100 + c.val) 6 1).coreFinish c.val stOk
            else
              let s := if k.ring.isSome ∧ k.started = false then
                  (s.modTask k.id (fun u => { u with started := true, startAt := s.now })).countStart c.val (s.now - k.eligAt)
                else s
              s.setCore c.val { s.core c.val with
                fetch := rest, run := some q.bytes, runAt := s.now, ran := 0, wait := if todType q.bytes = 0x20 then 1 else 0 })

/-! ### TOD_COMPLETE (R116, R117) -/

/-- The remote side of a LAYOUT TOD: the firewall, the handle at the other core, its layout (R147, R164, R166, R167). -/
def State.remoteCheck (s : State) (c : Nat) (part : Nat) (b : List Byte) : State × Nat :=
  if (todType b = 0x11 ∨ todType b = 0x12) ∧ layRemote b = true then
    let rc := layCore b
    let o := if todType b = 0x11 then 1 else 0
    if s.corePart rc ≠ some part then
      ((s.firewallRefuse c part (decide (o = 0)) 1 rc).bump 64 (0x5100 + rc) 4 1, stAccessDenied)
    else
      let h := (s.pad rc).handle (todHandle b o)
      let st := firstFail [handleCheck h (todGen b o), need (decide (h.layout = layRLayout b)) stBadEncoding]
      (s.countStale rc st, st)
  else (s, stOk)

/-- What the TOD computes. -/
def State.todWork (s : State) (c : Nat) (b : List Byte) : TodWork :=
  let rd : Rd := fun o off => s.padByte (todCore b c o) (todHandle b o) off
  let ty := todType b
  let lay (o : Nat) : Nat := (s.todEntry b c o).layout
  if ty = 1 then matmulWork rd b s.free
  else if ty = 2 then vectorWork rd b s.free
  else if ty = 3 then reduceWork rd b s.free
  else if ty = 4 then lutWork rd b s.free
  else if ty = 0x10 then convWork rd b (s.core c).lastTod (s.core c).line (lay 1) (lay 0) (s.todEntry b c 1).fill s.free
  else if ty = 0x11 ∨ ty = 0x12 then
    moveWork rd (layoutOf b (lay 1) (lay 0))
      (if ty = 0x11 ∧ layRemote b = true then (s.todEntry b c 0).fill else (s.todEntry b c 1).fill)
  else work0

/-- The port of the guard log through which a slot is reached: EW for results, E0 for A, E1 for B and C, N for a remote side. -/
def slotPort (b : List Byte) (c o : Nat) : Nat :=
  if todCore b c o ≠ c then 5 else if o = 0 then 2 else if o = 1 then 0 else 1

/-- Counters of a completed TOD (R126). -/
def State.countTod (s : State) (c : Nat) (w : TodWork) : State :=
  let s := (s.bump 64 (0x5000 + c) 3 1).bump 64 (0x5000 + c) 4 w.busy
  let s := if w.flags.testBit 0 then s.bump 64 (0x5000 + c) 5 1 else s
  let s := if w.flags.testBit 1 then s.bump 64 (0x5000 + c) 6 1 else s
  if w.flags.testBit 2 || w.flags.testBit 3 then s.bump 64 (0x5000 + c) 7 1 else s

/-- The task goes on after a completed TOD, ends after its LAST one, stops where it is to stop, or yields; a background pass
of a plan that another has followed ends without a mark on the cursor, and a slot of a replaced plan leaves none (R116, R196, R437). -/
def State.afterTod (s : State) (c : Nat) (b : List Byte) : State :=
  let x := s.core c
  let s := s.setCore c { x with run := none, lastTod := b, wait := 0, ran := 0 }
  match s.coreTask c with
  | none => s
  | some t =>
    let s := if t.selfTest && !t.stop && !t.old then
        (if todLast b then
          (((s.setCore c { s.core c with cursor := 0, passAt := s.tickCount }).setReg (0x7100 + c) 3 0).bump 64 (0x7100 + c) 1 1).setReg
            (0x7100 + c) 2 s.tickCount
         else (s.setCore c { s.core c with cursor := todSeq b + 1 }).setReg (0x7100 + c) 3 (todSeq b + 1))
      else s
    if x.stop ≠ 0 then s.coreStop c
    else if todLast b then s.coreFinish c stOk
    else if t.selfTest then
      let waiting := s.tasks.filter (fun u => decide (u.node.res = c) && decide (u.stage = 1) && decide (u.eligAt + 4 ≤ s.now))
      if t.redo = 3 then (if waiting.isEmpty && !t.stop then s else s.coreFinish c stOk)
      else if waiting.any (fun u => u.node.safety) then
        let s := s.bump 64 (0x7100 + c) 7 1
        s.setCore c { (s.clearCore c).core c with paused := some t.id }
      else s
    else s

/-- A KNOWN_ANSWER test (R436): the die's result against EXPECT. The first mismatch is tried again; a second one fails the core, or
for UNIT 0x8 the sub-bank of the first word that differs, which is free. -/
def State.knownAnswerEnd (s : State) (c : Nat) (b : List Byte) : State :=
  let unit := df b 4 3 0
  let rows := df b 7 13 0
  let d := s.draw
  let s := d.2
  let got := Config.knownAnswer c unit (wordAt b 5) rows d.1
  let s := if unit = 8 then
      let e := s.todEntry b c 0
      let bytes := Config.freeBytes d.1 (256 * rows)
      (s.guardSpan c (todHandle b 0) 0 (256 * rows) 2).padPuts c (todHandle b 0) ((List.range (256 * min rows e.count)).map (fun i => (i, bytes.getD i 0)))
    else s
  let x := s.core c
  if got = wordAt b 6 then
    let s := if x.ran = 1 then s.bump 64 0x8000 1 1 else s
    (s.countTod c work0).afterTod c b
  else
    let s := { (s.bump 32 (0x7100 + c) 5 1) with umbra := { s.umbra with selftest := true } }
    if x.ran = 0 then s.setCore c { x with ran := 1, runAt := s.now }
    else
      let s := s.bump 64 0x8000 2 1
      let s := match x.task with
        | some id => s.modTask id (fun t => { t with corrupt := true })
        | none => s
      let s := s.coreFinish c stTaskAborted
      if unit = 8 then
        let d := s.draw
        let r := (s.todEntry b c 0).base + Config.freeNat d.1 % max 1 rows
        d.2.retireSubBank c (Config.freeNat (d.1 + 1) % 32) (subBank r) 2
      else s.retireCore c 2

/-- What the TOD that ran leaves: guard marks, its outputs in the scratchpad, its counts, its flags ORed into the task's (R117), a
CONV's region in the line buffer (R171), and the next TOD or the task's end. -/
def State.todOutputs (s : State) (c : Nat) (k : Task) (b : List Byte) (w : TodWork) : State :=
  let s := w.spans.foldl (fun s e =>
    s.guardSpan (todCore b c e.1) (todHandle b e.1) e.2.1 e.2.2 (slotPort b c e.1)) s
  let far := todCore b c 0 ≠ c
  let s := if far then ((w.spans.filter (fun e => decide (e.1 = 0))).map (fun e => e.2.1 / 256)).eraseDups.foldl (fun s r =>
      s.joinRows (todCore b c 0) (todHandle b 0) 5 (256 * r) 256 true) s
    else s
  let s := s.padPuts (todCore b c 0) (todHandle b 0) w.writes
  let s := { s with free := s.free + w.draws }
  let s := (s.countTod c w).bump 64 (0x5150 + k.part) 5 w.zeroRows
  let s := s.modTask k.id (fun u => { u with flags := orF u.flags w.flags, wrote := true })
  let s := s.setCore c { s.core c with line := w.line }
  s.afterTod c b

/-- The cores whose scratchpads a TOD reaches. -/
def todReach (b : List Byte) (c : Nat) : List Nat := (c :: (List.range 4).map (todCore b c)).eraseDups

/-- The running TOD of a core completes: its outputs, its flags ORed into the task's, and the task's end after the LAST TOD. An access to a
withdrawn row, or a refusal at a remote core, ends the task (R116, R166, R451). -/
def State.todComplete (s : State) (c : Nat) : State :=
  let x := s.core c
  match x.run, s.coreTask c with
  | some b, some k =>
    if todType b = 0x20 ∧ (x.wait = 1 ∨ x.wait = 2) then s
    else if todType b = 0x30 then s.knownAnswerEnd c b
    else if todType b = 0x20 then (s.countTod c work0).afterTod c b
    else
      let r := s.remoteCheck c k.part b
      if r.2 ≠ 0 then r.1.coreFinish c r.2
      else
        let s := r.1
        let w := s.todWork c b
        if w.spans.any (fun e => s.spanWithdrawn (todCore b c e.1) (todHandle b e.1) e.2.1 e.2.2) then s.coreFinish c stRetired
        else s.todOutputs c k b w
  | _, _ => s

/-- A step of a core's sequencer that reaches scratchpads: it waits while the row-valid bits of one are cleared (R144), and comes after the
cycles of their ports that have passed. -/
def State.todAccess (s : State) (c : Nat) (f : State → State) : State :=
  match (s.core c).run with
  | none => s
  | some b =>
    match (todReach b c).find? s.padClearing with
    | some k => s.holdPad k (.tod c)
    | none => f ((todReach b c).foldl State.padRun s)

/-- TOD_COMPLETE. -/
def execTodComplete (t : Nat) (c : CoreId) (s : State) : Out :=
  whileLive t s (fun s => s.todAccess c.val (fun s => s.todComplete c.val))

/-- HOST_TASK_MAX_CYCLES: the host task that has used its MAX_CYCLES stops at the end of its TOD (R191). -/
def execHostTaskMaxCycles (t : Nat) (c : CoreId) (s : State) : Out :=
  whileLive t s (fun s =>
    match s.coreTask c.val with
    | none => s
    | some k =>
      if k.ring.isSome ∧ k.started = true ∧ k.startAt + k.maxCyc ≤ s.now then
        let s := if (s.core c.val).stop = 0 then s.setCore c.val { s.core c.val with stop := 2 } else s
        if (s.core c.val).run.isNone then s.coreStop c.val else s
      else s)

/-! ### FLAG_WAIT (R301, R302) -/

/-- The flag's tick that a FLAG_WAIT expects: the node's, or the tick before it (R301). -/
def flagTick (k : Task) (b : List Byte) : Nat := (k.tick - df b 4 13 12) % 2 ^ 44

/-- FLAG_WAIT_POLL: the sequencer reads the flag; the wait ends when TICK qualifies and DONE or PROGRESS does. ABSENT ends the task,
CORRUPT and LATE mark its outputs (R302). -/
def execFlagWaitPoll (t : Nat) (c : CoreId) (s : State) : Out :=
  whileLive t s (fun s =>
    let x := s.core c.val
    match x.run, s.coreTask c.val with
    | some b, some k =>
      if x.wait ≠ 1 then s
      else
        let f := leNat (s.scrRead (flagAddr (df b 4 11 0)) 8)
        let least := df b 4 29 16
        let ready := decide (f % 2 ^ 44 = flagTick k b) && (f.testBit 58 || (decide (0 < least) && decide (least ≤ fld f 57 44)))
        if !ready then s
        else if f.testBit 59 then
          (s.modTask k.id (fun u => { u with absent := true })).coreFinish c.val stOk
        else
          let s := s.modTask k.id (fun u => { u with inCorrupt := u.inCorrupt || f.testBit 61, inLate := u.inLate || f.testBit 60 })
          s.setCore c.val { s.core c.val with wait := if (wordAt b 4).testBit 30 then 2 else 0 }
    | _, _ => s)

/-- FLAG_WAIT_EXPIRED: a wait still open at the second tick edge after the one that began its node's tick ends the task (R302). -/
def execFlagWaitExpired (t : Nat) (c : CoreId) (s : State) : Out :=
  whileLive t s (fun s =>
    match s.coreTask c.val with
    | none => s
    | some k =>
      if (s.core c.val).wait = 1 ∧ k.tick + 2 ≤ s.tickCount then
        (s.bump 32 0x6010 7 1).coreFinish c.val stTaskAborted
      else s)

/-- Does a span of the Facet shared scratch's data range lie in partition `p`'s units (R281, R401)? -/
def State.scrOwned (s : State) (p off len : Nat) : Bool :=
  decide (off + len ≤ 0x7F8000) && decide (0 < len) && (List.range ((off + len - 1) / 4096 + 1 - off / 4096)).all (fun i =>
    s.unitIn p (off / 4096 + i))

/-- The copy that follows a wait lands in the local handle; a source outside the partition's data range ends the task with ACCESS_DENIED
(R302). -/
def State.flagCopy (s : State) (c : Nat) : State :=
  let x := s.core c
  match x.run, s.coreTask c with
  | some b, some k =>
    if x.wait ≠ 2 then s
    else
      let src := df b 5 22 0
      let len := 8 * df b 6 23 0
      let dst := 8 * df b 7 19 0
      if !s.scrOwned k.part src len then (s.firewallRefuse c k.part false 4 0).coreFinish c stAccessDenied
      else if s.spanWithdrawn c (todHandle b 0) dst len then s.coreFinish c stRetired
      else
        let s := s.guardSpan c (todHandle b 0) dst len 5
        let s := s.padPuts c (todHandle b 0) (writesAt dst (s.scrRead src len))
        (s.modTask k.id (fun u => { u with wrote := true })).setCore c { s.core c with wait := 3 }
  | _, _ => s

/-- FLAG_WAIT_COPY_DONE. -/
def execFlagWaitCopyDone (t : Nat) (c : CoreId) (s : State) : Out :=
  whileLive t s (fun s => s.todAccess c.val (fun s => s.flagCopy c.val))

end Sys2Proof.Machine
end

