-- ==== Sys2Proof/Machine/Dma.lean ====
section
/-! DEFINITION. The DMA units (08 R199–R226): channels and their register sets, requests and slots of the shared buffer, bus errors,
maintenance requests, re-shard entries (06 R178–R180). -/

namespace Sys2Proof.Machine

/-- A channel that nothing holds. -/
def chan0 : Chan :=
  { task := none, descAt := 0, seq := 0, shadow := none, shadowSt := 0, live := [], slots := [], reqs := [], issued := false,
    rTok := (0, 0), wTok := (0, 0), entry := 0, entryAt := 0, gens := [], halted := false }

/-- Channel `c` of unit `u`. -/
def State.chan (s : State) (u c : Nat) : Chan := kget chan0 s.chans (32 * u + c)

/-- Channel `c` of unit `u` set. -/
def State.setChan (s : State) (u c : Nat) (x : Chan) : State := { s with chans := kput s.chans (32 * u + c) x }

/-- A DMA unit after hardware reset. -/
def dma0 : DmaSt := { lastR := 31, lastW := 31, slotAt := none, saved := [], log := [] }

/-- Unit `u`. -/
def State.dma (s : State) (u : Nat) : DmaSt := kget dma0 s.dmas u

/-- Unit `u` set. -/
def State.setDma (s : State) (u : Nat) (x : DmaSt) : State := { s with dmas := kput s.dmas u x }

/-- The task that holds a channel. -/
def State.chanTask (s : State) (u c : Nat) : Option Task := (s.chan u c).task.bind (fun id => s.task? id)

/-- The channels of a unit that plans and maintenance use (R266, R282, R403). -/
def planChans (u : Nat) : List Nat :=
  if u < 4 then List.range 32 else if u = 4 then (List.range 17).map (fun i => 15 + i) else (List.range 16).map (fun i => 16 + i)

/-- The requester of a scrub's fill: a firmware processor, in role 4 (R224, R411). -/
def scrubFn : Nat := 16

/-- The partition whose task it is; none for a request of the device owner or of a firmware processor (R222, R224, R227). -/
def Task.owner (t : Task) : Option Nat := if t.maint = some 0 ∨ t.maint = some scrubFn then none else some t.part

/-- Channels of unit `u` that tasks of partition `p` hold (R403). -/
def State.heldChans (s : State) (u p : Nat) : Nat :=
  ((planChans u).filter (fun c => match s.chanTask u c with
    | some t => decide (t.owner = some p)
    | none => false)).length

/-- A free channel of unit `u` within the share of partition `p` (R190, R222, R403). A request of the device owner has no share. -/
def State.freeChan (s : State) (u p : Nat) (anyShare : Bool) : Option Nat :=
  if anyShare || decide (s.heldChans u p < s.reg (0x3120 + p) (u + 1)) then
    (planChans u).find? (fun c => (s.chan u c).task.isNone && !(s.chan u c).halted)
  else none

/-- Does plan entry `t` wait for a channel of unit `u` (R225)? -/
def State.waitsForChan (s : State) (u : Nat) (t : Task) : Bool :=
  decide (t.stage = 1) && decide (t.node.res = 0x30 + u) && t.maint.isNone && decide (t.eligAt + 4 ≤ s.now)

/-- A plan entry waits for a channel of unit `u`. -/
def State.dmaWaiting (s : State) (u : Nat) : Bool := s.tasks.any (s.waitsForChan u)

/-! ### The end of a task -/

/-- A channel with nothing left of its task's transfers. -/
def Chan.clear (x : Chan) : Chan := { x with shadow := none, shadowSt := 0, live := [], slots := [], reqs := [] }

/-! ### Scrubbing: fills of DMA4 in role 4 (R411) -/

/-- Bytes of a place that is scrubbed. -/
def Scrub.bytes (x : Scrub) : Nat := if x.granule then 67108864 else 4096

/-- Entries of a sparse memory outside a span. -/
def outside {α : Type} (m : KMap α) (lo len : Nat) : KMap α := m.filter (fun e => decide (e.1 < lo ∨ lo + len ≤ e.1))

/-- A place filled with zeros: whole blocks lose their poison. -/
def State.zeroPlace (s : State) (x : Scrub) : State :=
  if x.granule then
    { s with ddr := outside s.ddr (67108864 * x.index) 67108864,
             faults := { s.faults with poisoned := outside s.faults.poisoned (1048576 * x.index) 1048576 } }
  else { s with fscratch := outside s.fscratch (4096 * x.index) 4096 }

/-- The descriptor of a place's fill: constant 0, in lines of 65,536 bytes or one of 4,096 (R204, R225). -/
def Scrub.desc (x : Scrub) : List Byte :=
  let word (n : Nat) : List Byte := leBytes 4 n
  let kind := if x.granule then 3 else 4
  let addr := x.bytes * x.index
  let line := if x.granule then 65536 else 4096
  let body := word (5 + 256) ++ zeros 24 ++ word (kind + 2 ^ 26) ++ word addr ++ word (addr / 2 ^ 32) ++ word line ++ word line
    ++ word (x.bytes / line) ++ zeros 8
  body ++ word (crc32 body)

/-- The channel of DMA4 on which a scrub's fill runs. -/
def State.scrubChan (s : State) : Option Nat := (planChans 4).find? (fun c => (s.chanTask 4 c).any (fun t => decide (t.maint = some scrubFn)))

/-- Bytes of the running fill that have landed. -/
def State.scrubLanded (s : State) : Nat :=
  match s.scrubChan with
  | some c => ((s.chan 4 c).live.map (fun d => d.landed)).sum
  | none => 0

/-- OD 3000.04: the bytes still to scrub. -/
def State.countScrub (s : State) : State := s.setReg 0x3000 4 ((s.scrubs.map Scrub.bytes).sum - s.scrubLanded)

/-- The fill of the first place to scrub enters DMA4's ready list at level 15, unless one is there (R225, R411). -/
def State.scrubNext (s : State) : State :=
  match s.scrubs with
  | [] => s
  | x :: _ =>
    if s.tasks.any (fun t => decide (t.maint = some scrubFn)) then s
    else
      (s.addTask { task0 with
        num := 0xFFFF, node := { node0 with kind := 9, res := 0x34, prio := 15 }, tick := s.tickCount, edge := s.tick.lastEdge.getD 0,
        stage := 1, eligAt := s.now, maint := some scrubFn, desc := x.desc }).countReady 0x34

/-- The first place's fill has ended: the place returns to the free pool, and a partition without further scrubs reads FREE (R411). -/
def State.scrubEnd (s : State) : State :=
  match s.scrubs with
  | [] => s
  | x :: xs =>
    let s := { s with scrubs := xs }.countScrub
    if s.reg (0x3100 + x.part) 1 = 2 ∧ xs.any (fun y => decide (y.part = x.part)) = false then s.setReg (0x3100 + x.part) 1 0 else s

/-- A maintenance request ends (R224, R225): its channel is free, and its function's objects say so; a scrub's fill ends the scrub, or is made
anew where it failed (R411). -/
def State.maintEnd (s : State) (t : Task) (st : Nat) : State :=
  match t.maint with
  | none => s
  | some f =>
    let s := s.settleRes t.node.res
    let s := { s with
      tasks := s.tasks.filter (fun u => decide (u.id ≠ t.id)),
      chans := s.chans.map (fun (e : Nat × Chan) => if e.2.task = some t.id then (e.1, { chan0 with halted := e.2.halted }) else e) }
    if f = scrubFn then (if st = stOk then s.scrubEnd else s).scrubNext
    else (s.setRegF f 0x5420 3 (if st = stOk then 3 else 4)).setRegF f 0x5420 4 st

/-- A DMA task ends with a status (R201). Its channel is held until its record is written. -/
def State.dmaFinish (s : State) (u c st : Nat) : State :=
  match s.chanTask u c with
  | none => s.setChan u c (s.chan u c).clear
  | some t =>
    let s := s.setChan u c (s.chan u c).clear
    if t.maint.isSome then s.maintEnd t st
    else if t.stop then (s.modTask t.id (fun k => { k with aborted := true, absent := true })).endTask t.id stTaskAborted
    else s.endTask t.id st

/-- A whole-task abort (R223): outputs corrupt, counted; a re-shard node counts in OD 515p.04 too (R179). -/
def State.dmaAbort (s : State) (u c st : Nat) : State :=
  match s.chanTask u c with
  | none => s
  | some t =>
    let s := (s.modTask t.id (fun x => { x with corrupt := true })).bump 32 (0x5410 + u) 11 1
    let s := if t.node.kind = 9 ∧ t.maint.isNone then s.bump 64 (0x5150 + t.part) 4 1 else s
    s.dmaFinish u c st

/-! ### Places and the firewall -/

/-- Does the firewall pass a task's request (R223, R281, R407)? A maintenance request of the device owner or of a firmware processor reaches any
target (R224); no DMA write reaches the flag area. -/
def State.dmaPass (s : State) (t : Task) (write : Bool) (x : Side) (addr len : Nat) : Bool :=
  if x.kind = 4 ∧ write = true ∧ 0x7F8000 < addr + len then false
  else if t.owner.isNone then true
  else if x.kind = 1 ∨ x.kind = 2 then s.coreIn t.part x.core
  else if x.kind = 3 then s.granuleIn t.part (addr / 67108864) && s.granuleIn t.part ((addr + len - 1) / 67108864)
  else if x.kind = 4 then
    s.scrOwned t.part addr len
      || (decide (0x7F8000 + 4096 * t.part ≤ addr) && decide (addr + len ≤ 0x7F8000 + 4096 * (t.part + 1)))
  else if x.kind = 6 then s.portIn t.part x.core
  else true

/-- What refuses a request at its target, in order: the firewall, the handle, a withdrawn page or row (R223). -/
def State.dmaTarget (s : State) (t : Task) (write : Bool) (x : Side) (addr len : Nat) : Nat :=
  firstFail [
    need (s.dmaPass t write x addr len) stAccessDenied,
    (if x.kind = 1 then handleCheck ((s.pad x.core).handle x.handle) x.gen else stOk),
    need (!(decide (x.kind = 1) && s.spanWithdrawn x.core x.handle addr len)
      && !(decide (x.kind = 2) && s.rowWithdrawn x.core (addr / 256))
      && !(decide (x.kind = 3) && kget false s.faults.withdrawn (addr / 4096))) stRetired]

/-- The bytes of a row by its number (R199, kind 2): 0 where its valid bit is clear (R145). -/
def State.rawBytes (s : State) (c addr len : Nat) : List Byte :=
  (List.range len).map (fun i =>
    let a := addr + i
    let p := s.pad c
    if p.isValid (a / 256) then kget 0 p.cells (cellAt false (a / 256) (a % 256 / 8) (a % 8)) else 0)

/-- Bytes written to rows by their number (R199, kind 2). -/
def State.rawPuts (s : State) (c : Nat) (ws : List (Nat × Byte)) : State :=
  (ws.foldl (fun s w => s.setPad c ((s.pad c).writeRow false 0 (w.1 / 256) (w.1 % 256) [some w.2])) s).countValid c

/-- The bytes that a read returns. Host data is an input; the line memory's own content is free (log 13). -/
def State.dmaFetch (s : State) (t : Task) (x : Side) (addr len : Nat) (hostData : List Byte) : State × List Byte :=
  if x.kind = 1 then
    (let s := (s.guardSpan x.core x.handle addr len 4).joinRows x.core x.handle 4 addr len false
     (s, s.padBytes x.core x.handle addr len))
  else if x.kind = 2 then (s, s.rawBytes x.core addr len)
  else if x.kind = 3 then (s, s.ddrRead addr len)
  else if x.kind = 4 then (s, s.scrRead addr len)
  else if x.kind = 5 then (s, slice hostData 0 len)
  else
    match s.view6 x.core t.tick addr len with
    | .bytes b => (s, b)
    | _ => (let d := s.draw; (d.2, slice (Config.freeBytes d.1 len) 0 len))

/-- The bytes that an access writes, with their addresses. -/
def maskedBytes (addr : Nat) (bs : List (Option Byte)) : List (Nat × Byte) :=
  (List.range bs.length).filterMap (fun i => (bs.getD i none).map (fun b => (addr + i, b)))

/-- Bytes that land at their target: in one write where none is masked out. -/
def State.dmaStore (s : State) (t : Task) (x : Side) (addr : Nat) (bs : List (Option Byte)) : State :=
  let ws := maskedBytes addr bs
  let put (f : State → Nat → List Byte → State) : State :=
    if ws.length = bs.length then f s addr (ws.map (fun w => w.2)) else ws.foldl (fun s w => f s w.1 [w.2]) s
  if x.kind = 1 then ((s.guardSpan x.core x.handle addr bs.length 3).joinRows x.core x.handle 3 addr bs.length true).padPuts x.core x.handle ws
  else if x.kind = 2 then s.rawPuts x.core ws
  else if x.kind = 3 then s.ddrMerge addr bs
  else if x.kind = 4 then put (fun s a b => s.scrWrite a b)
  else put (fun s a b => s.hostWrite (match t.owner with
    | some q => s.servedBy q
    | none => 0) a b)

/-- Contexts of a partition's store that a write of `len` bytes at `addr` touches are undefined from then on, since it passes by FTR0's cache;
a FILL in maintenance defines them while the partition runs no plan (R336). -/
def State.touchCtx (s : State) (fill : Bool) (addr len : Nat) : State :=
  let of (p : Nat) : List Nat :=
    let base := s.rangeAddr p (64 * s.reg (0x3100 + p) 12)
    let blocks := (List.range (ceilDiv (addr % 64 + len) 64)).map (fun k => addr / 64 * 64 + 64 * k)
    (blocks.filter (fun a => decide (base ≤ a) && decide (a < base + 64 * s.reg (0x3100 + p) 11))).map (fun a =>
      s.reg (0x3100 + p) 10 + (a - base) / 64)
  (List.range 8).foldl (fun s p =>
    let xs := of p
    if xs.isEmpty then s
    else xs.foldl State.ctxChanged
      { s with ctxUndef := s.ctxUndef.filter (fun x => !decide (x ∈ xs)) ++ (if fill && decide (s.planState p = 0) then [] else xs) }) s

/-! ### Descriptors in a channel -/

/-- A token bucket brought up to a cycle (R219). -/
def tokensAt (rate now : Nat) (k : Nat × Nat) : Nat := min 4096 (k.1 + 4 * rate * (now - k.2))

/-- A descriptor of a channel replaced by its new form. -/
def Chan.putDesc (x : Chan) (d : Desc) : Chan :=
  let put (e : Desc) : Desc := if e.seq = d.seq then d else e
  { x with live := x.live.map put, shadow := x.shadow.map put }

/-- Clipped lines passed over on the reading side of a GATHER, as far as the indices are in; counts the indices clipped (R213). -/
def Desc.skipClipped : Nat → Desc → Desc × Nat
  | 0, d => (d, 0)
  | n + 1, d =>
    if d.rPos < d.readTotal then
      match d.readPlace d.rPos with
      | (_, .clipped, left) =>
        (let r := Desc.skipClipped n { d with rPos := d.rPos + left, rGot := d.rGot + left }
         (r.1, r.2 + 1))
      | _ => (d, 0)
    else (d, 0)

/-- Is the byte of a read position one of a clipped line (R213)? -/
def Desc.clipped (d : Desc) (k : Nat) : Bool :=
  decide (dType d.bytes = 3) && (match d.index (k / (srcSide d.bytes).line) with
    | some i => decide (dIdxLimit d.bytes ≤ i)
    | none => false)

/-- Is a reading position one of a row that is passed over (R265)? -/
def Desc.isCut (d : Desc) (k : Nat) : Bool := d.cut.any (fun e => decide (e.1 ≤ k) && decide (k < e.1 + e.2))

/-- Has the byte for writing position `k` been read, or is there none? -/
def Desc.has (d : Desc) (k : Nat) : Bool :=
  decide (dType d.bytes = 5) || d.clipped (d.sourcePos k) || d.isCut (d.sourcePos k) || (klook d.buf (d.sourcePos k)).isSome

/-- The byte for writing position `k`, which goes to address `addr` (R207, R213, R225). -/
def State.writeByte (s : State) (d : Desc) (k addr : Nat) : Byte :=
  let x := dstSide d.bytes
  if dType d.bytes = 5 then (leBytes 4 (dParam d.bytes)).getD (k % x.line % 4) 0
  else
    let q := d.sourcePos k
    if d.clipped q then
      (if x.kind = 1 then (fillWord ((s.pad x.core).handle x.handle).fill).getD (addr % 8) 0 else 0)
    else kget 0 d.buf q

/-- How often each byte read is taken: a source line that is held is fed SRC_LINES times (R208). -/
def Desc.uses (d : Desc) (onDst : Bool) : Nat := if d.bcast && !onDst then (srcSide d.bytes).lines else 1

/-- Bytes of `ks` taken from their slots; a slot that has given its last byte is free (R200). -/
def Chan.take (x : Chan) (seq : Nat) (ks : List Nat) : Chan :=
  { x with slots := (x.slots.map (fun e =>
      if e.seq = seq then
        { e with left := e.left - (ks.filter (fun k => decide (e.pos ≤ k) && decide (k < e.pos + e.len))).length }
      else e)).filter (fun e => decide (0 < e.left)) }

/-- What the channel's slots no longer hold leaves the descriptor's buffered bytes. -/
def Chan.kept (x : Chan) (d : Desc) : KMap Byte :=
  d.buf.filter (fun e => x.slots.any (fun l => decide (l.seq = d.seq) && decide (l.pos ≤ e.1) && decide (e.1 < l.pos + l.len)))

/-- Room in the last slot of a descriptor for what it reads next: accesses of 64 bytes fill a slot of 256 bytes together (log 69). -/
def Chan.slotRoom (x : Chan) (d : Desc) : Nat :=
  match x.slots.getLast? with
  | some e => if e.seq = d.seq ∧ e.pos + e.len = d.rAt then 256 - e.len else 0
  | none => 0

/-- Slots taken for `n` bytes that a descriptor reads next (R200). -/
def Chan.grant (x : Chan) (d : Desc) (n uses : Nat) : Chan :=
  let r := min n (x.slotRoom d)
  let last := x.slots.length - 1
  let more := if n = r then [] else [{ seq := d.seq, pos := d.rAt + r, len := n - r, left := (n - r) * uses }]
  { x with slots := ((List.range x.slots.length).zip x.slots).map (fun e =>
      if e.1 = last ∧ 0 < r then { e.2 with len := e.2.len + r, left := e.2.left + r * uses } else e.2) ++ more }

/-- Lines that a SCATTER drops are passed over as far as their bytes are there (R213), and bytes of rows that are not read (R265); counts the
indices. -/
def Chan.skipDropped : Nat → Chan → Desc → Chan × Desc × Nat
  | 0, x, d => (x, d, 0)
  | n + 1, x, d =>
    if d.wPos < writeTotal d.bytes then
      match d.writePlace d.wPos with
      | (.clipped, left) =>
        let m := ((List.range left).takeWhile (fun i => d.has (d.wPos + i))).length
        if m = 0 then (x, d, 0)
        else
          let x := x.take d.seq ((List.range m).map (fun i => d.sourcePos (d.wPos + i)))
          let d' := { d with wPos := d.wPos + m, landed := d.landed + m }
          let c := b2n (decide (d.wPos % (dstSide d.bytes).line = 0))
          if m < left then (x, d', c)
          else (let r := Chan.skipDropped n x d'; (r.1, r.2.1, r.2.2 + c))
      | (.here _, left) =>
        let m := if d.cut.isEmpty then 0 else ((List.range left).takeWhile (fun i => d.isCut (d.sourcePos (d.wPos + i)))).length
        if m = 0 then (x, d, 0) else Chan.skipDropped n x { d with wPos := d.wPos + m, landed := d.landed + m }
      | _ => (x, d, 0)
    else (x, d, 0)

/-- COMPARE's stream bytes that are in on both sides are compared, 64-byte blocks at a time; the source is taken as a COPY takes it, SWAP and
broadcast included (R225). -/
def Chan.compare : Nat → Chan → Desc → Chan × Desc
  | 0, x, d => (x, d)
  | n + 1, x, d =>
    let m := min 64 (streamTotal d.bytes - d.wPos)
    let src (i : Nat) : Nat := d.comparePos false (swapPos d.bytes (d.wPos + i))
    let dst (i : Nat) : Nat := d.comparePos true (d.wPos + i)
    if m = 0 ∨ !(List.range m).all (fun i => (klook d.buf (src i)).isSome && (klook d.buf (dst i)).isSome) then (x, d)
    else
      let bad := (List.range m).find? (fun i => decide (klook d.buf (src i) ≠ klook d.buf (dst i)))
      let x := x.take d.seq ((List.range m).flatMap (fun i => [src i, dst i]))
      Chan.compare n x { d with
        wPos := d.wPos + m, diff := d.diff + b2n bad.isSome,
        first := match d.first with
          | some k => some k
          | none => bad.map (fun i => d.wPos + i),
        buf := x.kept d }

/-- Has a descriptor read, written and landed everything? -/
def Desc.done (d : Desc) : Bool :=
  decide (d.readTotal ≤ d.rGot) && decide (writeTotal d.bytes ≤ d.landed)
    && (decide (dType d.bytes ≠ 6) || decide (streamTotal d.bytes ≤ d.wPos))

/-- Has a descriptor issued its last read, of its index stream too (R202)? -/
def Desc.readsOut (d : Desc) : Bool := decide (d.readTotal ≤ d.rPos) && decide (idxBlocks d.bytes ≤ d.idxReq)

/-- The result of a COMPARE (R225). -/
def State.compareEnd (s : State) (t : Task) (d : Desc) : State :=
  match t.maint with
  | some f => if f ≠ scrubFn ∧ dType d.bytes = 6 then s.setBlobF f 0x5420 5 (leBytes 8 d.diff ++ leBytes 8 (d.first.getD (2 ^ 64 - 1))) else s
  | none => s

/-- A descriptor brought up to date: clipped and dropped lines, compared blocks; counts the indices clipped. -/
def Chan.refresh (a : Chan × Nat) (d : Desc) : Chan × Nat :=
  let g := Desc.skipClipped (idxCount d.bytes + 1) d
  let p := Chan.skipDropped (idxCount d.bytes + 1 + (if d.cut.isEmpty then 0 else (dstSide d.bytes).lines)) a.1 g.1
  let q := Chan.compare (streamTotal d.bytes / 64 + 1) p.1 p.2.1
  (if dType d.bytes = 6 then q.1.putDesc q.2 else p.1.putDesc p.2.1, a.2 + g.2 + p.2.2)

/-- The picture set of a task's tick (R20, R23): for a memory-path stream by bit 0 of the tick, for the in-line stream by its intake tick
modulo 3, which is the tick before for all but its stripe tasks. -/
def pictureSet (inline : Bool) (t : Task) : Nat :=
  if !inline then t.tick % 2
  else if t.node.phase = 0 ∨ t.node.phase = 6 then t.tick % 3
  else (t.tick + 2) % 3

/-- An address in LPDDR5 as a task of a tick reaches it: one inside any set of a picture buffer of its plan lies in the set of the tick
(R20, R23; log 70). -/
def State.picture (s : State) (t : Task) (addr : Nat) : Nat :=
  match (if t.maint.isSome then none else s.taskPlan t) with
  | none => addr
  | some pl =>
    ((Config.pictures (planSection pl 5)).findSome? (fun p =>
      (p.2.1.find? (fun base => decide (base ≤ addr) && decide (addr < base + p.2.2))).map (fun base =>
        p.2.1.getD (pictureSet p.1 t) base + (addr - base)))).getD addr

/-- The memory-path raw set that a task of a tick reads where its plan addresses either set of a stream: B where bit 0 of the tick counter is
0, else A (R20; log 70). -/
def State.rawSet (s : State) (t : Task) (addr : Nat) : Nat :=
  match (if t.maint.isSome then none else s.taskPlan t) with
  | none => addr
  | some pl =>
    let of (st : Nat) : Option Nat :=
      let b := pl.bufs.getD st (bufOf [] 0)
      let x := pl.slots.getD st (slotOf [] 0)
      let off (base : Nat) : Option Nat :=
        if base ≠ 0 ∧ base ≤ addr ∧ addr < base + x.height * x.pitch then some (addr - base) else none
      ((off b.rawA).or (off b.rawB)).map (fun o => (if t.tick % 2 = 0 then b.rawB else b.rawA) + o)
    ((List.range 32).findSome? of).getD addr

/-- The expected height of the frame of a stream that a task works on: for the in-line stream's stripe tasks that of their intake tick, else that
of the frame that its tick processes (R20, R265). -/
def State.taskHeight (s : State) (t : Task) (st : Nat) : Option Nat :=
  if (t.node.phase = 0 ∨ t.node.phase = 6) ∧ (s.inlineOf (st / 4)).any (fun x => decide (x.1 = st)) = true then some (s.ringHeight (st / 4) t.tick)
  else (s.frameFor t.tick st).map (fun f => f.h)

/-- The row of a stream that a transfer's source address shows in its plan's raw buffers, with its buffer's place and pitch (R266). -/
def rawRow (pl : Plan) (st addr : Nat) : Option (Nat × Nat × Nat) :=
  let b := pl.bufs.getD st (bufOf [] 0)
  let x := pl.slots.getD st (slotOf [] 0)
  ([b.rawA, b.rawB].find? (fun base => decide (base ≠ 0) && decide (base ≤ addr) && decide (addr < base + x.height * x.pitch))).map (fun base =>
    ((addr - base) / max 1 x.pitch, base, x.pitch))

/-- Does a stripe's input end above the row that a source address of its transfer or read-back holds: past row H + L − 1 (R264, R265)? -/
def State.pastStripe (s : State) (t : Task) (x : Side) (addr : Nat) : Bool :=
  let st := t.node.stream
  match (if t.maint.isSome ∨ t.node.kind ≠ 10 ∨ t.node.bound = false then none else s.taskPlan t), s.taskHeight t st with
  | some pl, some h =>
    let slot := pl.slots.getD st (slotOf [] 0)
    let lag := slot.haloRows / 2
    let row : Option Nat :=
      if x.kind = 6 then
        (if x.core = st / 4 ∧ 0x1000000 ≤ addr then some ((addr - 0x1000000) / max 1 slot.pitch - 32) else none)
      else if x.kind = 3 then (rawRow pl st addr).map (fun r => r.1)
      else none
    decide (0 < slot.stripeRows) && row.any (fun r => decide (h + lag ≤ r))
  | _, _ => false

/-- An address in a raw set as a read-back of a frame of height H reaches it: a row below the frame is the one that it reflects (R264, R265;
log 82). -/
def State.reflectRaw (s : State) (t : Task) (addr : Nat) : Nat :=
  let st := t.node.stream
  match (if t.maint.isSome ∨ t.node.kind ≠ 10 ∨ t.node.bound = false then none else s.taskPlan t), s.taskHeight t st with
  | some pl, some h =>
    match rawRow pl st addr with
    | some (r, base, pitch) => if h ≤ r then base + reflectRow h r * pitch + (addr - base) % max 1 pitch else addr
    | none => addr
  | _, _ => addr

/-- Does a byte that a task writes lie in a row of a picture below its frame (R264, R265)? -/
def State.pastPicture (s : State) (t : Task) (addr : Nat) : Bool :=
  match (if t.maint.isSome then none else s.taskPlan t) with
  | none => false
  | some pl => (Config.pictureRow (planSection pl 5) addr).any (fun p => (s.taskHeight t p.1).any (fun h => decide (h ≤ p.2)))

/-- The rows past a stripe's input that a descriptor would read next are passed over (R265). -/
def State.passOver (s : State) (t : Task) : Nat → Desc → Desc
  | 0, d => d
  | n + 1, d =>
    if d.readTotal ≤ d.rPos ∨ dType d.bytes ≠ 1 ∨ d.bcast = true then d
    else
      match d.readPlace d.rPos with
      | (_, .here a, left) =>
        if s.pastStripe t (srcSide d.bytes) a.toNat then
          s.passOver t n { d with rPos := d.rPos + left, rGot := d.rGot + left, cut := d.cut ++ [(d.rPos, left)] }
        else d
      | _ => d

/-- The channel's token buckets brought up to a cycle, and the rates of the descriptors that now read and write (R219). -/
def Chan.settleRate (now : Nat) (x : Chan) : Chan :=
  let last := x.live.getLast?
  let rate (d : Option Desc) (k : Nat) : Nat := (d.map (fun d => dRate d.bytes)).getD k
  { x with
    rTok := (tokensAt x.rRate now x.rTok, now), wTok := (tokensAt x.wRate now x.wTok, now), rRate := rate last x.rRate,
    wRate := rate ((x.live.find? (fun d => decide (d.wPos < writeTotal d.bytes))).or last) x.wRate }

/-- The channel brought up to date after an event: dropped lines, compared blocks, completed descriptors; the task's end at a stop that came
before its completion, after LAST, or after a refused descriptor (R196, R201, R214). -/
def State.dmaAdvance (s : State) (u c : Nat) : State :=
  match s.chanTask u c with
  | none => s
  | some t =>
    let x := s.chan u c
    let x : Chan := { x with live := x.live.map (fun (d : Desc) => s.passOver t ((srcSide d.bytes).lines + 1) d) }
    let r := x.live.foldl Chan.refresh (x, 0)
    let fin := r.1.live.takeWhile (fun d => d.done)
    let x := Chan.settleRate s.now { r.1 with live := r.1.live.dropWhile (fun d => d.done) }
    let s := if r.2 = 0 then s else s.bump 64 (0x5410 + u) 10 r.2
    let s := fin.foldl (fun s d => s.compareEnd t d) s
    let s := if fin.isEmpty then s else s.bump 64 (0x5410 + u) 3 fin.length
    let s := s.setChan u c x
    if !x.live.isEmpty then s
    else if t.stop ∧ (x.seq ≠ 0 ∨ x.issued = true) then
      (s.modTask t.id (fun k => { k with aborted := true, absent := true })).dmaFinish u c stTaskAborted
    else if fin.any (fun d => dLast d.bytes) then s.dmaFinish u c stOk
    else if x.shadow.isSome ∧ x.shadowSt ≠ 0 then s.dmaFinish u c x.shadowSt
    else s

/-- The shadow descriptor becomes active (R202), unless a handle refuses it (R214, check 6): it then waits as refused for the
descriptors before it. The refusal counts at the core whose handle it is. -/
def State.dmaActivate (s : State) (u c : Nat) : State :=
  match (s.chan u c).shadow with
  | none => s
  | some d =>
    let side (y : Side) : Nat := if y.kind = 1 then handleCheck ((s.pad y.core).handle y.handle) y.gen else stOk
    let st := s.dmaHandles d.bytes
    let x := s.chan u c
    if st ≠ stOk then
      let y := if side (srcSide d.bytes) ≠ stOk then srcSide d.bytes else dstSide d.bytes
      (s.countStale y.core st).setChan u c { x with shadowSt := st }
    else
      s.setChan u c { x with shadow := none, shadowSt := 0, live := x.live ++ [{ d with serial := s.serialMode d.bytes }] }

/-! ### DMA_DESCRIPTOR_LOAD, DMA_SHADOW_ACTIVATE (R202, R214) -/

/-- Is the chain to go on after the last descriptor taken? -/
def Chan.chainOpen (x : Chan) : Bool :=
  match x.live.getLast? with
  | some d => !dLast d.bytes
  | none => true

/-- A descriptor as it enters a register set. -/
def newDesc (seq : Nat) (b : List Byte) : Desc :=
  { seq := seq, bytes := b, serial := false, idxReq := 0, idxIn := [], rPos := 0, rGot := 0, wPos := 0, landed := 0, buf := [], diff := 0,
    first := none }

/-- Are the checks of the shadow descriptor over, and has it passed them (R214, R216)? -/
def Chan.shadowReady (x : Chan) : Bool :=
  match x.shadow with
  | some d => decide (x.shadowSt = stOk) && (!d.checksIdx || d.idxWhole)
  | none => false

/-- What the checks of a loaded descriptor count: one that could not be read, OVERLAP, WRITE_ALIAS (R214–R216, R226, R444, R445). -/
def State.countLoad (s : State) (u : Nat) (k : Task) (addr st : Nat) : State :=
  let s := if k.maint.isSome then (if st = stTaskAborted then s.crcLasting (some (0x30 + u)) else s)
    else s.countFetch addr st (some (0x30 + u)) k.id
  let s := if st = stOverlap then s.bump 32 (0x5410 + u) 7 1 else s
  if st = stWriteAlias then s.bump 32 (0x5410 + u) 8 1 else s

/-- DMA_DESCRIPTOR_LOAD: the next descriptor of the chain, the same in every tick (log 70), enters the shadow set with its checks; the
first one becomes active at once. A refused one ends the task when the descriptors before it have ended (R202, R214). -/
def execDmaDescriptorLoad (t : Nat) (u : DmaId) (ch : ChanId) (s : State) : Out :=
  whileLive t s (fun s =>
    let x := s.chan u.val ch.val
    match s.chanTask u.val ch.val with
    | none => s
    | some k =>
      if k.stage ≠ 2 ∨ (k.node.kind = 9 ∧ k.maint.isNone) ∨ x.shadow.isSome ∨ k.stop = true ∨ x.halted = true ∨ x.chainOpen = false then s
      else
        let addr := x.descAt + 64 * x.seq
        let b := if k.maint.isSome then k.desc else s.ddrRead addr 64
        let st := firstFail [if k.maint.isNone then s.fetchStatus addr else stOk, s.dmaCheck u.val b x.seq k.maint.isSome]
        let s := s.countLoad u.val k addr st
        let y := { x with shadow := some (newDesc x.seq b), shadowSt := st, seq := x.seq + 1 }
        let s := s.setChan u.val ch.val y
        let s := if y.shadowReady = true ∧ x.live = [] then s.dmaActivate u.val ch.val else s
        s.dmaAdvance u.val ch.val)

/-- DMA_SHADOW_ACTIVATE: the shadow set becomes active when the active descriptor has issued its last read, or under FENCE when
every write before it has landed (R202). -/
def execDmaShadowActivate (t : Nat) (u : DmaId) (ch : ChanId) (s : State) : Out :=
  whileLive t s (fun s =>
    let x := s.chan u.val ch.val
    match s.chanTask u.val ch.val, x.shadow with
    | some k, some b =>
      let free := match x.live.getLast? with
        | none => true
        | some d => !dFence b.bytes && d.readsOut
      if x.shadowReady = true ∧ free = true ∧ k.stop = false then (s.dmaActivate u.val ch.val).dmaAdvance u.val ch.val else s
    | _, _ => s)

/-! ### DMA_REQUEST_ISSUE (R200, R206, R210, R217–R220) -/

/-- Does unit `u`'s block hold a resource (R217)? -/
def blockHolds (u r : Nat) : Bool :=
  if u < 4 then decide (r / 8 = u) && isCore r || decide (r = 0x30 + u)
  else if u = 4 then isEngine r || decide (r = 0x34)
  else isI3c r || decide (r = 0x35)

/-- The weights in force at unit `u`'s port: read and write positions of a round (R218). -/
def State.weights (s : State) (u : Nat) : Nat × Nat :=
  let of (p : Nat) : Option Plan :=
    let x := s.planSt p
    if s.planState p = 2 then (match x.old with
      | some pl => some pl
      | none => x.cur)
    else if s.planState p ≠ 0 then x.cur
    else none
  match ((List.range 8).filterMap of).find? (fun pl =>
      pl.nodes.any (fun n => blockHolds u n.res) || pl.bindings.any (fun b => blockHolds u b.res)) with
  | none => (8, 6)
  | some pl =>
    let d := s.sinceEdge
    let best := (pl.phases.filter (fun r => decide (r.winStart ≤ d) && decide (d < r.winEnd))).foldl
      (fun (a : Option PhaseRec) r => match a with
        | none => some r
        | some b => if b.winStart < r.winStart ∨ (b.winStart = r.winStart ∧ r.phase < b.phase) then some r else some b) none
    match best with
    | some r => (r.wRead, r.wWrite)
    | none =>
      match pl.phases.find? (fun r => decide (r.phase = 0)) with
      | some r => (r.wRead, r.wWrite)
      | none => (8, 6)

/-- Slots of the shared buffer in use, those of maintenance requests that have yielded among them (R200, R225). -/
def State.slotsUsed (s : State) (u : Nat) : Nat :=
  (List.range 32).foldl (fun a c => a + (s.chan u c).slots.length) 0 + (s.dma u).saved.foldl (fun a y => a + y.slots.length) 0

/-- A read request that a channel may issue: a block of an index stream, the read of a write's read-modify-write, or source data of a
descriptor: side, address and length. -/
inductive ReadPick where
  | index (d : Desc)
  | merge (r : DmaReq)
  | data (d : Desc) (onDst : Bool) (addr len : Nat)
  deriving DecidableEq, Repr

/-- May a descriptor fetch its next block of index stream: FETCH_AHEAD blocks ahead of its use, or all of it where it is checked first (R212,
R216)? -/
def Desc.wantsIndex (d : Desc) : Bool :=
  let line := if dType d.bytes = 3 then d.rPos / (srcSide d.bytes).line else d.wPos / (dstSide d.bytes).line
  decide (d.idxReq < idxBlocks d.bytes) && (d.checksIdx || decide (d.idxReq < dIdxBytes d.bytes * line / 64 + dAhead d.bytes))

/-- Where the write engine stands: bytes of the next destination unit that are in wait for it in the holding register (R210). -/
def Desc.packPos (d : Desc) : Nat :=
  match d.writePlace d.wPos with
  | (.here a, left) =>
    d.wPos + ((List.range (requestLen (dstSide d.bytes).width a left)).takeWhile (fun i => d.has (d.wPos + i))).length
  | _ => d.wPos

/-- Does the read-ahead limit let a descriptor read on (R215, R220)? In serial mode the line is the limit. A COMPARE reads both sides of the
256 bytes that it compares, and a source line that it holds. -/
def Desc.aheadOk (d : Desc) : Bool :=
  let p := d.streamPos d.rAt
  let b := d.bytes
  if d.serial then decide ((srcSide b).line * (d.rPos / (srcSide b).line) ≤ d.landed)
  else if dType b = 6 then
    (d.bcast && !p.1) || decide (p.2 / 256 ≤ d.wPos / 256) || decide (tileIndex b p.2 < tileIndex b d.wPos + dAhead b)
  else decide (tileIndex b p.2 < tileIndex b (d.sourcePos d.packPos) + dAhead b)

/-- Is there room in the shared buffer for `n` bytes that a descriptor reads next (R200)? Where a held source line fills the channel's slots,
a COMPARE's destination passes through the holding register, one access at a time (log 69). -/
def State.slotOk (s : State) (u : Nat) (x : Chan) (d : Desc) (onDst : Bool) (n : Nat) : Bool :=
  decide (n ≤ x.slotRoom d) || (decide (x.slots.length < 128) && decide (s.slotsUsed u < 1024))
    || (d.bcast && onDst && !x.slots.any (fun e => decide (e.seq = d.seq) && decide ((srcSide d.bytes).line ≤ e.pos)))

/-- Reads of host memory that a channel has outstanding. -/
def Chan.hostReads (x : Chan) : Nat :=
  (x.reqs.filter (fun r => !r.write && !r.index && x.live.any (fun d => decide (d.seq = r.seq)
    && decide ((if r.onDst then dstSide d.bytes else srcSide d.bytes).kind = 5)))).length

/-- Non-posted requests that the device has outstanding on the link (R357): those of channels that have yielded among them. -/
def State.hostReads (s : State) : Nat :=
  s.chans.foldl (fun a e => a + e.2.hostReads) 0
    + s.dmas.foldl (fun a e => a + e.2.saved.foldl (fun a y => a + y.hostReads) 0) 0

/-- The read request that a channel has to issue now (R200, R206, R212, R215, R217, R219, R220, R267, R357). -/
def State.readReady (s : State) (u c : Nat) : Option ReadPick :=
  let x := s.chan u c
  match s.chanTask u c with
  | none => none
  | some t =>
    if t.stage ≠ 2 ∨ x.halted = true then none
    else
      let waiting := if x.shadowSt = stOk then x.shadow.toList.filter Desc.checksIdx else []
      match x.reqs.find? (fun r => r.write && decide (0 < r.rmw)), (x.live ++ waiting).find? Desc.wantsIndex, x.live.getLast? with
      | some r, _, _ => some (.merge r)
      | none, some d, _ => some (.index d)
      | none, none, some d =>
        if d.readTotal ≤ d.rPos then none
        else
          match d.readPlace d.rAt with
          | (onDst, .here a, left) =>
            let y := if onDst then dstSide d.bytes else srcSide d.bytes
            let n := requestLen y.width a left
            let ok := s.slotOk u x d onDst n && d.aheadOk && (decide (y.kind ≠ 5) || decide (s.hostReads < 512))
              && (decide (dRate d.bytes = 0) || decide (n ≤ tokensAt (dRate d.bytes) s.now (if onDst then x.wTok else x.rTok)))
              && (decide (y.kind ≠ 6) || (match s.view6 y.core t.tick a.toNat n with
                  | .waits => false
                  | _ => true))
            if ok then some (.data d onDst (if y.kind = 3 then s.picture t (s.rawSet t (s.reflectRaw t a.toNat)) else a.toNat) n) else none
          | _ => none
      | _, _, _ => none

/-- The write request that a channel has to issue now (R210, R215, R219): its descriptor, address and length. -/
def State.writeReady (s : State) (u c : Nat) : Option (Desc × Nat × Nat) :=
  let x := s.chan u c
  match s.chanTask u c, x.live.find? (fun d => decide (d.wPos < writeTotal d.bytes)) with
  | some t, some d =>
    if t.stage ≠ 2 ∨ x.halted = true then none
    else
      match d.writePlace d.wPos with
      | (.here a, left) =>
        let n := requestLen (dstSide d.bytes).width a left
        let line := (srcSide d.bytes).line
        let ok := (List.range n).all (fun i => d.has (d.wPos + i))
          && (!d.serial || decide (line * (d.wPos / line + 1) ≤ d.rGot))
          && (decide (dRate d.bytes = 0) || decide (n ≤ tokensAt (dRate d.bytes) s.now x.wTok))
        if ok then some (d, if (dstSide d.bytes).kind = 3 then s.picture t a.toNat else a.toNat, n) else none
      | _ => none
  | _, _ => none

/-- The channel whose turn it is among those for which `f` holds: the next one after `last` (R217). -/
def nextChan (last : Nat) (f : Nat → Bool) : Option Nat :=
  ((List.range 32).map (fun i => (last + 1 + i) % 32)).find? f

/-- Does a maintenance request hold the channel (R225)? -/
def State.maintChan (s : State) (u c : Nat) : Bool :=
  match s.chanTask u c with
  | some t => t.maint.isSome
  | none => false

/-- Is a channel of DMA4 or DMA5 held by an engine that runs a task, or by a front-end with rows to write (R200, R266, R282)? -/
def State.sideHeld (s : State) (u c : Nat) : Bool :=
  (decide (u = 4) && decide (c < 15) && (klook s.engines c).any (fun e => e.task.isSome))
    || (decide (u = 5) && decide (c < 16) && (klook s.ports c).any (fun p => !p.work.isEmpty))

/-- Has an engine or front-end channel a request of a direction in this cycle? Its single requests are not held, so this is free (log 24). -/
def State.sideAsks (s : State) (u c : Nat) (write : Bool) : Bool :=
  s.sideHeld u c && !(s.chan u c).halted && Config.slotAsks (2 * c + b2n write) u s.now

/-- A request as it issues. -/
def newReq (seq : Nat) (write : Bool) (pos len addr now : Nat) : DmaReq :=
  { seq := seq, write := write, onDst := write, index := false, pos := pos, len := len, addr := addr, data := [], rmw := 0, issued := now,
    tries := 0, retryAt := none }

/-- A bucket of a rate after a request of `n` bytes. -/
def spend (rate n now : Nat) (k : Nat × Nat) : Nat × Nat := if rate = 0 then k else (tokensAt rate now k - n, now)

/-- A read request issued: slot, tokens, position (R200, R219). The two sides of a COMPARE have a bucket each. -/
def State.issueRead (s : State) (u c : Nat) : State :=
  let x := s.chan u c
  match s.readReady u c, s.chanTask u c with
  | none, _ => if s.sideAsks u c false then s.setDma u { s.dma u with lastR := c } else s
  | some (.merge r), _ =>
    let s := (s.setDma u { s.dma u with lastR := c }).bump 64 (0x5410 + u) 9 1
    s.setChan u c { x with reqs := x.reqs.map (fun q => if q = r then { q with rmw := q.rmw - 1 } else q) }
  | some (.index d), some t =>
    let addr := s.rangeAddr t.part (dParam d.bytes) + 64 * d.idxReq
    let y := x.putDesc { d with idxReq := d.idxReq + 1 }
    (s.setDma u { s.dma u with lastR := c }).setChan u c { y with
      issued := true, reqs := x.reqs ++ [{ newReq d.seq false (64 * d.idxReq) 64 addr s.now with index := true }] }
  | some (.data d onDst addr n), _ =>
    let rate := dRate d.bytes
    let r := Desc.skipClipped (idxCount d.bytes + 1) { d with rPos := d.rPos + n, rDst := d.rDst + (if onDst then n else 0) }
    let y := (x.grant d n (d.uses onDst)).putDesc r.1
    let s := if r.2 = 0 then s else s.bump 64 (0x5410 + u) 10 r.2
    (s.setDma u { s.dma u with lastR := c }).setChan u c { y with
      issued := true,
      reqs := x.reqs ++ [{ newReq d.seq false d.rAt n addr s.now with onDst := onDst, waited := s.hostWaited }],
      rTok := if onDst then x.rTok else spend rate n s.now x.rTok,
      wTok := if onDst then spend rate n s.now x.wTok else x.wTok }
  | some (.index _), none => s

/-- 64-byte blocks of which a write covers only a part (R206). -/
def partBlocks (addr : Nat) (bs : List (Option Byte)) : Nat :=
  ((List.range ((addr + bs.length - 1) / 64 + 1 - addr / 64)).filter (fun i =>
    (List.range 64).any (fun j =>
      let a := 64 * (addr / 64 + i) + j
      decide (a < addr) || (bs.getD (a - addr) none).isNone))).length

/-- A write request issued: its bytes leave their slots. Each block of LPDDR5 of which it writes a part is read first (R206). -/
def State.issueWrite (s : State) (u c : Nat) : State :=
  match s.writeReady u c with
  | none => if s.sideAsks u c true then s.setDma u { s.dma u with lastW := c } else s
  | some (d, addr, n) =>
    let x := s.chan u c
    let past (a : Nat) : Bool := decide ((dstSide d.bytes).kind = 3) && (s.chanTask u c).any (fun t => s.pastPicture t a)
    let data := (List.range n).map (fun i =>
      if d.masked (d.wPos + i) || d.isCut (d.sourcePos (d.wPos + i)) || past (addr + i) then none
      else some (s.writeByte d (d.wPos + i) (addr + i)))
    let y := x.take d.seq ((List.range n).map (fun i => d.sourcePos (d.wPos + i)))
    let y := y.putDesc { d with wPos := d.wPos + n, buf := y.kept d }
    (s.setDma u { s.dma u with lastW := c }).setChan u c { y with
      issued := true,
      reqs := x.reqs ++ [{ newReq d.seq true d.wPos n addr s.now with
        data := data, waited := s.hostWaited, rmw := if (dstSide d.bytes).kind = 3 then partBlocks addr data else 0 }],
      wTok := spend (dRate d.bytes) n s.now x.wTok }

/-- Has a channel of a unit a request of a direction: one to issue, or `extra`, whose retry is due (R217, R222, R282)? -/
def State.hasRequest (s : State) (u c : Nat) (write : Bool) (extra : Option (Bool × Nat)) : Bool :=
  (if write then (s.writeReady u c).isSome else (s.readReady u c).isSome) || s.sideAsks u c write || decide (extra = some (write, c))

/-- The channel that a unit's network slot goes to: true for a write. The class that owns the position of the round goes first with plan
traffic; otherwise the slot passes to reads and then writes; maintenance requests have only slots that are passed on (R217, R225). Whether
narrow remote traffic has a request in a remote slot is free (log 14). -/
def State.netSlot (s : State) (u : Nat) (extra : Option (Bool × Nat)) : Option (Bool × Nat) :=
  let w := s.weights u
  let pos := s.sinceEdge % 16
  let x := s.dma u
  let of (m write : Bool) : Option (Bool × Nat) :=
    (nextChan (if write then x.lastW else x.lastR) (fun c => decide (s.maintChan u c = m) && s.hasRequest u c write extra)).map (fun c => (write, c))
  let own : Option (Bool × Nat) :=
    if pos < w.1 then of false false else if pos < w.1 + w.2 then of false true else none
  if w.1 + w.2 ≤ pos ∧ Config.slotAsks 64 u s.now = true then none
  else [own, of false false, of true false, of false true, of true true].findSome? id

/-- The channel that issues in the network slot of unit `u`. -/
def State.slotPick (s : State) (u : Nat) : Option (Bool × Nat) := s.netSlot u none

/-- DMA_REQUEST_ISSUE: one network slot of unit `u`, of which a cycle has one (R200, R217). The command says that a channel's class owns or
inherits the slot. -/
def execDmaRequestIssue (t : Nat) (u : DmaId) (s : State) : Out :=
  whileLive t s (fun s =>
    if (s.dma u.val).slotAt = some s.now then s
    else
      let r := s.setDma u.val { s.dma u.val with slotAt := some s.now }
      match s.slotPick u.val with
      | none => s
      | some (true, c) => (r.issueWrite u.val c).dmaAdvance u.val c
      | some (false, c) => (r.issueRead u.val c).dmaAdvance u.val c)

/-! ### DMA_READ_DATA, DMA_WRITE_LANDED (R203, R223) -/

/-- The descriptor of a request. -/
def Chan.descOf (x : Chan) (r : DmaReq) : Option Desc := (x.live ++ x.shadow.toList).find? (fun d => decide (d.seq = r.seq))

/-- Is a write held back by an earlier one of its descriptor that waits for its reissue or its merge? Writes under LAST_WINS are not
reordered (R216). -/
def Chan.keepsOrder (x : Chan) (r : DmaReq) : Bool :=
  r.write && (match x.descOf r with
    | some d => dLastWins d.bytes
    | none => false)
  && x.reqs.any (fun q => q.write && decide (q.seq = r.seq) && decide (q.pos < r.pos) && (q.retryAt.isSome || decide (0 < q.rmw)))

/-- The oldest request of a direction that awaits its response. -/
def Chan.oldest (x : Chan) (f : DmaReq → Bool) : Option DmaReq :=
  x.reqs.find? (fun r => r.retryAt.isNone && decide (r.rmw = 0) && f r && !x.keepsOrder r)

/-- A request removed. -/
def Chan.drop (x : Chan) (r : DmaReq) : Chan := { x with reqs := x.reqs.filter (fun q => decide (q ≠ r)) }

/-- The side that a request addresses: the index stream lies in LPDDR5 (R204, R212). -/
def reqSide (d : Desc) (r : DmaReq) : Side :=
  if r.index then { srcSide d.bytes with kind := 3, core := 0, handle := 0, gen := 0 }
  else if r.onDst then dstSide d.bytes else srcSide d.bytes

/-- Does a request of a task go beyond the capacity, where the firewall has passed it (R221, R223)? -/
def State.decodeError (s : State) (k : Task) (y : Side) (r : DmaReq) : Bool :=
  decide (y.kind = 3) && decide (s.capacity < r.addr + r.len) && s.dmaPass k r.write y r.addr r.len

/-- Does the target answer a request of a task, with data, acceptance or a refusal: the address exists, and the link carries host requests? -/
def State.answers (s : State) (k : Task) (y : Side) (r : DmaReq) : Bool :=
  !s.decodeError k y r && (decide (y.kind ≠ 5) || decide (s.hostPath = .sent))

/-- A task whose request its target refuses: the firewall's refusal and a stale handle are counted, and the task is aborted (R151, R223,
R407). -/
def State.dmaRefuse (s : State) (u c : Nat) (k : Task) (write : Bool) (y : Side) (st : Nat) : State :=
  let s := if st = stAccessDenied then s.firewallRefuse (0x30 + u) k.part write y.kind y.core else s
  (if y.kind = 1 then s.countStale y.core st else s).dmaAbort u c st

/-- A block of an index stream is in. When the whole stream of a SCATTER without LAST_WINS is in, its indices are checked, and the first
descriptor of a chain becomes active (R212, R216). -/
def State.indexIn (s : State) (u c : Nat) (d : Desc) (r : DmaReq) (bs : List Byte) : State :=
  let x := s.chan u c
  let d := { d with idxIn := d.idxIn ++ [(r.pos / 64, bs)] }
  let y := (x.drop r).putDesc d
  if d.checksIdx && d.idxWhole && x.shadow.any (fun e => decide (e.seq = d.seq)) then
    if aliases d.bytes d.indices then
      ((s.setChan u c { y with shadowSt := stWriteAlias }).bump 32 (0x5410 + u) 8 1).dmaAdvance u c
    else
      let s := s.setChan u c y
      (if y.live = [] then s.dmaActivate u c else s).dmaAdvance u c
  else (s.setChan u c y).dmaAdvance u c

/-- Data for the oldest read request of a channel, or the refusal that its target gives (R203, R223). -/
def State.dmaRead (s : State) (u c : Nat) (hostData : List Byte) : State :=
  let x := s.chan u c
  match s.chanTask u c, x.oldest (fun r => !r.write) with
  | some k, some r =>
    match x.descOf r with
    | none => s
    | some d =>
      let y := reqSide d r
      if !s.answers k y r then s
      else
        let st := s.dmaTarget k false y r.addr r.len
        if st ≠ stOk then s.dmaRefuse u c k false y st
        else if y.kind = 3 ∧ s.spanPoisoned r.addr r.len = true then
          (s.countPoison r.addr r.len (some (0x30 + u))).dmaAbort u c stTaskAborted
        else
          let f := s.dmaFetch k y r.addr r.len hostData
          let s := f.1.bump 64 (0x5410 + u) 1 r.len
          if r.index then s.indexIn u c d r f.2
          else
            let d := { d with rGot := d.rGot + r.len, buf := (List.range r.len).foldl (fun m i => kput m (r.pos + i) (f.2.getD i 0)) d.buf }
            (s.setChan u c ((x.drop r).putDesc d)).dmaAdvance u c
  | _, _ => s

/-- The oldest write request of a channel lands, or its target refuses it (R203, R223). -/
def State.dmaLand (s : State) (u c : Nat) : State :=
  let x := s.chan u c
  match s.chanTask u c, x.oldest (fun r => r.write) with
  | some k, some r =>
    match x.descOf r with
    | none => s
    | some d =>
      let y := dstSide d.bytes
      if !s.answers k y r then s
      else
        let st := s.dmaTarget k true y r.addr r.len
        if st ≠ stOk then s.dmaRefuse u c k true y st
        else
          let s := if y.kind = 3 then s.touchCtx (k.maint.isSome && decide (dType d.bytes = 5)) r.addr r.len else s
          let s := (s.dmaStore k y r.addr r.data).bump 64 (0x5410 + u) 2 (maskedBytes r.addr r.data).length
          let s := s.modTask k.id (fun a => { a with wrote := true })
          let s := s.setChan u c ((x.drop r).putDesc { d with landed := d.landed + r.len })
          (if k.maint = some scrubFn then s.countScrub else s).dmaAdvance u c
  | _, _ => s

/-- The core to whose scratchpad the oldest request of a direction goes. -/
def State.dmaPad (s : State) (u c : Nat) (write : Bool) : Option Nat :=
  let x := s.chan u c
  ((x.oldest (fun r => decide (r.write = write))).bind (fun r => (x.descOf r).map (fun d => reqSide d r))).bind (fun y =>
    if y.kind = 1 ∨ y.kind = 2 then some y.core else none)

/-- A DMA access carried out; one to a scratchpad waits while its row-valid bits are cleared, and comes after the cycles of its ports that
have passed (R144). -/
def State.dmaAccess (s : State) (u c : Nat) (write : Bool) (hostData : List Byte) : State :=
  let go (s : State) : State := if write then s.dmaLand u c else s.dmaRead u c hostData
  match s.dmaPad u c write with
  | some core => if s.padClearing core then s.holdPad core (.dma u c write) else go (s.padRun core)
  | none => go s

/-- DMA_READ_DATA: data for the oldest read request. `hostData` is what host memory holds, for kind 5. -/
def execDmaReadData (t : Nat) (u : DmaId) (ch : ChanId) (hostData : List Byte) (s : State) : Out :=
  whileLive t s (fun s => s.dmaAccess u.val ch.val false hostData)

/-- DMA_WRITE_LANDED: the oldest write request lands. -/
def execDmaWriteLanded (t : Nat) (u : DmaId) (ch : ChanId) (s : State) : Out :=
  whileLive t s (fun s => s.dmaAccess u.val ch.val true [])

/-! ### Bus errors (R221, R222) -/

/-- A bus-error record (R226). -/
def busRecord (write : Bool) (kind addr ch attempts cause tick : Nat) : List Byte :=
  leBytes 8 addr ++ leBytes 1 (b2n write + 2 * kind) ++ leBytes 1 ch ++ leBytes 1 attempts ++ leBytes 1 cause ++ leBytes 4 tick

/-- A channel halts at a request (R222): the record, the counts, the task's end by `kill`, the event to its partition's owner. A request of
the device owner has no partition. -/
def State.haltChan (s : State) (u c : Nat) (part : Option Nat) (r : DmaReq) (kind cause : Nat) (kill : State → State) : State :=
  let rec' := busRecord r.write kind r.addr c (r.tries + 1) cause s.tickCount
  let s := s.setChan u c { s.chan u c with halted := true }
  let s := (s.setDma u { s.dma u with log := ({ part := part.getD 8, bytes := rec' } :: (s.dma u).log).take 16 }).newVersion 0 (0x5430 + u) 1
  let s := kill ((s.bump 32 (0x5430 + u) 2 1).bump 32 (0x5410 + u) 6 1)
  s.raiseEvent 0x30 part u (wordAt rec' 0) (wordAt rec' 1) (wordAt rec' 2)

/-- A bus-error response to a request: it waits for its reissue, or the channel halts (R222). -/
def State.busError (s : State) (u c : Nat) (r : DmaReq) (kind cause : Nat) : State :=
  let x := s.chan u c
  let s := s.bump 64 (0x5410 + u) 5 1
  if r.tries < s.reg 0x5400 6 then
    s.setChan u c { x with reqs := x.reqs.map (fun q => if q = r then { q with retryAt := some (s.now + 256 * 2 ^ r.tries) } else q) }
  else
    match s.chanTask u c with
    | none => s
    | some t => s.haltChan u c t.owner r kind cause (fun s => s.dmaAbort u c stBusError)

/-- Can a cause of R221 befall a request: an address beyond the capacity, or a host completion? -/
def State.causeFits (s : State) (k : Task) (y : Side) (r : DmaReq) (cause : Nat) : Bool :=
  (decide (cause = 1) && s.decodeError k y r)
    || ((decide (cause = 2) || decide (cause = 3)) && decide (y.kind = 5) && decide (s.hostPath = .sent))

/-- The oldest request of a channel, of those that do not wait for their retry, that `f` holds of, with the side that it addresses. -/
def Chan.failing (x : Chan) (f : Side → DmaReq → Bool) : Option (DmaReq × Side) :=
  (x.reqs.filterMap (fun r => (x.descOf r).map (fun d => (r, reqSide d r)))).find? (fun p => p.1.retryAt.isNone && f p.2 p.1)

/-- A bus-error response to the oldest request of a channel that it can befall (R221). -/
def State.chanBusError (s : State) (u c cause : Nat) : State :=
  match (s.chanTask u c).bind (fun k => (s.chan u c).failing (fun y r => s.causeFits k y r cause)) with
  | none => s
  | some p => s.busError u c p.1 p.2.kind cause

/-- Has a request had no response within 131,072 cycles? A host-bound one does not run out of time while the link makes it wait, and fails at
once in FAILED (R221, R349). -/
def State.timedOut (s : State) (y : Side) (r : DmaReq) : Bool :=
  if y.kind = 5 then
    match s.hostPath with
    | .fails => true
    | .waits => false
    | .sent => decide (r.issued + 131072 + (s.hostWaited - r.waited) ≤ s.now)
  else decide (r.issued + 131072 ≤ s.now)

/-- The oldest request of a channel that has run out of time, cause 0x04 (R221). -/
def State.chanTimeout (s : State) (u c : Nat) : State :=
  match (s.chan u c).failing s.timedOut with
  | none => s
  | some p => s.busError u c p.1 p.2.kind 4

/-- The oldest request of a channel whose wait for its retry is over. -/
def State.retryDue (s : State) (u c : Nat) : Option DmaReq :=
  (s.chan u c).reqs.find? (fun r => match r.retryAt with
    | some a => decide (a ≤ s.now)
    | none => false)

/-- The rate of a retried request, and its side's bucket (R219). -/
def Chan.retryRate (x : Chan) (r : DmaReq) : Nat := if r.index then 0 else ((x.descOf r).map (fun d => dRate d.bytes)).getD 0
def Chan.retryTok (x : Chan) (r : DmaReq) : Nat × Nat := if r.onDst then x.wTok else x.rTok

/-- May a retried request of a channel issue in this cycle: the network port is free, its class and its turn have the slot, and its side has
the tokens (R200, R217, R219, R222)? -/
def State.mayReissue (s : State) (u c : Nat) (r : DmaReq) : Bool :=
  let x := s.chan u c
  decide ((s.dma u).slotAt ≠ some s.now) && decide (s.netSlot u (some (r.write, c)) = some (r.write, c))
    && (decide (x.retryRate r = 0) || decide (r.len ≤ tokensAt (x.retryRate r) s.now (x.retryTok r)))

/-- A retried request issued (R222). -/
def State.reissue (s : State) (u c : Nat) (r : DmaReq) : State :=
  let x := s.chan u c
  let tok := spend (x.retryRate r) r.len s.now (x.retryTok r)
  let s := s.setDma u { s.dma u with
    slotAt := some s.now, lastR := if r.write then (s.dma u).lastR else c, lastW := if r.write then c else (s.dma u).lastW }
  s.setChan u c { x with
    reqs := x.reqs.map (fun q =>
      if q = r then { q with retryAt := none, issued := s.now, tries := q.tries + 1, waited := s.hostWaited } else q),
    rTok := if r.onDst then x.rTok else tok, wTok := if r.onDst then tok else x.wTok }

/-- DMA_RETRY_REISSUE: the wait of a retry is over, and the request issues in a network slot (R200, R217, R222). -/
def execDmaRetryReissue (t : Nat) (u : DmaId) (ch : ChanId) (s : State) : Out :=
  whileLive t s (fun s =>
    match s.retryDue u.val ch.val with
    | none => s
    | some r => if s.mayReissue u.val ch.val r then s.reissue u.val ch.val r else s)

/-! ### Maintenance requests (R224, R225) -/

/-- Does a plan entry find no free channel because channel `c` of unit `u` is held by maintenance: the unit has none free, or the entry's
partition has its share taken, this channel among it (R225, R403)? -/
def State.yieldFor (s : State) (u c : Nat) : Bool :=
  s.tasks.any (fun t => s.waitsForChan u t && (s.freeChan u t.part false).isNone
    && ((planChans u).all (fun k => (s.chan u k).task.isSome || (s.chan u k).halted)
      || (s.chanTask u c).any (fun m => decide (m.owner = some t.part))))

/-- MAINT_YIELD: a channel held by a maintenance request is given to a waiting plan entry; its state is saved. -/
def execMaintYield (t : Nat) (u : DmaId) (ch : ChanId) (s : State) : Out :=
  whileLive t s (fun s =>
    let x := s.chan u.val ch.val
    if s.maintChan u.val ch.val && s.yieldFor u.val ch.val then
      let s := s.setDma u.val { s.dma u.val with saved := (s.dma u.val).saved ++ [x] }
      (s.setChan u.val ch.val chan0).bump 32 (0x5410 + u.val) 12 1
    else s)

/-- Is a channel free for a request that has yielded, within its partition's share (R225, R403)? -/
def State.resumes (s : State) (u c : Nat) (y : Chan) : Bool :=
  let x := s.chan u c
  x.task.isNone && !x.halted && decide (c ∈ planChans u) && !s.dmaWaiting u
    && (match (y.task.bind (fun id => s.task? id)).bind Task.owner with
        | some p => (s.freeChan u p false).isSome
        | none => true)

/-- MAINT_RESUME: a free channel takes the oldest request that has yielded; its requests in flight are made anew. -/
def execMaintResume (t : Nat) (u : DmaId) (ch : ChanId) (s : State) : Out :=
  whileLive t s (fun s =>
    match (s.dma u.val).saved with
    | [] => s
    | y :: ys =>
      if s.resumes u.val ch.val y then
        let s := s.setDma u.val { s.dma u.val with saved := ys }
        s.setChan u.val ch.val { y with reqs := y.reqs.map (fun r => { r with issued := s.now, waited := s.hostWaited }) }
      else s)

/-! ### Re-shard entries (R174–R180) -/

/-- The owner-table entries of a re-shard node (R177: exactly one table). -/
def State.reshardEntries (s : State) (t : Task) : List OwnerEntry :=
  match s.taskPlan t with
  | none => []
  | some pl =>
    let sec := planSection pl 7
    match (ownerTables sec).find? (fun x => decide (x.node = t.num)) with
    | some tab => tableEntries sec tab
    | none => []

/-- Generations of the handles that a node's entries name, in entry order: source (0 for memory), destination (R179). -/
def State.reshardGens (s : State) (es : List OwnerEntry) : List Nat :=
  es.flatMap (fun e => [((s.pad e.srcCore).handle e.srcHandle).gen, ((s.pad e.dstCore).handle e.dstHandle).gen])

/-- The move of an entry (R176). -/
def entryMove (e : OwnerEntry) : Move :=
  { fmt := e.fmt, transpose := false, srcL := e.srcLayout, dstL := e.dstLayout, srcH := e.srcH, srcW := e.srcW, srcC := e.srcC,
    srcP := e.srcPitch, dstH := e.dstH, dstW := e.dstW, dstC := e.dstC, dstP := e.dstPitch, sy := e.sy, sx := e.sx, sc := e.sc,
    dc := e.dc, dy := e.dy, dx := e.dx, eh := e.eh, ew := e.ew, ec := e.ec }

/-- Where byte `off` of an entry's source in memory lies (R176). -/
def State.entryAddr (s : State) (p : Nat) (e : OwnerEntry) : Nat :=
  if e.srcKind = 1 then s.rangeAddr p e.srcAddr else 4096 * s.reg (0x3100 + p) 8 + 64 * e.srcAddr

/-- Does the firewall pass the reads of an entry's source? -/
def State.entrySrcIn (s : State) (p : Nat) (e : OwnerEntry) (reads : List (Nat × Nat)) : Bool :=
  let base := s.entryAddr p e
  reads.all (fun r =>
    if e.srcKind = 0 then s.coreIn p e.srcCore
    else if e.srcKind = 1 then s.granuleIn p ((base + r.1) / 67108864) && s.granuleIn p ((base + r.1 + r.2 - 1) / 67108864)
    else s.scrOwned p (base + r.1) r.2)

/-- The checks of an entry at run time: handles and layouts (R179), then the firewall on both sides. -/
def State.entryCheck (s : State) (p : Nat) (e : OwnerEntry) (gs gd : Nat) (reads : List (Nat × Nat)) : Nat :=
  let hs := (s.pad e.srcCore).handle e.srcHandle
  let hd := (s.pad e.dstCore).handle e.dstHandle
  firstFail [
    (if e.srcKind = 0 then handleCheck hs gs else stOk), handleCheck hd gd,
    need ((decide (e.srcKind ≠ 0) || decide (hs.layout = e.srcLayout)) && decide (hd.layout = e.dstLayout)) stBadEncoding,
    need (s.entrySrcIn p e reads && s.coreIn p e.dstCore) stAccessDenied]

/-- After a re-shard entry, moved or skipped: the node's end at a stop that came before its completion, the node's end, or the next entry (R180,
R196, R226). -/
def State.reshardNext (s : State) (u ch : Nat) (k : Task) (entry count : Nat) (moved : Bool) : State :=
  let s := s.setChan u ch { s.chan u ch with entry := entry + 1, entryAt := s.now, issued := true, reqs := [] }
  let s := if moved then s.bump 64 (0x5410 + u) 3 1 else s
  if k.stop then
    (s.modTask k.id (fun a => { a with aborted := true, absent := true })).dmaFinish u ch stTaskAborted
  else if count ≤ entry + 1 then (s.dmaFinish u ch stOk).bump 64 (0x5150 + k.part) 1 1
  else s

/-- Guard events of the rows that spans of a handle's buffer touch (R141). -/
def State.guardRows (s : State) (c h port : Nat) (spans : List (Nat × Nat)) : State :=
  let rows := (spans.flatMap (fun q => (List.range ((q.1 + q.2 - 1) / 256 + 1 - q.1 / 256)).map (fun i => q.1 / 256 + i))).eraseDups
  rows.foldl (fun s r => s.guardSpan c h (256 * r) 256 port) s

/-- How an entry's source reads: slot 1; slot 0 is what the destination holds. -/
def State.entryRead (s : State) (p : Nat) (e : OwnerEntry) : Rd := fun o off =>
  if o = 0 then s.padByte e.dstCore e.dstHandle off
  else if e.srcKind = 0 then s.padByte e.srcCore e.srcHandle off
  else if e.srcKind = 1 then kget memDefault s.ddr (s.entryAddr p e + off)
  else kget memDefault s.fscratch (s.entryAddr p e + off)

/-- A refused re-shard entry (R179): the firewall's refusal at the side that it refuses, a stale handle at its core. -/
def State.reshardRefuse (s : State) (u ch p : Nat) (e : OwnerEntry) (gs : Nat) (reads : List (Nat × Nat)) (st : Nat) : State :=
  let s := if st ≠ stAccessDenied then s
    else if s.entrySrcIn p e reads then s.firewallRefuse (0x30 + u) p true 1 e.dstCore
    else s.firewallRefuse (0x30 + u) p false (if e.srcKind = 0 then 1 else if e.srcKind = 1 then 3 else 4) e.srcCore
  let stale := e.srcKind = 0 ∧ handleCheck ((s.pad e.srcCore).handle e.srcHandle) gs = st
  (s.countStale (if stale then e.srcCore else e.dstCore) st).dmaAbort u ch st

/-- A re-shard entry carried out: its region is in its destination, or what is wrong with it aborts the node (R177–R180, R223, R447). -/
def State.reshardMove (s : State) (u ch : Nat) (k : Task) (e : OwnerEntry) (x : Chan) (count : Nat) : State :=
  let p := k.part
  let rd := s.entryRead p e
  let m := entryMove e
  let w := moveWork rd m (if e.srcKind = 0 then ((s.pad e.srcCore).handle e.srcHandle).fill else 0)
  let same := layZc e.srcLayout && decide (e.srcLayout = e.dstLayout)
  let writes := if same then zcReshard rd m w.writes s.free else w.writes
  let reads := reshardReads rd m
  let lands := (w.spans.filter (fun q => decide (q.1 = 0))).map (fun q => q.2)
  let base := s.entryAddr p e
  let gs := x.gens.getD (2 * x.entry) 0
  let st := s.entryCheck p e gs (x.gens.getD (2 * x.entry + 1) 0) reads
  if st ≠ stOk then s.reshardRefuse u ch p e gs reads st
  else if lands.any (fun q => s.spanWithdrawn e.dstCore e.dstHandle q.1 q.2)
      || reads.any (fun q => if e.srcKind = 0 then s.spanWithdrawn e.srcCore e.srcHandle q.1 q.2
        else decide (e.srcKind = 1) && s.spanRetired (base + q.1) q.2) then s.dmaAbort u ch stRetired
  else if let some q := reads.find? (fun q => decide (e.srcKind = 1) && s.spanPoisoned (base + q.1) q.2) then
    (s.countPoison (base + q.1) q.2 (some (0x30 + u))).dmaAbort u ch stTaskAborted
  else
    let s := if e.srcKind = 0 then s.guardRows e.srcCore e.srcHandle 4 reads else s
    let s := (s.guardRows e.dstCore e.dstHandle 3 lands).padPuts e.dstCore e.dstHandle writes
    let s := if same then s.draw.2 else s
    let s := (s.bump 64 (0x5410 + u) 1 (reads.foldl (fun a q => a + q.2) 0)).bump 64 (0x5410 + u) 2 writes.length
    let s := s.bump 64 (0x5150 + p) 2 (rowsTouched writes)
    (s.modTask k.id (fun a => { a with wrote := true })).reshardNext u ch k x.entry count true

/-- The re-shard entry under way on a channel, with its node's entries. -/
def State.reshardAt (s : State) (u ch : Nat) : Option (Task × OwnerEntry × Nat) :=
  match s.chanTask u ch with
  | none => none
  | some k =>
    let es := s.reshardEntries k
    if k.node.kind ≠ 9 ∨ k.stage ≠ 2 ∨ k.maint.isSome then none else (es[(s.chan u ch).entry]?).map (fun e => (k, e, es.length))

/-- A re-shard entry ends, once none of its requests waits for a retry. An entry bound to a stream without a frame is skipped (R180). -/
def State.reshardEnd (s : State) (u ch : Nat) : State :=
  let x := s.chan u ch
  match s.reshardAt u ch with
  | none => s
  | some (k, e, n) =>
    if x.reqs.any (fun r => r.retryAt.isSome) then s
    else if e.bound && (s.frameFor k.tick e.stream).isNone then (s.bump 64 (0x5150 + k.part) 3 1).reshardNext u ch k x.entry n false
    else
      match ((if e.srcKind = 0 then [e.srcCore] else []) ++ [e.dstCore]).find? s.padClearing with
      | some c => s.holdPad c (.reshard u ch)
      | none => (((if e.srcKind = 0 then s.padRun e.srcCore else s).padRun e.dstCore)).reshardMove u ch k e x n

/-- RESHARD_ENTRY_END: the entry's region is in its destination, and the node goes on or ends. -/
def execReshardEntryEnd (t : Nat) (u : DmaId) (ch : ChanId) (s : State) : Out :=
  whileLive t s (fun s => s.reshardEnd u.val ch.val)

/-- The request of a channel that found no response where the model holds no single ones: the one that waits for its retry, or a new one,
whose address and direction the manual leaves open (log 24). `seq` names the work under way. -/
def State.sideReq (s : State) (u c seq : Nat) (write : Option Bool) : DmaReq × State :=
  match (s.chan u c).reqs.find? (fun r => decide (r.seq = seq)) with
  | some r => (r, s)
  | none =>
    let d := s.draw
    ({ newReq seq (write.getD (Config.freeBit d.1)) 0 64 (Config.freeNat d.1 % (max 1 s.capacity)) 0 with onDst := false }, d.2)

/-- A request of a re-shard entry without a response within 131,072 cycles of the entry's start or of its reissue: a retry, or the halt of
R222 (R179, R221). The request is of the entry's source or of its destination. -/
def State.reshardTimeout (s : State) (u c : Nat) : State :=
  match s.reshardAt u c with
  | none => s
  | some (_, e, _) =>
    let x := s.chan u c
    let due := match x.reqs.find? (fun r => decide (r.seq = x.entry)) with
      | some r => r.retryAt.isNone && decide (r.issued + 131072 ≤ s.now)
      | none => decide (x.entryAt + 131072 ≤ s.now)
    if due then
      (let r := s.sideReq u c x.entry none
       let s := r.2.setChan u c { x with reqs := [r.1] }
       s.busError u c r.1 (if r.1.write then 1 else if e.srcKind = 0 then 1 else if e.srcKind = 1 then 3 else 4) 4)
    else s

end Sys2Proof.Machine
end

