-- ==== Sys2Proof/Machine/FacetFormat.lean ====
section
/-! DEFINITION. Facet descriptors (11 R284–R297, 12 R314–R318, 13 R326–R337): fields, checks, the memory regions they name. -/

namespace Sys2Proof.Machine

/-- FTYPE, LAST, SET_FLAG, DESC_SEQ, FLAG, FLAG_EVERY (R285). -/
def fType (b : List Byte) : Nat := df b 0 7 0
def fLast (b : List Byte) : Bool := (wordAt b 0).testBit 8
def fSetFlag (b : List Byte) : Bool := (wordAt b 0).testBit 9
def fSeq (b : List Byte) : Nat := df b 0 31 16
def fFlag (b : List Byte) : Nat := df b 1 11 0
def fEvery (b : List Byte) : Nat := df b 1 19 12

/-- A 48-bit address in words `lo` and `hi`[15:0]. -/
def fAddr (b : List Byte) (lo hi : Nat) : Nat := wordAt b lo + 2 ^ 32 * df b hi 15 0

/-- Is a kind code 3 or 4 with an address that fits it (R285)? -/
def kindOk (kind addr : Nat) : Bool := decide (kind = 3) || (decide (kind = 4) && decide (addr < 2 ^ 32))

/-- Bytes of a sample and channels of a PFMT (R286). -/
def pfBytes (f : Nat) : Nat := if f = 1 ∨ f = 3 then 2 else 1
def pfChans (f : Nat) : Nat := if f = 2 ∨ f = 3 then 2 else 1

/-- An image in memory: kind, address, width, height, pitch, bytes of a sample, channels. -/
structure Img where
  kind  : Nat
  addr  : Nat
  w     : Nat
  h     : Nat
  pitch : Nat
  size  : Nat
  chans : Nat
  deriving DecidableEq, Repr

/-- Bytes from an image's start to the end of its last row. -/
def Img.bytes (x : Img) : Nat := x.pitch * (x.h - 1) + x.w * x.size * x.chans

/-- `n` rounded up to a multiple of 64. -/
def up64 (n : Nat) : Nat := ceilDiv n 64 * 64

/-! ### PYRAMID (R290–R293) -/

/-- The source of a PYRAMID or a WARP. -/
def fSource (b : List Byte) : Img :=
  { kind := df b 2 2 0, addr := fAddr b 3 4, w := df b 5 15 0, h := df b 5 31 16, pitch := df b 6 23 0, size := pfBytes (df b 2 7 4),
    chans := pfChans (df b 2 7 4) }

/-- BORDER and BORDER_VALUE (R287). -/
def fBorder (b : List Byte) : Nat := df b 2 13 12
def fBorderValue (b : List Byte) : Nat := if pfBytes (df b 2 7 4) = 1 then df b 4 23 16 else df b 4 31 16

/-- Level `l` of a PYRAMID: level 0 is the source (R291). -/
def pyrLevel (b : List Byte) : Nat → Img
  | 0 => fSource b
  | l + 1 =>
    let p := pyrLevel b l
    let w := ceilDiv p.w 2
    let h := ceilDiv p.h 2
    { p with kind := df b 2 10 8, w := w, h := h, pitch := up64 (w * p.size * p.chans),
             addr := if l = 0 then fAddr b 7 8 else p.addr + p.pitch * p.h }

/-- LEVELS. -/
def pyrLevels (b : List Byte) : Nat := df b 2 19 16

/-- The taps of a PYRAMID's filter: C0, C1, C2 (R292). -/
def pyrTaps (b : List Byte) : Nat × Nat × Nat := if df b 2 15 14 = 1 then (96, 64, 16) else (df b 9 8 0, df b 9 17 9, df b 9 26 18)

/-- Encodings of a PYRAMID. -/
def pyrEncoding (b : List Byte) : Bool :=
  kindOk (df b 2 2 0) (fAddr b 3 4) && kindOk (df b 2 10 8) (fAddr b 7 8) && fz b 2 3 3 && decide (df b 2 7 4 ≤ 3) && fz b 2 11 11
    && decide (df b 2 13 12 ≤ 2) && decide (df b 2 15 14 ≤ 2) && decide (1 ≤ pyrLevels b) && decide (pyrLevels b ≤ 8) && fz b 2 31 20
    && fz b 6 31 24 && fz b 8 31 16 && (decide (df b 2 15 14 ≠ 2) || fz b 9 31 27) && fz b 10 31 23 && fz b 11 31 23 && dz b 12 14

/-- Is an image's geometry in range (R290, R294)? -/
def imgOk (x : Img) (lo hi : Nat) : Bool :=
  decide (x.addr % 64 = 0) && decide (lo ≤ x.w) && decide (x.w ≤ hi) && decide (lo ≤ x.h) && decide (x.h ≤ hi) && decide (x.pitch % 64 = 0)
    && decide (x.w * x.size * x.chans ≤ x.pitch)

/-- Dimensions of a PYRAMID (R288 step 4, R290, R293). -/
def pyrDims (b : List Byte) : Bool :=
  let c := pyrTaps b
  imgOk (fSource b) 1 16384 && decide (fAddr b 7 8 % 64 = 0)
    && (decide (df b 2 15 14 ≠ 2) || decide (c.1 + 2 * c.2.1 + 2 * c.2.2 = 256)) && decide (df b 10 22 0 % 256 = 0)
    && decide (8 * ((List.range (pyrLevels b)).foldl (fun a l => a + (pyrLevel b l).pitch) 0) ≤ df b 11 22 0)

/-- Uncontended cycles of a PYRAMID (R293). -/
def pyrCycles (b : List Byte) : Nat :=
  (List.range (pyrLevels b)).foldl (fun a l =>
    let p := pyrLevel b l
    a + ceilDiv (p.w * p.h * p.chans) 16 + 4 * p.h) 200

/-! ### WARP (R294–R298) -/

/-- MODE 1, a homography; G; MAP_SHIFT; INTERP; BAND_ROWS. -/
def wHomo (b : List Byte) : Bool := (wordAt b 2).testBit 11
def wLog (b : List Byte) : Nat := 2 + df b 2 21 19
def wShift (b : List Byte) : Nat := df b 2 22 22
def wInterp (b : List Byte) : Nat := df b 2 15 14
def wBand (b : List Byte) : Nat := df b 8 22 16

/-- The output of a WARP. -/
def wOut (b : List Byte) : Img :=
  { fSource b with kind := df b 2 10 8, addr := fAddr b 7 8, w := df b 9 15 0, h := df b 9 31 16, pitch := df b 10 23 0 }

/-- The map's grid: GX and GY (R295). -/
def wGrid (b : List Byte) : Nat × Nat :=
  let g := 2 ^ wLog b
  let f (n : Nat) : Nat := ceilDiv (n * 2 ^ wShift b - 1) g + 1
  (f (wOut b).w, f (wOut b).h)

/-- Bytes of the map or matrix record (R295, R297). -/
def wMapBytes (b : List Byte) : Nat := if wHomo b then 64 else (wGrid b).1 * (wGrid b).2 * 8

/-- Bands of a WARP; address of its band table (R297). -/
def wBands (b : List Byte) : Nat := ceilDiv (wOut b).h (max 1 (wBand b))
def wTable (b : List Byte) : Nat := fAddr b 11 12 + up64 (wMapBytes b)

/-- Encodings of a WARP. -/
def warpEncoding (b : List Byte) : Bool :=
  kindOk (df b 2 2 0) (fAddr b 3 4) && kindOk (df b 2 10 8) (fAddr b 7 8) && kindOk (df b 2 18 16) (fAddr b 11 12) && fz b 2 3 3
    && decide (df b 2 7 4 ≤ 3) && decide (df b 2 13 12 ≤ 2) && decide (df b 2 15 14 ≤ 2) && decide (df b 2 21 19 ≤ 4) && fz b 2 31 23
    && fz b 6 31 24 && decide (1 ≤ wBand b) && decide (wBand b ≤ 64) && fz b 8 31 23 && fz b 10 31 24 && fz b 12 31 16
    && fz b 13 31 23 && fz b 14 31 23

/-- Dimensions of a WARP. -/
def warpDims (b : List Byte) : Bool :=
  imgOk (fSource b) 1 16384 && imgOk (wOut b) 1 16384 && decide (fAddr b 11 12 % 64 = 0) && decide (df b 13 22 0 % 256 = 0)

/-- Uncontended cycles of a WARP (R298). -/
def warpCycles (b : List Byte) : Nat :=
  let f := (if wInterp b = 2 then 2 else 1) * pfChans (df b 2 7 4)
  300 + ceilDiv ((wOut b).w * (wOut b).h * f) 8 + 8 * (wOut b).h

/-! ### FLOW and STEREO (R314–R318, R323) -/

/-- Is the descriptor a STEREO and not a FLOW? -/
def mStereo (b : List Byte) : Bool := decide (fType b = 0x11)

/-- Images A and B. -/
def mImgA (b : List Byte) : Img :=
  { kind := df b 2 2 0, addr := fAddr b 3 4, w := df b 7 15 0, h := df b 7 31 16, pitch := df b 8 23 0, size := pfBytes (df b 2 7 4), chans := 1 }
def mImgB (b : List Byte) : Img := { mImgA b with addr := fAddr b 5 6 }

/-- Bytes of a field element; pitches of the field, the confidence plane, the tile map; tiles across and down (R314). -/
def mElem (b : List Byte) : Nat := if mStereo b then 2 else 4
def mPF (b : List Byte) : Nat := up64 (mElem b * (mImgA b).w)
def mPC (b : List Byte) : Nat := up64 (mImgA b).w
def mTW (b : List Byte) : Nat := ceilDiv (mImgA b).w 16
def mTH (b : List Byte) : Nat := ceilDiv (mImgA b).h 16
def mPT (b : List Byte) : Nat := up64 (mTW b)

/-- Output kind and address; starts of the confidence plane and the tile map. -/
def mOutKind (b : List Byte) : Nat := df b 2 10 8
def mOut (b : List Byte) : Nat := fAddr b 9 10
def mConf (b : List Byte) : Nat := mOut b + mPF b * (mImgA b).h
def mMap (b : List Byte) : Nat := mConf b + mPC b * (mImgA b).h
def mOutBytes (b : List Byte) : Nat := (mPF b + mPC b) * (mImgA b).h + mPT b * mTH b

/-- CHECK_EN, PRED, REFINE_EN, CUT_MODE, REFINE_THRESH, NDISP, TEX_THRESH, DMIN, CHECK_TOL, PRED_FLAG, REFINE_MAX,
REFINE_CYCLES. -/
def mCheck (b : List Byte) : Bool := (wordAt b 2).testBit 11
def mPred (b : List Byte) : Nat := df b 2 13 12
def mRefine (b : List Byte) : Bool := (wordAt b 2).testBit 14
def mCutMode (b : List Byte) : Bool := (wordAt b 2).testBit 15
def mThresh (b : List Byte) : Nat := df b 2 23 16
def mNdisp (b : List Byte) : Nat := 32 * 2 ^ df b 2 29 28
def mTex (b : List Byte) : Nat := df b 4 31 16
def mDmin (b : List Byte) : Nat := df b 6 31 16
def mTol (b : List Byte) : Nat := df b 8 31 24
def mPredFlag (b : List Byte) : Nat := df b 12 27 16
def mRefineMax (b : List Byte) : Nat := df b 13 13 0
def mRefineCycles (b : List Byte) : Nat := df b 14 27 0

/-- The prediction field: kind, address, width, height, pitch (R312, R314). -/
def mPredImg (b : List Byte) : Img :=
  let a := mImgA b
  let w := if mPred b = 2 then ceilDiv a.w 2 else a.w
  let h := if mPred b = 2 then ceilDiv a.h 2 else a.h
  { kind := df b 2 26 24, addr := fAddr b 11 12, w := w, h := h, pitch := up64 (mElem b * w), size := mElem b, chans := 1 }

/-- Encodings of a FLOW or STEREO. -/
def matchEncoding (b : List Byte) : Bool :=
  kindOk (df b 2 2 0) (fAddr b 3 4) && kindOk (df b 2 2 0) (fAddr b 5 6) && kindOk (mOutKind b) (mOut b) && fz b 2 3 3
    && decide (df b 2 7 4 ≤ 1) && decide (mPred b ≤ 2)
    && (if mPred b = 0 then fz b 2 26 24 else kindOk (df b 2 26 24) (fAddr b 11 12)) && fz b 2 27 27
    && (if mStereo b then decide (df b 2 29 28 ≤ 2) else fz b 2 29 28 && fz b 6 31 16) && fz b 2 31 30 && fz b 10 31 31
    && fz b 12 31 28 && fz b 13 31 29 && fz b 14 31 28

/-- Do two regions of memory overlap? -/
def regionsMeet (k1 a1 n1 k2 a2 n2 : Nat) : Bool := decide (k1 = k2) && decide (a1 < a2 + n2) && decide (a2 < a1 + n1)

/-- Dimensions of a FLOW or STEREO (R318). -/
def matchDims (b : List Byte) : Bool :=
  let a := mImgA b
  let c := mImgB b
  let p := mPredImg b
  imgOk a 8 8192 && imgOk c 8 8192 && decide (mOut b % 64 = 0) && (decide (mPred b = 0) || decide (p.addr % 64 = 0))
    && (!mStereo b || decide (mDmin b ≤ 3840))
    && decide ((if mStereo b then 16 else 88) * a.pitch + 65536 ≤ 256 * df b 13 28 14)
    && !regionsMeet (mOutKind b) (mOut b) (mOutBytes b) a.kind a.addr a.bytes
    && !regionsMeet (mOutKind b) (mOut b) (mOutBytes b) c.kind c.addr c.bytes
    && (decide (mPred b = 0) || decide (p.addr = mOut b) || !regionsMeet (mOutKind b) (mOut b) (mOutBytes b) p.kind p.addr (p.pitch * p.h))

/-- Cycles of the coarse pass; of a tile (R323). -/
def matchCoarse (b : List Byte) : Nat :=
  let a := mImgA b
  if mStereo b then 400 + ceilDiv (a.w * a.h * mNdisp b * 5) 1024 + 8 * a.h
  else 400 + ceilDiv (a.w * a.h) 2 * (1 + b2n (mCheck b)) + 8 * a.h
def matchTile (b : List Byte) : Nat := if mStereo b then 1024 else 2048

/-! ### DETECT and TRACK (R327, R337) -/

/-- The source level of a DETECT. -/
def dImg (b : List Byte) : Img :=
  { kind := df b 2 2 0, addr := fAddr b 3 4, w := df b 5 15 0, h := df b 5 31 16, pitch := df b 6 23 0, size := 1, chans := 1 }

/-- LEVEL, PER_CELL, STREAM, THRESH, OUT, MAX_FEAT. -/
def dLevel (b : List Byte) : Nat := df b 2 6 4
def dPerCell (b : List Byte) : Nat := df b 2 15 12
def dStream (b : List Byte) : Nat := df b 2 21 16
def dThresh (b : List Byte) : Nat := df b 4 31 16
def dOut (b : List Byte) : Nat := fAddr b 7 8
def dMaxFeat (b : List Byte) : Nat := df b 8 31 16

/-- Encodings and dimensions of a DETECT. -/
def detectEncoding (b : List Byte) : Bool :=
  kindOk (df b 2 2 0) (fAddr b 3 4) && kindOk (df b 2 10 8) (dOut b) && fz b 2 3 3 && fz b 2 7 7 && fz b 2 11 11 && decide (1 ≤ dPerCell b)
    && fz b 2 31 22 && fz b 6 31 24 && fz b 9 31 23 && fz b 10 31 23 && dz b 11 14
def detectDims (b : List Byte) : Bool :=
  imgOk (dImg b) 40 16384 && decide (dOut b % 64 = 0) && decide (1 ≤ dMaxFeat b) && decide (df b 9 22 0 % 256 = 0)
    && decide (36 * (dImg b).pitch ≤ df b 10 22 0)

/-- LIST, LEVEL, OUT, PREDICT, DESC_UPDATE, STREAM, RADIUS, LIST_FLAG, MAX_DIST, NEW_MAX, UPDATE_MAX of a TRACK. -/
def tListKind (b : List Byte) : Nat := df b 2 2 0
def tList (b : List Byte) : Nat := fAddr b 3 4
def tLevel (b : List Byte) : Nat := df b 2 6 4
def tOutKind (b : List Byte) : Nat := df b 2 10 8
def tOut (b : List Byte) : Nat := fAddr b 5 6
def tPredict (b : List Byte) : Bool := (wordAt b 2).testBit 11
def tDescUpdate (b : List Byte) : Bool := (wordAt b 2).testBit 12
def tStream (b : List Byte) : Nat := df b 2 18 13
def tRadius (b : List Byte) : Nat := df b 2 24 19
def tListFlag (b : List Byte) : Nat := df b 4 27 16
def tMaxDist (b : List Byte) : Nat := df b 6 23 16
def tNewMax (b : List Byte) : Nat := df b 7 15 0
def tUpdateMax (b : List Byte) : Nat := df b 8 20 0

/-- Encodings and dimensions of a TRACK. -/
def trackEncoding (b : List Byte) : Bool :=
  kindOk (tListKind b) (tList b) && kindOk (tOutKind b) (tOut b) && fz b 2 3 3 && fz b 2 7 7 && decide (1 ≤ tRadius b)
    && decide (tRadius b ≤ 32) && fz b 2 31 25 && fz b 4 31 28 && fz b 6 31 24 && fz b 7 31 16 && fz b 8 31 21 && dz b 9 14
def trackDims (b : List Byte) : Bool :=
  decide (tList b % 64 = 0) && decide (tOut b % 64 = 0) && decide (1 ≤ tUpdateMax b) && decide (tUpdateMax b ≤ 1048576)

/-! ### Checks and regions (R288) -/

/-- May engine `e` (RESOURCE − 0x20) run an FTYPE (R285, R317, R326)? -/
def typeRuns (e ty : Nat) : Bool :=
  if e < 4 then decide (ty = 1) else if e < 8 then decide (ty = 2) else if e < 10 then decide (ty = 0x10) else if e < 14 then decide (ty = 0x11)
  else decide (ty = 0x20) || decide (ty = 0x21)

/-- Encodings of a descriptor of a type. -/
def facetEncoding (b : List Byte) : Bool :=
  let ty := fType b
  if ty = 1 then pyrEncoding b else if ty = 2 then warpEncoding b else if ty = 0x10 ∨ ty = 0x11 then matchEncoding b
  else if ty = 0x20 then detectEncoding b else trackEncoding b

/-- Dimensions, pitches, alignment and coefficients of a type. -/
def facetDims (b : List Byte) : Bool :=
  let ty := fType b
  if ty = 1 then pyrDims b else if ty = 2 then warpDims b else if ty = 0x10 ∨ ty = 0x11 then matchDims b
  else if ty = 0x20 then detectDims b else trackDims b

/-- A region: whether it is written, kind, address, bytes. -/
abbrev Region := Bool × Nat × Nat × Nat

/-- The staging of a descriptor in shared scratch: start and bytes. -/
def facetStage (b : List Byte) : Nat × Nat :=
  let ty := fType b
  if ty = 1 then (df b 10 22 0, df b 11 22 0)
  else if ty = 2 then (df b 13 22 0, df b 14 22 0)
  else if ty = 0x10 ∨ ty = 0x11 then (256 * df b 10 30 16, 256 * df b 13 28 14)
  else if ty = 0x20 then (df b 9 22 0, df b 10 22 0)
  else (0, 0)

/-- The prediction field that a FLOW or STEREO names. -/
def predRegion (b : List Byte) : List Region :=
  if (fType b = 0x10 ∨ fType b = 0x11) ∧ mPred b ≠ 0 then
    [(false, (mPredImg b).kind, (mPredImg b).addr, (mPredImg b).pitch * (mPredImg b).h)]
  else []

/-- The map or matrix record of a WARP with the band table behind it (R295, R297). -/
def mapRegion (b : List Byte) : Region :=
  (false, df b 2 18 16, fAddr b 11 12, if df b 2 2 0 = 3 then up64 (wMapBytes b) + 4 * wBands b else wMapBytes b)

/-- The regions a descriptor reads and writes but for its prediction, staging among them. -/
def workRegions (b : List Byte) : List Region :=
  let ty := fType b
  let img (wr : Bool) (x : Img) : Region := (wr, x.kind, x.addr, x.bytes)
  let stage : List Region := if (facetStage b).2 = 0 then [] else [(true, 4, facetStage b)]
  if ty = 1 then [img false (fSource b)] ++ stage ++ (List.range (pyrLevels b)).map (fun l => img true (pyrLevel b (l + 1)))
  else if ty = 2 then [img false (fSource b), img true (wOut b), mapRegion b] ++ stage
  else if ty = 0x10 ∨ ty = 0x11 then [img false (mImgA b), img false (mImgB b), (true, mOutKind b, mOut b, mOutBytes b)] ++ stage
  else if ty = 0x20 then [img false (dImg b), (true, df b 2 10 8, dOut b, 64 + 40 * dMaxFeat b)] ++ stage
  else [(false, tListKind b, tList b, 64), (true, tOutKind b, tOut b, 64 + 16 * tUpdateMax b)]

/-- The regions a descriptor reads and writes. -/
def facetRegions (b : List Byte) : List Region := workRegions b ++ predRegion b

/-- Does the memory behind the output address of a DETECT or a TRACK hold the whole list: the data range of shared scratch, or LPDDR5 up to
`capacity` (R327, R337; log 75)? -/
def listFits (capacity : Nat) (b : List Byte) : Bool :=
  let room (kind addr len : Nat) : Bool := decide (addr + len ≤ if kind = 4 then 0x7F8000 else capacity)
  if fType b = 0x20 then room (df b 2 10 8) (dOut b) (64 + 40 * dMaxFeat b)
  else if fType b = 0x21 then room (tOutKind b) (tOut b) (64 + 16 * tUpdateMax b)
  else true

/-- Bytes that a progress row's worth of source rows takes, and the kind it comes from: an image, or the two of a FLOW or STEREO. -/
def rowBytes (b : List Byte) : Nat × Nat :=
  let img (x : Img) : Nat × Nat := (x.kind, x.w * x.size * x.chans)
  if fType b = 1 ∨ fType b = 2 then img (fSource b)
  else if fType b = 0x10 ∨ fType b = 0x11 then ((mImgA b).kind, 2 * ((mImgA b).w * (mImgA b).size))
  else if fType b = 0x20 then img (dImg b)
  else (4, 0)

/-- Uncontended cycles of a descriptor where they follow from it alone; refined tiles and updates are counted as they come (R293,
R298, R323, R332, R343). -/
def facetCycles (b : List Byte) : Nat :=
  let ty := fType b
  if ty = 1 then pyrCycles b else if ty = 2 then warpCycles b
  else if ty = 0x10 ∨ ty = 0x11 then matchCoarse b + 64 + ceilDiv (mPT b * mTH b) 64
  else if ty = 0x20 then 300 + ceilDiv ((dImg b).w * (dImg b).h) 8 + 4 * (dImg b).h
  else 264

end Sys2Proof.Machine
end

