-- ==== Sys2Proof/Machine/FacetMath.lean ====
section
/-! DEFINITION. What the Facet engines compute (11 R287, R291–R297, 12 R305–R316, R320–R321, 13 R328–R331, R339): pure functions
over a reader of memory by kind and address. -/

namespace Sys2Proof.Machine

/-- A reader of memory: kind (3 LPDDR5, 4 shared scratch) and address. -/
abbrev FRd := Nat → Nat → Byte

/-- `n` bytes through a reader. -/
def frBytes (rd : FRd) (kind addr n : Nat) : List Byte := (List.range n).map (fun i => rd kind (addr + i))

/-- Sample `ch` of pixel (x, y) of an image (R286). -/
def imgSample (rd : FRd) (m : Img) (ch x y : Nat) : Nat :=
  leNat (frBytes rd m.kind (m.addr + y * m.pitch + (x * m.chans + ch) * m.size) m.size)

/-- Is a coordinate inside 0 to n − 1? -/
def insideDim (n : Nat) (i : Int) : Bool := decide (0 ≤ i) && decide (i < n)

/-- The coordinate that a tap reads under BORDER 0 or 1 (R287). -/
def borderAt (mode n : Nat) (i : Int) : Nat :=
  let r : Int := if mode = 0 then (if i < 0 then -i else if (n : Int) - 1 < i then 2 * ((n : Int) - 1) - i else i) else i
  (max 0 (min r ((n : Int) - 1))).toNat

/-- A tap: its value, and whether it fell outside the image (R287). -/
def tapAt (rd : FRd) (m : Img) (mode bval ch : Nat) (x y : Int) : Int × Bool :=
  let out := !(insideDim m.w x && insideDim m.h y)
  if out && decide (mode = 2) then ((bval : Int), true)
  else ((imgSample rd m ch (borderAt mode m.w x) (borderAt mode m.h y) : Int), out)

/-- A tap under reflection (R305, R307, R321, R328). -/
def reflTap (rd : FRd) (m : Img) (x y : Int) : Int := (imgSample rd m 0 (borderAt 0 m.w x) (borderAt 0 m.h y) : Int)

/-- Offsets −r to r. -/
def around (r : Nat) : List Int := (List.range (2 * r + 1)).map (fun i => (i : Int) - r)

/-- Offsets (i, j) of a square window in raster order: j is the row. -/
def window2 (r : Nat) : List (Int × Int) := (around r).flatMap (fun j => (around r).map (fun i => (i, j)))

/-- The sum of a function over a list. -/
def sumOver {α : Type} (xs : List α) (f : α → Int) : Int := xs.foldl (fun a x => a + f x) 0

/-! ### PYRAMID (R292) -/

/-- The weight of a filter tap. -/
def pyrWeight (c : Nat × Nat × Nat) (i : Int) : Int := if i = 0 then c.1 else if i.natAbs = 1 then c.2.1 else c.2.2

/-- A sample of the next level, and whether one of its taps fell outside. -/
def pyrSample (rd : FRd) (b : List Byte) (m : Img) (ch x y : Nat) : Nat × Bool :=
  let tap (i j : Int) := tapAt rd m (fBorder b) (fBorderValue b) ch (2 * x + i) (2 * y + j)
  let box : List (Int × Int) := [(0, 0), (1, 0), (0, 1), (1, 1)]
  let offs := if df b 2 15 14 = 0 then box else window2 2
  let c := pyrTaps b
  let v := if df b 2 15 14 = 0 then (sumOver offs (fun o => (tap o.1 o.2).1) + 2) / 4
           else (sumOver offs (fun o => pyrWeight c o.2 * (pyrWeight c o.1 * (tap o.1 o.2).1)) + 32768) / 65536
  (v.toNat, offs.any (fun o => (tap o.1 o.2).2))

/-- Row `y` of level `l + 1`: bytes and border pixels. -/
def pyrRow (rd : FRd) (b : List Byte) (l y : Nat) : List Byte × Nat :=
  let m := pyrLevel b l
  let o := pyrLevel b (l + 1)
  let px := (List.range o.w).map (fun x => (List.range o.chans).map (fun ch => pyrSample rd b m ch x y))
  (px.flatMap (fun p => p.flatMap (fun v => leBytes o.size v.1)), (px.filter (fun p => p.any (fun v => v.2))).length)

/-! ### WARP (R295–R297) -/

/-- A quotient of FP32 values rounded once to nearest even. -/
def fvDiv32 (a d : FV) : FV :=
  match a, d with
  | .nan, _ => .nan
  | _, .nan => .nan
  | .inf _, .inf _ => .nan
  | .inf n, .fin n2 _ _ => .inf (n != n2)
  | .fin n _ _, .inf n2 => .fin (n != n2) 0 0
  | .fin n m e, .fin n2 m2 e2 =>
    if m2 = 0 then (if m = 0 then .nan else .inf (n != n2))
    else
      let q := m * 2 ^ 80 / m2
      let sticky := b2n (decide (m * 2 ^ 80 % m2 ≠ 0))
      (to32 (.fin (n != n2) (2 * q + sticky) (e - e2 - 81))).1

/-- Product and sum in FP32, rounded at every operation (R295). -/
def mul32 (a b : FV) : FV := (to32 (fvMul a b)).1
def add32 (a b : FV) : FV := (to32 (fvAdd a b)).1

/-- Is a value at most 0? -/
def fvNonPos : FV → Bool
  | .nan => false
  | .inf n => n
  | .fin n m _ => n || decide (m = 0)

/-- A value times 65,536, rounded to nearest even and saturated to I32; none for a NaN. -/
def fvCoord (v : FV) : Option Int :=
  if fvIsNan v then none else some (fvToInt 5 0 (mul32 v (fvInt 65536))).1

/-- The matrix element `i` of a homography. -/
def wMat (rd : FRd) (b : List Byte) (i : Nat) : FV :=
  fdec f32 (leNat (frBytes rd (df b 2 18 16) (fAddr b 11 12 + 4 * i) 4))

/-- Source coordinates of an output pixel under the homography; none where the pixel takes BORDER_VALUE. A coordinate whose operands
give NaN while d does not is free. -/
def warpHomo (rd : FRd) (b : List Byte) (x y : Nat) : Option (Int × Int) :=
  let row (k : Nat) : FV := add32 (add32 (mul32 (wMat rd b k) (fvInt x)) (mul32 (wMat rd b (k + 1)) (fvInt y))) (wMat rd b (k + 2))
  let d := row 6
  if fvIsNan d || fvNonPos d then none
  else
    let c (k axis : Nat) : Int := (fvCoord (fvDiv32 (row k) d)).getD (wrapInt 32 (Config.nanCoord x y axis))
    some (c 0 0, c 3 1)

/-- A map node's component `k`; indices beyond the grid are clamped. -/
def wNode (rd : FRd) (b : List Byte) (k i j : Nat) : Int :=
  let g := wGrid b
  sgn 32 (leNat (frBytes rd (df b 2 18 16) (fAddr b 11 12 + (min j (g.2 - 1) * g.1 + min i (g.1 - 1)) * 8 + 4 * k) 4))

/-- Source coordinates of an output pixel under the map. -/
def warpMap (rd : FRd) (b : List Byte) (x y : Nat) : Int × Int :=
  let u := x * 2 ^ wShift b
  let v := y * 2 ^ wShift b
  let lg := wLog b
  let g := 2 ^ lg
  let i := u / g
  let j := v / g
  let fx : Int := (u % g : Nat)
  let fy : Int := (v % g : Nat)
  let c (k : Nat) : Int :=
    let s := wNode rd b k i j * (g - fx) * (g - fy) + wNode rd b k (i + 1) j * fx * (g - fy)
      + wNode rd b k i (j + 1) * (g - fx) * fy + wNode rd b k (i + 1) (j + 1) * fx * fy
    wrapInt 32 ((s + 2 ^ (2 * lg - 1)) / 2 ^ (2 * lg)) / 2 ^ wShift b
  (c 0, c 1)

/-- Source coordinates of an output pixel. -/
def warpCoord (rd : FRd) (b : List Byte) (x y : Nat) : Option (Int × Int) :=
  if wHomo b then warpHomo rd b x y else some (warpMap rd b x y)

/-- An integer over 256 rounded to nearest. -/
def round256 (n : Int) : Int := (n + 128) / 256

/-- The Catmull-Rom weights of an axis at fraction f ÷ 32, for k = −1 to 2 (R296): 256 × w_k is a cubic in f over 256. -/
def bicubic (f : Int) : List Int :=
  let wm := round256 (-1024 * f + 64 * f * f - f * f * f)
  let w1 := round256 (1024 * f + 128 * f * f - 3 * f * f * f)
  let w2 := round256 (-32 * f * f + f * f * f)
  [wm, 256 - wm - w1 - w2, w1, w2]

/-- The first and last source row that band `k` may read: its band-table entry, or the whole source for kind 4 (R297). -/
def warpBandRows (rd : FRd) (b : List Byte) (k : Nat) : Nat × Nat :=
  if df b 2 2 0 = 3 then
    let e := frBytes rd (df b 2 18 16) (wTable b + 4 * k) 4
    (fld (leNat e) 15 0, fld (leNat e) 31 16)
  else (0, (fSource b).h - 1)

/-- A tap of a WARP: value, outside the image, missed by the band. -/
def warpTap (rd : FRd) (b : List Byte) (rows : Nat × Nat) (ch : Nat) (x y : Int) : Int × Bool × Bool :=
  let m := fSource b
  let t := tapAt rd m (fBorder b) (fBorderValue b) ch x y
  let r := borderAt (fBorder b) m.h y
  if t.2 && decide (fBorder b = 2) then (t.1, true, false)
  else if r < rows.1 ∨ rows.2 < r then ((fBorderValue b : Int), t.2, true)
  else (t.1, t.2, false)

/-- The taps of an output sample with their weights, the rounding constant and the shift (R296). -/
def warpTaps (b : List Byte) (c : Int × Int) : List (Int × Int × Int) × Int × Nat :=
  let x0 := c.1 / 65536
  let y0 := c.2 / 65536
  let fx := c.1 / 2048 % 32
  let fy := c.2 / 2048 % 32
  if wInterp b = 0 then ([((c.1 + 0x8000) / 65536, (c.2 + 0x8000) / 65536, 1)], 0, 0)
  else if wInterp b = 1 then
    ([(x0, y0, (32 - fx) * (32 - fy)), (x0 + 1, y0, fx * (32 - fy)), (x0, y0 + 1, (32 - fx) * fy), (x0 + 1, y0 + 1, fx * fy)], 512, 10)
  else
    let wx := List.zip [(-1 : Int), 0, 1, 2] (bicubic fx)
    let wy := List.zip [(-1 : Int), 0, 1, 2] (bicubic fy)
    (wy.flatMap (fun j => wx.map (fun i => (x0 + i.1, y0 + j.1, i.2 * j.2))), 32768, 16)

/-- An output pixel of a WARP: samples, whether a tap fell outside, taps that missed the band. -/
def warpPixel (rd : FRd) (b : List Byte) (rows : Nat × Nat) (x y : Nat) : List Nat × Bool × Nat :=
  let m := fSource b
  match warpCoord rd b x y with
  | none => (List.replicate m.chans (fBorderValue b), false, 0)
  | some c =>
    let w := warpTaps b c
    let chans := (List.range m.chans).map (fun ch => w.1.map (fun t => (t.2.2, warpTap rd b rows ch t.1 t.2.1)))
    let vals := chans.map (fun ts =>
      let v := (sumOver ts (fun t => t.1 * t.2.1) + w.2.1) / 2 ^ w.2.2
      (max 0 (min v (2 ^ (8 * m.size) - 1))).toNat)
    let first := chans.headD []
    (vals, first.any (fun t => t.2.2.1), (first.filter (fun t => t.2.2.2)).length)

/-- Row `y` of a WARP's output: bytes, border pixels, band misses. -/
def warpRow (rd : FRd) (b : List Byte) (y : Nat) : List Byte × Nat × Nat :=
  let o := wOut b
  let rows := warpBandRows rd b (y / max 1 (wBand b))
  let px := (List.range o.w).map (fun x => warpPixel rd b rows x y)
  (px.flatMap (fun p => p.1.flatMap (leBytes o.size)), (px.filter (fun p => p.2.1)).length, px.foldl (fun a p => a + p.2.2) 0)

/-- The band-table check at activation (R288 step 5, R297). -/
def warpBandsOk (rd : FRd) (b : List Byte) : Bool :=
  decide (df b 2 2 0 ≠ 3) ||
    (List.range (wBands b)).all (fun k =>
      let r := warpBandRows rd b k
      decide (r.1 ≤ r.2) && decide (r.2 < (fSource b).h) && decide (2 * (r.2 + 1 - r.1) * (fSource b).pitch ≤ df b 14 22 0))

/-- Source rows that band `k` of a WARP loads: its rows that the band before it did not hold (R297). -/
def warpLoads (rd : FRd) (b : List Byte) (k : Nat) : Nat :=
  let r := warpBandRows rd b k
  let p := warpBandRows rd b (k - 1)
  ((List.range (r.2 + 1 - r.1)).filter (fun i => decide (k = 0) || !(decide (p.1 ≤ r.1 + i) && decide (r.1 + i ≤ p.2)))).length

/-- Rows of the source that have been read by the time `n` progress rows have landed: one pass for a PYRAMID (R293), the bands of a WARP whose
source lies in LPDDR5, one ahead of the band computed (R297), else in step with the output (log 24). -/
def rowsIn (rd : FRd) (b : List Byte) (n : Nat) : Nat :=
  if fType b = 2 ∧ df b 2 2 0 = 3 then
    (List.range (min (wBands b) (ceilDiv n (max 1 (wBand b)) + 1))).foldl (fun a k => a + warpLoads rd b k) 0
  else if n = 0 then 0
  else if fType b = 1 then min (2 * n + 1) (fSource b).h
  else if fType b = 2 then (fSource b).h * n / max 1 (wOut b).h
  else n

/-! ### Matching (R305–R312) -/

/-- The census code of the pixel at (x, y), reflected (R305). -/
def census (rd : FRd) (m : Img) (x y : Int) : Nat :=
  let cx : Int := borderAt 0 m.w x
  let cy : Int := borderAt 0 m.h y
  let c := reflTap rd m cx cy
  ((window2 2).filter (fun o => decide (o ≠ (0, 0)))).foldl (fun (a : Nat × Nat) o =>
    (a.1 + b2n (decide (c < reflTap rd m (cx + o.1) (cy + o.2))) * 2 ^ a.2, a.2 + 1)) (0, 0) |>.1

/-- Ones of a number below 2 ^ n. -/
def popCount (n x : Nat) : Nat := ((List.range n).filter (fun i => x.testBit i)).length

/-- The cost of matching (x, y) of `a` with (x', y') of `m`: 0xFFFF where (x', y') lies outside (R305, R306). -/
def matchCost (rd : FRd) (a m : Img) (x y x' y' : Int) : Nat :=
  if !(insideDim m.w x' && insideDim m.h y') then 0xFFFF
  else (window2 2).foldl (fun s o =>
    s + popCount 24 (Nat.xor (census rd a (x + o.1) (y + o.2)) (census rd m (x' + o.1) (y' + o.2)))) 0

/-- Texture (R307). -/
def texture (rd : FRd) (m : Img) (x y : Int) : Nat :=
  (sumOver (window2 2) (fun o =>
    ((reflTap rd m (x + o.1 + 1) (y + o.2) - reflTap rd m (x + o.1 - 1) (y + o.2)).natAbs : Int))).toNat % 2 ^ 32

/-- A candidate (u, v) with its cost; STEREO candidates are (d, 0). -/
abbrev Cand := (Int × Int) × Nat

/-- The best candidate: the first of lowest cost among the valid ones (R306). -/
def bestCand : List Cand → Option Cand
  | [] => none
  | c :: cs =>
    match bestCand cs with
    | some d => if c.2 ≤ d.2 ∧ c.2 ≠ 0xFFFF then some c else some d
    | none => if c.2 = 0xFFFF then none else some c

/-- Confidence (R308). -/
def confidence (cs : List Cand) (best : Cand) : Nat :=
  let far := cs.filter (fun c => decide (c.2 ≠ 0xFFFF) && decide (1 < max (c.1.1 - best.1.1).natAbs (c.1.2 - best.1.2).natAbs))
  let c2 := far.foldl (fun (a : Option Nat) c => some (match a with
    | none => c.2
    | some x => min x c.2)) none
  let c2 := c2.getD best.2
  255 * (c2 - best.2) / max c2 1

/-- The quarter-pixel offset from the costs of the two neighbours (R309). -/
def sub4 (cm c0 cp : Int) : Int :=
  let den := cm - 2 * c0 + cp
  if den ≤ 0 then 0
  else
    let num := 2 * (cm - cp)
    let q := Int.tdiv (2 * num + (if 0 ≤ num then den else -den)) (2 * den)
    max (-2) (min q 2)

/-- The offset along an axis: 0 where a neighbour is invalid or outside the window. -/
def sub4At (cs : List Cand) (best : Cand) (dx dy : Int) : Int :=
  let look (k : Int) := cs.find? (fun c => decide (c.1 = (best.1.1 + k * dx, best.1.2 + k * dy)))
  match look (-1), look 1 with
  | some m, some p => if m.2 = 0xFFFF ∨ p.2 = 0xFFFF then 0 else sub4 m.2 best.2 p.2
  | _, _ => 0

/-- A component of the prediction field at a pixel, in its own fixed point: U or D for `k` 0, V for 1; none where the pixel carries a
reserved code (R312, R315). With PRED 2 the value is doubled. -/
def predAt (rd : FRd) (b : List Byte) (x y : Nat) : Option (Int × Int) :=
  let p := mPredImg b
  let h := mPred b = 2
  let e := frBytes rd p.kind (p.addr + (if h then y / 2 else y) * p.pitch + (if h then x / 2 else x) * p.size) p.size
  let f : Int := if h then 2 else 1
  if mStereo b then
    (if 0xFFF0 ≤ leNat e then none else some (f * leNat e, 0))
  else
    let u := leNat (slice e 0 2)
    let v := leNat (slice e 2 2)
    if 0x8000 ≤ u ∧ u ≤ 0x80FF ∧ v = 0 then none else some (f * sgn 16 u, f * sgn 16 v)

/-- An integer clamped. -/
def clampTo (lo hi x : Int) : Int := max lo (min x hi)

/-- The centre of a FLOW window (R312). -/
def flowCentre (rd : FRd) (b : List Byte) (pred : Bool) (x y : Nat) : Int × Int :=
  match (if pred then predAt rd b x y else none) with
  | none => (0, 0)
  | some p => (clampTo (-64) 64 ((p.1 + 16) / 32), clampTo (-16) 16 ((p.2 + 16) / 32))

/-- The start of a STEREO window (R312). -/
def stereoStart (rd : FRd) (b : List Byte) (pred : Bool) (x y : Nat) : Int :=
  match (if pred then predAt rd b x y else none) with
  | none => mDmin b
  | some p => clampTo (mDmin b) 3840 ((p.1 + 8) / 16 - (mNdisp b / 2 : Nat))

/-- FLOW candidates around a centre, in ascending v and then u, from `a` to `m` (R306, R311). -/
def flowCands (rd : FRd) (a m : Img) (c : Int × Int) (x y : Int) : List Cand :=
  (around 12).flatMap (fun j => (around 16).map (fun i =>
    ((c.1 + i, c.2 + j), matchCost rd a m x y (x - (c.1 + i)) (y - (c.2 + j)))))

/-- STEREO candidates from a start, in ascending d. -/
def stereoCands (rd : FRd) (a m : Img) (n : Nat) (start : Int) (x y : Int) : List Cand :=
  (List.range n).map (fun i => ((start + (i : Int), 0), matchCost rd a m x y (x - (start + (i : Int))) y))

/-- The right-referenced disparity at x_r of row y (R310). -/
def rightDisp (rd : FRd) (b : List Byte) (pred : Bool) (xr y : Nat) : Option Int :=
  let a := mImgA b
  let cs := (List.range (a.w - xr)).filterMap (fun d =>
    let s := stereoStart rd b pred (xr + d) y
    if s ≤ d ∧ (d : Int) < s + (mNdisp b : Nat) then
      some ((((d : Int), (0 : Int)), matchCost rd a (mImgB b) (xr + d : Nat) y xr y) : Cand)
    else none)
  (bestCand cs).map (fun c => c.1.1)

/-- Does the integer match of a pixel fail the occlusion check (R310)? -/
def occluded (rd : FRd) (b : List Byte) (pred : Bool) (x y : Nat) (best : Cand) : Bool :=
  if mStereo b then
    match rightDisp rd b pred ((x : Int) - best.1.1).toNat y with
    | none => true
    | some d => decide (mTol b < (best.1.1 - d).natAbs)
  else
    match bestCand (flowCands rd (mImgB b) (mImgA b) (-best.1.1, -best.1.2) (x - best.1.1) (y - best.1.2)) with
    | none => true
    | some c => decide (mTol b < (best.1.1 + c.1.1).natAbs) || decide (mTol b < (best.1.2 + c.1.2).natAbs)

/-- A field element: bytes from its values; codes of R315 by order 0 to 3. -/
def fieldBytes (b : List Byte) (p : Int × Int) : List Byte :=
  if mStereo b then leBytes 2 (uns 16 p.1) else leBytes 2 (uns 16 p.1) ++ leBytes 2 (uns 16 p.2)
def codeBytes (b : List Byte) (k : Nat) : List Byte :=
  let st := [0xFFF0, 0xFFF2, 0xFFF1, 0xFFF3]
  let fl := [0x8000, 0x8002, 0x8001, 0x8003]
  if mStereo b then leBytes 2 (st.getD k 0) else leBytes 2 (fl.getD k 0) ++ zeros 2

/-- The coarse result of a pixel: field bytes and confidence (R309, R310, R315). `pred`: the prediction is used. -/
def coarsePixel (rd : FRd) (b : List Byte) (pred : Bool) (x y : Nat) : List Byte × Nat :=
  let a := mImgA b
  let m := mImgB b
  if texture rd a x y < mTex b then (codeBytes b 0, 0)
  else
    let c := flowCentre rd b pred x y
    let s := stereoStart rd b pred x y
    let cs := if mStereo b then stereoCands rd a m (mNdisp b) s x y else flowCands rd a m c x y
    match bestCand cs with
    | none => (codeBytes b 1, 0)
    | some best =>
      let edge := if mStereo b then (decide (best.1.1 = s) && decide (s ≠ 0)) || decide (best.1.1 = s + (mNdisp b : Nat) - 1)
        else decide ((best.1.1 - c.1).natAbs = 16) || decide ((best.1.2 - c.2).natAbs = 12)
      if edge then (codeBytes b 1, 0)
      else if mCheck b && occluded rd b pred x y best then (codeBytes b 2, 0)
      else
        let p := if mStereo b then (max 0 (16 * best.1.1 + 4 * sub4At cs best 1 0), 0)
          else (32 * best.1.1 + 8 * sub4At cs best 1 0, 32 * best.1.2 + 8 * sub4At cs best 0 1)
        (fieldBytes b p, confidence cs best)

/-- A coarse output row: field bytes and confidence bytes. -/
def coarseRow (rd : FRd) (b : List Byte) (pred : Bool) (y : Nat) : List Byte × List Byte :=
  let px := (List.range (mImgA b).w).map (fun x => coarsePixel rd b pred x y)
  (px.flatMap (fun p => p.1), px.map (fun p => BitVec.ofNat 8 p.2))

/-! ### The refine pass (R319–R321) -/

/-- Does a field element carry a reserved code? -/
def isCode (b : List Byte) (e : List Byte) : Bool :=
  if mStereo b then decide (0xFFF0 ≤ leNat e)
  else decide (0x8000 ≤ leNat (slice e 0 2)) && decide (leNat (slice e 0 2) ≤ 0x80FF) && decide (leNat (slice e 2 2) = 0)

/-- The field element of a pixel as memory holds it. -/
def fieldAt (rd : FRd) (b : List Byte) (x y : Nat) : List Byte :=
  frBytes rd (mOutKind b) (mOut b + y * mPF b + x * mElem b) (mElem b)

/-- The pixels of tile `k` in raster order. -/
def tilePixels (b : List Byte) (k : Nat) : List (Nat × Nat) :=
  let a := mImgA b
  let tx := k % max 1 (mTW b)
  let ty := k / max 1 (mTW b)
  ((List.range 16).flatMap (fun j => (List.range 16).map (fun i => (16 * tx + i, 16 * ty + j)))).filter (fun p =>
    decide (p.1 < a.w) && decide (p.2 < a.h))

/-- The tile confidence: none where every pixel carries a reserved code (R319). -/
def tileConf (rd : FRd) (b : List Byte) (k : Nat) : Option Nat :=
  let ps := (tilePixels b k).filter (fun p => !isCode b (fieldAt rd b p.1 p.2))
  if ps.isEmpty then none
  else some (ps.foldl (fun a p => a + (rd (mOutKind b) (mConf b + p.2 * mPC b + p.1)).toNat) 0 / ps.length)

/-- B sampled at 5 fraction bits with reflected taps (R321). -/
def sample5 (rd : FRd) (m : Img) (x y : Int) : Int :=
  let x0 := x / 32
  let y0 := y / 32
  let fx := x % 32
  let fy := y % 32
  ((reflTap rd m x0 y0 * (32 - fx) + reflTap rd m (x0 + 1) y0 * fx) * (32 - fy)
    + (reflTap rd m x0 (y0 + 1) * (32 - fx) + reflTap rd m (x0 + 1) (y0 + 1) * fx) * fy + 512) / 1024

/-- The SAD over 7 × 7 between A at (x, y) and B displaced by (u, v) in 1/32 pixel (R321). -/
def sadAt (rd : FRd) (b : List Byte) (x y : Nat) (u v : Int) : Int :=
  sumOver (window2 3) (fun o =>
    ((reflTap rd (mImgA b) (x + o.1) (y + o.2) - sample5 rd (mImgB b) (32 * (x + o.1) - u) (32 * (y + o.2) - v)).natAbs : Int))

/-- One step of the descent: the first candidate with the lowest SAD, where it is strictly below the current one. -/
def descend (sad : Int × Int → Int) (cur : (Int × Int) × Int) (cands : List (Int × Int)) : (Int × Int) × Int :=
  cands.foldl (fun best c => if sad c < best.2 then (c, sad c) else best) cur

/-- The refined value of a pixel from its coarse value (R321). -/
def refinePixel (rd : FRd) (b : List Byte) (x y : Nat) (p : Int × Int) : Int × Int :=
  if mStereo b then
    let sad (c : Int × Int) : Int := sadAt rd b x y (2 * c.1) 0
    let r := [4, 2, 1].foldl (fun cur (s : Int) => descend sad cur [(cur.1.1 - s, 0), (cur.1.1 + s, 0)]) (p, sad p)
    (max 0 r.1.1, 0)
  else
    let sad (c : Int × Int) : Int := sadAt rd b x y c.1 c.2
    let r := [8, 4, 2, 1].foldl (fun cur (s : Int) =>
      descend sad cur (((window2 1).filter (fun o => decide (o ≠ (0, 0)))).map (fun o => (cur.1.1 + s * o.1, cur.1.2 + s * o.2)))) (p, sad p)
    r.1

/-- The values of a field element. -/
def fieldVal (b : List Byte) (e : List Byte) : Int × Int :=
  if mStereo b then ((leNat e : Int), 0) else (sgn 16 (leNat (slice e 0 2)), sgn 16 (leNat (slice e 2 2)))

/-- The writes that refining tile `k` makes, by address. -/
def refineTile (rd : FRd) (b : List Byte) (k : Nat) : List (Nat × List Byte) :=
  ((tilePixels b k).filter (fun p => !isCode b (fieldAt rd b p.1 p.2))).map (fun p =>
    (mOut b + p.2 * mPF b + p.1 * mElem b,
      fieldBytes b (refinePixel rd b p.1 p.2 (fieldVal b (fieldAt rd b p.1 p.2)))))

/-- The writes that cutting tile `k` makes under CUT_MODE 1: fields and confidences (R320). -/
def cutTile (rd : FRd) (b : List Byte) (k : Nat) : List (Nat × List Byte) :=
  if mCutMode b then
    ((tilePixels b k).filter (fun p => !isCode b (fieldAt rd b p.1 p.2))).flatMap (fun p =>
      [(mOut b + p.2 * mPF b + p.1 * mElem b, codeBytes b 3), (mConf b + p.2 * mPC b + p.1, [0])])
  else []

/-! ### DETECT (R328–R331) -/

/-- The corner score of a pixel (R328). -/
def cornerScore (rd : FRd) (m : Img) (x y : Nat) : Nat :=
  let g (o : Int × Int) : Int × Int :=
    let cx := x + o.1
    let cy := y + o.2
    (reflTap rd m (cx + 1) cy - reflTap rd m (cx - 1) cy, reflTap rd m cx (cy + 1) - reflTap rd m cx (cy - 1))
  let sxx := sumOver (window2 2) (fun o => (g o).1 * (g o).1)
  let syy := sumOver (window2 2) (fun o => (g o).2 * (g o).2)
  let sxy := sumOver (window2 2) (fun o => (g o).1 * (g o).2)
  let r := sxx * syy - sxy * sxy - (sxx + syy) * (sxx + syy) / 16
  if r ≤ 0 then 0 else min 0xFFFF (r / 65536).toNat

/-- Is a pixel a candidate (R328)? -/
def isCorner (rd : FRd) (b : List Byte) (x y : Nat) : Bool :=
  let m := dImg b
  let c := cornerScore rd m x y
  let at' (o : Int × Int) : Nat := cornerScore rd m (x + o.1).toNat (y + o.2).toNat
  let earlier : List (Int × Int) := [(-1, -1), (0, -1), (1, -1), (-1, 0)]
  let later : List (Int × Int) := [(1, 0), (-1, 1), (0, 1), (1, 1)]
  decide (17 ≤ x) && decide (17 ≤ y) && decide (x + 17 < m.w) && decide (y + 17 < m.h) && decide (c ≠ 0) && decide (dThresh b ≤ c)
    && earlier.all (fun o => decide (at' o < c)) && later.all (fun o => decide (at' o ≤ c))

/-- A feature put into a cell's list: by descending score, of equal scores the earlier pixel first. -/
def insertFeat (f : Nat × Nat × Nat) : List (Nat × Nat × Nat) → List (Nat × Nat × Nat)
  | [] => [f]
  | g :: gs => if g.2.2 < f.2.2 then f :: g :: gs else g :: insertFeat f gs

/-- The features of a cell: x, y, score, at most PER_CELL (R329). -/
def cellFeats (rd : FRd) (b : List Byte) (k : Nat) : List (Nat × Nat × Nat) :=
  let m := dImg b
  let across := ceilDiv m.w 32
  let cx := 32 * (k % max 1 across)
  let cy := 32 * (k / max 1 across)
  let ps := ((List.range 32).flatMap (fun j => (List.range 32).map (fun i => (cx + i, cy + j)))).filter (fun p => isCorner rd b p.1 p.2)
  (ps.foldl (fun l p => insertFeat (p.1, p.2, cornerScore rd m p.1 p.2) l) []).take (dPerCell b)

/-- All features kept, in cell order. -/
def allFeats (rd : FRd) (b : List Byte) : List (Nat × Nat × Nat) :=
  (List.range (ceilDiv (dImg b).w 32 * ceilDiv (dImg b).h 32)).flatMap (cellFeats rd b)

/-- The descriptor of a feature (R330). -/
def featDesc (rd : FRd) (m : Img) (x y : Nat) : List Byte :=
  let box (u v : Int) : Int := sumOver (window2 2) (fun o => reflTap rd m (u + o.1) (v + o.2))
  let pr (k j : Nat) : Int := pairAt (4 * k + j)
  (List.range 32).map (fun by' => BitVec.ofNat 8 ((List.range 8).foldl (fun a i =>
    let k := 8 * by' + i
    a + b2n (decide (box (x + pr k 0) (y + pr k 1) < box (x + pr k 2) (y + pr k 3))) * 2 ^ i) 0))

/-- A level pixel's coordinate in level-0 pixels with 2 fraction bits (R331). -/
def levelCoord (l x : Nat) : Nat := x * 2 ^ (l + 2) + 2 ^ (l + 1) - 2

/-- The 40 bytes of a feature entry (R331). -/
def featEntry (rd : FRd) (b : List Byte) (f : Nat × Nat × Nat) : List Byte :=
  leBytes 2 (levelCoord (dLevel b) f.1) ++ leBytes 2 (levelCoord (dLevel b) f.2.1) ++ leBytes 2 f.2.2 ++ leBytes 1 (dLevel b) ++ [0]
    ++ featDesc rd (dImg b) f.1 f.2.1

/-! ### TRACK (R334, R339, R340, R342) -/

/-- The fields of a context (R334). -/
structure Ctx where
  gen    : Nat
  live   : Bool
  stream : Nat
  level  : Nat
  misses : Nat
  first  : Nat
  last   : Nat
  x      : Nat
  y      : Nat
  vx     : Int
  vy     : Int
  score  : Nat
  dist   : Nat
  hits   : Nat
  tick   : Nat
  desc   : List Byte
  deriving DecidableEq, Repr

/-- A context read from its 64 bytes. -/
def ctxOf (b : List Byte) : Ctx :=
  { gen := df b 0 11 0, live := (wordAt b 0).testBit 12, stream := df b 0 18 13, level := df b 0 21 19, misses := df b 0 31 24,
    first := wordAt b 1, last := wordAt b 2, x := df b 3 15 0, y := df b 3 31 16, vx := sgn 16 (df b 4 15 0), vy := sgn 16 (df b 4 31 16),
    score := df b 5 15 0, dist := df b 5 23 16, hits := df b 5 31 24, tick := wordAt b 6, desc := slice b 32 32 }

/-- The 64 bytes of a context. -/
def ctxBytes (c : Ctx) : List Byte :=
  wordBytes [c.gen % 4096 + 4096 * b2n c.live + 2 ^ 13 * c.stream + 2 ^ 19 * c.level + 2 ^ 24 * c.misses, c.first, c.last,
    c.x + 65536 * c.y, uns 16 c.vx + 65536 * uns 16 c.vy, c.score + 2 ^ 16 * c.dist + 2 ^ 24 * c.hits, c.tick % 2 ^ 32, 0]
    ++ slice c.desc 0 32

/-- A feature of a list: x, y, score, descriptor. -/
structure Feat where
  x     : Nat
  y     : Nat
  score : Nat
  desc  : List Byte
  deriving DecidableEq, Repr

/-- A feature read from its entry. -/
def featOf (e : List Byte) : Feat :=
  { x := leNat (slice e 0 2), y := leNat (slice e 2 2), score := leNat (slice e 4 2), desc := slice e 8 32 }

/-- Hamming distance of two descriptors. -/
def descDist (a b : List Byte) : Nat := (List.zipWith (fun x y => popCount 8 (x ^^^ y).toNat) a b).foldl (fun s n => s + n) 0

/-- The best unclaimed feature within the search radius: its place in the list and distance (R339). -/
def bestFeat (fs : List Feat) (claimed : List Nat) (desc : List Byte) (px py r : Int) : Option (Nat × Nat) :=
  (List.zip (List.range fs.length) fs).foldl (fun best e =>
    let f := e.2
    if e.1 ∈ claimed ∨ r < ((f.x : Int) - px).natAbs ∨ r < ((f.y : Int) - py).natAbs then best
    else
      let d := descDist desc f.desc
      match best with
      | none => some (e.1, d)
      | some g => if d < g.2 then some (e.1, d) else best) none

/-- The velocity after a match on one axis (R339). -/
def newVel (hits : Nat) (v : Int) (delta : Int) : Int :=
  Sys2Proof.satInt 16 (if 2 ≤ hits then (v + 4 * delta + 1) / 2 else 4 * delta)

/-- One update of a context (R339): the context after it, the feature claimed, whether it ended. -/
def ctxUpdate (b : List Byte) (fs : List Feat) (claimed : List Nat) (maxMisses frame tick : Nat) (c : Ctx) : Ctx × Option Nat × Bool :=
  let ahead := tPredict b && decide (2 ≤ c.hits)
  let px : Int := c.x + (if ahead then c.vx / 4 else 0)
  let py : Int := c.y + (if ahead then c.vy / 4 else 0)
  let r : Int := (tRadius b * 2 ^ (tLevel b + 2) : Nat)
  let miss : Ctx × Option Nat × Bool :=
    let m := min 255 (c.misses + 1)
    let ends := decide (maxMisses ≤ c.misses + 1)
    ({ c with x := if tPredict b then (clampTo 0 0xFFFF px).toNat else c.x, y := if tPredict b then (clampTo 0 0xFFFF py).toNat else c.y,
              misses := m, live := !ends, tick := tick }, none, ends)
  match bestFeat fs claimed c.desc px py r with
  | none => miss
  | some g =>
    if tMaxDist b < g.2 then miss
    else
      let f := fs.getD g.1 { x := 0, y := 0, score := 0, desc := [] }
      ({ c with vx := newVel c.hits c.vx ((f.x : Int) - c.x), vy := newVel c.hits c.vy ((f.y : Int) - c.y), x := f.x, y := f.y,
                hits := min (c.hits + 1) 255, misses := 0, last := frame, score := f.score, dist := min g.2 255, tick := tick,
                desc := if tDescUpdate b then f.desc else c.desc }, some g.1, false)

/-- Candidates of a context's search: the unclaimed features within its radius (R339, R343). -/
def candidates (b : List Byte) (fs : List Feat) (claimed : List Nat) (c : Ctx) : Nat :=
  let ahead := tPredict b && decide (2 ≤ c.hits)
  let px : Int := c.x + (if ahead then c.vx / 4 else 0)
  let py : Int := c.y + (if ahead then c.vy / 4 else 0)
  let r : Int := (tRadius b * 2 ^ (tLevel b + 2) : Nat)
  ((List.zip (List.range fs.length) fs).filter (fun e =>
    !decide (e.1 ∈ claimed) && decide (((e.2.x : Int) - px).natAbs ≤ r) && decide (((e.2.y : Int) - py).natAbs ≤ r))).length

/-- A new track in a free context (R340). -/
def ctxNew (b : List Byte) (f : Feat) (frame tick : Nat) (old : Ctx) : Ctx :=
  { gen := if old.gen = 0xFFF then 1 else old.gen + 1, live := true, stream := tStream b, level := tLevel b, misses := 0, first := frame,
    last := frame, x := f.x, y := f.y, vx := 0, vy := 0, score := f.score, dist := 0, hits := 1, tick := tick, desc := f.desc }

/-- The 16 bytes of a track-list entry (R342). -/
def trackEntry (ctx : Nat) (c : Ctx) (isNew matched ended held : Bool) : List Byte :=
  leBytes 4 (ctx % 2 ^ 20 + 2 ^ 20 * c.gen) ++ leBytes 2 c.x ++ leBytes 2 c.y ++ leBytes 2 (uns 16 c.vx) ++ leBytes 2 (uns 16 c.vy)
    ++ leBytes 1 (b2n isNew + 2 * b2n matched + 4 * b2n ended + 8 * b2n held) ++ leBytes 1 (min c.dist 255) ++ leBytes 1 c.hits ++ leBytes 1 c.misses

/-- The 64 bytes of a track-list header (R342). -/
def trackHeader (b : List Byte) (count frame tick : Nat) (held trunc : Bool) : List Byte :=
  leBytes 4 count ++ leBytes 4 frame ++ leBytes 8 tick ++ leBytes 1 (tStream b) ++ leBytes 1 (tLevel b)
    ++ leBytes 1 (b2n held + 2 * b2n trunc) ++ zeros 45

end Sys2Proof.Machine
end

