-- ==== Sys2Proof/Machine/Facet.lean ====
section
/-! DEFINITION. The Facet engines at work (11 R281–R300, 12 R313–R322, 13 R326–R344): activation and checks, rows landed,
completion flags, the refine pass, detection and tracks. -/

namespace Sys2Proof.Machine

/-- The active descriptor of engine `e` set. -/
def State.setRun (s : State) (e : Nat) (r : FacetRun) : State := s.setEng e { s.eng e with run := some r }

/-- The task that an engine runs. -/
def State.engTask (s : State) (e : Nat) : Option Task := (s.eng e).task.bind (fun id => s.task? id)

/-- Memory as an engine reads it. -/
def State.facetRd (s : State) : FRd := fun kind addr =>
  if kind = 3 then kget memDefault s.ddr addr else kget memDefault s.fscratch addr

/-- Memory as the active descriptor reads it: what the engine holds since it took it in or made it, else what stands there now (R293,
R297). -/
def FacetRun.rd (r : FacetRun) (s : State) : FRd := fun kind addr =>
  match r.own.find? (fun o => decide (o.1 = kind) && decide (o.2.1 ≤ addr) && decide (addr < o.2.1 + o.2.2.length)) with
  | some o => o.2.2.getD (addr - o.2.1) 0
  | none => s.facetRd kind addr

/-- The active descriptor of engine `e` changed. -/
def State.modRun (s : State) (e : Nat) (f : FacetRun → FacetRun) : State :=
  match (s.eng e).run with
  | some r => s.setRun e (f r)
  | none => s

/-- Bytes that an engine writes: those of LPDDR5 go through its channel of DMA4 (R226, R282). -/
def State.facetPut (s : State) (kind addr : Nat) (bs : List Byte) : State :=
  if kind = 3 then ((s.touchCtx false addr bs.length).ddrWrite addr bs).bump 64 0x5414 2 bs.length else s.scrWrite addr bs

/-- Bytes that an engine writes at several addresses. -/
def State.facetPuts (s : State) (kind : Nat) (ws : List (Nat × List Byte)) : State :=
  ws.foldl (fun s w => s.facetPut kind w.1 w.2) s

/-- Register index of an engine. -/
def engIdx (e : Nat) : Nat := 0x6000 + e

/-- The sub-indices of an engine's counters of refusals, busy and stall cycles (R303, R324, R345). -/
def busySub (e : Nat) : Nat := if e < 8 then 5 else 4
def refusedSub (e : Nat) : Nat := if e < 8 then 9 else if e < 14 then 14 else 10
def stallSub (e : Nat) : Nat := if e < 8 then 6 else if e < 14 then 5 else 9

/-- What refuses a region at its target (R223, R407). -/
def State.regionStatus (s : State) (part : Nat) (r : Region) : Nat :=
  let addr := r.2.2.1
  let len := r.2.2.2
  if len = 0 then stOk
  else if r.2.1 = 4 then need (s.scrOwned part addr len) stAccessDenied
  else if r.2.1 ≠ 3 then stOk
  else firstFail [
    need (s.granuleIn part (addr / 67108864) && s.granuleIn part ((addr + len - 1) / 67108864)) stAccessDenied,
    need (!s.spanRetired addr len) stRetired,
    need (r.1 || !s.spanPoisoned addr len) stTaskAborted]

/-- The first fault that the regions of a descriptor meet. -/
def State.regionsStatus (s : State) (part : Nat) (rs : List Region) : Nat := firstFail (rs.map (s.regionStatus part))

/-- Is every kind-4 region inside the partition's data range (R288 step 5)? -/
def State.scratchOk (s : State) (part : Nat) (rs : List Region) : Bool :=
  rs.all (fun r => decide (r.2.1 ≠ 4) || decide (r.2.2.2 = 0) || s.scrOwned part r.2.2.1 r.2.2.2)

/-- The flag that a descriptor's prediction or list stands under: does it carry the tick, DONE, no ABSENT and no CORRUPT (R313)? -/
def State.flagGood (s : State) (f tick : Nat) : Bool :=
  let v := leNat (s.scrRead (flagAddr f) 8)
  decide (v % 2 ^ 44 = tick % 2 ^ 44) && v.testBit 58 && !v.testBit 59 && !v.testBit 61

/-- Progress rows of a descriptor: level-1 rows, output rows, coarse rows, rows scanned (R293, R298, R323, R332). -/
def facetRows (b : List Byte) : Nat :=
  let ty := fType b
  if ty = 1 then (pyrLevel b 1).h else if ty = 2 then (wOut b).h else if ty = 0x10 ∨ ty = 0x11 then (mImgA b).h
  else if ty = 0x20 then (dImg b).h else 0

/-- Is the type a FLOW or a STEREO? -/
def isMatch (b : List Byte) : Bool := decide (fType b = 0x10) || decide (fType b = 0x11)

/-! ### Rows -/

/-- Pixels of a coarse row that carry code `k` of R315. -/
def codeCount (b : List Byte) (k : Nat) (field : List Byte) : Nat :=
  ((List.range (mImgA b).w).filter (fun x => decide (slice field (mElem b * x) (mElem b) = codeBytes b k))).length

/-- Row `y` of level `l + 1` of a PYRAMID made and landed; the engine keeps it where a deeper level follows (R293). -/
def State.landLevel (s : State) (e l y : Nat) : State :=
  match (s.eng e).run with
  | none => s
  | some r =>
    let b := r.bytes
    let o := pyrLevel b (l + 1)
    let x := pyrRow (if l = 0 then s.facetRd else r.rd s) b l y
    let at' := o.addr + y * o.pitch
    let s := ((s.facetPut o.kind at' x.1).bump 64 (engIdx e) 4 o.w).bump 64 (engIdx e) 7 x.2
    if l + 1 < pyrLevels b then s.modRun e (fun r => { r with own := (o.kind, at', x.1) :: r.own }) else s

/-- Rows of level `l + 1` that stand once `n` rows of level 1 do: the rest of the one pass (R293). -/
def deepRows (b : List Byte) (n : Nat) : Nat → Nat
  | 0 => n
  | l + 1 =>
    let d := deepRows b n l
    if (pyrLevel b (l + 1)).h ≤ d then (pyrLevel b (l + 2)).h
    else min (pyrLevel b (l + 2)).h ((d + 1 - (if df b 2 15 14 = 0 then 1 else 2)) / 2)

/-- The deeper levels as far as the rows from `a` to `n` of level 1 bring them. -/
def State.landDeep (s : State) (e : Nat) (b : List Byte) (a n : Nat) : State :=
  if fType b ≠ 1 then s
  else
    (List.range (pyrLevels b - 1)).foldl (fun s k =>
      let was := deepRows b a (k + 1)
      (List.range (deepRows b n (k + 1) - was)).foldl (fun s i => s.landLevel e (k + 1) (was + i)) s) s

/-- What a WARP whose source lies in LPDDR5 holds for the bands `ks`: the map with the table, and the source rows of those bands, rows
already held among them (R297). -/
def State.warpHold (s : State) (r : FacetRun) (ks : List Nat) : List (Nat × Nat × List Byte) :=
  let b := r.bytes
  let m := fSource b
  let rows := (List.range m.h).filter (fun i => ks.any (fun k =>
    decide (k < wBands b) && decide ((warpBandRows (r.rd s) b k).1 ≤ i) && decide (i ≤ (warpBandRows (r.rd s) b k).2)))
  r.own.take 1 ++ rows.map (fun i =>
    (r.own.drop 1 |>.find? (fun o => decide (o.2.1 = m.addr + i * m.pitch))).getD
      (3, m.addr + i * m.pitch, frBytes s.facetRd 3 (m.addr + i * m.pitch) (rowBytes b).2))

/-- Row `y` of a WARP's output; the first row of a band lets the engine load the rows of the next. -/
def State.landWarp (s : State) (e y : Nat) : State :=
  let band (r : FacetRun) : Nat := y / max 1 (wBand r.bytes)
  let s := s.modRun e (fun r =>
    if df r.bytes 2 2 0 = 3 ∧ y % max 1 (wBand r.bytes) = 0 then { r with own := s.warpHold r [band r, band r + 1] } else r)
  match (s.eng e).run with
  | none => s
  | some r =>
    let o := wOut r.bytes
    let x := warpRow (r.rd s) r.bytes y
    (((s.facetPut o.kind (o.addr + y * o.pitch) x.1).bump 64 (engIdx e) 4 o.w).bump 64 (engIdx e) 7 x.2.1).bump 64 (engIdx e) 8 x.2.2

/-- Progress row `y` computed and landed, with its counts. -/
def State.landRow (s : State) (e : Nat) (r : FacetRun) (y : Nat) : State :=
  let b := r.bytes
  let rd := s.facetRd
  let i := engIdx e
  if fType b = 1 then s.landLevel e 0 y
  else if fType b = 2 then s.landWarp e y
  else if isMatch b then
    let x := coarseRow rd b r.pred y
    let s := (s.facetPut (mOutKind b) (mOut b + y * mPF b) x.1).facetPut (mOutKind b) (mConf b + y * mPC b) x.2
    (((s.bump 64 i 3 (mImgA b).w).bump 64 i 9 (codeCount b 0 x.1)).bump 64 i 10 (codeCount b 2 x.1)).bump 64 i 11 (codeCount b 1 x.1)
  else s

/-- Bytes that an engine has read of LPDDR5, counted on its channel of DMA4 (R226, R282; log 24). -/
def State.engGot (s : State) (kind n : Nat) : State := if kind = 3 then s.bump 64 0x5414 1 n else s

/-- Staging as the engine uses it: what it keeps there, and where, is not given, so its bytes are free (R293, R297; log 76). -/
def State.stageUse (s : State) (b : List Byte) : State :=
  let g := facetStage b
  if g.2 = 0 then s
  else
    let d := s.draw
    d.2.scrWrite g.1 (slice (Config.freeBytes d.1 g.2) 0 g.2)

/-- `k` rows of the source read: PIXELS_IN of a PYRAMID or WARP, and the channel's bytes. -/
def State.gotRows (s : State) (e : Nat) (b : List Byte) (k : Nat) : State :=
  (if e < 8 then s.bump 64 (engIdx e) 3 (k * (fSource b).w) else s).engGot (rowBytes b).1 (k * (rowBytes b).2)

/-- Source rows read between progress `r.progress` and `n`, and rows of a prediction. -/
def State.readRows (s : State) (e : Nat) (r : FacetRun) (n : Nat) : State :=
  let b := r.bytes
  let s := s.gotRows e b (rowsIn (r.rd s) b n - rowsIn (r.rd s) b r.progress)
  if r.pred then s.engGot (mPredImg b).kind ((n - r.progress) * (mPredImg b).w * (mPredImg b).size / (if mPred b = 2 then 2 else 1)) else s

/-- Rows up to `n` landed. -/
def State.landTo (s : State) (e n : Nat) : State :=
  match (s.eng e).run with
  | none => s
  | some r =>
    if n ≤ r.progress then s
    else
      let s := (s.readRows e r n).stageUse r.bytes
      let s := (List.range (n - r.progress)).foldl (fun s i => s.landRow e r (r.progress + i)) s
      let s := s.landDeep e r.bytes r.progress n
      s.setRun e { ((s.eng e).run.getD r) with progress := n }

/-- What progress row `y` of a descriptor writes; deeper levels of a PYRAMID count as a whole. -/
def rowRegions (b : List Byte) (y : Nat) : List Region :=
  let img (o : Img) : Region := (true, o.kind, o.addr + y * o.pitch, o.w * o.chans * o.size)
  if fType b = 1 then
    img (pyrLevel b 1) :: (List.range (pyrLevels b - 1)).map (fun k => (true, (pyrLevel b (k + 2)).kind, (pyrLevel b (k + 2)).addr,
      (pyrLevel b (k + 2)).bytes))
  else if fType b = 2 then [img (wOut b)]
  else if isMatch b then
    [(true, mOutKind b, mOut b + y * mPF b, (mImgA b).w * mElem b), (true, mOutKind b, mConf b + y * mPC b, (mImgA b).w)]
  else []

/-- Rows that the active descriptor has computed by now and not landed: how many is free, up to the first whose place refuses it (R322,
R223). -/
def State.landSome (s : State) (e part : Nat) : State :=
  match (s.eng e).run with
  | none => s
  | some r =>
    let d := s.draw
    let able := ((List.range (facetRows r.bytes)).takeWhile (fun y =>
      (rowRegions r.bytes y).all (fun g => decide (s.regionStatus part g = stOk)))).length
    d.2.landTo e (min able (r.progress + Config.freeNat d.1 % (facetRows r.bytes - r.progress + 1)))

/-- The regions that the active descriptor of a task requests: the prediction only where it is used (R313), the track list as long as it has
become; not the map of a WARP, which it has taken in. -/
def FacetRun.regions (r : FacetRun) : List Region :=
  let b := r.bytes
  (workRegions b).filter (fun g => decide (fType b ≠ 2) || decide (g ≠ mapRegion b)) ++ (if r.pred then predRegion b else [])
    ++ (if fType b = 0x21 ∧ tUpdateMax b < r.entries.length then [(true, tOutKind b, tOut b, 64 + 16 * r.entries.length)] else [])

/-- The region whose request meets the first fault now; without one, a read of LPDDR5. -/
def State.facetBad (s : State) (e : Nat) : Region :=
  (match s.engTask e, (s.eng e).run with
   | some t, some r => r.regions.find? (fun g => decide (s.regionStatus t.part g ≠ stOk))
   | _, _ => none).getD (false, 3, 0, 0)

/-- The faults that the active descriptor's requests meet now. -/
def State.facetFault (s : State) (e : Nat) : Nat :=
  match s.engTask e, (s.eng e).run with
  | some t, some r => s.regionsStatus t.part r.regions
  | _, _ => stOk

/-- The track list written: entries and header (R342). -/
def State.landTracks (s : State) (t : Task) (r : FacetRun) : State :=
  let b := r.bytes
  let s := s.facetPut (tOutKind b) (tOut b + 64) r.entries.flatten
  s.facetPut (tOutKind b) (tOut b) (trackHeader b r.entries.length r.frame t.tick r.hold r.trunc)

/-! ### The end of a task -/

/-- Does a request of the engine's DMA4 channel wait for its retry, or is the channel halted until the edge (R222, R282)? -/
def State.engWaits (s : State) (e : Nat) : Bool :=
  (s.chan 4 e).halted || (s.chan 4 e).reqs.any (fun r => r.retryAt.isSome)

/-- An engine whose task has left it: the second entry, where held, runs with its first descriptor loaded (R284). -/
def State.engNext (s : State) (e : Nat) : State :=
  let x := s.eng e
  let s := s.setEng e { task := x.next, next := none, seq := 0, run := none, pre := none, loaded := x.pre }
  match x.next with
  | some id => s.startTask id
  | none => s

/-- The engine's task ends and the second entry, where held, runs (R284). -/
def State.engFinish (s : State) (e st : Nat) : State :=
  (match s.engTask e with
   | some t =>
     if t.stop ∧ s.resRetired t.node.res = false then
       (s.modTask t.id (fun x => { x with aborted := true, absent := true })).endTask t.id stTaskAborted
     else s.endTask t.id st
   | none => s).engNext e

/-- The flag of a descriptor written, where it has one (R300). -/
def State.descFlag (s : State) (t : Task) (b : List Byte) (progress : Nat) (done corrupt : Bool) : State :=
  if fSetFlag b then s.writeFlag (fFlag b) t.tick progress done false corrupt else s

/-- Cycles of the active descriptor that were stalls by now: whether a cycle is one is free (R298, R303, R323, R345; log 74). -/
def FacetRun.stalls (r : FacetRun) (e now : Nat) : Nat :=
  r.stalled + ((List.range (now - r.counted)).filter (fun i => Config.stallCycle e (r.counted + i))).length

/-- Time with a descriptor active counted up to now, and of it the stalls. -/
def State.settleEng (s : State) (e : Nat) : State :=
  match (s.eng e).run with
  | none => s
  | some r =>
    let n := r.stalls e s.now
    let s := if e = 14 then s else s.bump 64 (engIdx e) (busySub e) (s.now - r.counted)
    (s.bump 64 (engIdx e) (stallSub e) (n - r.stalled)).setRun e { r with counted := s.now, stalled := n }

/-- Time with a descriptor active counted at its end: what exceeded the uncontended time were stalls. -/
def State.countActive (s : State) (e : Nat) (r : FacetRun) (extra : Nat) : State :=
  let s := if e = 14 then s else s.bump 64 (engIdx e) (busySub e) (s.now - r.counted)
  s.bump 64 (engIdx e) (stallSub e) (s.now - r.since - (facetCycles r.bytes + extra) - r.stalled)

/-- Address of a context of partition `p` (R333). -/
def State.ctxAddr (s : State) (p x : Nat) : Nat :=
  s.rangeAddr p (64 * s.reg (0x3100 + p) 12) + 64 * (x - s.reg (0x3100 + p) 10)

/-- A context as OD 6013.02 shows it: the cache copy, else the LPDDR5 copy; free where another writer has touched it (R336). -/
def State.ctxShown (s : State) (p x : Nat) : List Byte :=
  if x ∈ s.ctxUndef then slice (Config.freeBytes (s.free + 2 ^ 64 * (x + 1)) 64) 0 64
  else
    match s.ctxCache.find? (fun l => decide (l.ctx = x)) with
    | some l => l.bytes
    | none => s.ddrRead (s.ctxAddr p x) 64

/-- A context written to its place in LPDDR5 (R282, R336). -/
def State.ctxPut (s : State) (p x : Nat) (b : List Byte) : State := (s.ddrWrite (s.ctxAddr p x) b).bump 64 0x5414 2 64

/-- Dirty lines of the context cache written back; those of partition `p`'s run dropped where `drop` holds (R336). -/
def State.writeBack (s : State) (p : Nat) (drop : Bool) : State :=
  let mine (l : CtxLine) : Bool := s.ctxIn p l.ctx
  let s := s.ctxCache.foldl (fun s l => if mine l && l.dirty then s.ctxPut p l.ctx (s.ctxShown p l.ctx) else s) s
  { s with ctxCache := (s.ctxCache.filter (fun l => !(drop && mine l))).map (fun l => if mine l then { l with dirty := false } else l) }

/-- A TRACK that ends before its time writes the entries it has, where their place takes them, and its contexts back (R344). -/
def State.trackCut (s : State) (t : Task) (r : FacetRun) : State :=
  if fType r.bytes = 0x21 then
    (if r.stage = 1 ∧ s.regionStatus t.part (true, tOutKind r.bytes, tOut r.bytes, 64 + 16 * r.entries.length) = stOk then s.landTracks t r
     else s).writeBack t.part false
  else s

/-- A fault after the first request: the task is aborted, its outputs corrupt; rows written by then stay (R223, R288, R322, R344). -/
def State.facetDrop (s : State) (e st : Nat) : State :=
  match s.engTask e, (s.eng e).run with
  | some t, some r =>
    let s := if r.stage = 0 then s.landSome e t.part else s
    let s := (s.trackCut t r).modTask t.id (fun x => { x with corrupt := true })
    ((s.descFlag t r.bytes (((s.eng e).run.getD r).progress) true true).settleEng e).engFinish e st
  | _, _ => s

/-- A fault that the request of region `g` meets at its target, counted where it is a firewall refusal or a poisoned block (R407, R444). -/
def State.facetAbortAt (s : State) (e st : Nat) (g : Region) : State :=
  match s.engTask e, (s.eng e).run with
  | some t, some _ =>
    let s := if st = stAccessDenied then s.firewallRefuse (0x20 + e) t.part g.1 g.2.1 0 else s
    let s := if st = stTaskAborted then s.countPoison g.2.2.1 g.2.2.2 (some (0x20 + e)) else s
    s.facetDrop e st
  | _, _ => s

/-- A fault that ends the active descriptor: its own regions' first, or one of a context's or the bus's. -/
def State.facetAbort (s : State) (e st : Nat) : State := s.facetAbortAt e st (s.facetBad e)

/-- A stop takes effect between descriptors or rows: a queue abort marks every flag of the chain ABSENT, a retirement ends with
RETIRED (R196, R300, R451). The coarse rows computed by then stand (R322). -/
def State.facetStop (s : State) (e : Nat) : State :=
  match s.engTask e with
  | none => s
  | some t =>
    let s := match (s.eng e).run with
      | some r => ((if isMatch r.bytes && decide (r.stage = 0) then s.landSome e t.part else s).trackCut t r).settleEng e
      | none => s
    if s.resRetired t.node.res then s.engFinish e stRetired
    else
      let s := s.modTask t.id (fun x => { x with aborted := true, absent := true })
      (s.absentFlags t).engFinish e stTaskAborted

/-! ### Activation (R288) -/

/-- The checks of R288 when a descriptor of the chain of task `t` is loaded: steps 1 to 4. -/
def State.facetLoad (s : State) (e : Nat) (t : Task) (b : List Byte) (seq : Nat) : Nat :=
  let ty := fType b
  let own (f : Nat) : Bool := decide (f / 512 = t.part)
  firstFail [
    s.fetchStatus (t.prog + 64 * seq),
    need (decide (crc32 (slice b 0 60) = wordAt b 15)) stTaskAborted,
    need (typeRuns e ty && fz b 0 15 10 && fz b 1 31 20 && decide (fSeq b = seq % 65536) && facetEncoding b) stBadEncoding,
    need ((!fSetFlag b || own (fFlag b)) && (!isMatch b || own (mPredFlag b))) stAccessDenied,
    need (facetDims b && listFits s.capacityUsed b) stBadLength]

/-- What the reading of a WARP's band table meets (R223, R297). -/
def State.tableStatus (s : State) (t : Task) (b : List Byte) : Nat :=
  if fType b = 2 ∧ df b 2 2 0 = 3 then s.regionStatus t.part (false, df b 2 18 16, wTable b, 4 * wBands b) else stOk

/-- Step 5 of R288, at activation. A band table that cannot be read is no refusal. -/
def State.facetOpen (s : State) (t : Task) (b : List Byte) : Nat :=
  firstFail [
    need (s.scratchOk t.part (facetRegions b)) stAccessDenied,
    need (decide (fType b ≠ 2) || decide (s.tableStatus t b ≠ stOk) || warpBandsOk s.facetRd b) stBadLength]

/-- The checks of R288 on a descriptor that is loaded and activated now. -/
def State.facetCheck (s : State) (e : Nat) (t : Task) (b : List Byte) (seq : Nat) : Nat :=
  firstFail [s.facetLoad e t b seq, s.facetOpen t b]

/-- The first descriptor of an entry that an engine takes second is loaded and checked while the first entry runs (R284). -/
def State.loadSecond (s : State) (e : Nat) (t : Task) : State :=
  let b := s.ddrRead t.prog 64
  let st := s.facetLoad e t b 0
  (s.countFetch t.prog st (some (0x20 + e)) t.id).setEng e { s.eng e with next := some t.id, pre := some (b, st) }

/-- Is the prediction of a FLOW or STEREO usable (R313)? -/
def State.predGood (s : State) (t : Task) (b : List Byte) : Bool :=
  decide (mPred b ≠ 0) && s.flagGood (mPredFlag b) (if mPred b = 1 then t.tick - 1 else t.tick)

/-- A descriptor as it becomes active. -/
def newRun (b : List Byte) (now tick : Nat) (pred : Bool) : FacetRun :=
  { bytes := b, since := now, progress := 0, flagged := 0, pred := pred, stage := 0, todo := [], tiles := [], refineAt := 0,
    hold := false, frame := 0, claimed := [], cursor := 0, feature := 0, updates := 0, news := 0, entries := [], freed := [],
    trunc := false, cost := 0, counted := now, stalled := 0, tickAt := tick }

/-- A refused descriptor: it moves no byte, and the task ends with the status (R288, R300). -/
def State.facetRefuse (s : State) (e : Nat) (k : Task) (b : List Byte) (st : Nat) : State :=
  let s := s.bump 32 (engIdx e) (refusedSub e) 1
  let s := if s.fetchStatus (k.prog + 64 * (s.eng e).seq) = stOk ∧ fFlag b / 512 = k.part then s.descFlag k b 0 true true else s
  s.engFinish e st

/-- A WARP begins: the map and the band table are taken in, and the rows of the first band are loaded (R297). -/
def State.warpBegin (s : State) (e : Nat) (b : List Byte) : State :=
  let m := mapRegion b
  let s := s.engGot m.2.1 m.2.2.2
  let s := s.modRun e (fun r => { r with own := [(m.2.1, m.2.2.1, frBytes s.facetRd m.2.1 m.2.2.1 m.2.2.2)] })
  let s := s.modRun e (fun r => if df b 2 2 0 = 3 then { r with own := s.warpHold r [0] } else r)
  match (s.eng e).run with
  | some r => s.gotRows e b (rowsIn (r.rd s) b 0)
  | none => s

/-- A descriptor active: its prediction is judged (R313), its staging and its map are taken in; a map or a band table that cannot be read
aborts the task. -/
def State.facetBegin (s : State) (e : Nat) (k : Task) (b : List Byte) : State :=
  let pred := isMatch b && s.predGood k b
  let s := if isMatch b && decide (mPred b ≠ 0) && !pred then s.bump 32 (engIdx e) 12 1 else s
  let s := s.setRun e (newRun b s.now s.tickCount pred)
  let st := if fType b = 2 then s.regionStatus k.part (mapRegion b) else stOk
  if st ≠ stOk then s.facetAbortAt e st (mapRegion b)
  else (if fType b = 2 then s.warpBegin e b else s).stageUse b

/-- The address fields of a descriptor: the target kind, and the first of the two words (R288, R291, R296, R311, R328, R337). -/
def addrFields (b : List Byte) : List (Nat × Nat) :=
  let ty := fType b
  [(df b 2 2 0, 3)] ++
    (if ty = 1 ∨ ty = 0x20 then [(df b 2 10 8, 7)]
     else if ty = 2 then [(df b 2 10 8, 7), (df b 2 18 16, 11)]
     else if ty = 0x10 ∨ ty = 0x11 then [(df b 2 2 0, 5), (df b 2 10 8, 9), (df b 2 26 24, 11)]
     else [(df b 2 10 8, 5)])

/-- A descriptor with the addresses of picture buffers in the set of the task's tick (R20, R23; log 70). -/
def State.pictured (s : State) (t : Task) (b : List Byte) : List Byte :=
  (addrFields b).foldl (fun b f =>
    if f.1 ≠ 3 ∨ s.picture t (fAddr b f.2 (f.2 + 1)) = fAddr b f.2 (f.2 + 1) then b
    else slice b 0 (4 * f.2) ++ leBytes 6 (s.picture t (fAddr b f.2 (f.2 + 1))) ++ b.drop (4 * f.2 + 6)) b

/-- FACET_DESCRIPTOR_ACTIVATE: the next descriptor of the running entry's chain is checked and becomes active, or is refused (R288). -/
def execFacetDescriptorActivate (t : Nat) (e : EngId) (s : State) : Out :=
  whileLive t s (fun s =>
    let x := s.eng e.val
    match s.engTask e.val with
    | none => s
    | some k =>
      if x.run.isSome ∨ s.engWaits e.val then s
      else if k.stop then s.facetStop e.val
      else
        let at' := k.prog + 64 * x.seq
        let now' := (s.ddrRead at' 64, s.facetLoad e.val k (s.ddrRead at' 64) x.seq)
        let d := x.loaded.getD now'
        let s := if x.loaded.isNone then s.countFetch at' d.2 (some (0x20 + e.val)) k.id else s.setEng e.val { x with loaded := none }
        let b := s.pictured k d.1
        let st := firstFail [d.2, s.facetOpen k b]
        if st ≠ stOk then s.facetRefuse e.val k b st else s.facetBegin e.val k b)

/-- The row count at which the next flag write falls: the next multiple of FLAG_EVERY, at the end of a band for a WARP (R298,
R300). -/
def nextFlagRow (b : List Byte) (flagged : Nat) : Nat :=
  let m := (flagged / fEvery b + 1) * fEvery b
  if fType b = 2 ∧ m ≤ (wOut b).h then min (roundUp m (max 1 (wBand b))) (wOut b).h else m

/-- FACET_PROGRESS_FLAG: rows land up to the next multiple of FLAG_EVERY, and the flag reports them (R300). -/
def execFacetProgressFlag (t : Nat) (e : EngId) (s : State) : Out :=
  whileLive t s (fun s =>
    match s.engTask e.val, (s.eng e.val).run with
    | some k, some r =>
      let n := nextFlagRow r.bytes r.flagged
      if fSetFlag r.bytes = false ∨ fEvery r.bytes = 0 ∨ r.stage ≠ 0 ∨ facetRows r.bytes < n ∨ s.engWaits e.val then s
      else if k.stop && isMatch r.bytes then s.facetStop e.val
      else
        let st := s.facetFault e.val
        if st ≠ stOk then s.facetAbort e.val st
        else
          let s := s.landTo e.val n
          match (s.eng e.val).run with
          | none => s
          | some r =>
            (s.descFlag k r.bytes r.progress false false).setRun e.val
              { r with flagged := n }
    | _, _ => s)

/-! ### The refine pass (R319–R322) -/

/-- A tile put into the order of ascending confidence; of equal ones the earlier in raster order stands first. -/
def insertTile (x : Nat × Nat) : List (Nat × Nat) → List (Nat × Nat)
  | [] => [x]
  | y :: ys => if x.2 < y.2 then x :: y :: ys else y :: insertTile x ys

/-- Tiles cut: their states, their pixels under CUT_MODE, the count (R320). -/
def State.cutTiles (s : State) (e : Nat) (b : List Byte) (ks : List Nat) : State :=
  (ks.foldl (fun s k => s.facetPuts (mOutKind b) (cutTile s.facetRd b k)) s).bump 64 (engIdx e) 8 ks.length

/-- Tile states set. -/
def putTiles (m : KMap Nat) (v : Nat) (ks : List Nat) : KMap Nat := ks.foldl (fun m k => kput m k v) m

/-- The refine pass begins: confidences of all tiles, eligible tiles in order, the selection of at most REFINE_MAX; after a tick edge every
tile is cut (R319, R322). -/
def State.refineSelect (s : State) (e : Nat) (r : FacetRun) : State :=
  let b := r.bytes
  let all := List.range (mTW b * mTH b)
  let rd := s.facetRd
  let confs := all.map (fun i => (i, tileConf rd b i))
  let dead := (confs.filter (fun c => c.2.isNone)).map (fun c => c.1)
  let able := (confs.filterMap (fun c => c.2.map (fun v => (c.1, v)))).filter (fun c => mRefine b && decide (c.2 < mThresh b))
  let order := (able.foldl (fun l c => insertTile c l) []).map (fun c => c.1)
  let late := decide (r.tickAt ≠ s.tickCount)
  let sel := if late then [] else order.take (mRefineMax b)
  let cut := if late then order else order.drop (mRefineMax b)
  let s := s.bump 64 (engIdx e) 6 order.length
  let s := if late && !order.isEmpty then s.bump 32 (engIdx e) 13 1 else s
  let s := s.cutTiles e b cut
  s.setRun e
    { r with stage := if sel.isEmpty then 2 else 1, todo := sel, tiles := putTiles (putTiles r.tiles 3 dead) 2 cut, refineAt := s.now }

/-- REFINE_PASS_START: tile confidences, eligible tiles in order, the selection (R319). After a tick edge every tile is cut (R322). -/
def execRefinePassStart (t : Nat) (e : EngId) (s : State) : Out :=
  whileLive t s (fun s =>
    match s.engTask e.val, (s.eng e.val).run with
    | some k, some r0 =>
      let b := r0.bytes
      if isMatch b = false ∨ r0.stage ≠ 0 then s
      else if k.stop then s.facetStop e.val
      else
        let st := s.facetFault e.val
        if st ≠ stOk then s.facetAbort e.val st
        else
          let s := s.landTo e.val (facetRows b)
          match (s.eng e.val).run with
          | none => s
          | some r =>
            s.refineSelect e.val r
    | _, _ => s)

/-- REFINE_TILE_START: the budget check, then the next selected tile is refined, or it and every later one is cut (R319, R322). -/
def execRefineTileStart (t : Nat) (e : EngId) (s : State) : Out :=
  whileLive t s (fun s =>
    match s.engTask e.val, (s.eng e.val).run with
    | some k, some r =>
      let b := r.bytes
      match r.todo with
      | [] => s
      | i :: rest =>
        if r.stage ≠ 1 then s
        else if k.stop then s.facetStop e.val
        else
          let st := s.facetFault e.val
          if st ≠ stOk then s.facetAbort e.val st
          else
            let late := decide (r.tickAt ≠ s.tickCount)
            let fits := decide (s.now - r.refineAt + matchTile b ≤ mRefineCycles b)
            if late || !fits then
              let s := if late then s.bump 32 (engIdx e.val) 13 1 else s
              (s.cutTiles e.val b r.todo).setRun e.val
              { r with stage := 2, todo := [], tiles := putTiles r.tiles 2 r.todo }
            else
              let d := s.draw
              let s := d.2.engGot (mImgA b).kind (Config.freeNat d.1)
              let s := (s.facetPuts (mOutKind b) (refineTile s.facetRd b i)).bump 64 (engIdx e.val) 7 1
              s.setRun e.val
              { r with stage := if rest.isEmpty then 2 else 1, todo := rest, tiles := kput r.tiles i 1 }
    | _, _ => s)

/-! ### The end of a descriptor -/

/-- The tile map's rows written last (R314, R316, R323). -/
def State.landTileMap (s : State) (r : FacetRun) : State :=
  let b := r.bytes
  let lost := mPred b ≠ 0 ∧ r.pred = false
  (List.range (mTH b)).foldl (fun s j =>
    s.facetPut (mOutKind b) (mMap b + j * mPT b) ((List.range (mTW b)).map (fun i =>
      BitVec.ofNat 8 (kget 0 r.tiles (j * mTW b + i) + (if lost then 4 else 0))))) s

/-- The frame number of the stream's frame that a task's tick processes (R17). -/
def State.frameNo (s : State) (tick st : Nat) : Nat := ((s.frameFor tick st).map (fun f => f.number)).getD 0

/-- The feature list of a DETECT: entries, then the header (R331, R332). -/
def State.landFeatures (s : State) (e : Nat) (t : Task) (b : List Byte) : State :=
  let rd := s.facetRd
  let fs := allFeats rd b
  let kept := fs.take (dMaxFeat b)
  let s := s.facetPut (df b 2 10 8) (dOut b + 64) (kept.flatMap (featEntry rd b))
  let s := s.facetPut (df b 2 10 8) (dOut b)
    (leBytes 4 kept.length ++ leBytes 4 (s.frameNo t.tick (dStream b)) ++ leBytes 8 t.tick ++ leBytes 1 (dStream b) ++ leBytes 1 (dLevel b)
      ++ zeros 2 ++ leBytes 4 (fs.length - kept.length) ++ zeros 40)
  (s.bump 64 (engIdx e) 3 kept.length).bump 64 (engIdx e) 4 (fs.length - kept.length)

/-! ### Track contexts (R333–R341) -/

/-- A context brought into the cache: 4 ways a set; which line of a full set leaves is free (log 9), and a dirty one is written back
(R336). -/
def State.ctxFetch (s : State) (p x : Nat) : State :=
  if s.ctxCache.any (fun l => decide (l.ctx = x)) then s
  else
    let bytes := s.ddrRead (s.ctxAddr p x) 64
    let set := s.ctxCache.filter (fun l => decide (l.ctx % 1024 = x % 1024))
    let d := s.draw
    let s := if set.length < 4 then s else d.2
    let out := if set.length < 4 then none else set[Config.freeNat d.1 % 4]?
    let s := match out with
      | none => s
      | some l =>
        let q := (partOf (fun q => s.ctxIn q l.ctx)).getD p
        let s := if l.dirty then s.ctxPut q l.ctx (s.ctxShown q l.ctx) else s
        { s with ctxCache := s.ctxCache.filter (fun m => decide (m.ctx ≠ l.ctx)) }
    let line : CtxLine := { ctx := x, bytes := bytes, dirty := false }
    (({ s with ctxCache := s.ctxCache ++ [line] } : State).bump 64 0x600E 7 1).engGot 3 64

/-- A context written in the cache. -/
def State.ctxStore (s : State) (x : Nat) (c : Ctx) : State :=
  let t : State := { s with ctxCache := s.ctxCache.map (fun l => if l.ctx = x then { l with bytes := ctxBytes c, dirty := true } else l) }
  t.ctxChanged x

/-- The contexts of a stream's range in force (R335). -/
def State.ctxRange (s : State) (st : Nat) : List Nat :=
  (List.range (s.reg (0x6040 + st) 4)).map (fun i => s.reg (0x6040 + st) 3 + i)

/-- What reading a context meets where the cache does not hold it (R344). -/
def State.ctxStatus (s : State) (p x : Nat) : Nat :=
  if s.ctxCache.any (fun l => decide (l.ctx = x)) then stOk else s.regionStatus p (false, 3, s.ctxAddr p x, 64)

/-- Is a context one that the descriptor updates or shows: live, of its stream and level? One that cannot be read is met first. -/
def State.ctxMine (s : State) (p : Nat) (b : List Byte) (x : Nat) : Bool :=
  let c := ctxOf (s.ctxShown p x)
  c.live && (decide (s.ctxStatus p x ≠ stOk) || (decide (c.level = tLevel b) && decide (c.stream = tStream b)))

/-- The next live context of the descriptor's level from `cursor` on (R339, R341). -/
def State.nextCtx (s : State) (p : Nat) (b : List Byte) (cursor : Nat) : Option Nat :=
  (s.ctxRange (tStream b)).find? (fun x => decide (cursor ≤ x) && s.ctxMine p b x)

/-- The features of the list that a TRACK reads. -/
def State.trackFeats (s : State) (b : List Byte) : List Feat :=
  let n := leNat (frBytes s.facetRd (tListKind b) (tList b) 4)
  (List.range n).map (fun i => featOf (frBytes s.facetRd (tListKind b) (tList b + 64 + 40 * i) 40))

/-- The next unclaimed feature from `r.feature` on; none once NEW_MAX or UPDATE_MAX is reached (R340, R341). -/
def nextFeat (r : FacetRun) (n : Nat) : Option Nat :=
  if tNewMax r.bytes ≤ r.news ∨ tUpdateMax r.bytes ≤ r.updates then none
  else (List.range n).find? (fun i => decide (r.feature ≤ i) && !decide (i ∈ r.claimed))

/-- Number of features in the list. -/
def State.featCount (s : State) (b : List Byte) : Nat := leNat (frBytes s.facetRd (tListKind b) (tList b) 4)

/-- Is every update and allocation of the active TRACK made? -/
def State.trackDone (s : State) (p : Nat) (r : FacetRun) : Bool :=
  decide (r.stage = 1) && (r.hold || ((decide (tUpdateMax r.bytes ≤ r.updates) || (s.nextCtx p r.bytes r.cursor).isNone)
    && (nextFeat r (s.featCount r.bytes)).isNone))

/-- The contexts of partition `p` freed with their GEN kept, by a QUOTA change (R335): those marked are not free to new tracks in this
tick. -/
def State.freeContexts (s : State) (p : Nat) : State :=
  let all := (List.range (s.reg (0x3100 + p) 11)).map (fun i => s.reg (0x3100 + p) 10 + i)
  let live := all.filter (fun x => decide (x ∈ s.ctxUndef) || (ctxOf (s.ctxShown p x)).live)
  let s := live.foldl (fun s x =>
    let c := { ctxOf (s.ctxShown p x) with live := false }
    if s.ctxCache.any (fun l => decide (l.ctx = x)) then s.ctxStore x c else (s.ctxPut p x (ctxBytes c)).ctxChanged x) s
  { s with ctxFreed := live ++ s.ctxFreed, ctxUndef := s.ctxUndef.filter (fun x => !s.ctxIn p x) }

/-- The ranges of partition `p` cut in stream order from its QUOTAs (R335), and the live counts. -/
def State.cutRanges (s : State) (p : Nat) : State :=
  let first := s.reg (0x3100 + p) 10
  let last := first + s.reg (0x3100 + p) 11
  ((List.range 64).filter (fun st => s.portIn p (st / 4))).foldl (fun (a : State × Nat) st =>
    let n := min (a.1.reg (0x6040 + st) 1) (last - a.2)
    (((a.1.setReg (0x6040 + st) 3 a.2).setReg (0x6040 + st) 4 n).setReg (0x6040 + st) 5 0, a.2 + n)) (s, first) |>.1

/-- The live contexts of the streams of partition `p` counted (OD 6040 + s.05). -/
def State.countLive (s : State) (p : Nat) : State :=
  ((List.range 64).filter (fun st => s.portIn p (st / 4))).foldl (fun s st =>
    s.setReg (0x6040 + st) 5 ((s.ctxRange st).filter (fun x => (ctxOf (s.ctxShown p x)).live)).length) s

/-- The live contexts of partition `p`, whether or not a stream's range holds them (OD 602p.04). -/
def State.liveTotal (s : State) (p : Nat) : Nat :=
  ((List.range (s.reg (0x3100 + p) 11)).filter (fun i => (ctxOf (s.ctxShown p (s.reg (0x3100 + p) 10 + i))).live)).length

/-- What waits for the end of a TRACK descriptor of partition `p`: a QUOTA change made at an edge while it ran (R335). -/
def State.quotaAfter (s : State) (p : Nat) : State :=
  if s.quotaWait.contains p then
    (({ s with quotaWait := s.quotaWait.filter (fun q => decide (q ≠ p)) } : State).freeContexts p).cutRanges p
  else s

/-- A TRACK descriptor begins: LIST_FLAG and the list header decide between updates and hold; in hold the list of all live contexts is
formed at once (R338). A list that the partition may not read, or a fault in it or in a context, aborts the task. -/
def State.trackOpen (s : State) (k : Task) (r : FacetRun) : State :=
  let b := r.bytes
  let n := s.featCount b
  let whole : Region := (false, tListKind b, tList b, 64 + 40 * n)
  let good := s.flagGood (tListFlag b) k.tick
  let hdr := frBytes s.facetRd (tListKind b) (tList b) 64
  let hold := !good || decide (leNat (slice hdr 16 1) ≠ tStream b) || decide (leNat (slice hdr 17 1) ≠ tLevel b)
  let shown := if hold then (s.ctxRange (tStream b)).filter (s.ctxMine k.part b) else []
  let flag := need (decide (tListFlag b / 512 = k.part)) stAccessDenied
  let list := if hold then stOk else s.regionStatus k.part whole
  let st := firstFail ([flag, s.facetFault 14, list] ++ shown.map (s.ctxStatus k.part))
  if st ≠ stOk then
    (s.facetAbortAt 14 st (if flag ≠ stOk then (false, 4, 0, 0) else if s.facetFault 14 = stOk ∧ list ≠ stOk then whole
      else s.facetBad 14)).quotaAfter k.part
  else
    let s := s.engGot (tListKind b) (if hold then 64 else 64 + 40 * n)
    let s := if hold then shown.foldl (fun s x => s.ctxFetch k.part x) (s.bump 32 0x600E 8 1) else s
    s.setRun 14
      { r with stage := 1, hold := hold, frame := leNat (slice hdr 4 4), cursor := 0,
               entries := shown.map (fun x => trackEntry x (ctxOf (s.ctxShown k.part x)) false false false true) }

/-- TRACK_ACTIVATE: the descriptor begins once its inputs are in. -/
def execTrackActivate (t : Nat) (s : State) : Out :=
  whileLive t s (fun s =>
    match s.engTask 14, (s.eng 14).run with
    | some k, some r => if fType r.bytes ≠ 0x21 ∨ r.stage ≠ 0 ∨ s.engWaits 14 then s else s.trackOpen k r
    | _, _ => s)

/-- One live context updated (R339), with what it costs (R343). -/
def State.trackUpdate (s : State) (k : Task) (r : FacetRun) (x : Nat) : State :=
  let b := r.bytes
  let st := tStream b
  let s := s.ctxFetch k.part x
  let c := ctxOf (s.ctxShown k.part x)
  let fs := s.trackFeats b
  let o := ctxUpdate b fs r.claimed (s.reg (0x6040 + st) 2) r.frame s.tickCount c
  let s := s.ctxStore x o.1
  let s := s.bump 64 0x600E 5 1
  let s := if o.2.1.isSome then s.bump 64 0x600E 6 1 else s
  let s := if o.2.2 then (s.bump 64 (0x6040 + st) 7 1).setReg (0x6040 + st) 5 (s.reg (0x6040 + st) 5 - 1) else s
  s.setRun 14
    { r with cursor := x + 1, updates := r.updates + 1, claimed := o.2.1.toList ++ r.claimed,
             entries := r.entries ++ [trackEntry x o.1 false o.2.1.isSome o.2.2 false],
             cost := r.cost + 2 + ceilDiv (candidates b fs r.claimed c) 32, freed := if o.2.2 then x :: r.freed else r.freed }

/-- TRACK_CONTEXT_UPDATE: the next live context of the stream's range and level is updated once (R339, R341). -/
def execTrackContextUpdate (t : Nat) (s : State) : Out :=
  whileLive t s (fun s =>
    match s.engTask 14, (s.eng 14).run with
    | some k, some r =>
      let b := r.bytes
      if fType b ≠ 0x21 ∨ r.stage ≠ 1 ∨ r.hold = true then s
      else if k.stop then s
      else
        match s.nextCtx k.part b r.cursor with
        | none => s
        | some x =>
          if tUpdateMax b ≤ r.updates then s.setRun 14 { r with trunc := true }
          else if s.ctxStatus k.part x ≠ stOk then (s.facetAbort 14 (s.ctxStatus k.part x)).quotaAfter k.part
          else s.trackUpdate k r x
    | _, _ => s)

/-- Feature `i` becomes a track in context `x` (R340). The updates are over by then: none of the contexts allocated is one of them. -/
def State.trackNew (s : State) (k : Task) (r : FacetRun) (i x : Nat) : State :=
  let b := r.bytes
  let st := tStream b
  let s := s.ctxFetch k.part x
  let c := ctxNew b ((s.trackFeats b).getD i { x := 0, y := 0, score := 0, desc := [] }) r.frame s.tickCount (ctxOf (s.ctxShown k.part x))
  let s := (s.ctxStore x c).bump 64 0x600E 5 1
  let s := s.setReg (0x6040 + st) 5 (s.reg (0x6040 + st) 5 + 1)
  s.setRun 14
    { r with feature := i + 1, updates := r.updates + 1, news := r.news + 1, cursor := 2 ^ 21, cost := r.cost + 2,
             entries := r.entries ++ [trackEntry x c true false false false] }

/-- TRACK_ALLOCATE: after the updates, the next unclaimed feature becomes a track in the lowest free context; with none free, every
feature left counts in ALLOC_FAILED (R340). -/
def execTrackAllocate (t : Nat) (s : State) : Out :=
  whileLive t s (fun s =>
    match s.engTask 14, (s.eng 14).run with
    | some k, some r =>
      let b := r.bytes
      let st := tStream b
      let n := s.featCount b
      if fType b ≠ 0x21 ∨ r.stage ≠ 1 ∨ r.hold = true ∨ k.stop = true
          ∨ (r.updates < tUpdateMax b ∧ (s.nextCtx k.part b r.cursor).isSome) then s
      else
        match nextFeat r n with
        | none => s
        | some i =>
          let free := (s.ctxRange st).find? (fun x =>
            !(ctxOf (s.ctxShown k.part x)).live && !decide (x ∈ r.freed) && !decide (x ∈ s.ctxFreed))
          match free with
          | none =>
            let rest := ((List.range n).filter (fun j => decide (i ≤ j) && !decide (j ∈ r.claimed))).length
            (s.bump 64 (0x6040 + st) 6 rest).setRun 14
              { r with feature := n }
          | some x =>
            if s.ctxStatus k.part x ≠ stOk then (s.facetAbort 14 (s.ctxStatus k.part x)).quotaAfter k.part else s.trackNew k r i x
    | _, _ => s)

/-- May the active descriptor end: its passes over, its tracks updated? -/
def State.facetReady (s : State) (t : Task) (r : FacetRun) : Bool :=
  if isMatch r.bytes then decide (r.stage = 2) else if fType r.bytes = 0x21 then s.trackDone t.part r else true

/-- What the end of a descriptor still writes, by type. -/
def State.landRest (s : State) (e : Nat) (t : Task) : State :=
  let s := match (s.eng e).run with
    | some r => s.landTo e (facetRows r.bytes)
    | none => s
  match (s.eng e).run with
  | none => s
  | some r =>
    let b := r.bytes
    if fType b = 1 ∨ fType b = 2 then s
    else if isMatch b then s.landTileMap r
    else if fType b = 0x20 then s.landFeatures e t b
    else
      let trunc := r.trunc || (!r.hold && decide (tUpdateMax b ≤ r.updates) && (s.nextCtx t.part b r.cursor).isSome)
      (s.landTracks t { r with trunc := trunc }).writeBack t.part false

/-- Cycles that the uncontended time of a descriptor gains from what it did: refined and cut tiles, features, updates (R323, R332,
R343). -/
def State.facetExtra (s : State) (r : FacetRun) : Nat :=
  let b := r.bytes
  if isMatch b then
    let n (v : Nat) : Nat := (r.tiles.filter (fun e => decide (e.2 = v))).length
    n 1 * matchTile b + (if mCutMode b then n 2 * 48 else 0)
  else if fType b = 0x20 then 8 * min (allFeats s.facetRd b).length (dMaxFeat b)
  else if fType b = 0x21 then ceilDiv (s.featCount b * 40) 64 + max r.cost (ceilDiv (r.updates * 125) 32)
  else 0

/-- Has the active descriptor stalled, and is the time that it takes with its stalls not over (R298; log 74)? -/
def State.stalling (s : State) (e : Nat) (r : FacetRun) : Bool :=
  decide (r.stalls e s.now ≠ 0) && decide (s.now < r.since + (facetCycles r.bytes + s.facetExtra r) + r.stalls e s.now)

/-- A descriptor whose work has landed: its counts, its flag with DONE, and the next descriptor or the task's end (R300). -/
def State.facetDone (s : State) (e : Nat) (k : Task) (r : FacetRun) : State :=
  let s := ((s.settleEng e).bump 64 (engIdx e) 2 1).countActive e (((s.settleEng e).eng e).run.getD r) (s.facetExtra r)
  let d := s.draw
  let s := if fType r.bytes = 0x21 then d.2 else s
  let progress := if fType r.bytes = 0x21 then Config.freeNat d.1 % 16384 else r.progress
  let s := s.descFlag k r.bytes progress true false
  let s := s.modTask k.id (fun x => { x with wrote := true })
  let s := if fType r.bytes = 0x21 then s.quotaAfter k.part else s
  if k.stop then (s.setEng e { s.eng e with run := none }).facetStop e
  else if fLast r.bytes then s.engFinish e stOk
  else s.setEng e { s.eng e with seq := (s.eng e).seq + 1, run := none }

/-- FACET_DESCRIPTOR_END: what remains of the descriptor lands, the flag shows DONE, and the next descriptor or the task's end follows
(R300). A stop or a fault ends the task instead. -/
def execFacetDescriptorEnd (t : Nat) (e : EngId) (s : State) : Out :=
  whileLive t s (fun s =>
    match s.engTask e.val, (s.eng e.val).run with
    | some k, some r0 =>
      let st := s.facetFault e.val
      if s.engWaits e.val then s
      else if st ≠ stOk then (s.facetAbort e.val st).quotaAfter k.part
      else if k.stop && (isMatch r0.bytes || decide (fType r0.bytes = 0x21)) then
        (s.facetStop e.val).quotaAfter k.part
      else if !s.facetReady k r0 || s.stalling e.val r0 then s
      else
        let s := s.landRest e.val k
        match (s.eng e.val).run with
        | none => s
        | some r =>
          s.facetDone e.val k r
    | _, _ => s)

end Sys2Proof.Machine
end

