-- ==== Sys2Proof/Machine/FrontEnd.lean ====
section
/-! DEFINITION. The front-ends (10 R254–R267): correction of rows, statistics, the record, the glint rows (09 R247–R249), the in-line
ring. -/

namespace Sys2Proof.Machine

/-! ### The correction (R254–R258) -/

/-- The columns of the left and right neighbours, reflected at the edges (R257). -/
def dpcSides (w x : Nat) : Nat × Nat :=
  let l := if x < 2 then x + 2 else x - 2
  let r := if w ≤ x + 2 then x - 2 else x + 2
  (min l (w - 1), min r (w - 1))

/-- The median of three values. -/
def median3 (a b c : Int) : Int := max (min a b) (min (max a b) c)

/-- Defective-pixel correction of a pixel (R257): its value and whether it was replaced. `up` is the row two above, empty for the
first two rows. -/
def dpcPixel (k : Coef) (static : Bool) (row up : List Int) (x y : Nat) : Int × Bool :=
  let s := dpcSides row.length x
  let at' (r : List Int) (i : Nat) : Int := r.getD i 0
  let d := at' row x
  let l := at' row s.1
  let r := at' row s.2
  let ns := if y < 2 then [l, r] else [l, r, at' up s.1, at' up x, at' up s.2]
  let hi := ns.foldl max l
  let lo := ns.foldl min l
  let bad := (k.dpc && (decide (hi + k.hi < d) || decide (d < lo - k.lo))) || static
  if bad then ((if y < 2 then (l + r + 1) / 2 else median3 l r (at' up x)), true) else (d, false)

/-- The lens-shading gain (R258). -/
def lscGain (k : Coef) (c x y : Nat) : Nat :=
  let g (w x : Nat) : Nat × Nat :=
    let v := if 1 < w then x * 32 * 65536 / (w - 1) else 0
    if v / 65536 = 32 then (31, 65536) else (v / 65536, v % 65536)
  let i := g k.w x
  let j := g k.h y
  let node (a b : Nat) : Nat := leNat (slice k.grid (((c * 33 + b) * 33 + a) * 2) 2)
  let v := node i.1 j.1 * (65536 - i.2) * (65536 - j.2) + node (i.1 + 1) j.1 * i.2 * (65536 - j.2)
    + node i.1 (j.1 + 1) * (65536 - i.2) * j.2 + node (i.1 + 1) (j.1 + 1) * i.2 * j.2
  (v + 2 ^ 31) / 2 ^ 32

/-- The CFA position of a pixel (R254). -/
def cfaPos (x y : Nat) : Nat := 2 * (y % 2) + x % 2

/-- Is a position green under a CFA_ORDER (R256)? -/
def isGreen (order c : Nat) : Bool :=
  if order = 0 ∨ order = 3 then decide (c = 1) || decide (c = 2) else if order = 4 then true else decide (c = 0) || decide (c = 3)

/-- Black-level-subtracted values of a row (R256). -/
def blackRow (k : Coef) (y : Nat) (px : List Nat) : List Int :=
  (List.range px.length).map (fun x => (px.getD x 0 : Int) - (k.bl.getD (cfaPos x y) 0 : Nat))

/-- A corrected row and the number of pixels replaced (R254). A glint row has no static list and a gain of 1.0. -/
def correctRow (k : Coef) (glint : Bool) (y : Nat) (px : List Nat) (up : List Int) : List Nat × Nat :=
  let row := blackRow k y px
  let out := (List.range px.length).map (fun x =>
    let static := !glint && k.static && k.defects.any (fun e => decide (e = (x, y)))
    let d := dpcPixel k static row up x y
    let gain := if glint || !k.lsc then 0x1000 else lscGain k (cfaPos x y) x y
    let v := (d.1 * gain + 2048) / 4096 + k.ped
    ((max 0 (min v (2 ^ k.bits - 1))).toNat, d.2))
  (out.map (fun o => o.1), (out.filter (fun o => o.2)).length)

/-! ### Glint rows (R247, R249) -/

/-- Pixel `i` of glint row `g` (R247). -/
def glintPixel (st g tick i bits : Nat) : Nat :=
  let x := (0x9e3779b1 * (st * 256 + g * 16 + tick % 16) + i * 0x85ebca77) % 2 ^ 32
  let x := Nat.xor x (x / 2 ^ 15)
  let x := x * 0x2c1b3c6d % 2 ^ 32
  let x := Nat.xor x (x / 2 ^ 12)
  x % 2 ^ bits

/-- A glint row. -/
def glintRow (st g tick bits : Nat) : List Nat := (List.range 256).map (fun i => glintPixel st g tick i bits)

/-- The expected signature of a stream for an intake tick under a frame's coefficients (R249). The rows stand at y = 0 and 1. -/
def glintExpected (k : Coef) (st tick : Nat) : Nat :=
  crc32 (([0, 1].flatMap (fun g => (correctRow k true g (glintRow st g tick k.bits) []).1)).flatMap (leBytes 2))

/-! ### Statistics (R259, R260) -/

/-- A row's measures added to a frame's sums. -/
def addStats (f : Frame) (y : Nat) (received out : List Nat) : Frame :=
  let k := f.coef
  let clip := if k.clip = 0 then 2 ^ k.bits - 1 else k.clip
  let add (w : Nat) (m : KMap Nat) (i n : Nat) : KMap Nat := kput m i (satAdd w (kget 0 m i) n)
  (List.range out.length).foldl (fun f x =>
    let c := cfaPos x y
    let o := out.getD x 0
    let zone := y * 16 / max 1 k.h * 16 + x * 16 / max 1 k.w
    let z := add 32 f.zones (zone * 8 + c) o
    let z := if isGreen k.cfa c && decide (2 ≤ x) then add 32 z (zone * 8 + 4) ((o : Int) - out.getD (x - 2) 0).natAbs else z
    let z := if clip ≤ received.getD x 0 then add 16 z (zone * 8 + 5) 1 else z
    { f with zones := z, hist := add 32 f.hist (o / 2 ^ (k.bits - 8)) 1 }) f

/-- The intake status word of a frame (R246). -/
def Frame.status (f : Frame) : Nat := f.flags % 65536 + 65536 * min f.padRows 4095

/-- The statistics record of a frame (R260). -/
def statsRecord (st : Nat) (f : Frame) : List Byte :=
  let g (i : Nat) : Nat := kget 0 f.zones i
  let head := leBytes 4 f.number ++ leBytes 4 f.status ++ leBytes 8 f.tick ++ leBytes 2 f.sensor ++ leBytes 1 st ++ leBytes 1 f.coef.cfa
    ++ leBytes 2 f.coef.w ++ leBytes 2 f.coef.h ++ leBytes 8 f.fsTime ++ leBytes 8 f.feTime ++ leBytes 4 f.defects ++ zeros 16
  let zones := (List.range 256).flatMap (fun z =>
    leBytes 4 (g (8 * z)) ++ leBytes 4 (g (8 * z + 1)) ++ leBytes 4 (g (8 * z + 2)) ++ leBytes 4 (g (8 * z + 3)) ++ leBytes 4 (g (8 * z + 4))
      ++ leBytes 2 (g (8 * z + 5)) ++ zeros 2)
  let hist := (List.range 256).flatMap (fun i => leBytes 4 (kget 0 f.hist i))
  head ++ leBytes 4 (crc32 (head ++ zones ++ hist)) ++ zones ++ hist

/-! ### Frames in the stream's state -/

/-- A frame of a stream replaced by its new form. -/
def State.putFrame (s : State) (st : Nat) (f : Frame) : State :=
  let x := s.stream st
  let swap (g : Frame) : Frame := if g.tick = f.tick ∧ g.fsTime = f.fsTime then f else g
  s.setStream st { x with cur := x.cur.map swap, late := x.late.map swap }

/-- The frame that a row job belongs to: the oldest of its intake tick with rows or glint rows to come. -/
def State.jobFrame (s : State) (j : RowJob) : Option Frame :=
  let x := s.stream j.stream
  (x.late ++ x.cur.toList).find? (fun f => decide (f.tick = j.tick) &&
    (match j.glint with
     | some _ => decide (f.glint = 1)
     | none => decide (f.done < f.coef.h)))

/-- Has the stream a frame that still needs the front-end, its record or its glint check? Frames that do not leave `late`. -/
def Frame.over (f : Frame) : Bool := f.ended && f.record && (decide (f.glint = 0) || decide (f.glint = 3))

/-- Frames that are over leave the stream's state. -/
def State.dropOver (s : State) (st : Nat) : State :=
  let x := s.stream st
  s.setStream st { x with late := x.late.filter (fun f => !f.over) }

/-! ### The in-line ring (R267) -/

/-- The source rows that line `i` of a descriptor reads in a port's in-line window, of those that a stripe's input holds (R265). -/
def windowRows (pitch lag top : Nat) (b : List Byte) (i : Nat) : List Nat :=
  let x := srcSide b
  let a := lineStart x i
  if a < 0x1000000 then []
  else
    let first := (a.toNat - 0x1000000) / max 1 pitch
    let last := (a.toNat + x.line - 1 - 0x1000000) / max 1 pitch
    ((List.range (last + 1 - first)).filter (fun k => decide (first + k < top + lag + 32))).map (fun k =>
      reflectRow top (((first + k : Nat) : Int) - 32))

/-- Has the stripe transfer `t` still to read source row `r` of port `n`'s in-line window: in a line that a descriptor has still to request, or
whose request has not returned? -/
def State.rowNeeded (s : State) (n r : Nat) (t : Task) : Bool :=
  let slot := ((s.inlineOf n).map (fun x => x.2)).getD (slotOf [] 0)
  let x := (((List.range 32).map (s.chan 5)).find? (fun x => decide (x.task = some t.id))).getD chan0
  let reads (b : List Byte) (open' : Nat → Nat → Bool) : Bool :=
    let y := srcSide b
    decide (y.kind = 6) && decide (y.core = n) && decide (dType b ≠ 0) &&
      (List.range y.lines).any (fun i => open' (y.line * i) (y.line * (i + 1))
        && decide (r ∈ windowRows slot.pitch (slot.haloRows / 2) (s.ringHeight n t.tick) b i))
  let running (d : Desc) : Bool := reads d.bytes (fun lo hi => decide (d.rPos < hi)
    || x.reqs.any (fun q => !q.write && decide (q.seq = d.seq) && decide (q.pos < hi) && decide (lo < q.pos + q.len)))
  !t.ended && (x.live.any running || (s.chain chainMax t.prog).any (fun b =>
    (x.live.getLast?.all (fun d => decide (d.seq < dSeq b))) && reads b (fun _ _ => true)))

/-- Rows of the ring that no stripe transfer has still to read leave it. -/
def State.trimRing (s : State) (n : Nat) : State :=
  let p := s.port n
  let ts := s.tasks.filter (fun t => decide (t.node.phase = 6) && decide (t.node.kind = 10) && decide (t.node.res = 0x35)
    && t.maint.isNone)
  s.setPort n { p with ring := p.ring.filter (fun e => ts.any (fun t => decide (t.tick = e.1 / 1048576) && s.rowNeeded n (e.1 % 1048576) t)) }

/-! ### A row leaves the front-end (R254, R259, R266, R267) -/

/-- Bytes of the line memory that lines hold while they wait (R231). -/
def PortSt.held (p : PortSt) : Nat := p.work.foldl (fun a j => a + j.bytes) 0

/-- OD 203n.0F brought up to date: lines that wait, and in-line rows in the ring (R231, R252, R267). -/
def State.markPeak (s : State) (n : Nat) : State :=
  let p := s.port n
  let use := p.held + p.ring.length * ((s.inlineOf n).map (fun x => x.2.pitch)).getD 0
  if s.reg (0x2030 + n) 15 < use then s.setReg (0x2030 + n) 15 use else s

/-- The pixels of a row job as the front-end receives them (R245): padded on the right, cut, or a row of the pad value. -/
def jobPixels (k : Coef) (st : Nat) (j : RowJob) : List Nat :=
  match j.glint with
  | some g => glintRow st g j.tick k.bits
  | none =>
    match j.line with
    | none => List.replicate k.w k.pad
    | some b =>
      let px := (unpackRow k.bits b).take k.w
      px ++ List.replicate (k.w - px.length) k.pad

/-- A front-end writes to LPDDR5 through its channel of DMA5, whose bytes count (R226, R266). -/
def State.fePut (s : State) (addr : Nat) (bs : List Byte) : State :=
  ((s.touchCtx false addr bs.length).ddrWrite addr bs).bump 64 0x5415 2 bs.length

/-- A row corrected, measured and stored. Rows filled in after a cut are not measured (R268). -/
def State.feRow (s : State) (n : Nat) (j : RowJob) (f : Frame) : State :=
  let k := f.coef
  let px := jobPixels k j.stream j
  match j.glint with
  | some g => if g = 1 then s.putFrame j.stream { f with glint := 2 } else s
  | none =>
    let y := f.done
    let o := correctRow k false y px (if y < 2 then [] else f.up2)
    let g := if y < f.cutRows then addStats f y px o.1 else f
    let g := { g with done := y + 1, defects := satAdd 32 g.defects o.2, up1 := blackRow k y px, up2 := f.up1,
                      feTime := s.now }
    let row := packRow k.bits o.1
    let s := s.putFrame j.stream g
    if f.inl then
      let p := s.port n
      (s.setPort n { p with ring := kput p.ring (ringKey f.tick y) row }).markPeak n
    else if f.rawAt = 0 then s
    else s.fePut (f.rawAt + y * f.pitch) row

/-- The next row job of a port taken: the head of its queue. An in-line row waits while the ring of 32 rows is full, and the port's
front-end waits with it (R267). -/
def State.feTake (s : State) (n : Nat) : State :=
  match (s.port n).work with
  | [] => s
  | j :: rest =>
    match s.jobFrame j with
    | none => s.setPort n { s.port n with work := rest }
    | some f =>
      let s := if f.inl && j.glint.isNone then s.trimRing n else s
      if f.inl && j.glint.isNone && decide (32 ≤ (s.port n).ring.length) then
        s.setPort n { s.port n with stalled := some ((s.port n).stalled.getD s.now) }
      else (s.setPort n { s.port n with work := rest }).feRow n j f

/-- FE_ROW_DONE: the row at the head of the port's front-end is corrected; the row is stream `st`'s (R254–R267). -/
def execFeRowDone (t : Nat) (st : StreamId) (s : State) : Out :=
  whileLive t s (fun s =>
    let n := st.val / 4
    match (s.port n).work with
    | j :: _ => if j.stream ≠ st.val ∨ (s.port n).stalled.isSome ∨ (s.chan 5 n).halted then s else s.feTake n
    | [] => s)

/-- INLINE_RING_ROOM: a row has left the full ring, and the front-end takes rows again; RING_STALLS counts the wait (R267). -/
def execInlineRingRoom (t : Nat) (n : PortId) (s : State) : Out :=
  whileLive t s (fun s =>
    let s := s.trimRing n.val
    match (s.port n.val).stalled with
    | none => s
    | some e =>
      if 32 ≤ (s.port n.val).ring.length then s
      else
        let s := s.setPort n.val { s.port n.val with stalled := none }
        match s.inlineOf n.val with
        | some x => s.bump 64 (stIdx x.1 0x0C) 9 (s.now - e)
        | none => s)

/-- INLINE_WINDOW_READ: a channel of DMA5 that waits on the in-line window or the statistics view issues its read (R267). -/
def execInlineWindowRead (t : Nat) (ch : ChanId) (s : State) : Out :=
  whileLive t s (fun s =>
    match s.readReady 5 ch.val with
    | some (.data d false _ _) =>
      if (srcSide d.bytes).kind = 6 ∧ (s.dma 5).slotAt ≠ some s.now then
        (s.setDma 5 { s.dma 5 with slotAt := some s.now }).issueRead 5 ch.val
      else s
    | _ => s)

/-- STATS_RECORD_WRITE: the record of the stream's oldest frame whose rows have all left the front-end (R260, R261). -/
def execStatsRecordWrite (t : Nat) (st : StreamId) (s : State) : Out :=
  whileLive t s (fun s =>
    let x := s.stream st.val
    match (x.late ++ x.cur.toList).find? (fun f => f.ended && decide (f.coef.h ≤ f.done) && !f.record) with
    | none => s
    | some f =>
      if (s.chan 5 (st.val / 4)).halted then s else
      let b := statsRecord st.val f
      let s := if f.statsAt = 0 then s else s.fePut f.statsAt b
      let s := (s.setBlob (stIdx st.val 0x0B) 5 b).setReg (stIdx st.val 0x0B) 4 f.number
      let s := s.setReg (stIdx st.val 9) 6 f.defects
      (s.putFrame st.val { f with record := true }).dropOver st.val)

/-- The intake status word of a frame changed after its end, wherever it stands: OD status, statistics record, the tick's frames (R246,
R249, R260). -/
def State.restatus (s : State) (st : Nat) (f : Frame) (set : Nat → Nat) : State :=
  let i := stIdx st 1
  let s := if f.ended && decide (s.reg i 2 = f.number) && decide (s.reg i 5 = f.tick) then s.setReg i 4 (set (s.reg i 4)) else s
  let b := s.blob (stIdx st 0x0B) 5
  let s := if f.record && decide (leNat (slice b 0 4) = f.number) then
      (let r := overlay b 4 (leBytes 4 (set (leNat (slice b 4 4))))
       s.setBlob (stIdx st 0x0B) 5 (overlay r 60 (leBytes 4 (crc32 (slice r 0 60 ++ r.drop 64)))))
    else s
  let fix (m : KMap FrameInfo) : KMap FrameInfo :=
    match klook m st with
    | some g => if g.number = f.number then kput m st { g with status := set g.status } else m
    | none => m
  { s with frames := fix s.frames, frames2 := fix s.frames2 }

/-- GLINT_CHECK_LATCH: the CRC that the check unit saw is compared with the expected signature (R249). -/
def execGlintCheckLatch (t : Nat) (st : StreamId) (seen : BitVec 32) (s : State) : Out :=
  whileLive t s (fun s =>
    let x := s.stream st.val
    match (x.late ++ x.cur.toList).find? (fun f => decide (f.glint = 2)) with
    | none => s
    | some f =>
      let want := glintExpected f.coef st.val f.tick
      if want = seen.toNat then (s.putFrame st.val { f with glint := 3 }).dropOver st.val
      else
        let g := { f with glint := 3, flags := putBit f.flags 11 true }
        let s := (s.putFrame st.val g).restatus st.val f (fun w => putBit w 11 true)
        let i := stIdx st.val 3
        let s := (((s.bump 64 i 1 1).setReg i 2 want).setReg i 3 seen.toNat).setReg i 4 f.tick
        (s.raiseEvent 0x43 (s.streamPart st.val) st.val want seen.toNat f.number).dropOver st.val)

end Sys2Proof.Machine
end

