-- ==== Sys2Proof/Machine/EngineBus.lean ====
section
/-! DEFINITION. Bus errors of every channel (R221, R222): the channels of plans and maintenance, and the channels of DMA4 and DMA5 that
carry engine and front-end traffic (R266, R282), whose single requests the model does not hold. -/

namespace Sys2Proof.Machine

/-- The partition of a side channel's work: that of the engine's task, or of the port. -/
def State.sidePart (s : State) (u c : Nat) : Option Nat := if u = 4 then (s.engTask c).map (fun t => t.part) else s.portPart c

/-- No response to a request of an engine or front-end channel: a retry, or the halt of R222. The engine's task is aborted. -/
def State.sideError (s : State) (u c seq : Nat) : State :=
  let e := s.sideReq u c seq (if u = 5 then some true else none)
  let r := e.1
  let s := e.2.bump 64 (0x5410 + u) 5 1
  let x := s.chan u c
  if r.tries < s.reg 0x5400 6 then
    s.setChan u c { x with reqs := [{ r with retryAt := some (s.now + 256 * 2 ^ r.tries) }] }
  else
    let part := s.sidePart u c
    (s.setChan u c { x with reqs := [] }).haltChan u c part r 3 4 (fun s =>
      match (if u = 4 then part else none) with
      | some p => (s.facetAbort c stBusError).quotaAfter p
      | none => s)

/-- What the work under way on a side channel is called: task and descriptor of an engine, the tick for a front-end with rows to
write; none where nothing is requested. The second part is when its oldest request can have been issued. -/
def State.sideWork (s : State) (u c : Nat) : Option (Nat × Nat) :=
  if u = 4 then
    match (s.eng c).task, (s.eng c).run with
    | some id, some r => some (65536 * id + (s.eng c).seq, r.since)
    | _, _ => none
  else if (s.port c).work = [] then none
  else some (s.tickCount, s.tick.lastEdge.getD 0)

/-- DMA_BUS_ERROR: the response to the oldest request that it can befall (R221). Engine and front-end traffic stays within the
partition's granules, which lie within the capacity, and so meets no decode error. -/
def execDmaBusError (t : Nat) (u : DmaId) (ch : ChanId) (cause : BitVec 8) (s : State) : Out :=
  whileLive t s (fun s => s.chanBusError u.val ch.val cause.toNat)

/-- DMA_BUS_TIMEOUT: a request without a response within 131,072 cycles (R221). -/
def execDmaBusTimeout (t : Nat) (u : DmaId) (ch : ChanId) (s : State) : Out :=
  whileLive t s (fun s =>
    if ch.val ∈ planChans u.val then
      (if (s.reshardAt u.val ch.val).isSome then s.reshardTimeout u.val ch.val else s.chanTimeout u.val ch.val)
    else
      match s.sideWork u.val ch.val with
      | none => s
      | some w =>
        match (s.chan u.val ch.val).reqs.find? (fun r => decide (r.seq = w.1)) with
        | none => if w.2 + 131072 ≤ s.now then s.sideError u.val ch.val w.1 else s
        | some r =>
          if r.retryAt.isNone ∧ r.issued + 131072 ≤ s.now then s.sideError u.val ch.val w.1 else s)

end Sys2Proof.Machine
end

