-- ==== Sys2Proof/Machine/Port.lean ====
section
/-! DEFINITION. The sensor ports (09 R228–R249): lanes and states, packets, streams, frames made whole. -/

namespace Sys2Proof.Machine

/-! ### Lanes (R229, R235) -/

/-- Physical positions that a PHY_CONFIG uses (R229). -/
def cfgPositions (cfg : Nat) : Nat :=
  if cfg = 1 ∨ cfg = 4 then 1 else if cfg = 2 ∨ cfg = 5 then 2 else if cfg = 3 then 4 else if cfg = 6 then 3 else 0

/-- Is lane code `i` (0 the clock, 1 to 4 positions 0 to 3) in use? -/
def laneUsed (cfg i : Nat) : Bool :=
  if i = 0 then decide (1 ≤ cfg) && decide (cfg ≤ 3) else decide (i ≤ cfgPositions cfg)

/-- The lane code `i` of LANE_STATE (R235). -/
def laneCode (w i : Nat) : Nat := w / 8 ^ i % 8

/-- LANE_STATE with code `i` set. -/
def setLane (w i c : Nat) : Nat := w - laneCode w i * 8 ^ i + c * 8 ^ i

/-- LANE_STATE after a configuration: UNUSED on what is not used, OK where the port has seen activity since it left OFF, as `old` says, else
NOT_SEEN; off, NOT_SEEN everywhere. -/
def freshLanes (cfg old : Nat) : Nat :=
  (List.range 5).foldl (fun w i =>
    w + (if cfg = 0 then 6 else if !laneUsed cfg i then 5 else if laneCode old i = 0 then 0 else 6) * 8 ^ i) 0

/-- PHY_CONFIG and port state. -/
def State.phy (s : State) (n : Nat) : Nat := s.reg (0x2030 + n) 1
def State.portState (s : State) (n : Nat) : Nat := s.reg (0x2030 + n) 6

/-- Activity seen on every position in use: NOT_SEEN becomes OK. -/
def State.seeLanes (s : State) (n : Nat) : State :=
  let w := s.reg (0x2030 + n) 8
  s.setReg (0x2030 + n) 8 ((List.range 5).foldl (fun w i => if laneUsed (s.phy n) i ∧ laneCode w i = 6 then setLane w i 0 else w) w)

/-- Streams of a port. -/
def portStreams (n : Nat) : List Nat := (List.range 4).map (fun k => 4 * n + k)

/-- State of a stream. -/
def State.streamState (s : State) (st : Nat) : Nat := s.reg (stIdx st 1) 1
def State.setStreamState (s : State) (st v : Nat) : State := s.setReg (stIdx st 1) 1 v

/-- A port enters a state (R240): its terminations are on in ACQUIRING and LOCKED alone (R492); WAITING streams are ABSENT while it is not LOCKED, ABSENT ones wait once it is (R241); the map
holds until it leaves LOCKED (R232). -/
def State.enterPort (s : State) (n v : Nat) : State :=
  let old := s.portState n
  let s := (s.setReg (0x2030 + n) 6 v).setPort n { s.port n with term := decide (v = 2) || decide (v = 3) }
  let s := if old = 3 ∧ v ≠ 3 then
      ((portStreams n).foldl (fun s st => if s.streamState st = 2 then s.setStreamState st 1 else s) s).setReg (0x2030 + n) 7 0
    else s
  let s := if v = 3 then (portStreams n).foldl (fun s st => if s.streamState st = 1 then s.setStreamState st 2 else s) s else s
  if v = 3 then s else s.setPort n { s.port n with maps := [], headers := 0 }

/-! ### Frames (R242–R246) -/

/-- How a frame ends (R245). -/
inductive FrameEnd where
  | fe | noFe | cut | linkLost
  deriving DecidableEq, Repr

/-- The flag of an ending, by bit of the intake status word. -/
def endBit : FrameEnd → Nat
  | .fe => 2
  | .noFe => 4
  | .cut => 1
  | .linkLost => 10

/-- A frame's flag set. -/
def Frame.flag (f : Frame) (i : Nat) : Frame := { f with flags := putBit f.flags i true }

/-- The stream's frame in progress changed. -/
def State.modCur (s : State) (st : Nat) (g : Frame → Frame) : State :=
  let x := s.stream st
  s.setStream st { x with cur := x.cur.map g }

/-- Row jobs queued behind those that wait, or ahead of them for glint rows (R247). -/
def State.queueRows (s : State) (n : Nat) (js : List RowJob) : State :=
  let p := s.port n
  s.setPort n { p with work := p.work ++ js }
def State.queueGlint (s : State) (n : Nat) (js : List RowJob) : State :=
  let p := s.port n
  s.setPort n { p with work := p.work.filter (fun j => j.glint.isSome) ++ js ++ p.work.filter (fun j => j.glint.isNone) }

/-- A further ending in the cycle in which the stream's frame has ended (R245): its flag joins the others. SHORT_FRAME and CUT apply where
rows were missing, and a CUT withdraws the glint check (R248, log 73). -/
def State.endAlso (s : State) (st : Nat) (how : FrameEnd) : State :=
  let x := s.stream st
  match x.late.find? (fun f => f.ended && decide (f.endAt = s.now)) with
  | none => s
  | some f =>
    if f.flags.testBit (endBit how) ∨ how = .noFe ∨ (f.coef.h ≤ f.took ∧ how ≠ .linkLost) then s
    else
      let set (w : Nat) : Nat := putBit (if how = .cut then putBit w 14 true else w) (endBit how) true
      let p := s.port (st / 4)
      let s := if how = .cut then
          s.setPort (st / 4) { p with work := p.work.filter (fun j => !(j.glint.isSome && decide (j.stream = st) && decide (j.tick = f.tick))) }
        else s
      let g := if how = .cut then { f with glint := 0, cutRows := f.took } else f
      let s := (s.putFrame st { g with flags := set f.flags }).restatus st f set
      let c := stIdx st 2
      let s := if how = .cut then s.bump 64 c 3 1 else if how = .fe ∧ f.flags.testBit 4 = false then s.bump 64 c 4 1 else s
      s.dropOver st

/-- The end of the frame in progress (R245–R248): missing rows padded, flags, counters, glint rows or GLINT_NONE. -/
def State.endFrame (s : State) (st : Nat) (how : FrameEnd) : State :=
  let x := s.stream st
  match x.cur with
  | none => s.endAlso st how
  | some f =>
    let rest := f.coef.h - f.taken
    let f := if 0 < rest ∨ how ≠ .fe then f.flag (endBit how) else f
    let f := if how = .cut then f.flag 14 else f
    let f := { f with padRows := f.padRows + rest, ended := true, endAt := s.now, took := f.taken, taken := f.coef.h, cutRows := if how = .cut then f.taken else f.coef.h,
                      glint := if how = .cut then 0 else 1 }
    let pads := List.replicate rest ({ stream := st, tick := f.tick, line := none, glint := none, bytes := 0 } : RowJob)
    let s := s.queueRows (st / 4) pads
    let s := if how = .cut then s else s.queueGlint (st / 4) ([0, 1].map (fun g =>
      ({ stream := st, tick := f.tick, line := none, glint := some g, bytes := 0 } : RowJob)))
    let s := s.setStream st { x with cur := none, late := x.late ++ [f] }
    let i := stIdx st 1
    let s := ((((s.setReg i 2 f.number).setReg i 3 f.sensor).setReg i 4 f.status).setReg i 5 f.tick).setReg i 6 f.rxW
    let s := s.setReg i 7 (min f.rows 65535)
    let c := stIdx st 2
    let s := s.bump 64 c 1 1
    let s := if f.flags.testBit 1 then s.bump 64 c 3 1 else s
    let s := if f.flags.testBit 2 ∨ f.flags.testBit 4 then s.bump 64 c 4 1 else s
    let s := if f.flags.testBit 3 then s.bump 64 c 5 1 else s
    if f.flags.testBit 12 then s.bump 64 c 10 1 else s

/-- Extension of a CSI-2 frame number (R243): the number, GAP, RESET. -/
def extendFn (ext prev fn : Nat) : Nat × Bool × Bool :=
  let one := (ext + 1) % 2 ^ 32
  if fn = 0 ∨ prev = 0 then (one, false, false)
  else if fn = 1 ∧ prev ≠ 0xFFFF then (one, false, true)
  else
    let d := (fn + 65536 - prev) % 65536
    let d := if fn < prev then (d + 65535) % 65536 else d
    if d = 1 then (one, false, false)
    else if 2 ≤ d ∧ d < 256 then ((ext + d) % 2 ^ 32, true, false)
    else (one, false, true)

/-- An expected dimension: the slot's where 0 or larger (R244). -/
def expectDim (v slot : Nat) : Nat := if v = 0 ∨ slot < v then slot else v

/-- The entries of a defect list (R257). -/
def defectList (b : List Byte) : List (Nat × Nat) :=
  (List.range (b.length / 4)).map (fun i => (leNat (slice b (4 * i) 2), leNat (slice b (4 * i + 2) 2)))

/-- The coefficients in force for a stream, as its frame latches them (R255). -/
def State.coefOf (s : State) (st : Nat) (slot : Slot) : Coef :=
  let b := 0x4000 + 0x40 * st
  { bits := slot.bits, w := expectDim (s.reg b 3) slot.width, h := expectDim (s.reg b 4) slot.height,
    pad := s.reg (0x2030 + st / 4) 5 % 2 ^ slot.bits, cfa := s.reg (b + 8) 1, bl := [2, 3, 4, 5].map (fun i => s.reg (b + 8) i),
    ped := s.reg (b + 8) 6, dpc := decide (s.reg (b + 9) 1 = 1), hi := s.reg (b + 9) 2, lo := s.reg (b + 9) 3,
    static := decide (s.reg (b + 9) 4 = 1), defects := defectList (s.blob (b + 9) 5), lsc := decide (s.reg (b + 10) 1 = 1),
    grid := s.blob (b + 10) 2, clip := s.reg (b + 0x0B) 1 }

/-- A frame opened (R242–R245, R255): the stream becomes ACTIVE, its number is extended, its coefficients are latched. -/
def State.openFrame (s : State) (st fn : Nat) (slot : Slot) (buf : BufRec) : State :=
  let s := s.endFrame st .noFe
  let n := st / 4
  let i := stIdx st 1
  let x := extendFn (s.reg i 2) (s.reg i 3) fn
  let k := s.coefOf st slot
  let odd := s.tickCount.testBit 0
  let first := decide (s.streamState st ≠ 3)
  let f : Frame :=
    { number := x.1, sensor := fn, tick := s.tickCount, fsTime := s.now, feTime := 0,
      flags := b2n first + 4096 * b2n x.2.1 + 8192 * b2n x.2.2, padRows := 0, rows := 0, taken := 0, rxW := 0, ended := false,
      inl := slot.inl, coef := k, done := 0, up1 := [], up2 := [], zones := [], hist := [], defects := 0, record := false, glint := 0,
      cutRows := k.h, rawAt := if odd then buf.rawB else buf.rawA, statsAt := if odd then buf.statsB else buf.statsA, pitch := slot.pitch,
      endAt := 0, took := 0 }
  let s := s.setStream st { s.stream st with cur := some f, seen := true, h := k.h }
  let s := if slot.inl then
      s.setPort n { s.port n with ring := (s.port n).ring.filter (fun e => decide (e.1 / 1048576 ≠ s.tickCount)), ringTick := s.tickCount,
                                  ringTop := k.h }
    else s
  let s := if slot.inl then
      (match (s.streamPart st).bind (fun p => s.intakePlan p) with
       | some pl => (s.tasks.filter (fun t => decide (t.part = pl.part) && !t.old && decide (t.tick = s.tickCount) && t.maint.isNone
           && t.ring.isNone && decide (t.num ∈ idleStripes pl st k.h))).foldl (fun s t => s.endIdle t.id) s
       | none => s)
    else s
  if first then
    ((s.setStreamState st 3).bump 32 (stIdx st 2) 11 1).raiseEvent 0x41 (s.streamPart st) st x.1 0 0
  else s

/-! ### Packets (R232, R237–R239) -/

/-- The stream that takes a virtual channel: the lowest-numbered enabled one that names it, or one whose frame is under way (R237,
R242). -/
def State.streamOf (s : State) (n vc : Nat) : Option Nat :=
  (portStreams n).find? (fun st =>
    let b := 0x4000 + 0x40 * st
    (decide (s.reg b 1 = 1) || (s.stream st).cur.isSome) && decide (s.reg b 2 = vc))

/-- A packet while the port acquires (R232): two headers in a row and then a long packet under one map lock the port. -/
def State.acquire (s : State) (n : Nat) (pk : Packet) (long crcOk : Bool) : State :=
  let s := s.seeLanes n
  let p := s.port n
  let ms := pk.maps.map (fun m => m.toNat)
  let both := if p.headers = 0 then ms else p.maps.filter (fun m => decide (m ∈ ms))
  if pk.hdr ≠ .clean ∨ both.isEmpty = true then s.setPort n { p with maps := ms, headers := if pk.hdr = .clean ∧ ms.isEmpty = false then 1 else 0 }
  else if long ∧ 2 ≤ p.headers + 1 then
    (if crcOk then
      (s.setReg (0x2030 + n) 7 (both.foldl min (both.headD 0))).enterPort n 3
    else s.setPort n { p with maps := [], headers := 0 })
  else s.setPort n { p with maps := both, headers := p.headers + 1 }

/-- A packet of a LOCKED port past its header check: the stream it belongs to, with the slot and buffers of the plan that takes in, where
there is one (R237, R239, R242). -/
def State.packetFor (s : State) (n : Nat) (pk : Packet) : State × Option (Nat × Option (Slot × BufRec)) :=
  if pk.hdr = .bad then
    let s := s.bump 64 (0x2030 + n) 10 1
    ((portStreams n).foldl (fun s st => s.modCur st (fun f => f.flag 8)) s, none)
  else
    let s := if pk.hdr = .corrected then s.bump 64 (0x2030 + n) 9 1 else s
    match s.streamOf n pk.vc.val with
    | none => (s.bump 64 (0x2030 + n) 14 1, none)
    | some st =>
      (s, some (st, ((s.streamPart st).bind (fun p => s.intakePlan p)).map (fun pl =>
        (pl.slots.getD st (slotOf [] 0), pl.bufs.getD st (bufOf [] 0)))))

/-- A packet at a port: acquisition, or `f` for the stream of a LOCKED port. What its burst failed to sync on is counted (R230, R252). -/
def State.packet (s : State) (n : Nat) (pk : Packet) (long crcOk : Bool) (f : State → Nat → Option (Slot × BufRec) → State) : State :=
  if s.portState n = 2 then (s.bump 64 (0x2030 + n) 11 pk.sot.val).acquire n pk long crcOk
  else if s.portState n ≠ 3 then s
  else
    match (s.bump 64 (0x2030 + n) 11 pk.sot.val).packetFor n pk with
    | (s, none) => s
    | (s, some x) => f s x.1 x.2

/-- A Frame Start at a port (R238, R242–R245, R255). -/
def State.frameStart (s : State) (n : Nat) (pk : Packet) (fn : BitVec 16) : State :=
  s.packet n pk false true (fun s st taking =>
    let s := s.setStream st { s.stream st with fs := some fn.toNat }
    match taking with
    | some x => if s.reg (0x4000 + 0x40 * st) 1 = 1 then s.openFrame st fn.toNat x.1 x.2 else s
    | none => s)

/-- FRAME_START. One that ends in the cycle of a tick edge belongs to the tick that the edge begins, and waits for it (R18). -/
def execFrameStart (t : Nat) (n : PortId) (pk : Packet) (fn : BitVec 16) (s : State) : Out :=
  whileLive t s (fun s =>
    if s.edgeDue then s.setPort n.val { s.port n.val with early := (s.port n.val).early ++ [(pk, fn)] } else s.frameStart n.val pk fn)

/-- FRAME_END: ends the frame; a frame whose Frame Start the port did not receive counts in DISCARDED (R242, R245). -/
def execFrameEnd (t : Nat) (n : PortId) (pk : Packet) (fn : BitVec 16) (s : State) : Out :=
  whileLive t s (fun s => s.packet n.val pk false true (fun s st _ =>
    let had := decide ((s.stream st).fs = some fn.toNat) || (s.stream st).cur.isSome
    let s := (s.setStream st { s.stream st with fs := none }).endFrame st .fe
    if had then s else s.bump 64 (stIdx st 2) 2 1))

/-- LINE_START_END: accepted and ignored (R238). -/
def execLineStartEnd (t : Nat) (n : PortId) (pk : Packet) (_isEnd : Bool) (_line : BitVec 16) (s : State) : Out :=
  whileLive t s (fun s => s.packet n.val pk false true (fun s _ _ => s))

/-- A line of a frame in progress (R231, R238, R239, R245). -/
def State.takeLine (s : State) (st : Nat) (f : Frame) (payload : List Byte) (crcOk : Bool) : State :=
  let n := st / 4
  let k := f.coef
  let g := rawGroup k.bits
  let whole := payload.length / g.1 * g.2
  let f := { f with rows := f.rows + 1, rxW := max f.rxW (min 65535 (payload.length * 8 / k.bits)) }
  if k.h ≤ f.taken then s.modCur st (fun _ => f.flag 3)
  else
    let c := stIdx st 2
    let pad : RowJob := { stream := st, tick := f.tick, line := none, glint := none, bytes := 0 }
    let f := { f with taken := f.taken + 1 }
    if !crcOk then
      ((s.modCur st (fun _ => { f.flag 7 with padRows := f.padRows + 1 })).bump 64 c 8 1).queueRows n [pad]
    else if 262144 - s.ringBytes n < (s.port n).held + payload.length then
      ((s.modCur st (fun _ => { f.flag 9 with padRows := f.padRows + 1 })).bump 64 (0x2030 + n) 13 1).queueRows n [pad]
    else
      let short := decide (whole < k.w) || decide (payload.length % g.1 ≠ 0)
      let long := decide (k.w < whole)
      let f := if short then f.flag 5 else f
      let f := if long then f.flag 6 else f
      let s := s.modCur st (fun _ => f)
      let s := if short then s.bump 64 c 6 1 else s
      let s := if long then s.bump 64 c 7 1 else s
      (s.queueRows n [{ pad with line := some payload, bytes := payload.length }]).markPeak n

/-- Is a data type the stream's: that of the slot, or without a plan either of the two that a slot can have (R238)? -/
def typeFits (taking : Option (Slot × BufRec)) (dt : Nat) : Bool :=
  match taking with
  | some x => decide (dt = if x.1.bits = 10 then 0x2B else 0x2C)
  | none => decide (dt = 0x2B) || decide (dt = 0x2C)

/-- LONG_PACKET: one line of its stream, or dropped (R232, R238, R239). -/
def execLongPacket (t : Nat) (n : PortId) (pk : Packet) (dt : BitVec 8) (payload : List Byte) (crcOk : Bool) (s : State) : Out :=
  whileLive t s (fun s => s.packet n.val pk true crcOk (fun s st taking =>
    if typeFits taking dt.toNat = false then s.bump 64 (stIdx st 2) 9 1
    else
      match (s.stream st).cur with
      | none => s
      | some f => s.takeLine st f payload crcOk))

/-- GENERIC_SHORT_PACKET: ignored (R238). -/
def execGenericShortPacket (t : Nat) (n : PortId) (pk : Packet) (_dt : BitVec 8) (_data : BitVec 16) (s : State) : Out :=
  whileLive t s (fun s => s.packet n.val pk false true (fun s _ _ => s))

/-- OTHER_SHORT_PACKET: dropped, counted in WRONG_DT (R238). -/
def execOtherShortPacket (t : Nat) (n : PortId) (pk : Packet) (_dt : BitVec 8) (_data : BitVec 16) (s : State) : Out :=
  whileLive t s (fun s => s.packet n.val pk false true (fun s st _ => s.bump 64 (stIdx st 2) 9 1))

/-! ### Port states (R236, R240) -/

/-- Under MAP_LOCK the written map is in force at once: an acquiring port locks with it, a locked one goes on with it (R232). -/
def State.mapWritten (s : State) (n : Nat) : State :=
  if s.reg (0x2030 + n) 3 ≠ 1 then s
  else if s.portState n = 2 then ((s.seeLanes n).setReg (0x2030 + n) 7 (s.reg (0x2030 + n) 4)).enterPort n 3
  else if s.portState n = 3 then s.setReg (0x2030 + n) 7 (s.reg (0x2030 + n) 4)
  else s

/-- PORT_HS_REQUEST: DOWN to ACQUIRING; under MAP_LOCK the written map is in force at once (R232, R240). -/
def execPortHsRequest (t : Nat) (n : PortId) (s : State) : Out :=
  whileLive t s (fun s =>
    if s.portState n.val ≠ 1 then s
    else
      let s := s.setReg (0x2030 + n.val) 8
        (if laneUsed (s.phy n.val) 0 then setLane (s.reg (0x2030 + n.val) 8) 0 0 else s.reg (0x2030 + n.val) 8)
      (s.enterPort n.val 2).mapWritten n.val)

/-- ULPS_ENTRY: LOCKED to DOWN (R240). -/
def execUlpsEntry (t : Nat) (n : PortId) (s : State) : Out :=
  whileLive t s (fun s => if s.portState n.val = 3 then s.enterPort n.val 1 else s)

/-- The streams of a port lose their link: ACTIVE ones are LOST and a frame in progress ends with LINK_LOST (R229, R236). -/
def State.linkLost (s : State) (n : Nat) : State :=
  (portStreams n).foldl (fun s st =>
    let s := if s.streamState st = 3 then (s.setStreamState st 4).bump 32 (stIdx st 2) 12 1 else s
    (if (s.stream st).fs.isSome then s.setStream st { s.stream st with fs := none } else s).endFrame st .linkLost) s

/-- Is every lane in use clear, OK or NOT_SEEN (R236)? -/
def State.lanesClear (s : State) (n : Nat) : Bool :=
  (List.range 5).all (fun k => !laneUsed (s.phy n) k || decide (laneCode (s.reg (0x2030 + n) 8) k = 0)
    || decide (laneCode (s.reg (0x2030 + n) 8) k = 6))

/-- A lane whose fault is over: OK where it is in use, else UNUSED; when every lane in use is clear a faulted port goes to DOWN (R235, R236). -/
def State.clearLane (s : State) (n pos : Nat) : State :=
  let i := 0x2030 + n
  let w := s.reg i 8
  if laneCode w pos = 0 ∨ 5 ≤ laneCode w pos then s
  else
    let s := s.setReg i 8 (setLane w pos (if laneUsed (s.phy n) pos then 0 else 5))
    if s.portState n = 4 ∧ s.lanesClear n = true then s.enterPort n 1 else s

/-- LANE_FAULT: a code of R235 on a position: 1 to 4 on a lane in use puts the port in FAULT (R236), 0 ends the fault of the one lane.
Position 0 is the clock, 1 to 4 are data positions 0 to 3. -/
def execLaneFault (t : Nat) (n : PortId) (pos : Fin 5) (code : Fin 8) (s : State) : Out :=
  whileLive t s (fun s =>
    let i := 0x2030 + n.val
    if 5 ≤ code.val ∨ s.portState n.val = 0 then s
    else if code.val = 0 then s.clearLane n.val pos.val
    else
      let s := s.setReg i 8 (setLane (s.reg i 8) pos.val code.val)
      if !laneUsed (s.phy n.val) pos.val || decide (s.portState n.val = 4) then s
      else
        let s := ((s.bump 32 i 12 1).linkLost n.val).enterPort n.val 4
        s.raiseEvent 0x40 (s.portPart n.val) n.val (s.reg i 8) 0 0)

/-- PORT_RECOVER: every lane in use is clear, and the faulted port goes to DOWN (R236, R240). -/
def execPortRecover (t : Nat) (n : PortId) (s : State) : Out :=
  whileLive t s (fun s =>
    let i := 0x2030 + n.val
    if s.portState n.val ≠ 4 then s
    else
      let w := (List.range 5).foldl (fun w k =>
        if laneUsed (s.phy n.val) k ∧ 1 ≤ laneCode w k ∧ laneCode w k ≤ 4 then setLane w k 0 else w) (s.reg i 8)
      (s.setReg i 8 w).enterPort n.val 1)

/-- A configuration takes effect at an edge: OFF or DOWN, with the effect of R236 on its streams (R229). -/
def State.configPort (s : State) (n : Nat) : State :=
  let s := s.linkLost n
  (s.setReg (0x2030 + n) 8 (freshLanes (s.phy n) (s.reg (0x2030 + n) 8))).enterPort n (if s.phy n = 0 then 0 else 1)

/-- STREAM_LOSS: an ACTIVE stream without a Frame Start in LOSS_TICKS consecutive intake ticks (R242). -/
def execStreamLoss (t : Nat) (st : StreamId) (s : State) : Out :=
  whileLive t s (fun s =>
    let x := s.stream st.val
    if s.streamState st.val = 3 ∧ s.reg (0x4000 + 0x40 * st.val) 5 ≤ x.missed then
      let s := (s.setStream st.val { x with missed := 0, fs := none }).setStreamState st.val 4
      (s.bump 32 (stIdx st.val 2) 12 1).raiseEvent 0x42 (s.streamPart st.val) st.val (s.reg (stIdx st.val 1) 2) 0 0
    else s)

/-! ### At a tick edge (R19, R242, R268) -/

/-- Frames that an edge cuts, with those that end otherwise in its cycle (R19, R245, R248). -/
def State.cutFrames (s : State) : State :=
  (List.range 64).foldl (fun s st => s.endFrame st .cut) s

/-- The front-end completes cut frames at once with pad rows (R268): row jobs of ended ticks are taken while the ring has room. -/
def State.drainFe (s : State) (n : Nat) : Nat → State
  | 0 => s
  | k + 1 =>
    match (s.port n).work with
    | [] => s
    | j :: _ => if j.tick < s.tickCount ∧ (s.port n).stalled.isNone then State.drainFe (s.feTake n) n k else s

/-- Ticks without a Frame Start counted for ACTIVE streams of partitions whose plan takes in (R242); the marks of the tick cleared. -/
def State.countMissed (s : State) : State :=
  (List.range 64).foldl (fun s st =>
    let x := s.stream st
    let takes := ((s.streamPart st).bind (fun p => s.intakePlan p)).isSome
    let m := if s.streamState st = 3 ∧ takes = true then (if x.seen then 0 else x.missed + 1) else x.missed
    if x.seen || decide (m ≠ x.missed) then s.setStream st { x with seen := false, missed := m } else s) s

/-- Frames of ticks before the last two leave the stream's state, whatever they still waited for. -/
def State.dropOldFrames (s : State) : State :=
  (List.range 64).foldl (fun s st =>
    let x := s.stream st
    if x.late.any (fun f => decide (f.tick + 2 < s.tickCount)) then
      s.setStream st { x with late := x.late.filter (fun f => !decide (f.tick + 2 < s.tickCount)) }
    else s) s

/-- The frames that the tick beginning processes: those whose intake tick has ended (R17, R26). -/
def State.shiftFrames (s : State) (ended : Nat) : State :=
  let fresh : KMap FrameInfo := (List.range 64).filterMap (fun st =>
    let i := stIdx st 1
    if s.reg i 5 = ended ∧ 0 < ended then some (st, { number := s.reg i 2, status := s.reg i 4, h := (s.stream st).h }) else none)
  { s with frames2 := s.frames, frames := fresh }

end Sys2Proof.Machine
end

