-- ==== Sys2Proof/Machine/I3c.lean ====
section
/-! DEFINITION. The camera loop (10 R270–R277): templates, control records, bus writes, recovery, address assignment. -/

namespace Sys2Proof.Machine

/-- A controller with nothing to do. -/
def i3c0 : I3cSt :=
  { task := none, turns := [], turn := none, record := [], writes := [], nacked := false, recover := none, pattern := false,
    last := none, dyn := [], dasa := false, hostNew := [], rates := (0, 0) }

/-- Controller `n`. -/
def State.i3c (s : State) (n : Nat) : I3cSt := kget i3c0 s.i3cs n

/-- Controller `n` set. -/
def State.setI3c (s : State) (n : Nat) (x : I3cSt) : State := { s with i3cs := kput s.i3cs n x }

/-- BUS_STATE set (R279). -/
def State.setBus (s : State) (n v : Nat) : State := s.setReg (0x2040 + n) 4 v

/-- Byte `i` of template entry `e` (R273). -/
def tByte (tpl : List Byte) (e i : Nat) : Nat := (tpl.getD (16 * e + i) 0).toNat

/-- The fields of an entry that hold numbers: REG, MIN, MAX. -/
def tReg (tpl : List Byte) (e : Nat) : Nat := leNat (slice tpl (16 * e + 4) 2)
def tMin (tpl : List Byte) (e : Nat) : Int := sgn 32 (leNat (slice tpl (16 * e + 8) 4))
def tMax (tpl : List Byte) (e : Nat) : Int := sgn 32 (leNat (slice tpl (16 * e + 12) 4))

/-- Is a template taken (R273)? -/
def templateOk (tpl : List Byte) : Bool :=
  (List.range 16).all (fun e =>
    let b (i : Nat) : Nat := tByte tpl e i
    if b 0 = 0xFF then (List.range 15).all (fun i => decide (b (i + 1) = 0))
    else decide (b 0 ≤ 11) && decide (b 1 ≤ 4) && (if b 1 = 2 then decide (b 2 ≤ 15) else decide (b 2 ≤ 127)) && decide (b 3 / 16 = 0)
      && decide (b 6 ≤ 31) && decide (b 7 = 0) && (decide (3 ≤ b 1) || decide (tMin tpl e ≤ tMax tpl e)))

/-- Parameter `p` of a control record; whether it is valid (R272). -/
def recParam (r : List Byte) (p : Nat) : Int := sgn 32 (leNat (slice r (8 + 4 * p) 4))
def recValid (r : List Byte) (p : Nat) : Bool := (leNat (slice r 4 4)).testBit p

/-- Is frame number `a` newer than `b` (R262)? -/
def newerFn (a b : Nat) : Bool :=
  let d := (a + 2 ^ 32 - b) % 2 ^ 32
  decide (1 ≤ d) && decide (d ≤ 0x7FFFFFFF)

/-- The value that an entry of MODE 0, 1 or 2 writes, and whether it was clamped (R273). -/
def entryValue (tpl : List Byte) (e : Nat) (r : List Byte) : Int × Bool :=
  let p := recParam r (tByte tpl e 0)
  let v := max (tMin tpl e) (min p (tMax tpl e))
  (v / 2 ^ tByte tpl e 6, decide (v ≠ p))

/-- Is an entry used, and is its parameter valid where it reads one? -/
def entryRuns (tpl : List Byte) (e : Nat) (r : List Byte) : Bool :=
  decide (tByte tpl e 0 ≠ 0xFF) && (decide (3 ≤ tByte tpl e 1) || recValid r (tByte tpl e 0))

/-- The bytes of a bus write: register address, most significant byte first, and data in the order of FORMAT (R273). -/
def writeBytes (tpl : List Byte) (e : Nat) (v : Int) : List Byte :=
  let f := tByte tpl e 3
  let n := f % 4 + 1
  let data := leBytes n (uns (8 * n) v)
  (if f.testBit 3 then beBytes 2 (tReg tpl e) else leBytes 1 (tReg tpl e)) ++ (if f.testBit 2 then data.reverse else data)

/-- The bus writes of a record under a template, in entry order, at the I3C and I2C rates given (R273, R274). -/
def busWrites (rates : Nat × Nat) (tpl r : List Byte) : List BusWrite :=
  ((List.range 16).filter (fun e => entryRuns tpl e r && decide (tByte tpl e 1 ≠ 2))).map (fun e =>
    let m := tByte tpl e 1
    let i2c := decide (m = 1) || decide (m = 4)
    { entry := e, i2c := i2c, rate := if i2c then rates.2 else rates.1, target := tByte tpl e 2,
      bytes := writeBytes tpl e (if 3 ≤ m then tMin tpl e else (entryValue tpl e r).1) })

/-- The MODE 2 values of a record, written into the parameter record as one block (R270, R273). -/
def paramBlock (tpl r : List Byte) : List (Option Byte) :=
  ((List.range 16).filter (fun e => entryRuns tpl e r && decide (tByte tpl e 1 = 2))).foldl (fun b e =>
    let o := 4 * tByte tpl e 2
    b.take o ++ (leBytes 4 (uns 32 (entryValue tpl e r).1)).map some ++ b.drop (o + 4)) (List.replicate 64 none)

/-- Values that the template clamps. -/
def clampCount (tpl r : List Byte) : Nat :=
  ((List.range 16).filter (fun e => entryRuns tpl e r && decide (tByte tpl e 1 ≤ 2) && (entryValue tpl e r).2)).length

/-- The record of a turn applied (step 5 of R274). -/
def State.turnDone (s : State) (n : Nat) : State :=
  let x := s.i3c n
  match x.turn with
  | none => s
  | some u =>
    let i := stIdx u.stream 0x0E
    let s := ((s.setBlob i 5 x.record).setReg i 6 (leNat (slice x.record 0 4))).setReg i 7 s.tickCount
    (s.bump 64 (stIdx u.stream 0x0F) 1 1).setI3c n { x with turn := none, record := [], writes := [], nacked := false }

/-- The node of controller `n` drops its remaining writes and ends with a status and a mark. -/
def State.i3cDrop (s : State) (n st : Nat) (mark : Task → Task) : State :=
  let x := s.i3c n
  let v := (s.setI3c n { x with task := none, turns := [], turn := none, writes := [], record := [], nacked := false }).setBus n
    (if x.recover.isSome then 2 else 0)
  match x.task with
  | some id => (v.modTask id mark).endTask id st
  | none => v

/-- A turn begins (steps 2 to 4 of R274): its record read or passed over, the parameter record written, the bus writes lined up. -/
def State.turnBegin (s : State) (n : Nat) (u : LoopTurn) : State :=
  let r := match u.host with
    | some h => h
    | none => s.ddrRead u.addr 64
  let s := if u.host.isNone then s.bump 64 0x5415 1 64 else s
  let c := stIdx u.stream 0x0F
  if u.host.isNone ∧ s.fetchStatus u.addr ≠ stOk then
    (if s.fetchStatus u.addr = stTaskAborted then s.countPoison u.addr 64 (some 0x35) else s).i3cDrop n (s.fetchStatus u.addr)
      (fun t => { t with corrupt := true })
  else if u.host.isNone && !newerFn (leNat (slice r 0 4)) (s.reg (stIdx u.stream 0x0E) 6) then s.bump 64 c 4 1
  else
    let k := clampCount u.template r
    let s := if k = 0 then s else s.bump 64 c 3 k
    let any2 := (List.range 16).any (fun e => entryRuns u.template e r && decide (tByte u.template e 1 = 2))
    let s := if any2 && decide (u.param ≠ 0) then s.ddrMerge u.param (paramBlock u.template r) else s
    let s := s.setI3c n { s.i3c n with turn := some u, record := r, writes := busWrites (s.i3c n).rates u.template r, nacked := false }
    if (s.i3c n).writes.isEmpty then s.turnDone n else s

/-- The controller goes on: turns begin until one has a bus write to make; with none left the node ends (R274). -/
def State.i3cNext (s : State) (n : Nat) : Nat → State
  | 0 => s
  | k + 1 =>
    let x := s.i3c n
    if x.turn.isSome then s
    else
      match x.turns with
      | [] =>
        let s := (s.setI3c n { x with task := none }).setBus n (if x.recover.isSome then 2 else 0)
        match x.task with
        | some id => (s.modTask id (fun t => { t with wrote := true })).endTask id stOk
        | none => s
      | u :: us => State.i3cNext ((s.setI3c n { x with turns := us }).turnBegin n u) n k

/-- The I3C node of port `n` starts (R274): the turns of its streams with what is in force, skips counted. A bus that read stuck begins
its recovery again (R277). -/
def State.i3cStart (s : State) (n id : Nat) : State :=
  match s.task? id with
  | none => s
  | some t =>
    let pl := s.taskPlan t
    let x := s.i3c n
    let loopOf (st : Nat) : Nat := ((pl.map (fun p => (p.bufs.getD st (bufOf [] 0)).loop)).getD 0)
    let paramOf (st : Nat) : Nat := ((pl.map (fun p => (p.bufs.getD st (bufOf [] 0)).param)).getD 0)
    let outSkipped (st : Nat) : Bool :=
      (s.peers t).any (fun u => decide (u.num ∈ t.node.preds) && u.node.bound && decide (u.node.stream = st) && u.skipped)
    let sts := (List.range 4).map (fun k => 4 * n + k) |>.filter (fun st => decide (loopOf st ≠ 0))
    let mode (st : Nat) : Nat := s.reg (stIdx st 0x0E) 1
    let skip (st : Nat) : Bool := outSkipped st || decide (mode st = 1)
    let turns : List LoopTurn := (sts.filter (fun st => !skip st && (decide (mode st ≠ 2) || kget false x.hostNew st))).map (fun st =>
      { stream := st, mode := mode st, template := s.blob (stIdx st 0x0E) 2,
        host := if mode st = 2 then some (s.blob (stIdx st 0x0E) 3) else none, addr := loopOf st, param := paramOf st })
    let used := (turns.filter (fun u => u.host.isSome)).map (fun u => u.stream)
    let s := (sts.filter skip).foldl (fun s st => s.bump 64 (stIdx st 0x0F) 6 1) s
    let stuck := decide (s.reg (0x2040 + n) 4 = 3)
    let s := s.setI3c n { x with task := some id, turns := turns, turn := none, writes := [], nacked := false,
                                 hostNew := used.foldl (fun m st => kput m st false) x.hostNew,
                                 recover := if stuck then some s.now else x.recover, pattern := x.recover.isSome && !stuck && x.pattern,
                                 rates := (s.reg (0x2040 + n) 1, s.reg (0x2040 + n) 2) }
    let s := if s.proc 8 = 1 then s.trace 8 (some t.part) 2 else s
    let s := if stuck then (s.bump 32 (0x2040 + n) 5 1).setBus n 2 else s.setBus n (if x.recover.isSome then 2 else 1)
    s.i3cNext n (turns.length + 1)

/-- The bus is free for the next write: transferring while a node runs and no recovery is under way. -/
def State.i3cBusy (s : State) (n : Nat) : Bool := (s.i3c n).task.isSome && (s.i3c n).recover.isNone

/-- The write on the bus leaves the list, and the controller goes on. -/
def State.i3cStep (s : State) (n : Nat) : State :=
  let x := s.i3c n
  let s := s.setI3c n { x with writes := x.writes.drop 1, nacked := false }
  if (s.i3c n).writes.isEmpty then (s.turnDone n).i3cNext n (x.turns.length + 1) else s

/-- I3C_WRITE_DONE: the bus write completes (R275). -/
def execI3cWriteDone (t : Nat) (n : PortId) (s : State) : Out :=
  whileLive t s (fun s =>
    let x := s.i3c n.val
    match x.writes, x.turn with
    | w :: _, some u =>
      if !s.i3cBusy n.val then s
      else
        let d := s.drives w.bytes
        let s := (d.2.bump 64 (stIdx u.stream 0x0F) 2 1).setI3c n.val { x with last := some { w with bytes := d.1 } }
        s.i3cStep n.val
    | _, _ => s)

/-- I3C_NACK: the write is repeated once; NACKed again it counts, and a loop event is raised whose status the manual does not give
(R274, R364; log 9). -/
def execI3cNack (t : Nat) (n : PortId) (s : State) : Out :=
  whileLive t s (fun s =>
    let x := s.i3c n.val
    match x.writes, x.turn with
    | w :: _, some u =>
      if !s.i3cBusy n.val then s
      else if x.nacked = false then s.setI3c n.val { x with nacked := true }
      else
        let d := s.draw
        let s := (d.2.bump 64 (stIdx u.stream 0x0F) 5 1).raiseEvent 0x50 (s.streamPart u.stream) u.stream
          (Config.freeNat d.1) w.entry 0
        s.i3cStep n.val
    | _, _ => s)

/-- I3C_BUS_STUCK: SDA stays low when a START is wanted, and recovery begins (R277). -/
def execI3cBusStuck (t : Nat) (n : PortId) (s : State) : Out :=
  whileLive t s (fun s =>
    let x := s.i3c n.val
    if x.recover.isSome ∨ (x.writes.isEmpty = true ∧ x.dasa = false) then s
    else ((s.bump 32 (0x2040 + n.val) 5 1).setBus n.val 2).setI3c n.val { x with recover := some s.now, pattern := false })

/-- Cycles of an SCL period (R276): at the rate in force, or while a node runs at the one in force at its start (R274). -/
def State.sclCycles (s : State) (n : Nat) : Nat :=
  40 * 2 ^ (if (s.i3c n).task.isSome then (s.i3c n).rates.1 else s.reg (0x2040 + n) 1)

/-- I3C_SDA_HIGH: the controller stops pulsing, or has already issued the Target Reset Pattern after 16 pulses, and the bus leaves the
recovering state (R277). -/
def execI3cSdaHigh (t : Nat) (n : PortId) (s : State) : Out :=
  whileLive t s (fun s =>
    let x := s.i3c n.val
    match x.recover with
    | none => s
    | some e =>
      let pattern := decide (e + 16 * s.sclCycles n.val < s.now)
      (s.setI3c n.val { x with recover := none, pattern := pattern, dasa := x.dasa || pattern }).setBus n.val
        (if x.task.isSome then 1 else 0))

/-- I3C_RECOVERY_TIMEOUT: SDA still low 100 µs after the start of recovery: stuck, and the node is aborted (R277). -/
def execI3cRecoveryTimeout (t : Nat) (n : PortId) (s : State) : Out :=
  whileLive t s (fun s =>
    let x := s.i3c n.val
    match x.recover with
    | none => s
    | some e =>
      if s.now < e + usCycles 100 then s
      else
        let entry := (x.writes.map (fun w => w.entry)).headD 0
        let s := ((s.bump 32 (0x2040 + n.val) 6 1).setBus n.val 3).setI3c n.val
          { x with recover := none, pattern := true, dasa := true, task := none, turns := [], turn := none, writes := [], record := [] }
        let s := match x.task with
          | some id => s.endTask id stTaskAborted
          | none => s
        s.raiseEvent 0x50 (s.portPart n.val) (64 + n.val) stTaskAborted entry 0)

/-- I3C_IBI: an in-band interrupt or a hot-join is NACKed and counted (R276). -/
def execI3cIbi (t : Nat) (n : PortId) (_hotJoin : Bool) (s : State) : Out :=
  whileLive t s (fun s => s.bump 32 (0x2040 + n.val) 7 1)

/-- The pairs of a DASA_TABLE: static and dynamic address (R279). -/
def dasaPairs (b : List Byte) : List (Nat × Nat) :=
  (List.range (b.length / 2)).map (fun i => ((b.getD (2 * i) 0).toNat, (b.getD (2 * i + 1) 0).toNat))

/-- DASA_ASSIGNMENT: RSTDAA and then one SETDASA per pair of DASA_TABLE (R276). CC5 makes it, and not while it restarts (R394). -/
def execDasaAssignment (t : Nat) (n : PortId) (s : State) : Out :=
  whileLive t s (fun s =>
    let x := s.i3c n.val
    if x.dasa = false ∨ s.reg (0x2040 + n.val) 4 = 2 ∨ s.proc 8 ≠ 1 then s
    else s.setI3c n.val { x with dasa := false, dyn := dasaPairs (s.blob (0x2040 + n.val) 3) })

/-- A queue abort of a running I3C node takes effect at once: remaining writes are dropped (R196). -/
def State.i3cAbort (s : State) (n : Nat) : State :=
  if (s.i3c n).task.isSome then s.i3cDrop n stTaskAborted (fun t => { t with aborted := true, absent := true }) else s

end Sys2Proof.Machine
end

