-- ==== Sys2Proof/Machine/Sched.lean ====
section
/-! DEFINITION. Dispatch (07): entries that become eligible, selection from the ready lists, host-fed queues, completion, aborts, engine
windows (R187–R196, R402, R437, R449). -/

namespace Sys2Proof.Machine

/-! ### Becoming eligible (R187) -/

/-- The entries of a node that have become eligible enter their list. -/
def State.offer (s : State) (p n : Nat) : State :=
  (s.tasks.filter (fun (t : Task) => decide (t.part = p) && decide (t.num = n) && decide (t.stage = 0) && t.maint.isNone && t.ring.isNone
    && decide (t.redo = 0))).foldl (fun s t => match s.task? t.id with
    | some u => s.tryEligible u
    | none => s) s

/-- NODE_RELEASE: the cycle count reaches the node's RELEASE; where the other conditions hold it becomes eligible. -/
def execNodeRelease (t : Nat) (p : Part) (node : Nat) (s : State) : Out :=
  whileLive t s (fun s => s.offer p.val node)

/-- NODE_ELIGIBLE: the last condition of R187 has come to hold. -/
def execNodeEligible (t : Nat) (p : Part) (node : Nat) (s : State) : Out :=
  whileLive t s (fun s => s.offer p.val node)

/-! ### Ready lists (R188) -/

/-- Does an entry stand before another: level, then the cycle of eligibility, then the queue? -/
def Task.before (a b : Task) : Bool :=
  if a.node.prio ≠ b.node.prio then decide (a.node.prio < b.node.prio)
  else if a.eligAt ≠ b.eligAt then decide (a.eligAt < b.eligAt)
  else decide (a.node.queue < b.node.queue)

/-- The entry that stands first. -/
def firstTask (ts : List Task) : Option Task :=
  ts.foldl (fun (a : Option Task) t => match a with
    | none => some t
    | some b => if t.before b then some t else some b) none

/-- Does a pending recomputation on its resource hold an entry back (R449)? -/
def State.redoBlocks (s : State) (t : Task) : Bool :=
  s.tasks.any (fun (u : Task) => decide (u.part = t.part) && decide (u.old = t.old) && decide (u.tick = t.tick) && decide (u.node.res = t.node.res)
    && decide (u.num < t.num) && u.maint.isNone && u.ring.isNone
    && (decide (u.stage = 5) || (decide (u.stage = 1) && (decide (u.redo = 1) || u.recomp))))

/-- The entries of a resource's ready list that it may select (R188, R449). -/
def State.readyList (s : State) (r : Nat) : List Task :=
  s.tasks.filter (fun (t : Task) => decide (t.node.res = r) && s.listed t && !s.redoBlocks t)

/-! ### Host-fed queues (R191, R192) -/

/-- Is the entry a budget node: do host-fed queues name it? -/
def State.isBudget (s : State) (t : Task) : Bool :=
  t.maint.isNone && t.ring.isNone && s.queues.any (fun (e : Nat × QueueSt) => decide (e.2.part = t.part) && match e.2.bind with
    | some b => b.hostFed && decide (b.budgetNode = t.num) && decide (b.res = t.node.res)
    | none => false)

/-- Entries at the head of a queue that were aborted before their turn leave it. -/
def QueueSt.skipAborted : Nat → QueueSt → QueueSt
  | 0, x => x
  | n + 1, x =>
    if x.sqHead < x.sqTail ∧ x.sqHead ∈ x.aborted then
      QueueSt.skipAborted n { x with sqHead := x.sqHead + 1, sqTimes := x.sqTimes.drop 1,
                                     aborted := x.aborted.filter (fun i => decide (i ≠ x.sqHead)) }
    else x

/-- The 64 bytes of entry `i` of a submission ring. -/
def State.ringEntry (s : State) (x : QueueSt) (b : Binding) (i : Nat) : List Byte :=
  s.ddrRead (s.rangeAddr x.part b.sqAddr + 64 * (i % b.depth)) 64

/-- Is a submission entry sound (R192)? -/
def entrySound (e : List Byte) (b : Binding) : Bool :=
  decide (crc32 (slice e 0 60) = wordAt e 15) && decide (fld (wordAt e 0) 7 0 = 1) && decide (fld (wordAt e 0) 15 8 = 0)
    && (List.range 12).all (fun i => decide (wordAt e (3 + i) = 0)) && decide (1 ≤ wordAt e 2) && decide (wordAt e 2 ≤ b.budgetCycles)

/-- Is entry `i` of a submission ring sound, and its block readable (R192, R444, R452)? -/
def State.entryGood (s : State) (x : QueueSt) (b : Binding) (i : Nat) : Bool :=
  entrySound (s.ringEntry x b i) b && decide (s.fetchStatus (s.rangeAddr x.part b.sqAddr + 64 * (i % b.depth)) = stOk)

/-- Records of a queue that are due and not written. -/
def State.recordsDue (s : State) (q : Nat) : Nat :=
  (s.tasks.filter (fun (t : Task) => decide (t.node.queue = q) && t.ring.isSome && (decide (t.stage = 2) || decide (t.stage = 3)))).length

/-- The head entries of the host-fed queues of a budget node that can start now: queue, time of submission, level (R191, R195). In
THROTTLE none starts (R480). -/
def State.hostHeads (s : State) (bt : Task) : List (Nat × Nat × Nat) :=
  if 2 ≤ s.reg 0x2071 11 then [] else
  s.queues.filterMap (fun (e : Nat × QueueSt) =>
    match e.2.bind with
    | none => none
    | some b =>
      let x := e.2
      let ent := s.ringEntry x b x.sqHead
      if b.hostFed && decide (b.budgetNode = bt.num) && decide (x.part = bt.part) && decide (b.res = bt.node.res)
          && decide (x.sqHead < x.sqTail) && decide (x.cqTail - x.cqHead + s.recordsDue e.1 < b.depth)
          && decide (x.sqTimes.headD 0 + 4 ≤ s.now)
          && (!s.entryGood x b x.sqHead || decide (wordAt ent 2 + x.used ≤ b.budgetCycles)) then
        some (e.1, x.sqTimes.headD 0, b.prio)
      else none)

/-- The head that R188 selects. -/
def firstHead (hs : List (Nat × Nat × Nat)) : Option Nat :=
  (hs.foldl (fun (a : Option (Nat × Nat × Nat)) h => match a with
    | none => some h
    | some b => if h.2.2 < b.2.2 ∨ (h.2.2 = b.2.2 ∧ (h.2.1 < b.2.1 ∨ (h.2.1 = b.2.1 ∧ h.1 < b.1))) then some h else some b) none).map
    (fun h => h.1)

/-- The task of a submission entry (R192). -/
def State.hostTask (s : State) (bt : Task) (q : Nat) (x : QueueSt) (b : Binding) (i : Nat) : Task :=
  let e := s.ringEntry x b i
  { task0 with part := bt.part, num := 0xFFFF, node := { bt.node with res := b.res, prio := b.prio, queue := q, bound := false, preds := [] },
               old := bt.old, tick := bt.tick, edge := bt.edge, stage := 1, eligAt := max (x.sqTimes.headD 0) bt.startAt,
               tag := fld (wordAt e 0) 31 16, ring := some i, maxCyc := wordAt e 2,
               prog := Config.programBase bt.part + 64 * wordAt e 1 }

/-- The budget node ends: no entry can start, or it was aborted. A prefetched entry stays in its ring. -/
def State.endBudget (s : State) (c : Nat) (bt : Task) : State :=
  let s := { s with tasks := s.tasks.filter (fun (t : Task) => !(decide (t.node.res = c) && t.ring.isSome && decide (t.stage = 1))) }
  let s := s.setCore c { s.core c with budget := none, next := none, nfetch := [] }
  if bt.stop then (s.modTask bt.id (fun t => { t with aborted := true, absent := true })).endTask bt.id stTaskAborted
  else s.endTask bt.id stOk

/-- A host entry starts on the core of its budget node: its program is fetched, and its cycles run from its first TOD (R191). -/
def State.hostStart (s : State) (c id : Nat) (pre : List TodQ) : State :=
  match s.task? id with
  | none => s
  | some t =>
    let s := (s.settleRes c).putTask { s.withMarks t with stage := 2 }
    s.setCore c { s.core c with
      task := some id, fetch := pre, fetched := pre.length, next := none, nfetch := [], run := none, ran := 0, lastTod := [], line := [], stop := 0, wait := 0 }

/-- A budget node's core takes its next host entry, or the node ends (R191). An entry that is not sound completes with BAD_ENCODING. -/
def State.hostSelect (s : State) (c : Nat) (bt : Task) : State :=
  let s := { s with queues := s.queues.map (fun (e : Nat × QueueSt) => (e.1, QueueSt.skipAborted (e.2.aborted.length + 1) e.2)) }
  let s := s.countReady c
  if bt.stop then s.endBudget c bt
  else
    match firstHead (s.hostHeads bt) with
    | none => s.endBudget c bt
    | some q =>
      let x := s.queue q
      match x.bind with
      | none => s
      | some b =>
        let k := s.hostTask bt q x b x.sqHead
        let ent := s.ringEntry x b x.sqHead
        let pre := s.tasks.find? (fun (t : Task) => decide (t.node.queue = q) && decide (t.ring = some x.sqHead) && decide (t.stage = 1))
        let s := s.setQueue q { x with sqHead := x.sqHead + 1, sqTimes := x.sqTimes.drop 1 }
        let at' := s.rangeAddr x.part b.sqAddr + 64 * (x.sqHead % b.depth)
        if !s.entryGood x b x.sqHead then
          let fs := s.fetchStatus at'
          let s := if fs = stTaskAborted then s.countPoison at' 64 none
            else if fs = stOk ∧ crc32 (slice ent 0 60) ≠ wordAt ent 15 then s.crcLasting none else s
          let s := match pre with
            | some u => { s with tasks := s.tasks.filter (fun (t : Task) => decide (t.id ≠ u.id)) }
            | none => s
          s.addTask { k with stage := 3, endAt := s.now, status := if fs = stRetired then stRetired else stBadEncoding }
        else
          match pre with
          | some u => s.hostStart c u.id (if (s.core c).next = some u.id then (s.core c).nfetch else [])
          | none => (s.addTask k).hostStart c s.nextId []

/-- While a host task of a queue with OUTSTANDING 2 or more runs, the queue's next entry is selected for prefetch (R190). -/
def State.hostPrefetch (s : State) (c : Nat) (bt : Task) : State :=
  match s.coreTask c with
  | none => s
  | some k =>
    let q := k.node.queue
    let x := s.queue q
    match x.bind with
    | none => s
    | some b =>
      if k.ring.isSome && decide (2 ≤ b.outstanding) && (s.core c).next.isNone && decide (x.sqHead < x.sqTail)
          && decide (x.sqHead ∉ x.aborted) && decide (x.sqTimes.headD 0 + 4 ≤ s.now) && s.entryGood x b x.sqHead then
        let id := s.nextId
        let s := s.addTask (s.hostTask bt q x b x.sqHead)
        s.setCore c { s.core c with next := some id, nfetch := [] }
      else s

/-! ### Selection (R188–R190) -/

/-- An entry starts on a core: prefetched TODs are used where it is the one they were fetched for (R190). -/
def State.coreStart (s : State) (c : Nat) (t : Task) : State :=
  let x := s.core c
  let pre := if x.next = some t.id ∧ t.selfTest = false then x.nfetch else []
  let s := s.startTask t.id
  s.setCore c { s.core c with
    task := some t.id, fetch := pre, fetched := if t.selfTest then x.cursor else pre.length, next := none, nfetch := [], run := none,
    ran := 0, lastTod := [], line := [], stop := 0, wait := 0 }

/-- A self-test slot that had yielded goes on at the cursor (R437). -/
def State.slotResume (s : State) (c id : Nat) : State :=
  let x := s.core c
  s.setCore c { x with
    task := some id, paused := none, fetch := [], fetched := x.cursor, run := none, ran := 0, lastTod := [], line := [], stop := 0, wait := 0 }

/-- A spare core with an empty list runs the program of its slot nodes at level 15, in NORMAL only (R437, R480). -/
def State.backgroundPass (s : State) (c : Nat) : State :=
  if s.reg (0x5000 + c) 1 ≠ 1 ∨ s.reg 0x2071 11 ≠ 0 ∨ s.away (3 + c / 8) = true then s
  else
    match (List.range 8).filterMap (fun p => (s.planSt p).cur) |>.findSome? (fun pl =>
        ((List.zip (List.range pl.nodes.length) pl.nodes).find? (fun e => decide (e.2.kind = 12) && decide (e.2.res = c))).map
          (fun e => (pl, e))) with
    | none => s
    | some (pl, n, x) =>
      let id := s.nextId
      let s := s.addTask { task0 with
        part := pl.part, num := n, node := { x with prio := 15 }, tick := s.tickCount, edge := s.tick.lastEdge.getD 0, stage := 1,
        eligAt := s.now, prog := s.nodeProg pl n, redo := 3 }
      match s.task? id with
      | some t => s.coreStart c t
      | none => s

/-- A core takes work. -/
def State.selectCore (s : State) (c : Nat) : State :=
  let x := s.core c
  let bt := x.budget.bind (fun id => s.task? id)
  match x.task, bt with
  | some _, some b => s.hostPrefetch c b
  | some _, none => s
  | none, some b => s.hostSelect c b
  | none, none =>
    match firstTask ((s.readyList c).filter (fun u => !(u.selfTest && s.away (3 + c / 8)))),
        (if s.away (3 + c / 8) then none else x.paused) with
    | some t, some p =>
      (match firstTask ((s.readyList c).filter (fun u => u.node.safety)) with
       | some u => s.coreStart c u
       | none => if t.node.safety then s.coreStart c t else s.slotResume c p)
    | none, some p => s.slotResume c p
    | some t, none =>
      if s.isBudget t then
        let s := s.startTask t.id
        let s := s.setCore c { s.core c with budget := some t.id, next := none, nfetch := [] }
        match s.task? t.id with
        | some b => s.hostSelect c b
        | none => s
      else s.coreStart c t
    | none, none => s.backgroundPass c

/-- A Facet engine takes work: a first entry that runs, or a second one that it holds (R190, R284). -/
def State.selectEngine (s : State) (e : Nat) : State :=
  match firstTask (s.readyList (0x20 + e)) with
  | none => s
  | some t =>
    let x := s.eng e
    if x.task.isNone then
      (s.startTask t.id).setEng e { x with task := some t.id, next := none, seq := 0, run := none, pre := none, loaded := none }
    else if x.next.isNone then
      (let s := s.countReady (0x20 + e)
       (s.loadSecond e t).countReady (0x20 + e))
    else s

/-- A DMA unit takes work: the entry at the head of the highest level holds a free channel, or stays there (R190, R200, R225). A re-shard
node takes the generations of its handles at its start (R179). Maintenance requests start in NORMAL only (R480). -/
def State.selectDma (s : State) (u : Nat) : State :=
  match firstTask ((s.readyList (0x30 + u)).filter (fun t => t.maint.isNone || decide (s.reg 0x2071 11 = 0))) with
  | none => s
  | some t =>
    match s.freeChan u t.part t.owner.isNone with
    | none => s
    | some c =>
      let s := s.startTask t.id
      let s := match t.maint with
        | some f => if f = scrubFn then s else s.setRegF f 0x5420 3 2
        | none => s
      s.setChan u c { chan0 with
        task := some t.id, descAt := t.prog, rTok := (0, s.now), wTok := (0, s.now), entryAt := s.now,
        gens := if t.node.kind = 9 ∧ t.maint.isNone then s.reshardGens (s.reshardEntries t) else [] }

/-- An I3C controller takes its node (R274). -/
def State.selectI3c (s : State) (n : Nat) : State :=
  match firstTask (s.readyList (0x40 + n)) with
  | none => s
  | some t => if (s.i3c n).task.isSome then s else (s.startTask t.id).i3cStart n t.id

/-- TASK_SELECT: a resource that can take work selects from its ready list (R188). A retired one takes none (R451). -/
def execTaskSelect (t : Nat) (r : Res) (s : State) : Out :=
  whileLive t s (fun s =>
    if s.resRetired r.val then s
    else if isCore r.val then s.selectCore r.val
    else if isEngine r.val then s.selectEngine (r.val - 0x20)
    else if isDma r.val then s.selectDma (r.val - 0x30)
    else if isI3c r.val then s.selectI3c (r.val - 0x40)
    else s)

/-! ### Completion (R194, R201, R366, R449) -/

/-- The rerun of a producer has ended: its reader's recompute entry becomes eligible, or the reader ends where the rerun failed
(R449). -/
def State.rerunEnd (s : State) (p : Task) : State :=
  let s := s.modTask p.id (fun t => { t with stage := 4 })
  let s := { s with faults := { s.faults with redos := s.faults.redos.map (fun (x : Redo) => if x.producer = p.id then { x with phase := 2 } else x) } }
  match s.task? p.redoFor with
  | none => s
  | some c =>
    if c.stage ≠ 5 then s
    else if p.status = stOk ∧ p.corrupt = false then
      (s.putTask { c with stage := 1, eligAt := s.now, recomp := true }).countReady c.node.res
    else
      (s.putTask { c with corrupt := true }).endTask c.id stTaskAborted

/-- Must an entry's record wait: its host-fed queue's ring is full (R195)? -/
def State.ringWaits (s : State) (k : Task) : Bool :=
  match (s.queue k.node.queue).ringFor k.old with
  | some g => g.bind.hostFed && g.full
  | none => false

/-- The ended entry of a queue that is recorded next: the one that ended first. An output waits for its frame's glint check (R25), and an
entry of a host-fed queue for room in its ring. -/
def State.dueTask (s : State) (q : Nat) : Option Task :=
  (s.tasks.filter (fun (k : Task) => decide (k.stage = 3) && decide (k.node.queue = q) && k.maint.isNone
    && !s.outputHeld k && !s.ringWaits k)).foldl
    (fun (a : Option Task) k => match a with
      | none => some k
      | some b => if k.endAt < b.endAt then some k else some b) none

/-- The channel of a task is free again. -/
def State.freeTaskChan (s : State) (id : Nat) : State :=
  { s with chans := s.chans.map (fun (e : Nat × Chan) => if e.2.task = some id then (e.1, { chan0 with halted := e.2.halted }) else e) }

/-- An ended entry is recorded: the completion record, an output node's result record, the channel freed (R194, R201, R366). -/
def State.completeTask (s : State) (k : Task) : State :=
  if k.redo = 1 then (s.rerunEnd k).freeTaskChan k.id
  else
    let o := if k.node.kind = 10 ∧ k.ring.isNone then s.outExtent k else (0, 0, 0)
    let k := { k with outKind := o.1, outAddr := o.2.1, outLen := o.2.2 }
    let s := if k.recomp = true ∧ k.corrupt = false ∧ k.skipped = false then s.bump 64 0x8000 3 1 else s
    let s := (s.putTask { k with stage := 4 }).writeCompletion k
    (if k.ring.isNone then s.reportResult k else s).freeTaskChan k.id

/-- TASK_COMPLETE: the oldest ended entry of the queue is recorded. -/
def execTaskComplete (t : Nat) (q : QueueId) (s : State) : Out :=
  whileLive t s (fun s =>
    match s.dueTask q.val with
    | none => s
    | some k => s.completeTask k)

/-! ### Abort (R196) -/

/-- An entry that has not started ends with ABORTED and ABSENT. -/
def State.abortWaiting (s : State) (t : Task) : State :=
  let s := ((s.modTask t.id (fun u => u.stripeMark stTaskAborted)).endUnstarted t.id stTaskAborted false true).absentFlags t
  (s.unnext t).countReady t.node.res

/-- A running entry stops at the end of its TOD or descriptor. -/
def State.abortRunning (s : State) (t : Task) : State :=
  let r := t.node.res
  let mark (s : State) : State := s.modTask t.id (fun u => { u with aborted := true, absent := true })
  if isCore r then
    let x := s.core r
    if x.budget = some t.id then
      let s := s.modTask t.id (fun u => { u with stop := true })
      match x.task, s.task? t.id with
      | none, some b => s.endBudget r b
      | _, _ => s
    else if x.paused = some t.id then (mark (s.setCore r { x with paused := none })).endTask t.id stTaskAborted
    else
      let s := s.setCore r { x with stop := 1 }
      if x.run.isNone then s.coreStop r else s
  else if isI3c r then s.i3cAbort (r - 0x40)
  else
    let s := s.modTask t.id (fun u => { u with stop := true })
    if isDma r then
      match (List.range 32).find? (fun c => decide ((s.chan (r - 0x30) c).task = some t.id)) with
      | none => s
      | some c =>
        let x := s.chan (r - 0x30) c
        if x.live.isEmpty ∧ (t.node.kind ≠ 9 ∨ (s.reshardEntries t).isEmpty) then (mark s).dmaFinish (r - 0x30) c stTaskAborted else s
    else if (s.eng (r - 0x20)).run.isNone then s.facetStop (r - 0x20)
    else s

/-- The reader of a recomputation is aborted while it is pending: the entries are dropped (R449). -/
def State.abortRedo (s : State) (t : Task) : State :=
  ((s.dropRedo t).modTask t.id (fun u => { u with aborted := true, absent := true })).endTask t.id stTaskAborted

/-- The abort of an entry found by its task: the status, and the state after it. -/
def State.abortTask (s : State) (t : Task) : State × Nat :=
  let q := t.node.queue
  let took (s : State) : State × Nat := (s.setQueue q { s.queue q with aborts := (s.queue q).aborts + 1 }, stOk)
  if t.stage = 0 ∨ t.stage = 1 then took (s.abortWaiting t)
  else if t.stage = 2 then took (s.abortRunning t)
  else if t.stage = 5 then took (s.abortRedo t)
  else (s, stAlreadyComplete)

/-- The absolute index of a submission that a doorbell index names, where it has been submitted. -/
def QueueSt.submitted (x : QueueSt) (b : Binding) (key : Nat) : Option Nat :=
  if 2 * b.depth ≤ key then none
  else ((List.range (min b.depth x.sqTail)).map (fun i => x.sqTail - 1 - i)).find? (fun i => decide (i % (2 * b.depth) = key))

/-- An abort of queue `q` and a key (R196): the outcome of the order point. -/
def State.abortOp (s : State) (q key : Nat) : State × Nat :=
  let x := s.queue q
  match x.bind with
  | none => (s, stOutOfRange)
  | some b =>
    if b.hostFed then
      match x.submitted b key with
      | none => (s, stOutOfRange)
      | some i =>
        if i < x.sqHead then
          match s.tasks.find? (fun (t : Task) => decide (t.node.queue = q) && decide (t.ring = some i)) with
          | some t => s.abortTask t
          | none => (s, stAlreadyComplete)
        else if i ∈ x.aborted then (s, stAlreadyComplete)
        else
          let pre := s.tasks.find? (fun (t : Task) => decide (t.node.queue = q) && decide (t.ring = some i) && decide (t.stage = 1))
          let s := match pre with
            | some u =>
              let s : State := { s with tasks := s.tasks.filter (fun (t : Task) => decide (t.id ≠ u.id)) }
              if (s.core b.res).next = some u.id then s.setCore b.res { s.core b.res with next := none, nfetch := [] } else s
            | none => s
          let s := s.setQueue q { x with aborted := x.aborted ++ [i], aborts := x.aborts + 1 }
          let e := s.ringEntry x b i
          (s.addTask { task0 with
            part := x.part, num := 0xFFFF, node := { node0 with res := b.res, prio := b.prio, queue := q }, tick := s.tickCount,
            edge := s.tick.lastEdge.getD 0, stage := 3, endAt := s.now, status := stTaskAborted, aborted := true, absent := true,
            skipped := true, tag := fld (wordAt e 0) 31 16, ring := some i }, stOk)
    else
      let ts := s.tasks.filter (fun (t : Task) => decide (t.node.queue = q) && decide (t.num = key) && decide (t.tick = s.tickCount)
        && t.maint.isNone && t.ring.isNone && decide (t.redo = 0))
      match ts.find? (fun t => !t.ended), ts with
      | some t, _ => s.abortTask t
      | none, _ :: _ => (s, stAlreadyComplete)
      | none, [] => (s, stOutOfRange)

/-! ### Engine windows (R402) -/

/-- ENGINE_WINDOW_START: entries that the window held back may become eligible. -/
def execEngineWindowStart (t : Nat) (p : Part) (e : EngId) (s : State) : Out :=
  whileLive t s (fun s =>
    (s.tasks.filter (fun (k : Task) => decide (k.part = p.val) && decide (k.node.res = 0x20 + e.val) && decide (k.stage = 0))).foldl
      (fun s k => match s.task? k.id with
        | some u => s.tryEligible u
        | none => s) s)

/-- Tasks of a partition that still run on an engine counted in OD 3000.07. -/
def State.countWindow (s : State) (p e : Nat) : State :=
  let n := (s.tasks.filter (fun (k : Task) => decide (k.part = p) && decide (k.node.res = 0x20 + e) && decide (k.stage = 2))).length
  if n = 0 then s else s.bump 32 0x3000 7 n

/-- ENGINE_WINDOW_END: a task of the partition still running on the engine at WIN_END is counted, once in a tick. -/
def execEngineWindowEnd (t : Nat) (p : Part) (e : EngId) (s : State) : Out :=
  whileLive t s (fun s =>
    match s.window p.val e.val with
    | none => s
    | some w =>
      let key := 16 * p.val + e.val
      if s.tick.lastEdge.isSome && decide (w.2 ≠ 0xFFFFFFFF) && decide (w.2 ≤ s.sinceEdge) && decide (key ∉ s.winDone) then
        { s.countWindow p.val e.val with winDone := s.winDone ++ [key] }
      else s)

end Sys2Proof.Machine
end

