-- ==== Sys2Proof/Machine/Fault.lean ====
section
/-! DEFINITION. Detection codes (18 R443–R449, R453): a failed read and its retry, what becomes of the reader, recomputation, the list
that SEC keeps in flash. -/

namespace Sys2Proof.Machine

/-! ### Where and who (R443, R406, R461, R462) -/

/-- The location as an event gives it. -/
def siteEvent : ErrSite → Option Nat
  | .lpddr5 a => some (a / 4096)
  | .host _ => none
  | x => sitePlace x

/-- The partition that holds a location (R461). -/
def State.sitePart (s : State) : ErrSite → Option Nat
  | .lpddr5 a => s.addrPart a
  | .pad c _ _ => s.corePart c.val
  | .fscratch w => if 8 * w < 0x7F8000 then s.unitPart (8 * w / 4096) else if 8 * w < 0x800000 then some ((8 * w - 0x7F8000) / 4096) else none
  | .lineMem n _ => s.portPart n.val
  | .engine e => s.enginePart e.val
  | _ => none

/-- The initiator ID of a reader (R406); none where it is not known which one read. -/
def State.readerId (s : State) : ErrReader → Option Nat
  | .chan u _ => some (0x30 + u.val)
  | .engine e => some (0x20 + e.val)
  | .core c => some c.val
  | .frontEnd st => some (0x40 + st.val / 4)
  | .proc x => some (0x50 + x.val)
  | .narrow => s.netReply.host.map (fun f => 0x70 + f)
  | .hostEntry _ => none

/-! ### Recomputation (R448, R449) -/

/-- Does the destination extent of a descriptor of a chain contain a block of LPDDR5 (R209, R448)? -/
def State.chainWrites (s : State) (t : Task) (block : Nat) : Bool :=
  let hit (lo hi : Int) : Bool := decide (lo ≤ 64 * (block : Int)) && decide (64 * (block : Int) + 64 ≤ hi)
  (s.chain chainMax t.prog).any (fun b =>
    if isEngine t.node.res then
      (facetRegions b).any (fun r => r.1 && decide (r.2.1 = 3) && hit r.2.2.1 (r.2.2.1 + r.2.2.2))
    else decide ((dstSide b).kind = 3) && hit (dstExtent b).1 (dstExtent b).2)

/-- Are the sources of a producer's chain of kind 3 or 4, and apart from its destinations (R448, condition 4)? -/
def State.rerunSafe (s : State) (t : Task) : Bool :=
  let ds := s.chain chainMax t.prog
  let span (x : Side) (e : Int × Int) : Nat × Int × Int := (x.kind, e.1, e.2)
  let ends (wr : Bool) (b : List Byte) : List (Nat × Int × Int) :=
    ((facetRegions b).filter (fun r => decide (r.1 = wr) && decide (0 < r.2.2.2))).map (fun r =>
      (r.2.1, (r.2.2.1 : Int), ((r.2.2.1 + r.2.2.2 : Nat) : Int)))
  let srcs := ds.flatMap (fun b => if isEngine t.node.res then ends false b
    else if dType b = 5 then [] else [span (srcSide b) (srcExtent b)])
  let dsts := ds.flatMap (fun b => if isEngine t.node.res then ends true b else [span (dstSide b) (dstExtent b)])
  srcs.all (fun a => (decide (a.1 = 3) || decide (a.1 = 4))
    && dsts.all (fun d => decide (a.1 ≠ d.1) || decide (a.2.2 ≤ d.2.1) || decide (d.2.2 ≤ a.2.1)))

/-- The node that is to run again for a lasting error met by `c` at an LPDDR5 address, where R448 allows it. -/
def State.producerFor (s : State) (c : Task) (addr : Nat) : Option Task :=
  let ps := (s.peers c).filter (fun (u : Task) => u.ended && u.started && decide (u.id ≠ c.id) && !isCore u.node.res && decide (u.node.kind ≠ 9)
    && !isI3c u.node.res && s.chainWrites u (addr / 64))
  let last := ps.foldl (fun (a : Option Task) u => match a with
    | none => some u
    | some b => if b.endAt < u.endAt then some u else some b) none
  match last with
  | none => none
  | some p =>
    if (p.node.kind = 2 ∨ p.node.kind = 3 ∨ p.node.kind = 9 ∨ p.node.kind = 10) ∧ s.rerunSafe p = true
        ∧ kget 0 s.faults.redoCount c.part < s.reg 0x8010 7 ∧ c.recomp = false ∧ c.redo = 0 ∧ c.maint.isNone
        ∧ c.tick = s.tickCount then some p
    else none

/-- The reader stops at its failing read: what it holds is free, and no record is written (R449, step 1). -/
def State.haltReader (s : State) (c : Task) : State :=
  let r := c.node.res
  let s := s.settleRes r
  let s := s.modTask c.id (fun t => { t with stage := 5 })
  if isEngine r then (s.settleEng (r - 0x20)).engNext (r - 0x20)
  else
    { s with chans := s.chans.map (fun e => if e.2.task = some c.id then (e.1, { chan0 with halted := e.2.halted }) else e) }

/-- A recomputation begins: the producer's recompute entry enters its ready list (R449, step 2). -/
def State.beginRedo (s : State) (c p : Task) : State :=
  let s := s.haltReader c
  let id := s.nextId
  let s := s.addTask { task0 with part := p.part, num := p.num, node := p.node, old := p.old, tick := p.tick, edge := p.edge, stage := 1,
                                  eligAt := s.now, prog := p.prog, redo := 1, redoFor := c.id }
  let s := s.countReady p.node.res
  { s with faults := { s.faults with redos := s.faults.redos ++ [{ reader := c.id, producer := id, phase := 1 }],
                                     redoCount := kmod 0 s.faults.redoCount c.part (· + 1) } }

/-! ### The reader of a lasting error (R447) -/

/-- A DMA task or a Facet node stops, by recomputation where `redo` gives a producer, or aborted. The second part says that it is
recomputed. -/
def State.stopReader (s : State) (t : Task) (addr : Option Nat) (kill : State → State) : State × Bool :=
  match addr.bind (fun a => s.producerFor t a) with
  | some p => (s.beginRedo t p, true)
  | none => (kill s, false)

/-- The row that a front-end reads next is padded at its place, and the frame carries BAD_LINES (R246, R447). -/
def State.padLine (s : State) (st : Nat) : State :=
  let n := st / 4
  match (s.port n).work with
  | [] => s
  | j :: rest =>
    if j.stream ≠ st ∨ j.glint.isSome then s
    else
      match s.jobFrame j with
      | none => s
      | some f =>
        let s := s.setPort n { s.port n with work := { j with line := none } :: rest }
        let g := { f with flags := putBit f.flags 7 true, padRows := f.padRows + b2n j.line.isSome }
        (s.putFrame st g).restatus st f (fun w => w - w / 65536 % 4096 * 65536 + g.status / 65536 * 65536 - b2n (w.testBit 7) * 128 + 128)

/-- An entry whose ENTRY_CRC fails twice completes with BAD_ENCODING without running (R192). -/
def State.badEntry (s : State) (q : Nat) : State :=
  let x := s.queue q
  match x.bind with
  | none => s
  | some b =>
    match (s.core b.res).budget.bind (fun id => s.task? id) with
    | none => s
    | some bt =>
      if x.sqHead < x.sqTail then
        let k := s.hostTask bt q x b x.sqHead
        let s := { s with tasks := s.tasks.filter (fun (t : Task) =>
          !(decide (t.node.queue = q) && decide (t.ring = some x.sqHead) && decide (t.stage = 1))) }
        let s := s.setQueue q { x with sqHead := x.sqHead + 1, sqTimes := x.sqTimes.drop 1 }
        s.addTask { k with stage := 3, endAt := s.now, status := stBadEncoding }
      else s

/-- A descriptor of a channel's chain whose CRC fails twice ends the task when those before it have ended (R447). -/
def State.badDescriptor (s : State) (u c : Nat) : State :=
  let x := s.chan u c
  if x.chainOpen || x.shadow.isSome then
    (s.setChan u c { x with shadow := some (x.shadow.getD (newDesc x.seq [])), shadowSt := stTaskAborted }).dmaAdvance u c
  else s

/-- What a lasting or poisoned read does to its reader. `redo`: an LPDDR5 address that may be recomputed. -/
def State.hitReader (s : State) (f : Failing) (redo : Option Nat) : State × Bool :=
  let desc := decide (siteCode f.site = 6)
  let fetch := desc || decide (siteCode f.site = 0)
  let engine (s : State) (e : Nat) : State × Bool :=
    match s.engTask e with
    | none => (s, false)
    | some t =>
      if (s.eng e).run.isNone then
        s.stopReader t (if desc then none else redo) (fun s => (s.modTask t.id (fun u => { u with corrupt := true })).engFinish e stTaskAborted)
      else s.stopReader t redo (fun s => (s.facetDrop e stTaskAborted).quotaAfter t.part)
  match f.reader with
  | .chan u c =>
    if u.val = 4 ∧ c.val < 15 then engine s c.val
    else
      match s.chanTask u.val c.val with
      | none => (s, false)
      | some t =>
        if t.stage ≠ 2 then (s, false)
        else if desc then (s.badDescriptor u.val c.val, false)
        else s.stopReader t redo (fun s => s.dmaAbort u.val c.val stTaskAborted)
  | .engine e => engine s e.val
  | .core c =>
    let x := s.core c.val
    if fetch then
      (match x.task with
       | some id =>
         (if fetchOpen x.fetch && !x.fetchedAll then
            (s.modTask id (fun t => { t with corrupt := true })).setCore c.val
              { x with fetch := x.fetch ++ [{ bytes := zeros 64, status := stTaskAborted }], fetched := x.fetched + 1 }
          else s)
       | none => s, false)
    else
      match x.task with
      | some id => ((s.modTask id (fun t => { t with corrupt := true })).coreFinish c.val stTaskAborted, false)
      | none => (s, false)
  | .narrow =>
    (match s.netReply.host with
     | some fn => ({ s with netReply := { status := stAccessDenied, bytes := [] }, seen := .unsupported }.bumpF 32 fn 0x1102 3 1, false)
     | none => ({ s with netReply := { status := stAccessDenied, bytes := zeros 8 } }, false))
  | .frontEnd st => (s.padLine st.val, false)
  | .hostEntry q => (s.badEntry q.val, false)
  | .proc x => (s.restartProc x.val 2, false)

/-- The unit to which a lasting error at a site is charged: KIND and INDEX (R443). -/
def siteCharged : ErrSite → Option (Nat × Nat)
  | .lpddr5 a => some (0, a / 4096)
  | .pad c row bank => some (1, 128 * c.val + 4 * bank.val + subBank row)
  | .engine e => some (3, 0x20 + e.val)
  | _ => none

/-! ### Commands -/

/-- Is the block of a site poisoned (R444)? -/
def State.sitePoisoned (s : State) : ErrSite → Bool
  | .lpddr5 a => kget false s.faults.poisoned (a / 64)
  | _ => false

/-- DETECTION_CHECK_FAIL (R444, R445): the read is retried at once; a poisoned block is not. -/
def execDetectionCheckFail (t : Nat) (site : ErrSite) (reader : ErrReader) (s : State) : Out :=
  whileLive t s fun s =>
    let f : Failing := { site := site, reader := reader }
    if s.sitePoisoned site then
      (((s.bump 64 0x8000 4 1).hitReader f none).1).addRecord site (s.readerId reader) 2 2
    else { s with faults := { s.faults with failing := s.faults.failing ++ [f] } }

/-- A transient counted, recorded, and raised once for a code and a partition in a tick (R445, R461). -/
def State.transient (s : State) (f : Failing) : State :=
  let code := siteCode f.site
  let n := kget 0 s.faults.transients code + 1
  let part := s.sitePart f.site
  let key := 16 * code + part.getD 8
  let s := { s.bump 64 0x8000 1 1 with faults := { s.faults with transients := kput s.faults.transients code n } }
  let s := s.addRecord f.site (s.readerId f.reader) 0 0
  if kget false s.faults.raised key then s
  else
    let s : State := { s with faults := { s.faults with raised := kput s.faults.raised key true } }
    let a := s.orFree (siteEvent f.site)
    let i := a.2.orFree (s.readerId f.reader)
    i.2.raiseEvent 0x80 part code (a.1 % 2 ^ 32) (i.1 % 256) n

/-- A lasting error: the reader's outcome, then the charge, then the record (R445–R447). -/
def State.lastingError (s : State) (f : Failing) : State :=
  let s := s.bump 64 0x8000 2 1
  let who := s.readerId f.reader
  let addr := match f.site with
    | .lpddr5 a => some a
    | _ => none
  let r := s.hitReader f addr
  match siteCharged f.site with
  | none => r.1.addRecord f.site who 1 (if r.2 then 1 else 2)
  | some u =>
    let c := r.1.chargeUnit u.1 u.2
    c.1.addRecord f.site who 1 (if r.2 then 1 else if c.2 then 4 else 3)

/-- DETECTION_RETRY_RESULT (R445): the oldest retry that is under way has its result. -/
def execDetectionRetryResult (t : Nat) (passed : Bool) (s : State) : Out :=
  whileLive t s fun s =>
    match s.faults.failing with
    | [] => s
    | f :: rest =>
      let s : State := { s with faults := { s.faults with failing := rest } }
      if passed then s.transient f else s.lastingError f

/-- RETIREMENT_LIST_APPEND (R453): SEC writes the oldest record that is due to the list in flash. -/
def execRetirementListAppend (t : Nat) (s : State) : Out :=
  whileLive t s fun s =>
    match s.faults.toList with
    | [] => s
    | b :: rest =>
      if s.proc 0 ≠ 1 then s
      else
        let s := s.flashWrite (0x110000 + 8 * s.listRecords) b
        { s.setReg 0x8010 3 (s.reg 0x8010 3 + 1) with faults := { s.faults with toList := rest } }

/-- A write of 1 to OD 8010.06: the list is erased (R453). Retirements in force stay. -/
def State.eraseList (s : State) : State :=
  { s with fw := { s.fw with flash := s.fw.flash.filter (fun e => decide (e.1 < 0x110000) || decide (0x120000 ≤ e.1)) } }.setReg 0x8010 3 0

end Sys2Proof.Machine
end

