-- ==== Sys2Proof/Machine/Link.lean ====
section
/-! DEFINITION. The die-to-die link (R347–R350): training, the data link layer, retrains. What waits on it goes when it carries
requests again. -/

namespace Sys2Proof.Machine

/-- Is module `m` in service: trained and not dropped? -/
def State.modUp (s : State) (m : Nat) : Bool :=
  if m = 0 then s.link.u0.isSome && !s.link.drop0 else s.link.u1.isSome && !s.link.drop1

/-- Link states in which host-bound requests are sent (R349). -/
def State.linkUp (s : State) : Bool := decide (2 ≤ s.reg 0x1100 1) && decide (s.reg 0x1100 1 ≤ 4)

/-- LINK_STATE, RATE and WIDTH of OD 1100 set together. -/
def State.setLink (s : State) (state rate width : Nat) : State :=
  (((s.setReg 0x1100 1 state).setReg 0x1100 3 rate).setReg 0x1100 4 width).noteWait

/-- Waiting host-bound writes fail at once in FAILED (R349). -/
def State.dropWaiting (s : State) : State := { s with link := { s.link with waiting := [] } }

/-- What DL_Down does to the link's security: sessions end, the keys are erased, IDE is OFF (R415, R419). -/
def State.linkSecOff (s : State) : State :=
  ({ s with sec := { s.sec with keys := [], sessions := [] } }.setReg 0x9000 2 0).setReg 0x9001 2 0

/-- Width and rate settled from the modules in service: both run at the lower rate (R348, R350). With none the link is down. -/
def State.settleLink (s : State) : State :=
  let a := if s.link.drop0 then none else s.link.u0
  let b := if s.link.drop1 then none else s.link.u1
  match a, b with
  | some x, some y =>
    let r := min x y
    ({ s with link := { s.link with u0 := some r, u1 := some r } }.setLink 2 r 128).flushHost
  | some x, none => (s.setLink 3 x 64).flushHost
  | none, some y => (s.setLink 4 y 64).flushHost
  | none, none =>
    let s := if s.link.dlUp then s.linkSecOff else s
    ({ s with link := { s.link with failedAt := some s.now, dlUp := false } }.setLink 6 0 0).dropWaiting

/-- Training begins again from step 1 of R348: a dropped module stays dropped (R350). -/
def State.startTraining (s : State) : State :=
  { s with link := { s.link with u0 := none, u1 := none, dlUp := false, failedAt := none } }.setLink 1 0 0

/-- A retrain begins (R350): counted, and host-bound requests wait. -/
def State.startRetrain (s : State) : State := if s.linkUp then ((s.bump 32 0x1100 5 1).setReg 0x1100 1 5).noteWait else s

/-- UCIE_MODULE_TRAINED (R348): module `m` has trained at a rate no higher than OD 1100.02. Until DL_Up the other module may still
join. -/
def execUcieModuleTrained (t : Nat) (m : Fin 2) (rate : Fin 3) (s : State) : Out :=
  whileLive t s fun s =>
    let st := s.reg 0x1100 1
    let open' := decide (st = 1) || (decide (st = 3 ∨ st = 4) && !s.link.dlUp)
    let dropped := if m.val = 0 then s.link.drop0 else s.link.drop1
    if open' && !dropped && !s.modUp m.val && decide (rate.val ≤ s.reg 0x1100 2) then
      (if m.val = 0 then { s with link := { s.link with u0 := some rate.val } }
       else { s with link := { s.link with u1 := some rate.val } }).settleLink
    else s

/-- LINK_TRAINING_RETRY (R348): training has failed on both modules, and 100 ms later it starts again. -/
def execLinkTrainingRetry (t : Nat) (s : State) : Out :=
  whileLive t s fun s =>
    match s.link.failedAt with
    | some f => if s.reg 0x1100 1 = 6 ∧ f + msCycles 100 ≤ s.now then s.startTraining else s
    | none => if s.reg 0x1100 1 = 1 ∧ s.modUp 0 = false ∧ s.modUp 1 = false then s.settleLink else s

/-- Modules in service as bits. -/
def State.modBits (s : State) : Nat := b2n (s.modUp 0) + 2 * b2n (s.modUp 1)

/-- LINK_RETRAIN raised at the end of a retrain (R364). -/
def State.retrainEvent (s : State) : State := s.raiseEvent 0x64 none s.modBits (s.reg 0x1100 1) 0 0

/-- Modules 0 and 1 dropped where they failed to retrain: OD 1100.07 reads 1 until a training from RESET (R350). -/
def State.dropModules (s : State) (lost0 lost1 : Bool) : State :=
  let s := { s with link := { s.link with drop0 := s.link.drop0 || lost0, drop1 := s.link.drop1 || lost1 } }
  if lost0 || lost1 then s.setReg 0x1100 7 1 else s

/-- The end of a retrain reported: LINK_RETRAIN, and LINK_DEGRADED with the module that is left where one has been dropped (R350, R364). -/
def State.reportRetrain (s : State) (lost0 lost1 : Bool) : State :=
  let s := s.retrainEvent
  if lost0 || lost1 then s.raiseEvent 0x65 none (if lost0 then 1 else 0) (s.reg 0x1100 3) 0 0 else s

/-- Is the DL_Down of INSECURE, or of a retrain that left no module, still to come (R350, R353, R415)? -/
def State.downDue (s : State) : Bool := decide (s.reg 0x9001 2 = 2) || (!s.link.again && (s.link.was0 || s.link.was1))

/-- DL_UP (R348, R350): the data link layer comes up, once a DL_Down that is due has come. After a hot reset, this ends a retrain: a module that was in service before it and has
not trained is dropped. -/
def execDlUp (t : Nat) (s : State) : Out :=
  whileLive t s fun s =>
    if s.linkUp && !s.link.dlUp && !s.downDue then
      let lost0 := s.link.was0 && !s.modUp 0
      let lost1 := s.link.was1 && !s.modUp 1
      let again := s.link.again
      let s := { s with link := { s.link with dlUp := true, again := false, was0 := false, was1 := false } }
      if again then (s.dropModules lost0 lost1).reportRetrain lost0 lost1 else s
    else s

/-- LINK_RETRAIN (R350): adapter replays exceed the UCIe limit. How many replays there were is free. -/
def execLinkRetrain (t : Nat) (s : State) : Out :=
  whileLive t s fun s =>
    if s.linkUp then
      let d := s.draw
      (d.2.bump 64 0x1100 6 (1 + Config.freeNat d.1)).startRetrain
    else s

/-- LINK_RETRAIN_DONE (R350): a module that failed is dropped and the link goes on at width 64; with none left it is FAILED. -/
def execLinkRetrainDone (t : Nat) (u0 : Bool) (u1 : Bool) (s : State) : Out :=
  whileLive t s fun s =>
    if s.reg 0x1100 1 = 5 then
      let a := s.modUp 0
      let b := s.modUp 1
      let a' := a && u0
      let b' := b && u1
      if !a' && !b' then
        { s with link := { s.link with u0 := none, u1 := none, was0 := a, was1 := b } }.settleLink.retrainEvent
      else
        ((s.dropModules (a && !a') (b && !b')).settleLink).reportRetrain (a && !a') (b && !b')
    else s

end Sys2Proof.Machine
end

