-- ==== Sys2Proof/Machine/Umbra.lean ====
section
/-! DEFINITION. The Umbra checker (17): judging the pairs of a tick, the rules, the verdict and its publication, SAFE_N,
disagreements, self-test lapses. -/

namespace Sys2Proof.Machine

/-! ### The safety-marks section (R424–R426) -/

/-- An output-pair record (R425). -/
structure OutPair where
  primary : Nat
  copy    : Nat
  srcA    : Nat
  srcB    : Nat
  fmt     : Nat
  maxOut  : Nat
  count   : Nat
  absTol  : Nat
  relTol  : Nat
  depends : Nat
  deriving DecidableEq, Repr

/-- Output pair `i` of a section. -/
def outPair (sec : List Byte) (i : Nat) : OutPair :=
  let b := slice sec (pairOff sec + 32 * i) 32
  { primary := fld (wordAt b 0) 15 0, copy := fld (wordAt b 0) 31 16, srcA := fld (wordAt b 1) 15 0,
    srcB := fld (wordAt b 1) 31 16, fmt := fld (wordAt b 2) 3 0, maxOut := fld (wordAt b 2) 31 8, count := wordAt b 3,
    absTol := wordAt b 4, relTol := wordAt b 5, depends := dwordAt b 6 }

/-- A rule record (R426). -/
structure Rule where
  kind   : Nat
  pair   : Nat
  other  : Nat
  first  : Nat
  count  : Nat
  stride : Nat
  a      : Nat
  b      : Nat
  oFirst : Nat
  deriving DecidableEq, Repr

/-- Rule `k` of a section. -/
def ruleRec (sec : List Byte) (k : Nat) : Rule :=
  let b := slice sec (ruleOff sec + 32 * k) 32
  { kind := fld (wordAt b 0) 3 0, pair := fld (wordAt b 0) 23 16, other := fld (wordAt b 0) 31 24, first := wordAt b 1,
    count := fld (wordAt b 2) 23 0, stride := fld (wordAt b 3) 23 0, a := wordAt b 4, b := wordAt b 5, oFirst := wordAt b 6 }

/-- VERDICT_DEADLINE of a section. -/
def markDeadline (sec : List Byte) : Nat := wordAt sec 2

/-! ### What is judged in this tick (R429) -/

/-- The plan of a partition whose processing half runs in this tick, and whether it is the replaced one (R429). -/
def State.procPlan (s : State) (p : Nat) : Option (Plan × Bool) :=
  let st := s.planState p
  if st = 2 then (s.planSt p).old.map (fun pl => (pl, true))
  else if st = 1 ∨ st = 3 ∨ st = 4 then (s.planSt p).cur.map (fun pl => (pl, false))
  else none

/-- Does a plan carry safety marks? -/
def Plan.marked (pl : Plan) : Bool := !(planSection pl 8).isEmpty

/-- The section that the checker judges in partition `p` in this tick, with the plan and whether it is the replaced one. -/
def State.judging (s : State) (p : Nat) : Option (Plan × Bool × List Byte) :=
  match s.procPlan p with
  | none => none
  | some (pl, old) => (klook s.umbra.tables (tableKey p old)).map (fun sec => (pl, old, sec))

/-- The partitions with a pair to judge. -/
def State.judgedParts (s : State) : List Nat := (List.range 8).filter (fun p => (s.judging p).isSome)

/-- Does a partition's plan with safety marks run its processing half? -/
def State.marksRun (s : State) (p : Nat) : Bool :=
  match s.procPlan p with
  | some (pl, _) => pl.marked
  | none => false

/-- The entry of a node of the tick. -/
def State.judgeTask (s : State) (p : Nat) (old : Bool) (n : Nat) : Option Task :=
  (s.nodeTasks p n).find? (fun (t : Task) => t.old == old)

/-- The cycle of the last edge. -/
def State.edgeAt (s : State) : Nat := s.tick.lastEdge.getD s.tick.enabledAt

/-! ### Elements and agreement (R428) -/

/-- The bits of element `i` of an extent in LPDDR5. -/
def State.element (s : State) (addr fmt i : Nat) : Nat :=
  let k := fmtBits fmt * i
  bitsOfBytes (s.ddrRead (addr + k / 8) 5) (k % 8) (fmtBits fmt)

/-- The value of an element, exactly. -/
def outVal (fmt bits : Nat) : FV := if isIntFmt fmt then fvInt (intVal fmt bits) else fdec (ffmt fmt) bits

/-- An F32 of a record. -/
def f32Val (w : Nat) : FV := fdec (ffmt 10) w

/-- Is `a` at most `b`? Never with a NaN. -/
def fvLe (a b : FV) : Bool := !fvIsNan a && !fvIsNan b && !fvGt a b

/-- Do two elements agree (R428)? -/
def agrees (x : OutPair) (a b : FV) : Bool :=
  let top := if fvGt (fvAbs a) (fvAbs b) then fvAbs a else fvAbs b
  fvLe (fvAbs (fvAdd a (fvNeg b))) (fvAdd (f32Val x.absTol) (fvMul (f32Val x.relTol) top))

/-- Elements of a pair outside the band. -/
def State.outsideBand (s : State) (x : OutPair) (pa pb : Nat) : Nat :=
  ((List.range x.count).filter (fun i =>
    !agrees x (outVal x.fmt (s.element pa x.fmt i)) (outVal x.fmt (s.element pb x.fmt i)))).length

/-! ### Judging a pair (R429) -/

/-- The intake status words of the streams that a pair depends on, joined: of the frames of this frame set. -/
def State.inputStatus (s : State) (depends : Nat) : Nat :=
  (List.range 64).foldl (fun a st => if depends.testBit st then
    Nat.lor a (((klook s.frames st).map (fun f => f.status)).getD 0) else a) 0

/-- Has an output node ended by the deadline with a word that carries no LATE, ABSENT or CORRUPT? -/
def outGood (deadline : Nat) : Option Task → Bool
  | none => false
  | some t => t.ended && decide (t.endAt ≤ deadline) && !(t.late || t.inLate) && !(t.absent || t.inAbsent)
      && !(t.corrupt || t.inCorrupt)

/-- The verdict bits of R430. -/
def vRange : Nat := 1
def vRate : Nat := 2
def vCross : Nat := 3
def vCopy : Nat := 4
def vMissing : Nat := 5
def vGlint : Nat := 6
def vInput : Nat := 7

/-- Where the destination extent of an output node lies (R423). -/
def State.outAt (s : State) (t : Option Task) : Nat := (t.map (fun k => (s.outExtent k).2.1)).getD 0

/-- Is the glint check of a frame that a pair depends on still to be latched (R25)? -/
def State.dependsOpen (s : State) (depends : Nat) : Bool :=
  (List.range 64).any (fun st => depends.testBit st && s.glintOpen st (s.tickCount - 1))

/-- The judgement of output pair `i` of partition `p`: the first condition that holds withholds it. -/
def State.judgeOne (s : State) (p i : Nat) (pl : Plan) (old : Bool) (sec : List Byte) : JudgedPair :=
  let x := outPair sec i
  let a := s.judgeTask p old x.primary
  let b := s.judgeTask p old x.copy
  let deadline := s.edgeAt + markDeadline sec
  let input := s.inputStatus x.depends
  let ra := (planNode pl x.srcA).res
  let rb := (planNode pl x.srcB).res
  let j (bit : Nat) : JudgedPair :=
    { part := p, pair := i, bits := 2 ^ bit, withheld := true, outside := 0, compared := false, agree := false, resA := ra, resB := rb }
  if !(outGood deadline a && outGood deadline b) || s.dependsOpen x.depends then j vMissing
  else if input.testBit 11 then j vGlint
  else if Nat.land (input % 65536) (s.reg 0x7000 6) ≠ 0 then j vInput
  else
    let n := s.outsideBand x (s.outAt a) (s.outAt b)
    let ok := decide (n ≤ x.maxOut)
    { part := p, pair := i, bits := if ok then 0 else 2 ^ vCopy, withheld := !ok, outside := n, compared := true, agree := ok,
      resA := ra, resB := rb }

/-- Is a pair judged already? -/
def State.isJudged (s : State) (p i : Nat) : Bool :=
  s.umbra.judged.any (fun j => decide (j.part = p) && decide (j.pair = i))

/-- The judgement of a pair entered. -/
def State.judgePair (s : State) (p i : Nat) : State :=
  match s.judging p with
  | none => s
  | some (pl, old, sec) =>
    if s.isJudged p i || decide ((markCounts sec).1 ≤ i) then s
    else { s with umbra := { s.umbra with judged := s.umbra.judged ++ [s.judgeOne p i pl old sec] } }

/-- Is every pair of every plan judged? -/
def State.allJudged (s : State) : Bool :=
  s.judgedParts.all (fun p => match s.judging p with
    | some (_, _, sec) => (List.range (markCounts sec).1).all (fun i => s.isJudged p i)
    | none => true)

/-! ### The rules (R426, R429) -/

/-- Key of a pair of a partition; key of an element of its rate history. -/
def pairKey (p i : Nat) : Nat := 256 * p + i
def rateKey (p i e : Nat) : Nat := pairKey p i * 2 ^ 32 + e % 2 ^ 32

/-- Is the pair withheld so far? -/
def isWithheld (js : List JudgedPair) (p i : Nat) : Bool :=
  js.any (fun j => decide (j.part = p) && decide (j.pair = i) && j.withheld)

/-- A pair withheld. -/
def withhold (js : List JudgedPair) (p i : Nat) : List JudgedPair :=
  js.map (fun j => if j.part = p ∧ j.pair = i then { j with withheld := true } else j)

/-- The primary output of a pair: where its extent starts. -/
def State.primaryAt (s : State) (p : Nat) (old : Bool) (x : OutPair) : Nat :=
  s.outAt (s.judgeTask p old x.primary)

/-- The elements that a rule checks. -/
def Rule.elems (r : Rule) : List Nat := (List.range r.count).map (fun i => r.first + i * r.stride)

/-- Does a rule fail on some element? -/
def State.ruleFails (s : State) (p : Nat) (old : Bool) (sec : List Byte) (r : Rule) : Bool :=
  let x := outPair sec r.pair
  let at' := s.primaryAt p old x
  let val (e : Nat) : FV := outVal x.fmt (s.element at' x.fmt e)
  if r.kind = 1 then r.elems.any (fun e => !(fvLe (f32Val r.a) (val e) && fvLe (val e) (f32Val r.b)))
  else if r.kind = 2 then
    r.elems.any (fun e => !fvLe (fvAbs (fvAdd (val e) (fvNeg (outVal x.fmt (kget 0 s.umbra.rate (rateKey (tableKey p old) r.pair e))))))
      (f32Val r.a))
  else
    let y := outPair sec r.other
    let to' := s.primaryAt p old y
    (List.range r.count).any (fun i =>
      !fvLe (fvAbs (fvAdd (val (r.first + i * r.stride)) (fvNeg (outVal y.fmt (s.element to' y.fmt (r.oFirst + i * r.stride))))))
        (f32Val r.a))

/-- Is a rule evaluated, as the pairs stand? -/
def State.ruleRuns (s : State) (js : List JudgedPair) (p : Nat) (old : Bool) (r : Rule) : Bool :=
  !isWithheld js p r.pair
    && !(decide (r.kind = 3) && isWithheld js p r.other)
    && !(decide (r.kind = 2) && !kget false s.umbra.released (pairKey (tableKey p old) r.pair))

/-- Pairs, rule bits, number of failures and first failure after the rules of a partition. -/
def State.rulesOf (s : State) (p : Nat) (x : List JudgedPair × Nat × Nat × Nat) : List JudgedPair × Nat × Nat × Nat :=
  match s.judging p with
  | none => x
  | some (_, old, sec) =>
    (List.range (markCounts sec).2.2).foldl (fun x k =>
      let r := ruleRec sec k
      if s.ruleRuns x.1 p old r && s.ruleFails p old sec r then
        let js := withhold x.1 p r.pair
        let js := if r.kind = 3 then withhold js p r.other else js
        (js, Nat.lor x.2.1 (2 ^ r.kind), x.2.2.1 + 1, min x.2.2.2 k)
      else x) x

/-- Pairs judged in this tick are not released until their verdict is published (R429). -/
def State.holdRates (s : State) (p : Nat) : State :=
  match s.judging p with
  | none => s
  | some (_, old, sec) =>
    { s with umbra := { s.umbra with released := (List.range (markCounts sec).1).foldl (fun m i =>
        kput m (pairKey (tableKey p old) i) false) s.umbra.released } }

/-- The rate history after a verdict: the values of released outputs, for the elements of RATE rules (R429). -/
def State.keepRates (s : State) (p : Nat) : State :=
  match s.judging p with
  | none => s
  | some (_, old, sec) =>
    let q := tableKey p old
    let rules := (List.range (markCounts sec).2.2).map (ruleRec sec)
    (List.range (markCounts sec).1).foldl (fun s i =>
      let rel := !isWithheld s.umbra.judged p i
      let x := outPair sec i
      let at' := s.primaryAt p old x
      let es := (rules.filter (fun r => decide (r.kind = 2) && decide (r.pair = i))).flatMap Rule.elems
      let rate := if rel then es.foldl (fun m e => kput m (rateKey q i e) (s.element at' x.fmt e)) s.umbra.rate else s.umbra.rate
      { s with umbra := { s.umbra with rate := rate, released := kput s.umbra.released (pairKey q i) rel } }) s

/-! ### Disagreement (R435, R439) -/

/-- Key of a resource pair, whichever comes first. -/
def resKey (a b : Nat) : Nat := 256 * min a b + max a b

/-- A DISAGREEMENT event, and OD 7002.04. -/
def State.disagreeEvent (s : State) (j : JudgedPair) (lasting transient : Bool) : State :=
  let d0 := j.resA + 256 * j.resB + 65536 * b2n lasting + 131072 * b2n transient
  (s.setReg 0x7002 4 (d0 + 2 ^ 32 * (s.tickCount % 2 ^ 32))).raiseEvent 0x71 (some j.part) j.pair d0 j.outside s.tickCount

/-- A core or an engine retired for a lasting disagreement (cause 3). -/
def State.retireRes (s : State) (r : Nat) : State := if isCore r then s.retireCore r 3 else s.retireEngine r 3

/-- The outcome of a resource pair in this tick entered and classed. `js` are its pairs that were compared. -/
def State.classify (s : State) (js : List JudgedPair) : State :=
  match js with
  | [] => s
  | j :: _ =>
    let k := resKey j.resA j.resB
    let bad := js.filter (fun x => !x.agree)
    let was := kget [] s.umbra.history k
    let now' := ((!bad.isEmpty) :: was).take 16
    let lasting := decide (3 ≤ (now'.filter id).length) && !bad.isEmpty
    let transient := bad.isEmpty && was.headD false
    let s := if bad.isEmpty then s else s.bump 64 0x7002 1 1
    let s := { s with umbra := { s.umbra with
      history := if lasting then kdel s.umbra.history k else kput s.umbra.history k now',
      bad := match bad with
        | b :: _ => kput s.umbra.bad k (pairKey b.part b.pair)
        | [] => s.umbra.bad,
      lasting := s.umbra.lasting || lasting, transient := s.umbra.transient || transient } }
    let s := bad.foldl (fun s b => s.disagreeEvent b lasting false) s
    if lasting then ((s.bump 32 0x7002 3 1).retireRes j.resA).retireRes j.resB
    else if transient then
      let same := (js.find? (fun x => decide (some (pairKey x.part x.pair) = klook s.umbra.bad k))).getD j
      (s.bump 64 0x7002 2 1).disagreeEvent same false true
    else s

/-- The compared pairs of the tick, resource pair by resource pair. -/
def resGroups (js : List JudgedPair) : List (List JudgedPair) :=
  let c := js.filter (fun j => j.compared)
  ((c.map (fun j => resKey j.resA j.resB)).eraseDups).map (fun k => c.filter (fun j => decide (resKey j.resA j.resB = k)))

/-- With the last pair judged, the rules are evaluated and the disagreements classed (R429, R435). -/
def State.judgeEnd (s : State) : State :=
  if s.umbra.ready || s.judgedParts.isEmpty || !s.allJudged then s
  else
    let x := s.judgedParts.foldl (fun x p => s.rulesOf p x) (s.umbra.judged, 0, 0, 0xFFFF)
    let groups := resGroups s.umbra.judged
    let s := { s with umbra := { s.umbra with judged := x.1, ruleBits := x.2.1, failed := x.2.2.1, first := x.2.2.2,
                                              ready := true } }
    let s := s.judgedParts.foldl State.holdRates s
    groups.foldl State.classify s

/-- PAIR_JUDGE (R429): both output nodes have ended. The judgement waits for the glint checks of the frames that it looks at (R25). -/
def execPairJudge (t : Nat) (p : Part) (pair : Nat) (s : State) : Out :=
  whileLive t s fun s =>
    match s.judging p.val with
    | none => s
    | some (_, old, sec) =>
      let x := outPair sec pair
      let ended (n : Nat) : Bool := match s.judgeTask p.val old n with
        | some k => k.ended
        | none => false
      if s.checkerOn && !s.umbra.published && ended x.primary && ended x.copy && !s.dependsOpen x.depends then (s.judgePair p.val pair).judgeEnd else s

/-- VERDICT_DEADLINE (R432): pairs that have not ended are judged MISSING. -/
def execVerdictDeadline (t : Nat) (p : Part) (s : State) : Out :=
  whileLive t s fun s =>
    match s.judging p.val with
    | none => s
    | some (_, _, sec) =>
      if s.checkerOn && !s.umbra.published && decide (s.edgeAt + markDeadline sec ≤ s.now) then
        ((List.range (markCounts sec).1).foldl (fun s i => s.judgePair p.val i) s).judgeEnd
      else s

/-! ### SAFE_N and the verdict (R430–R433) -/

/-- SAFE_N driven. A SAFE_CLEAR counts only after SAFE_N went low. -/
def State.driveSafe (s : State) (high : Bool) : State :=
  let u := s.umbra
  let u := if high then { u with safeN := true, wentLow := false, cleared := false }
    else { u with safeN := false, wentLow := true, cleared := u.cleared && !u.safeN }
  ({ s with umbra := u }).setReg 0x7000 5 (b2n high)

/-- The verdict word (R430). -/
def State.verdictWord (s : State) : Nat :=
  let js := s.umbra.judged
  let bits := js.foldl (fun a j => Nat.lor a j.bits) s.umbra.ruleBits
  let low := s.judgedParts.any (fun p => decide (s.reg (0x2110 + p) 6 = 0))
  bits + b2n (js.all (fun j => !j.withheld)) + 256 * b2n s.umbra.lasting + 512 * b2n s.umbra.transient
    + 1024 * b2n s.umbra.selftest + 2048 * b2n low

/-- The streams of a withheld pair. -/
def State.pairDepends (s : State) (j : JudgedPair) : Nat :=
  match s.judging j.part with
  | some (_, _, sec) => (outPair sec j.pair).depends
  | none => 0

/-- The verdict record of 40 bytes (R431). -/
def State.verdictRecord (s : State) (seq : Nat) : List Byte :=
  let wh := s.umbra.judged.filter (fun j => j.withheld)
  let b := leBytes 4 s.verdictWord ++ leBytes 4 seq ++ leBytes 8 s.tickCount
    ++ leBytes 8 (wh.foldl (fun a j => Nat.lor a (s.pairDepends j)) 0)
    ++ leBytes 1 (wh.foldl (fun a j => Nat.lor a (2 ^ j.part)) 0) ++ zeros 1
    ++ leBytes 2 s.umbra.judged.length ++ leBytes 2 wh.length ++ leBytes 2 s.umbra.first ++ leBytes 2 s.umbra.failed ++ zeros 2
  b ++ leBytes 4 (crc32 b)

/-- The record written to the PF and to each enabled VF whose partition holds safety-marked nodes (R368); vector 5 after each. -/
def State.sendVerdict (s : State) (b : List Byte) : State :=
  (0 :: (s.judgedParts.map (· + 1)).filter (fun f => (s.fnSt f).enabled)).foldl (fun s f =>
    let a := s.regF f 0x1105 5
    if a = 0 then s else (s.hostWrite f a b).fire f 5) s

/-- Held result records of one tick written (R432): WITHHELD where `all` says so or the node belongs to a withheld pair. -/
def State.releaseHeld (s : State) (mine : HeldResult → Bool) (all : Bool) : State :=
  let wh := s.umbra.judged.filter (fun j => j.withheld)
  let held (h : HeldResult) : Bool := all || wh.any (fun j => decide (j.part = h.part) && (match s.judging j.part with
    | some (_, _, sec) => decide ((outPair sec j.pair).primary = h.node) || decide ((outPair sec j.pair).copy = h.node)
    | none => false))
  let go := s.umbra.held.filter mine
  let s' := { s with umbra := { s.umbra with held := s.umbra.held.filter (fun h => !mine h) } }
  go.foldl (fun s (h : HeldResult) =>
    s.writeResult (s.servedBy h.part) (if held h then overlay h.bytes 0 (leBytes 4 (wordAt h.bytes 0 + 8)) else h.bytes)) s'

/-- The verdict of the tick published: SAFE_N, the record with vector 5, the VERDICT frame, the held results (R432, R433). -/
def State.publishVerdict (s : State) : State :=
  let word := s.verdictWord
  let seq := (s.umbra.seq + 1) % 2 ^ 32
  let rec' := s.verdictRecord seq
  let wh := (s.umbra.judged.filter (fun j => j.withheld)).length
  let s : State := { s with umbra := { s.umbra with seq := seq, published := true } }
  let s := s.judgedParts.foldl State.keepRates s
  let s := ((s.setBlob 0x7001 1 rec').bump 64 0x7001 2 1).bump 64 0x7001 3 wh
  let s := s.bump 64 0x7003 3 s.umbra.failed
  let s := if Nat.land word (s.reg 0x7000 2) ≠ 0 then s.driveSafe false
    else if decide (s.reg 0x7000 3 = 0) || !s.umbra.wentLow || s.umbra.cleared then s.driveSafe true
    else s
  let s := s.sendVerdict rec'
  let s := s.canQueueOwn { idOff := 0, ty := 3, seg := 0, count := 1, body := leBytes 8 s.tickCount ++ rec' }
  let tick := s.tickCount
  s.releaseHeld (fun h => decide (h.tick = tick)) false

/-- VERDICT_PUBLISH (R432, R433): SAFE_N, the record with vector 5 and the VERDICT frame, then the result records. -/
def execVerdictPublish (t : Nat) (s : State) : Out :=
  whileLive t s fun s => if s.checkerOn && s.umbra.ready && !s.umbra.published then s.publishVerdict else s

/-- VERDICT_FAULT (R439): with the verdict word where the tick's verdict is out. -/
def State.verdictFault (s : State) (source tick : Nat) : State :=
  s.raiseEvent 0x70 none source tick (if s.umbra.published ∧ tick = s.tickCount then s.verdictWord else 0) 0

/-- MISSING_VERDICT (R433): a tick has ended without its verdict. Its records carry WITHHELD (log 36). -/
def execMissingVerdict (t : Nat) (s : State) : Out :=
  whileLive t s fun s =>
    match s.umbra.missing with
    | none => s
    | some tick =>
      let s := { s with umbra := { s.umbra with missing := none } }
      let s := (s.bump 32 0x7001 4 1).driveSafe false
      let s := s.verdictFault 4 tick
      s.releaseHeld (fun h => decide (h.tick ≤ tick)) true

/-- The checker halts until hardware reset (R434). -/
def State.checkerFault (s : State) (source : Nat) : State :=
  if s.umbra.halted then s
  else
    let s := ({ s with umbra := { s.umbra with halted := true } }).driveSafe false
    let s := s.verdictFault source s.tickCount
    if s.umbra.published then s else s.releaseHeld (fun _ => true) true

/-- CHECKER_FAULT (R434): 0 lockstep, 1 SRAM, 2 section CRC. -/
def execCheckerFault (t : Nat) (source : Fin 3) (s : State) : Out :=
  whileLive t s fun s => s.checkerFault (source.val + 1)

/-- OD 7000.07. -/
def State.checkerState (s : State) : Nat :=
  if s.umbra.halted then 3
  else if s.reg 0x7000 1 = 0 then 0
  else if s.judgedParts.isEmpty || s.umbra.published then 1
  else 2

/-- OD 7003.01 and .02: output pairs and rules of the sections that the checker holds. -/
def State.pairsLoaded (s : State) : Nat := (s.umbra.tables.map (fun e => (markCounts e.2).1)).foldl (· + ·) 0
def State.rulesLoaded (s : State) : Nat := (s.umbra.tables.map (fun e => (markCounts e.2).2.2)).foldl (· + ·) 0

/-! ### Lapses (R438) -/

/-- SELFTEST_LAPSE: 100 ticks without a completed pass on a core in service or spare, and every further 100. -/
def execSelftestLapse (t : Nat) (c : CoreId) (s : State) : Out :=
  whileLive t s fun s =>
    let x := s.core c.val
    let st := s.reg (0x5000 + c.val) 1
    match s.corePart c.val with
    | none => s
    | some p =>
      let marked := match (s.planSt p).cur with
        | some pl => pl.marked && decide (s.planState p ≠ 0)
        | none => false
      if marked && decide (st ≤ 1) && decide (max x.passAt x.lapseAt + 100 ≤ s.tickCount) then
        let s := s.setCore c.val { x with lapseAt := s.tickCount }
        let s := { s with umbra := { s.umbra with selftest := true } }
        (s.bump 32 (0x7100 + c.val) 4 1).raiseEvent 0x72 (some p) c.val (s.tickCount - x.passAt) x.cursor 0
      else s

/-! ### The tick edge (R424, R433) -/

/-- Sections loaded at an edge while the checker runs: a SECTION_CRC mismatch halts it (R424, R434). A plan's rate history starts
empty. -/
def State.loadSection (s : State) (p : Nat) : State :=
  match (s.planSt p).cur with
  | none => s
  | some pl =>
    if pl.marked && s.checkerOn && decide (2 ≤ s.planState p ∨ s.planState p = 1) && (klook s.umbra.tables p).isNone then
      let sec := planSection pl 8
      if crc32 (overlay sec 12 (zeros 4)) ≠ wordAt sec 3 then s.checkerFault 3
      else { s with umbra := { s.umbra with tables := kput s.umbra.tables p sec } }
    else s

/-- Entries of a map whose table key (by `size` keys each) is `q` removed. -/
def dropTable {α : Type} (m : KMap α) (size q : Nat) : KMap α := m.filter (fun e => decide (e.1 / size ≠ q))

/-- Entries of table `q` moved to table `q'`, which they replace. -/
def moveTable {α : Type} (m : KMap α) (size q q' : Nat) : KMap α :=
  (m.filter (fun e => decide (e.1 / size = q))).foldl (fun m e => kput m (q' * size + e.1 % size) e.2)
    (dropTable (dropTable m size q) size q')

/-- The tables of a plan released. -/
def State.dropSection (s : State) (q : Nat) : State :=
  { s with umbra := { s.umbra with tables := kdel s.umbra.tables q, rate := dropTable s.umbra.rate (2 ^ 40) q,
                                   released := dropTable s.umbra.released 256 q } }

/-- The tables of a replaced plan kept beside the new plan's while it finishes (R27). -/
def State.ageSection (s : State) (p : Nat) : State :=
  { s with umbra := { s.umbra with tables := moveTable s.umbra.tables 1 p (8 + p), rate := moveTable s.umbra.rate (2 ^ 40) p (8 + p),
                                   released := moveTable s.umbra.released 256 p (8 + p) } }

/-- The end of a tick for the checker: a plan with marks ran its processing half and no verdict came (R433). -/
def State.endVerdict (s : State) : State :=
  let ran := (List.range 8).any (fun p => s.marksRun p)
  let due := ran && (s.checkerOn || s.umbra.halted) && !s.umbra.published
  let s := if due then ({ s with umbra := { s.umbra with missing := some s.tickCount } }).driveSafe false else s
  { s with umbra := { s.umbra with prev := if s.umbra.published then some s.umbra.judged else none, judged := [], ready := false, ruleBits := 0, failed := 0, first := 0xFFFF, published := false,
                                   selftest := false, lasting := false, transient := false } }

/-- SAFE_N at the start of a tick (R433): low where the checker does not run, or no plan with marks processes. -/
def State.startVerdict (s : State) : State :=
  if s.checkerOn && (List.range 8).any (fun p => s.marksRun p) then s
  else if s.umbra.safeN then s.driveSafe false else s

end Sys2Proof.Machine
end

