-- ==== Sys2Proof/Machine/Power.lean ====
section
/-! DEFINITION. Power, temperature, margins and reset (18 R457–R460, 19), and the JTAG port (20 R496). -/

namespace Sys2Proof.Machine

/-! ### AVSBus (R467–R469) -/

/-- The target that the last request names, or the one in force. -/
def State.avsTarget (s : State) : Nat :=
  match s.avs.queue.getLast? with
  | some v => v.1
  | none => s.avs.flight.getD (s.reg 0x8030 6)

/-- The next multiple of 5 mV from 650 to 850 that is not below `v` (R467). -/
def avsUp (v : Nat) : Nat := max 650 (min 850 (5 * ceilDiv v 5))

/-- A voltage request sent. -/
def State.avsSend (s : State) (v : Nat) : State :=
  { s with avs := { s.avs with flight := some v, second := false, sentAt := s.now } }.bump 64 0x2070 7 1

/-- A voltage request: sent, or behind what is on the bus. `rush` marks an emergency raise. -/
def State.avsRequest (s : State) (v : Nat) (rush : Bool) : State :=
  if s.avs.flight.isSome || s.avs.status then { s with avs := { s.avs with queue := s.avs.queue ++ [(v, rush)] } } else s.avsSend v

/-- The next request in order is sent. -/
def State.avsNext (s : State) : State :=
  match s.avs.queue with
  | [] => { s with avs := { s.avs with flight := none, second := false } }
  | v :: vs => State.avsSend { s with avs := { s.avs with queue := vs } } v.1

/-- A request failed: it is sent once more, and after a second failure no change is made for 100 ticks but for an emergency raise that waits
(R469). The code and the arguments of the log entry are free. -/
def State.avsFail (s : State) : State :=
  if s.avs.second then
    let d := s.draw
    let s := (d.2.bump 32 0x2070 6 1).setReg 0x8030 6 (s.reg 0x2070 1)
    let s := s.logAdd 1 0 none (Config.freeNat d.1 % 65536) []
    State.avsNext { s with avs := { s.avs with queue := s.avs.queue.filter (fun v => v.2), hold := some s.tickCount } }
  else { s with avs := { s.avs with second := true, sentAt := s.now } }.bump 64 0x2070 7 1

/-- Has what was sent last had no response for 20 µs (R469)? -/
def State.avsLate (s : State) : Bool := decide (s.avs.sentAt + 10000 ≤ s.now)

/-- A Status read begins or ends (R467): what waits for it is sent then. -/
def State.avsStatus (s : State) (on : Bool) : State :=
  let s : State := { s with avs := { s.avs with status := on, sentAt := s.now } }
  if on ∨ s.avs.flight.isSome then s else s.avsNext

/-- AVS_RESPONSE (R467, R469): the read-back within 10 mV of the request puts the target in force; an alert calls for a Status read next. One
that comes after 20 µs is none. -/
def execAvsResponse (t : Nat) (a : AvsReply) (s : State) : Out :=
  whileLive t s fun s =>
    if s.proc 1 ≠ 1 then s
    else if s.avs.status then (if a.crcOk && a.alert && !s.avsLate then s.avsStatus true else s.avsStatus false)
    else
      match s.avs.flight with
      | none => s
      | some v =>
        if a.crcOk = false ∨ s.avsLate = true then s.avsFail
        else
          let s := s.setReg 0x2070 1 a.readback
          let good := decide (a.readback ≤ v + 10) && decide (v ≤ a.readback + 10)
          if good then
            (if a.alert then State.avsStatus { s.setReg 0x8030 6 v with avs := { s.avs with flight := none, second := false } } true
             else (s.setReg 0x8030 6 v).avsNext)
          else if a.alert then s.avsFail.avsStatus true
          else s.avsFail

/-- AVS_TIMEOUT (R469): no response within 20 µs. -/
def execAvsTimeout (t : Nat) (s : State) : Out :=
  whileLive t s fun s =>
    if s.proc 1 ≠ 1 ∨ s.avsLate = false then s
    else if s.avs.status then s.avsStatus false
    else if s.avs.flight.isSome then s.avsFail
    else s

/-- AVS_HOLD_EXPIRY (R469): 100 ticks after a request that failed twice. -/
def execAvsHoldExpiry (t : Nat) (s : State) : Out :=
  whileLive t s fun s =>
    match s.avs.hold with
    | some k => if k + 100 ≤ s.tickCount then { s with avs := { s.avs with hold := none } } else s
    | none => s

/-! ### Margins (R457–R460) -/

/-- Is a core or an engine in service? -/
def State.unitServes (s : State) (u : Nat) : Bool := (isCore u || isEngine u) && !s.resRetired u

/-- The projected margin at 850 mV of a slack read now (R457). -/
def State.projected (s : State) (u slack : Nat) : Int :=
  (slack : Int) + (850 - (s.reg 0x2070 1 : Int)) * Config.sensitivity u

/-- The slack of a reading, in steps of 5 ps (R457). -/
def slackOf (m : Nat × Nat × Int) : Nat := min (m.2.1 / 5 * 5) 65535

/-- The drift that a unit shows: of two ring oscillators the slower one's (R457; log 39). -/
def State.driftOf (s : State) (m : Nat × Nat × Int) : Int :=
  ((s.env.margins.filter (fun n => decide (n.1 = m.1))).map (fun n => n.2.2)).foldl min m.2.2

/-- A monitor's reading taken (R457). -/
def State.readMargin (s : State) (m : Nat × Nat × Int) : State :=
  let u := m.1
  if 0x37 ≤ u ∨ u = 0x2F then s
  else
    let slack := if u < 0x30 then slackOf m else 0
    let s := (s.setReg (0x8100 + u) 1 slack).setReg (0x8100 + u) 3 (uns 32 (s.driftOf m))
    let p := s.projected u slack
    match klook s.avs.proj u with
    | none => { s.setReg (0x8100 + u) 2 slack with avs := { s.avs with proj := kput s.avs.proj u p } }
    | some q =>
      { s.setReg (0x8100 + u) 2 (min slack (s.reg (0x8100 + u) 2)) with avs := { s.avs with proj := kput s.avs.proj u (min p q) } }

/-- A MARGIN event (R461). -/
def State.marginEvent (s : State) (u action target : Nat) : State :=
  let part := if isCore u then s.corePart u else if isEngine u then s.enginePart (u - 0x20) else none
  s.raiseEvent 0x82 part u (s.reg (0x8100 + u) 2) action target

/-- The unit whose number is smallest, the lowest code of several. -/
def smallest (m : List (Nat × Int)) : Option Nat :=
  (m.foldl (fun (a : Option (Nat × Int)) e => match a with
    | none => some e
    | some b => if e.2 < b.2 then some e else some b) none).map (fun e => e.1)

/-- The emergency raise of R459: one request at an edge, with an event for the lowest reading (log 39). -/
def State.emergency (s : State) : State :=
  let low := s.env.margins.filter (fun m => s.unitServes m.1 && decide (slackOf m < s.reg 0x8030 5))
  match smallest (low.map (fun m => (m.1, (slackOf m : Int)))) with
  | none => s
  | some u =>
    let v := avsUp (s.avsTarget + 10)
    if 850 ≤ s.avsTarget then s
    else
      let s := (s.avsRequest v true).bump 32 0x8030 8 1
      { s.marginEvent u 1 v with avs := { s.avs with floor := v } }

/-- The plans that carry work on a resource. -/
def State.plansOn (s : State) (r : Nat) : List Plan :=
  ((List.range 8).filterMap (fun p => (s.planSt p).cur)).filter (fun pl => carriesWork pl r)

/-- A unit found exhausted at the last edge: retired where its work can go or there is none, else flagged (R460). -/
def State.exhausted (s : State) (u : Nat) : State :=
  if s.unitServes u = false ∨ s.reg (0x8100 + u) 4 = 1 then s
  else if (s.plansOn u).all (fun pl => (s.substituteFor pl u).isSome) then
    let s := if isCore u then s.retireCore u 4 else s.retireEngine u 4
    s.marginEvent u 2 s.avsTarget
  else (s.setReg (0x8100 + u) 4 1).marginEvent u 3 850

/-- Is a flagged unit in service? VDD_CORE is then held at 850 mV (R460). -/
def State.heldHigh (s : State) : Bool := (List.range 0x2F).any (fun u => s.unitServes u && decide (s.reg (0x8100 + u) 4 = 1))

/-- Units whose projected margin at 850 mV is below RETIRE_PS at this edge (R460). -/
def State.spentNow (s : State) : List Nat :=
  (s.env.margins.filter (fun m => s.unitServes m.1 && decide (s.projected m.1 (slackOf m) < (s.reg 0x8030 4 : Int)))).map (fun m => m.1)

/-- The margins at a tick edge: the units of the last edge, the readings, the emergency raise, the hold (R457, R459, R460, R468). -/
def State.marginEdge (s : State) : State :=
  let s := { s with avs := { s.avs with floor := 0 } }
  let s := s.avs.spent.foldl State.exhausted s
  let s := s.env.margins.foldl State.readMargin s
  let s := s.emergency
  let s := { s with avs := { s.avs with spent := s.spentNow } }
  if s.heldHigh then
    let s := if s.avsTarget < 850 ∧ s.avs.hold = none then s.avsRequest 850 false else s
    { s with avs := { s.avs with floor := 850 } }
  else s

/-- The lowest target at which a unit keeps its smallest margin at or above GUARD_PS (R458). -/
def State.needOf (s : State) (e : Nat × Int) : Nat :=
  if isCore e.1 ∨ isEngine e.1 then
    (if s.unitServes e.1 then
       ((List.range 41).map (fun (i : Nat) => 650 + 5 * i)).find? (fun (t : Nat) =>
         decide ((s.reg 0x8030 3 : Int) ≤ e.2 - (850 - (t : Int)) * Config.sensitivity e.1)) |>.getD 850
     else 650)
  else max 650 (min 850 (Config.clusterTarget e.1 (sgn 32 (s.reg (0x8100 + e.1) 3)) / 5 * 5))

/-- SERVICE_WINDOW (R458): at every SERVICE_PERIOD-th edge, and at the edge after a request, PMC re-plans the target. A rise under
way completes first. -/
def execServiceWindow (t : Nat) (s : State) : Out :=
  whileLive t s fun s =>
    let n := s.reg 0x8030 1
    let asked := match s.avs.asked with
      | some k => decide (k < s.tickCount)
      | none => false
    let due := decide (n ≠ 0) && decide (0 < s.tickCount) && decide (s.tickCount % n = 0) && decide (s.reg 0x8030 7 ≠ s.tickCount)
    if s.proc 1 = 1 ∧ s.tick.lastEdge.isSome ∧ (asked || due) then
      let goal := (s.avs.proj.map s.needOf).foldl max 650
      let u := (smallest ((s.avs.proj.filter (fun e => s.unitServes e.1)).map (fun e => (e.1, (s.reg (0x8100 + e.1) 2 : Int))))).getD 0
      let s := s.marginEvent u 0 goal
      let s := s.avs.proj.foldl (fun s e => s.setReg (0x8100 + e.1) 2 0) s
      let s := s.setReg 0x8030 7 s.tickCount
      let rising := (s.avs.goal.filter (fun g => decide (s.avsTarget < g) && decide (goal < g)))
      { s with avs := { s.avs with goal := some (rising.getD goal), next := rising.map (fun _ => goal), proj := [], asked := none } }
    else s

/-- The re-plan's step in a guard interval: at most 10 mV, never below what the edge set; no fall in THROTTLE (R458, R468, R480). -/
def State.replanStep (s : State) : State :=
  match s.avs.goal with
  | none => s
  | some g =>
    let v := s.avsTarget
    if s.proc 1 ≠ 1 ∨ s.avs.hold.isSome ∨ s.avs.flight.isSome ∨ s.avs.status = true then s
    else if v < g then s.avsRequest (max 650 (min ((v + 10) / 5 * 5) g)) false
    else if g < v then
      let w := max (max (avsUp (v - 10)) g) s.avs.floor
      if s.reg 0x2071 11 = 2 ∨ v ≤ w then s else s.avsRequest w false
    else { s with avs := { s.avs with goal := s.avs.next, next := none } }

/-! ### Temperature and power at a tick edge (R413, R478–R481) -/

/-- WARN and THROTTLE levels by grade, in 0.1 °C (R479). -/
def warnLevel : Int := if Config.gradeKI then 950 else 1150
def throttleLevel : Int := if Config.gradeKI then 1000 else 1200
def ratedLevel : Int := if Config.gradeKI then 1050 else 1250

/-- The thermal state after a reading (R479): a state is left 5 °C below its level. -/
def thermalNext (st : Nat) (tj : Int) : Nat :=
  if throttleLevel ≤ tj ∨ (st = 2 ∧ throttleLevel - 50 < tj) then 2
  else if warnLevel ≤ tj ∨ (1 ≤ st ∧ warnLevel - 50 < tj) then 1
  else 0

/-- The readings of an edge taken by PMC, the mean power of OD 3020.02 every 100 ms (R413; log 40); the code and arguments of a log entry are free. -/
def State.takeReadings (s : State) (env : Readings) : State :=
  let tj := env.temps.foldl max (env.temps.headD 0)
  let first := decide (s.env.temps = [])
  let was := s.reg 0x2071 11
  let st := thermalNext was tj
  let s := (List.range 8).foldl (fun s i => s.setReg 0x2071 (i + 1) (uns 16 (env.temps.getD i 0))) s
  let s := s.setReg 0x2071 9 (uns 16 tj)
  let s := s.setReg 0x2071 10 (uns 16 (if first then tj else max tj (sgn 16 (s.reg 0x2071 10))))
  let s := s.setReg 0x2071 11 st
  let s := if ratedLevel < tj then s.bump 64 0x2071 12 1 else s
  let s := if st ≠ 0 then s.bump 64 0x2071 13 1 else s
  let s := if st ≠ was then
      (let d := s.draw; d.2.logAdd 1 1 none (Config.freeNat d.1 % 65536) [])
    else s
  let s := (((s.setReg 0x2070 2 env.currentMa).setReg 0x2070 3 env.sramMv).setReg 0x2070 4 env.ucieMv).setReg 0x2070 5 env.ddrMv
  let s := s.setReg 0x3020 1 (env.powerMw / 10 * 10)
  let held := match s.avs.wattAt with
    | some c => decide (s.now < c + msCycles 100)
    | none => false
  let s := if held then s else { s.setReg 0x3020 2 env.powerW with avs := { s.avs with wattAt := some s.now } }
  { s with env := env }

/-- What PMC does at a tick edge; while it restarts, everything it holds stands (R394, R480). -/
def State.powerEdge (s : State) (env : Readings) : State :=
  if s.proc 1 = 1 then (s.takeReadings env).marginEdge else s

/-! ### Stops and resets (R472, R475–R478) -/

/-- Pins as R476 gives them; the port terminations are off (R492). -/
def State.pinsLow (s : State) : State :=
  { s with ports := s.ports.map (fun e => (e.1, { e.2 with fsync := false, term := false })), umbra := { s.umbra with safeN := false, wentLow := true } }

/-- The die stops until hardware reset (R478): outputs, clocks and refresh. The host sees DL_Down. -/
def State.stopDie (s : State) : State :=
  { s.pinsLow with stopped := true, ddr := [], link := { s.link with dlUp := false, u0 := none, u1 := none } }

/-- What an output shows: a level, a state of its interface, or what its unit drives; `undefined` while a rail is out of range (R466). -/
inductive PinLevel where
  | low
  | high
  | highZ
  | asserted
  | idle
  | driven
  | undefined
  deriving DecidableEq, Repr

/-- The outputs of R476. -/
structure OutPins where
  safeN       : PinLevel
  fsync       : List PinLevel
  canTx       : PinLevel
  i3c         : PinLevel
  qspiSelect  : PinLevel
  qspi        : PinLevel
  avs         : PinLevel
  ports       : PinLevel
  lpddr5Reset : PinLevel
  lpddr5Cke   : PinLevel
  ucie        : PinLevel
  deriving DecidableEq, Repr

/-- The outputs while RESET_N is low, and of a die that R478 has stopped. -/
def resetPins : OutPins :=
  { safeN := .low, fsync := List.replicate 16 .low, canTx := .high, i3c := .highZ, qspiSelect := .high, qspi := .highZ, avs := .low,
    ports := .highZ, lpddr5Reset := .asserted, lpddr5Cke := .low, ucie := .idle }

/-- The outputs while a rail is out of range (R466). -/
def undefinedPins : OutPins :=
  { safeN := .undefined, fsync := List.replicate 16 .undefined, canTx := .undefined, i3c := .undefined, qspiSelect := .undefined,
    qspi := .undefined, avs := .undefined, ports := .undefined, lpddr5Reset := .undefined, lpddr5Cke := .undefined, ucie := .undefined }

/-- The outputs as the board sees them (R466, R476, R478). -/
def State.outPins (s : State) : OutPins :=
  let level (b : Bool) : PinLevel := if b then .high else .low
  if s.railBad then undefinedPins
  else if s.resetN = false ∨ s.stopped = true then resetPins
  else
    { safeN := level s.umbra.safeN, fsync := (List.range 16).map (fun n => level (s.port n).fsync), canTx := .driven, i3c := .driven,
      qspiSelect := .driven, qspi := .driven, avs := .driven, ports := .driven, lpddr5Reset := .driven, lpddr5Cke := .driven, ucie := .driven }

/-- THERMAL_TRIP (R478): a sensor reaches the trip level. -/
def execThermalTrip (t : Nat) (_sensor : Fin 8) (s : State) : Out := whileLive t s State.stopDie

/-- PLL_LOSS_OF_LOCK (R472). -/
def execPllLossOfLock (t : Nat) (pll : Pll) (s : State) : Out :=
  whileLive t s fun s =>
    match pll with
    | .ucie => s.startRetrain
    | _ => s.stopDie

/-- RESET_N_ASSERT (R475–R477): a hardware reset. The flash, fuses, the level of TICK_IN and what lies outside the die stay;
the TAP does unless a supply was lost (R465). -/
def execResetNAssert (t : Nat) (s : State) : Out :=
  let s := (s.at t).tornFlash
  .next { State.reset with
    now := s.now, fw := { fwReset with flash := s.fw.flash, floors := s.fw.floors }, tick := { tickReset with tickIn := s.tick.tickIn },
    jtag := if s.railBad then State.reset.jtag else s.jtag, hostMem := s.hostMem, free := s.free, railBad := s.railBad, pending := s.pending }

/-- RESET_N_RELEASE (R475): the die runs, the link trains (R348); the ROM releases SEC and PMC with ROM_RELEASE. The supervisor
releases the pin with every rail in range (R466). -/
def execResetNRelease (t : Nat) (s : State) : Out :=
  let s := s.at t
  .next (if s.resetN then s
    else
      { s with resetN := true, railBad := false, jtag := if s.jtag.ir = 0 then { s.jtag with ir := 15 } else s.jtag }.startTraining)

/-- RAIL_OUT_OF_RANGE (R466): the die runs on; what it puts out is undefined from now on. -/
def execRailOutOfRange (t : Nat) (_rail : Rail) (s : State) : Out :=
  whileLive t s fun s => { s with railBad := true }

/-! ### JTAG (R496) -/

/-- The next state of the TAP controller of IEEE 1149.1 (log 8): 0 Test-Logic-Reset, 1 Run-Test/Idle, 2 to 8 Select, Capture, Shift, Exit1,
Pause, Exit2, Update for DR, 9 to 15 the same for IR. -/
def tapNext (st : Nat) (tms : Bool) : Nat :=
  let base := if st < 9 then 2 else 9
  if st = 0 then (if tms then 0 else 1)
  else if st = 1 then (if tms then 2 else 1)
  else if st = 2 then (if tms then 9 else 3)
  else if st = 9 then (if tms then 0 else 10)
  else if st = base + 1 ∨ st = base + 2 then (if tms then base + 3 else base + 2)
  else if st = base + 3 then (if tms then base + 6 else base + 4)
  else if st = base + 4 then (if tms then base + 5 else base + 4)
  else if st = base + 5 then (if tms then base + 6 else base + 2)
  else (if tms then 2 else 1)

/-- Bits of a number, least first. -/
def bitsOf (n v : Nat) : List Bool := (List.range n).map v.testBit

/-- What Capture-DR takes: IDCODE, the pins over the boundary register, or one 0 for BYPASS. Levels on pins are free. -/
def State.captureDr (s : State) : State × List Bool :=
  if s.jtag.ir = 1 then (s, bitsOf 32 Config.idcode.toNat)
  else if s.jtag.ir = 2 ∨ s.jtag.ir = 0 then
    (let d := s.draw; (d.2, bitsOf Config.boundaryCells (Config.freeNat d.1)))
  else (s, [false])

/-- Is a boundary instruction loaded? -/
def JtagSt.boundary (j : JtagSt) : Bool := decide (j.ir = 0) || decide (j.ir = 2)

/-- JTAG_TAP_CLOCK: the work of the controller's state, then its next state. JTAG_TRST_N low holds Test-Logic-Reset. -/
def execJtagTapClock (t : Nat) (tms tdi trstN : Bool) (s : State) : Out :=
  let s := s.at t
  if !trstN then .next { s with jtag := { s.jtag with tap := 0, ir := 1 } }
  else
    let j := s.jtag
    let r : State × JtagSt :=
      if j.tap = 0 then (s, { j with ir := 1 })
      else if j.tap = 3 then (let c := s.captureDr; (c.1, { j with dr := c.2 }))
      else if j.tap = 4 then (s, { j with dr := j.dr.drop 1 ++ [tdi], tdo := j.dr.headD false })
      else if j.tap = 8 then (s, if j.boundary then { j with latch := j.dr } else j)
      else if j.tap = 10 then (s, { j with irs := 1 })
      else if j.tap = 11 then (s, { j with irs := j.irs / 2 + 8 * b2n tdi, tdo := j.irs.testBit 0 })
      else if j.tap = 15 then (s, { j with ir := if j.irs = 0 ∧ s.resetN = true then 15 else j.irs })
      else (s, j)
    .next { r.1 with jtag := { r.2 with tap := tapNext j.tap tms } }

end Sys2Proof.Machine
end

