-- ==== Sys2Proof/Machine/Secure.lean ====
section
/-! DEFINITION. Partitions after a teardown and the host link's security (16): scrubbing, IDE, the SPDM responder. -/

namespace Sys2Proof.Machine

/-! ### Scrubbing (R411) -/

/-- Is a place still being scrubbed? -/
def State.scrubbing (s : State) (granule : Bool) (i : Nat) : Bool :=
  s.scrubs.any (fun x => decide (x.granule = granule) && decide (x.index = i))

/-- The first scrub's fill, running on a channel of DMA4, with all its bytes written: its bytes and its descriptor count (R226). -/
def State.fillRest (s : State) (x : Scrub) : State :=
  let left := x.bytes - s.scrubLanded
  ((s.zeroPlace x).bump 64 0x5414 2 left).bump 64 0x5414 3 1

/-- SCRUB_FILL_DONE (R411, R480): the fill that runs on a channel of DMA4 ends, what of it has not landed yet with it, and its place returns to
the free pool. A fill that the commands of its channel have run to its end has ended there (log 71). -/
def execScrubFillDone (t : Nat) (s : State) : Out :=
  whileLive t s fun s =>
    match s.scrubs, s.scrubChan with
    | x :: _, some c => (s.fillRest x).dmaFinish 4 c stOk
    | _, _ => s

/-! ### IDE (R414–R416) -/

/-- An SPDM request at SEC: while SEC restarts, the ROM answers ResponseNotReady and the request is kept; without SEC nothing
answers. -/
def State.spdm (s : State) (i : Instr) (f : State → State) : State :=
  if s.proc 0 = 1 then f { s with sec := { s.sec with deferred := none } }
  else if s.proc 0 = 2 then { s with sec := { s.sec with resp := .notReady 18, deferred := some i } }
  else s

/-- The place of a key: set, sub-stream, direction. -/
def ideKey (set sub : Nat) (tx : Bool) : Nat := 6 * set + 2 * sub + b2n tx

/-- Is a session of SPDM established? -/
def State.sessionUp (s : State) (id : Nat) : Bool := s.sec.sessions.any (fun e => decide (e.1 = id) && e.2.1)

/-- A key of a key set taken by SEC (R414), through an established session. -/
def State.takeKey (s : State) (session set sub : Nat) (tx : Bool) (key : List Byte) : State :=
  if s.sessionUp session = true ∧ key.length = 32 then
    { s with sec := { s.sec with keys := kput s.sec.keys (ideKey set sub tx) key } }
  else s

/-- IDE_KEY_PROGRAM (R414): an SPDM request that carries IDE_KM (R417). -/
def execIdeKeyProgram (t : Nat) (session : Nat) (set : Fin 2) (sub : Fin 3) (tx : Bool) (key : List Byte) (s : State) : Out :=
  whileLive t s fun s =>
    s.spdm (.ideKeyProgram t session set sub tx key) (fun s => s.takeKey session set.val sub.val tx key)

/-- Is every key of a set programmed? -/
def State.setWhole (s : State) (set : Nat) : Bool := (List.range 6).all (fun i => (klook s.sec.keys (6 * set + i)).isSome)

/-- A key set put in force (R415, R416): where it is whole, IDE is SECURE under it, and the counts restart. What waited for IDE goes. -/
def State.keySetGo (s : State) (session set : Nat) : State :=
  if s.sessionUp session = true ∧ s.setWhole set = true then
    (((({ s with sec := { s.sec with keyAt := s.now } }.setReg 0x9001 2 1).setReg 0x9001 3 set).setReg 0x9001 4 0).bump 32 0x9001 7 1).flushHost
  else s

/-- K_SET_GO (R415, R416): an SPDM request that carries IDE_KM (R417). -/
def execKSetGo (t : Nat) (session : Nat) (set : Fin 2) (s : State) : Out :=
  whileLive t s fun s => s.spdm (.kSetGo t session set) (fun s => s.keySetGo session set.val)

/-- INSECURE (R415): the keys are erased and the link goes down; DL_Down itself is the step HOT_RESET (log 33). -/
def State.insecure (s : State) : State :=
  ({ s with sec := { s.sec with keys := [] } }.setReg 0x9001 2 2).startTraining

/-- IDE_MAC_FAILURE (R415). -/
def execIdeMacFailure (t : Nat) (s : State) : Out :=
  whileLive t s fun s => if s.reg 0x9001 2 = 1 then (s.bump 32 0x9001 8 1).insecure else s

/-- IDE_REKEY (R416): the highest count reaches 2^48. -/
def execIdeRekey (t : Nat) (sub : Fin 3) (s : State) : Out :=
  whileLive t s fun s =>
    if s.reg 0x9001 2 = 1 ∧ s.reg 0x9001 4 < 2 ^ 48 then
      (s.setReg 0x9001 4 (2 ^ 48)).raiseEvent 0xA0 none sub.val (s.reg 0x9001 3) (2 ^ 48 / 2 ^ 32) 0
    else s

/-- IDE_HARD_LIMIT (R416): a count reaches 2^52. -/
def execIdeHardLimit (t : Nat) (_sub : Fin 3) (s : State) : Out :=
  whileLive t s fun s => if s.reg 0x9001 2 = 1 then (s.setReg 0x9001 4 (2 ^ 52)).insecure else s

/-- TLPs sent on a sub-stream in the first `n` cycles of the key set that the `k`-th K_SET_GO put in force: how many a cycle is free
(R416; log 34). -/
def tlpsSent (k sub : Nat) : Nat → Nat
  | 0 => 0
  | n + 1 => tlpsSent k sub n + Config.tlpCount k sub n

/-- The highest count of TLPs (OD 9001.04): what IDE_REKEY and IDE_HARD_LIMIT have said it has reached bounds it. -/
def State.tlpValue (s : State) : Nat :=
  let n := s.reg 0x9001 4
  let sent (sub : Nat) : Nat := tlpsSent (s.reg 0x9001 7) sub (s.now - s.sec.keyAt)
  if s.reg 0x9001 2 = 1 then
    max n (min (max (sent 0) (max (sent 1) (sent 2))) (if n < 2 ^ 48 then 2 ^ 48 - 1 else 2 ^ 52 - 1))
  else n

/-! ### Measurements (R418, R419) -/

/-- A value of 48 bytes: digest, VERSION, SVN, state bits, tick. -/
def State.imageMeasure (s : State) (digest : List Byte) (version svn bits : Nat) : List Byte :=
  slice digest 0 32 ++ leBytes 4 version ++ leBytes 2 svn ++ leBytes 2 bits ++ leBytes 8 s.tickCount

/-- The value of measurement block `i`, none where it is not present. -/
def State.measValue (s : State) (i : Nat) : Option (List Byte) :=
  if i = 1 then some (s.imageMeasure Config.romDigest Config.romVersion (Config.romVersion / 2 ^ 32) 0)
  else if 2 ≤ i ∧ i ≤ 10 then
    let x := i - 2
    let st := s.proc x
    match (if st = 2 ∧ 2 ≤ x then klook s.fw.images x else klook s.fw.running x) with
    | some b => some (s.imageMeasure (imDigest b) (imVersion b) (imSvn b) (b2n (decide (st = 2)) + 2 * b2n (decide (st = 3))))
    | none => some (s.imageMeasure (zeros 32) 0 0 4)
  else if i = 11 then
    let b := kget [] s.fw.images 0x10
    some (s.imageMeasure (imDigest b) (imVersion b) (imSvn b) 0)
  else if i = 12 then some (slice (Config.fuseBlock ((List.range 9).map s.svnFloor) Config.rootKeyHash) 0 48)
  else if 13 ≤ i ∧ i ≤ 20 then
    let p := i - 13
    match (if s.planState p = 2 ∨ s.planState p = 3 then (s.planSt p).cur else none) with
    | some pl => some (leBytes 8 pl.planId ++ slice pl.digest 0 16 ++ leBytes 8 (s.planSt p).changeTick ++ leBytes 8 s.tickCount)
    | none => none
  else if 0x40 ≤ i ∧ i ≤ 0x42 then
    (klook s.fw.update i).map (fun b => s.imageMeasure (imDigest b) (imVersion b) (imSvn b) 8)
  else none

/-- The DMTF value type of a block (log 35). -/
def measType (i : Nat) : Nat := if i = 1 then 0 else if i ≤ 10 ∨ 0x40 ≤ i then 1 else if i = 12 then 2 else 3

/-- A measurement block in DMTF format, raw bit stream. -/
def measBlock (i : Nat) (v : List Byte) : List Byte :=
  leBytes 1 i ++ leBytes 1 1 ++ leBytes 2 (v.length + 3) ++ leBytes 1 (128 + measType i) ++ leBytes 2 v.length ++ v

/-- The blocks that are present, in order. -/
def State.measBlocks (s : State) : List (List Byte) :=
  ((List.range 20).map (· + 1) ++ [0x40, 0x41, 0x42]).filterMap (fun i => (s.measValue i).map (measBlock i))

/-! ### The SPDM responder (R417, R419) -/

/-- Error codes of SPDM 1.2 (log 35). -/
def spdmInvalid : Nat := 0x01
def spdmUnexpected : Nat := 0x04
def spdmDecrypt : Nat := 0x06
def spdmLimit : Nat := 0x0A

/-- A response given. -/
def State.spdmSay (s : State) (r : Spdm) : State := { s with sec := { s.sec with resp := r } }

/-- A request that needs the negotiation to have reached `n` (log 35). -/
def State.spdmAfter (s : State) (n : Nat) (f : State → State) : State :=
  if n ≤ s.sec.phase then f s else s.spdmSay (.error spdmUnexpected)

/-- The sessions set, with OD 9000.02. -/
def State.setSessions (s : State) (l : List (Nat × Bool × Nat)) : State :=
  { s with sec := { s.sec with sessions := l } }.setReg 0x9000 2 l.length

def State.spdmVersion (s : State) : State := { s with sec := { s.sec with phase := 1, resp := .version 0x12 } }

def State.spdmCapabilities (s : State) : State :=
  s.spdmAfter 1 fun s => { s with sec := { s.sec with phase := 2, resp := .capabilities } }

def State.spdmAlgorithms (s : State) (a b c d : Bool) : State :=
  s.spdmAfter 2 fun s => { s with sec := { s.sec with phase := 3, resp := .algorithms a b c d } }

def State.spdmDigests (s : State) : State := s.spdmAfter 3 fun s => s.spdmSay (.digests 1 (sha256 (Config.certChain s.fw.layers)))

def State.spdmCertificate (s : State) (slot off len : Nat) : State :=
  s.spdmAfter 3 fun s =>
    let n := (Config.certChain s.fw.layers).length
    if slot ≠ 0 ∨ n ≤ off then s.spdmSay (.error spdmInvalid)
    else
      let part := ((Config.certChain s.fw.layers).drop off).take len
      s.spdmSay (.certificate 0 part (n - off - part.length))

def State.spdmChallenge (s : State) (slot : Nat) (nonce : List Byte) : State :=
  s.spdmAfter 3 fun s =>
    if slot ≠ 0 ∨ nonce.length ≠ 32 then s.spdmSay (.error spdmInvalid)
    else
      let d := s.draw
      let mine := slice (Config.freeBytes d.1 32) 0 32
      d.2.spdmSay (.challengeAuth mine (s.aliasSign (nonce ++ mine ++ sha256 (Config.certChain s.fw.layers))))

def State.spdmMeasurements (s : State) (i : Nat) : State :=
  s.spdmAfter 3 fun s =>
    let say (n : Nat) (rec' : List Byte) : State := s.spdmSay (.measurements n rec' (s.aliasSign rec'))
    if i = 0 then say s.measBlocks.length []
    else if i = 0xFF then say s.measBlocks.length s.measBlocks.flatten
    else
      match s.measValue i with
      | some v => say 1 (measBlock i v)
      | none => s.spdmSay (.error spdmInvalid)

def State.spdmKeyExchange (s : State) (id : Nat) : State :=
  s.spdmAfter 3 fun s =>
    if 2 ≤ s.sec.sessions.length then s.spdmSay (.error spdmLimit)
    else if s.sec.sessions.any (fun e => decide (e.1 = id)) then s.spdmSay (.error spdmInvalid)
    else
      let d := s.draw
      (d.2.setSessions (d.2.sec.sessions ++ [(id, false, 0)])).spdmSay (.keyExchange id (Config.keyExchange d.1))

def State.spdmFinish (s : State) (id : Nat) (macOk : Bool) : State :=
  match s.sec.sessions.find? (fun e => decide (e.1 = id)) with
  | none => s.spdmSay (.error spdmInvalid)
  | some e =>
    if e.2.1 then s.spdmSay (.error spdmUnexpected)
    else if macOk then
      (s.setSessions (s.sec.sessions.map (fun g => if g.1 = id then (id, true, g.2.2) else g))).spdmSay (.finish id)
    else (s.setSessions (s.sec.sessions.filter (fun g => decide (g.1 ≠ id)))).spdmSay (.error spdmDecrypt)

def State.spdmInSession (s : State) (id : Nat) (f : State → State) : State :=
  if s.sessionUp id then f s else s.spdmSay (.error spdmInvalid)

def State.spdmKeyUpdate (s : State) (id : Nat) : State :=
  s.spdmInSession id fun s =>
    (s.setSessions (s.sec.sessions.map (fun g => if g.1 = id then (id, g.2.1, g.2.2 + 1) else g))).spdmSay (.keyUpdate id)

def State.spdmHeartbeat (s : State) (id : Nat) : State := s.spdmInSession id fun s => s.spdmSay (.heartbeat id)

def State.spdmEnd (s : State) (id : Nat) : State :=
  s.spdmInSession id fun s =>
    (s.setSessions (s.sec.sessions.filter (fun g => decide (g.1 ≠ id)))).spdmSay (.endSession id)

/-- GET_VERSION. -/
def execGetVersion (t : Nat) (s : State) : Out := whileLive t s fun s => s.spdm (.getVersion t) State.spdmVersion

/-- GET_CAPABILITIES. -/
def execGetCapabilities (t : Nat) (s : State) : Out := whileLive t s fun s => s.spdm (.getCapabilities t) State.spdmCapabilities

/-- NEGOTIATE_ALGORITHMS: of what the requester offers, the algorithms that SEC supports. -/
def execNegotiateAlgorithms (t : Nat) (ecdsaP256 sha256' secp256r1 aesGcm : Bool) (s : State) : Out :=
  whileLive t s fun s => s.spdm (.negotiateAlgorithms t ecdsaP256 sha256' secp256r1 aesGcm)
    (fun s => s.spdmAlgorithms ecdsaP256 sha256' secp256r1 aesGcm)

/-- GET_DIGESTS. -/
def execGetDigests (t : Nat) (s : State) : Out := whileLive t s fun s => s.spdm (.getDigests t) State.spdmDigests

/-- GET_CERTIFICATE. -/
def execGetCertificate (t : Nat) (slot : Fin 8) (offset length : Nat) (s : State) : Out :=
  whileLive t s fun s => s.spdm (.getCertificate t slot offset length) (fun s => s.spdmCertificate slot.val offset length)

/-- CHALLENGE. -/
def execChallenge (t : Nat) (slot : Fin 8) (nonce : List Byte) (s : State) : Out :=
  whileLive t s fun s => s.spdm (.challenge t slot nonce) (fun s => s.spdmChallenge slot.val nonce)

/-- GET_MEASUREMENTS. -/
def execGetMeasurements (t : Nat) (index : BitVec 8) (s : State) : Out :=
  whileLive t s fun s => s.spdm (.getMeasurements t index) (fun s => s.spdmMeasurements index.toNat)

/-- KEY_EXCHANGE. -/
def execKeyExchange (t : Nat) (session : Nat) (s : State) : Out :=
  whileLive t s fun s => s.spdm (.keyExchange t session) (fun s => s.spdmKeyExchange session)

/-- FINISH. -/
def execFinish (t : Nat) (session : Nat) (macOk : Bool) (s : State) : Out :=
  whileLive t s fun s => s.spdm (.finish t session macOk) (fun s => s.spdmFinish session macOk)

/-- KEY_UPDATE. -/
def execKeyUpdate (t : Nat) (session : Nat) (s : State) : Out :=
  whileLive t s fun s => s.spdm (.keyUpdate t session) (fun s => s.spdmKeyUpdate session)

/-- HEARTBEAT. -/
def execHeartbeat (t : Nat) (session : Nat) (s : State) : Out :=
  whileLive t s fun s => s.spdm (.heartbeat t session) (fun s => s.spdmHeartbeat session)

/-- END_SESSION. -/
def execEndSession (t : Nat) (session : Nat) (s : State) : Out :=
  whileLive t s fun s => s.spdm (.endSession t session) (fun s => s.spdmEnd session)

/-- What a deferred request gives once SEC serves again. -/
def State.spdmDeferred (s : State) : Instr → State
  | .getVersion _ => s.spdmVersion
  | .getCapabilities _ => s.spdmCapabilities
  | .negotiateAlgorithms _ a b c d => s.spdmAlgorithms a b c d
  | .getDigests _ => s.spdmDigests
  | .getCertificate _ slot off len => s.spdmCertificate slot.val off len
  | .challenge _ slot nonce => s.spdmChallenge slot.val nonce
  | .getMeasurements _ i => s.spdmMeasurements i.toNat
  | .keyExchange _ id => s.spdmKeyExchange id
  | .finish _ id ok => s.spdmFinish id ok
  | .keyUpdate _ id => s.spdmKeyUpdate id
  | .heartbeat _ id => s.spdmHeartbeat id
  | .endSession _ id => s.spdmEnd id
  | .ideKeyProgram _ id set sub tx key => s.takeKey id set.val sub.val tx key
  | .kSetGo _ id set => s.keySetGo id set.val
  | _ => s.spdmSay (.error spdmUnexpected)

/-- RESPOND_IF_READY: the response to the request that met ResponseNotReady. -/
def execRespondIfReady (t : Nat) (s : State) : Out :=
  whileLive t s fun s =>
    if s.proc 0 = 1 then
      match s.sec.deferred with
      | some i => { s with sec := { s.sec with deferred := none } }.spdmDeferred i
      | none => s.spdmSay (.error spdmUnexpected)
    else if s.proc 0 = 2 then s.spdmSay (.notReady 18)
    else s

/-- Every session ends (R419). -/
def State.endSessions (s : State) : State := s.setSessions []

end Sys2Proof.Machine
end

