-- ==== Sys2Proof/Machine/Hooks.lean ====
section
/-! DEFINITION. What single objects of the dictionary add to the common rules of 03: values computed when read, rights and checks of
their own, and what a write of them does. -/

namespace Sys2Proof.Machine

/-- Stream number and offset of an index of 4000–4FFF (R9). -/
def stOf (idx : Nat) : Nat := (idx - 0x4000) / 0x40
def offOf (idx : Nat) : Nat := (idx - 0x4000) % 0x40

/-- A handle-table entry as OD 51cc.08 shows it (R139). -/
def handleBytes (h : HandleE) : List Byte :=
  wordBytes [h.base % 2 ^ 14 + 2 ^ 16 * (h.count % 2 ^ 14) + 2 ^ 31 * b2n h.bound,
    h.layout % 256 + 256 * b2n h.diag + 512 * b2n h.guard + 1024 * b2n h.quar + 65536 * (h.gen % 4096), h.fill % 2 ^ 32, h.bindTick % 2 ^ 32]

/-- The handle table of a core (OD 51cc.08). -/
def State.handleTable (s : State) (c : Nat) : List Byte := (List.range 64).flatMap (fun h => handleBytes ((s.pad c).handle h))

/-! ### Computed values -/

/-- The plan whose buffers a stream shows (R278). -/
def State.streamPlan (s : State) (st : Nat) : Option Plan := (s.streamPart st).bind (fun p => s.shownPlan p)

/-- An address of a stream's buffer record, 0 without a plan (R278, R497). -/
def State.bufAddr (s : State) (st : Nat) (f : BufRec → Nat) : Nat :=
  match s.streamPlan st with
  | some pl => f (pl.bufs.getD st (bufOf [] 0))
  | none => 0

/-- Stripe nodes of a stream's slot: N of R263. -/
def State.stripeCount (s : State) (st : Nat) : Nat :=
  match s.streamPlan st with
  | some pl => (stripeNodes pl st).length
  | none => 0

/-- The objects of a stream that come from its plan (R263, R266, R278). -/
def State.streamValue (s : State) (st off sub : Nat) : Option Nat :=
  let slot (f : Slot → Nat) : Nat :=
    match s.streamPlan st with
    | some pl => f (pl.slots.getD st (slotOf [] 0))
    | none => 0
  if off = 0x0B ∧ sub = 2 then some (s.bufAddr st (fun b => b.statsA))
  else if off = 0x0B ∧ sub = 3 then some (s.bufAddr st (fun b => b.statsB))
  else if off = 0x0C ∧ sub = 1 then some (match s.streamPlan st with
    | some pl => if (pl.slots.getD st (slotOf [] 0)).inl then 2 else 1
    | none => 0)
  else if off = 0x0C ∧ sub = 2 then some (s.stripeCount st)
  else if off = 0x0C ∧ sub = 3 then some (if s.stripeCount st = 0 then 0 else slot (fun x => x.haloRows / 2))
  else if off = 0x0C ∧ sub = 4 then some (slot Slot.pitch)
  else if off = 0x0C ∧ sub = 5 then some (s.bufAddr st (fun b => b.rawA))
  else if off = 0x0C ∧ sub = 6 then some (s.bufAddr st (fun b => b.rawB))
  else if off = 0x0D ∧ sub = 2 then some (s.bufAddr st (fun b => b.param))
  else if off = 0x0E ∧ sub = 4 then some (s.bufAddr st (fun b => b.loop))
  else none

/-- Entries of a queue that are selected and not completed (OD 5201.06): those that run, wait for recomputation or their record, and one that
an engine holds second. -/
def State.inflight (s : State) (q : Nat) : Nat :=
  (s.tasks.filter (fun (t : Task) => decide (t.node.queue = q) && t.maint.isNone && decide (t.redo = 0) && !t.skipped
    && (decide (t.stage = 2) || decide (t.stage = 3) || decide (t.stage = 5) || (decide (t.stage = 1) && s.heldSecond t)))).length

/-- The report of a queue (OD 5201.02–.0A, R197). -/
def State.queueValue (s : State) (q sub : Nat) : Nat :=
  let x := s.queue q
  let get (f : Binding → Nat) : Nat :=
    match x.bind with
    | some b => f b
    | none => 0
  let hostFed := get (fun b => b2n b.hostFed) = 1
  if sub = 2 then get (fun b => if b.hostFed then 2 else 1)
  else if sub = 3 then get (fun b => b.res)
  else if sub = 4 then get (fun b => b.prio)
  else if sub = 5 then
    (if hostFed then x.sqTail - x.sqHead - x.aborted.length
     else (s.tasks.filter (fun (t : Task) => decide (t.node.queue = q) && t.maint.isNone && t.ring.isNone && decide (t.redo = 0)
       && (decide (t.stage = 0) || decide (t.stage = 1)) && !s.heldSecond t)).length)
  else if sub = 6 then s.inflight q
  else if sub = 7 then x.done
  else if sub = 8 then x.aborts
  else if sub = 9 then x.dropped
  else x.refused

/-- Bytes of plan memory that no held plan occupies (R56, OD 2020.03). -/
def State.planMemFree (s : State) : Nat :=
  let used (x : PlanSt) : Nat := (x.waiting.toList ++ x.cur.toList ++ x.old.toList).foldl (fun a pl => a + pl.memBytes) 0
  2097152 - Config.planMemFirmware - s.plans.foldl (fun a e => a + used e.2) 0

/-- The bus-error records of a unit as a function sees them: another partition's read as zero (R226, R227). -/
def State.busLog (s : State) (fn u : Nat) : List Byte :=
  slice ((s.dma u).log.flatMap (fun r => if roleOf fn = 1 ∧ r.part ≠ callerPart fn then zeros 16 else r.bytes)) 0 256

/-- REKEY_DUE (R374). -/
def State.rekeyDue (s : State) : Bool := decide (0xF0000000 ≤ s.reg 0x1111 4) || decide (0xF0000000 ≤ s.reg 0x1111 5)

/-- The values that are computed when read. -/
def customRead (s : State) (fn idx sub : Nat) : Option Val :=
  if 0x4000 ≤ idx ∧ idx < 0x5000 then (s.streamValue (stOf idx) (offOf idx) sub).map .num
  else if idx = 0x1101 ∧ sub = 4 then some (.num ((List.range 8).filter (fun v => (s.fnSt (v + 1)).enabled)).length)
  else if idx = 0x1101 ∧ sub = 5 then some (.num (if fn = 9 then 0xFF else fn))
  else if idx = 0x1111 ∧ sub = 10 then some (.num (b2n s.rekeyDue))
  else if idx = 0x2020 ∧ sub = 3 then some (.num s.planMemFree)
  else if 0x2100 ≤ idx ∧ idx < 0x2108 ∧ sub = 1 then some (.bytes (s.planSt (idx - 0x2100)).staging)
  else if idx = 0x2055 ∧ sub = 2 then some (.bytes s.dumpHeaderValue)
  else if idx = 0x2055 ∧ sub = 3 then some (.num (dumpArea (s.reg 0x2055 1)))
  else if 0x5100 ≤ idx ∧ idx < 0x5120 ∧ roleOf fn ≠ 1 ∧ sub ∈ [1, 2, 3, 7, 10] then some (.num ((s.padRun (idx - 0x5100)).reg idx sub))
  else if 0x5100 ≤ idx ∧ idx < 0x5120 ∧ sub = 8 then some (.bytes (s.handleTable (idx - 0x5100)))
  else if idx = 0x5201 ∧ 2 ≤ sub then some (.num (s.queueValue (s.regF fn 0x5201 1) sub))
  else if 0x5300 ≤ idx ∧ idx < 0x5350 ∧ roleOf fn ≠ 1 ∧ (sub = 1 ∨ sub = 2 ∨ sub = 5 ∨ sub = 6) then
    some (.num (((s.settleRes (idx - 0x5300)).countReady (idx - 0x5300)).reg idx sub))
  else if 0x6000 ≤ idx ∧ idx < 0x600F ∧ sub = 1 ∧ s.reg idx 1 = 0 ∧ (List.range 8).all (fun p => (s.window p (idx - 0x6000)).isNone) then
    some (.num 2)
  else if 0x6000 ≤ idx ∧ idx < 0x600F ∧ roleOf fn ≠ 1 ∧ (sub = stallSub (idx - 0x6000) ∨ (idx ≠ 0x600E ∧ sub = busySub (idx - 0x6000))) then
    some (.num ((s.settleEng (idx - 0x6000)).reg idx sub))
  else if 0x5430 ≤ idx ∧ idx < 0x5436 ∧ sub = 1 then some (.bytes (s.busLog fn (idx - 0x5430)))
  else if idx = 0x6010 ∧ sub = 6 then some (.num (leNat (s.scrRead (flagAddr (s.regF fn 0x6010 5)) 8)))
  else if idx = 0x6013 ∧ sub = 2 then
    (let x := s.regF fn 0x6013 1
     some (.bytes (match partOf (fun p => s.ctxIn p x) with
       | some p => s.ctxShown p x
       | none => zeros 64)))
  else if 0x6020 ≤ idx ∧ idx < 0x6028 then
    (let p := idx - 0x6020
     some (.num (if sub = 1 then s.reg (0x3100 + p) 10
       else if sub = 2 then s.reg (0x3100 + p) 11
       else if sub = 3 then s.rangeAddr p (64 * s.reg (0x3100 + p) 12)
       else s.liveTotal p)))
  else if idx = 0x7000 ∧ sub = 7 then some (.num s.checkerState)
  else if idx = 0x7003 ∧ sub = 1 then some (.num s.pairsLoaded)
  else if idx = 0x7003 ∧ sub = 2 then some (.num s.rulesLoaded)
  else if idx = 0x8001 ∧ sub = 1 then some (.bytes s.faults.records.flatten)
  else if idx = 0x9000 ∧ sub = 3 then some (.num (b2n (decide (s.proc 0 ≠ 1))))
  else if idx = 0x9000 ∧ sub = 4 then
    (let i := s.reg 0x9000 5
     some (.bytes ((s.measValue i).getD (slice (Config.diagnostics 0x9000 4 s.now) 0 (if 13 ≤ i ∧ i ≤ 20 then 40 else 48)))))
  else if idx = 0x9001 ∧ sub = 4 then some (.num s.tlpValue)
  else none

/-! ### Rights of single objects -/

/-- Does a maintenance request of partition `p` stay in LPDDR5 ranges of the partition and rows of its cores (R224)? -/
def State.maintOwn (s : State) (p : Nat) (b : List Byte) : Bool :=
  let ok (x : Side) (e : Int × Int) : Bool :=
    if x.kind = 1 ∨ x.kind = 2 then s.coreIn p x.core
    else if x.kind = 3 then
      decide (0 ≤ e.1) && decide (e.1 < e.2) && s.granuleIn p (e.1.toNat / 67108864) && s.granuleIn p ((e.2.toNat - 1) / 67108864)
    else false
  ok (dstSide b) (dstExtent b) && (decide (dType b = 5) || ok (srcSide b) (srcExtent b))

/-- A partition owner's selection or value that names another partition's place is refused (R196, R198, R224, R304, R346); so is a
write of the active key slot (R375). -/
def rightsExtra (s : State) (fn idx sub : Nat) (write : Bool) (v : Option Val) : Nat :=
  let own (q : Nat → Bool) : Nat := need (decide (roleOf fn ≠ 1) || q (callerPart fn)) stAccessDenied
  if write then
    match v with
    | some (.num n) =>
      if idx = 0x5201 ∧ sub = 1 then own (fun p => s.queueIn p n)
      else if idx = 0x6010 ∧ sub = 5 then own (fun p => decide (n / 512 = p))
      else if idx = 0x6013 ∧ sub = 1 then own (fun p => s.ctxIn p n)
      else stOk
    | some (.bytes b) =>
      if idx = 0x5210 ∧ sub = 1 ∧ b.length = 4 then own (fun p => s.queueIn p (leNat (b.take 2)))
      else if idx = 0x5420 ∧ sub = 1 ∧ b.length = 64 then own (fun p => s.maintOwn p b)
      else if idx = 0x1111 ∧ (sub = 1 ∨ sub = 2) then need (decide (s.reg 0x1111 3 ≠ sub - 1)) stAccessDenied
      else stOk
    | none => stOk
  else if idx = 0x5201 ∧ 2 ≤ sub then own (fun p => s.queueIn p (s.regF fn 0x5201 1))
  else if idx = 0x6010 ∧ sub = 6 then own (fun p => decide (s.regF fn 0x6010 5 / 512 = p))
  else if idx = 0x6013 ∧ sub = 2 then own (fun p => s.ctxIn p (s.regF fn 0x6013 1))
  else stOk

/-! ### Checks of single values -/

/-- The value that an open transaction of the caller stages for an object, else the value in force. -/
def State.coming (s : State) (fn idx sub : Nat) : Nat :=
  let ws := (s.dict.txns.filter (fun t => decide (t.fn = fn))).flatMap (fun t => t.staged)
  match ws.find? (fun w => decide (w.idx = idx) && decide (w.sub = sub)) with
  | some w => (match w.val with
    | .num n => n
    | .bytes _ => s.reg idx sub)
  | none => s.reg idx sub

/-- No two of these are equal. -/
def noRepeats : List Nat → Bool
  | [] => true
  | x :: xs => !decide (x ∈ xs) && noRepeats xs

/-- LANE_MAP under a D-PHY or a C-PHY configuration (R233). -/
def laneMapCheck (cphy : Bool) (n : Nat) : Nat :=
  let lane (i : Nat) : Nat := n / 4 ^ i % 4
  if cphy then
    firstFail [
      need (decide (n / 2 ^ 21 = 0) && decide (n / 64 % 64 = 0)
        && (List.range 3).all (fun i => decide (n / 2 ^ (12 + 3 * i) % 8 ≤ 5))) stBadEncoding,
      need (noRepeats ((List.range 3).map lane) && (List.range 3).all (fun i => decide (lane i ≤ 2))) stOutOfRange]
  else
    firstFail [need (decide (n / 2 ^ 13 = 0)) stBadEncoding, need (noRepeats ((List.range 4).map lane)) stOutOfRange]

/-- A defect list in ascending order of y, then x (R257). -/
def defectsOk (b : List Byte) : Bool :=
  let keys := (defectList b).map (fun e => 65536 * e.2 + e.1)
  decide (b.length % 4 = 0) && (List.zip keys (keys.drop 1)).all (fun e => decide (e.1 < e.2))

/-- What an 8-byte BLOB that names an image says wrong: bytes 1 to 3, then byte 0 from `lo` to `hi` (R389, R391). -/
def imageNameCheck (b : List Byte) (lo hi : Nat) : Nat :=
  firstFail [need (decide (b.length = 8)) stBadLength, need (decide (leNat (slice b 1 3) = 0)) stBadEncoding,
    need (decide (lo ≤ leNat (b.take 1)) && decide (leNat (b.take 1) ≤ hi)) stOutOfRange]

/-- Checks of number values beyond type and range. -/
def State.numExtra (s : State) (fn idx sub n : Nat) : Nat :=
  if (idx = 0x1104 ∨ idx = 0x1105) ∧ sub = 1 then need (decide (n % 4096 = 0)) stOutOfRange
  else if idx = 0x1105 ∧ sub = 5 then need (decide (n % 64 = 0)) stOutOfRange
  else if idx = 0x1110 ∧ sub = 4 then
    need (decide (n ≤ (if s.coming fn 0x1110 5 = 1 then 0x1FFFFFFA else 0x7FA))) stOutOfRange
  else if idx = 0x1110 ∧ sub = 5 then need (decide (n = 1) || decide (s.coming fn 0x1110 4 ≤ 0x7FA)) stOutOfRange
  else if idx = 0x8030 ∧ sub = 4 then need (decide (n ≤ s.coming fn 0x8030 3)) stOutOfRange
  else if 0x2030 ≤ idx ∧ idx < 0x2040 ∧ sub = 4 then
    laneMapCheck (decide (4 ≤ s.coming fn idx 1)) n
  else if 0x4000 ≤ idx ∧ idx < 0x5000 ∧ offOf idx = 0 ∧ sub = 3 then
    (let m := match s.streamPlan (stOf idx) with
      | some pl => if (pl.slots.getD (stOf idx) (slotOf [] 0)).fmt = 0 then 4 else 2
      | none => 2
     need (decide (n % m = 0)) stOutOfRange)
  else stOk

/-- Checks of byte-string values. -/
def State.bytesExtra (s : State) (fn idx sub : Nat) (b : List Byte) : Nat :=
  let len (k : Nat) : Nat := need (decide (b.length = k)) stBadLength
  let off := if 0x4000 ≤ idx ∧ idx < 0x5000 then offOf idx else 0xFF
  if off = 0x0D then len 64
  else if off = 0x0E ∧ sub = 3 then
    firstFail [len 64, need (decide (wordAt b 1 / 4096 = 0) && decide (slice b 56 8 = zeros 8)) stBadEncoding]
  else if off = 0x0E ∧ sub = 2 then firstFail [len 256, need (templateOk b) stBadEncoding]
  else if off = 0x0A then len 8712
  else if off = 0x09 then need (defectsOk b) stBadEncoding
  else if 0x2040 ≤ idx ∧ idx < 0x2050 ∧ sub = 3 then need (decide (b.length % 2 = 0)) stBadLength
  else if idx = 0x1111 then len 16
  else if idx = 0x2054 then len 288
  else if idx = 0x2051 ∧ sub = 1 then imageNameCheck b 2 8
  else if idx = 0x2053 ∧ sub = 1 then imageNameCheck b 0 2
  else if idx = 0x5210 then
    firstFail [len 4, rightsExtra s fn idx sub true (some (.bytes b)), need (decide (leNat (b.take 2) < 8192)) stOutOfRange]
  else if idx = 0x5420 then firstFail [len 64, rightsExtra s fn idx sub true (some (.bytes b))]
  else stOk

/-- The checks of an object's own (step 7 of R75). -/
def valueExtra (s : State) (fn idx sub : Nat) : Val → Nat
  | .num n => s.numExtra fn idx sub n
  | .bytes b => s.bytesExtra fn idx sub b

/-- What makes an object BUSY: a ring's base or size while it is enabled, a second maintenance request (R224, R367). -/
def busyExtra (s : State) (fn idx sub : Nat) (_v : Val) : Option Nat :=
  if (idx = 0x1104 ∨ idx = 0x1105) ∧ (sub = 1 ∨ sub = 2) ∧ s.regF fn idx 3 = 1 then some 1
  else if idx = 0x5420 ∧ sub = 1 ∧ (s.regF fn 0x5420 3 = 1 ∨ s.regF fn 0x5420 3 = 2) then some 1
  else none

/-! ### What writes do -/

/-- The counters that a CLEAR object clears. -/
def clearList (fn idx sub : Nat) : Option (List Nat) :=
  let range (a n : Nat) : List Nat := (List.range n).map (· + a)
  let off := if 0x4000 ≤ idx ∧ idx < 0x5000 then offOf idx else 0xFF
  if 0x5000 ≤ idx ∧ idx < 0x5020 ∧ sub = 9 then some (range 3 6)
  else if 0x5100 ≤ idx ∧ idx < 0x5120 ∧ sub = 9 then some (range 1 5)
  else if 0x5150 ≤ idx ∧ idx < 0x5158 ∧ sub = 6 then some (range 1 5)
  else if 0x5300 ≤ idx ∧ idx < 0x5350 ∧ sub = 8 then some (range 2 6)
  else if 0x5410 ≤ idx ∧ idx < 0x5416 ∧ sub = 13 then some (range 1 3 ++ range 5 8)
  else if off = 2 ∧ sub = 13 then some (range 1 12)
  else if off = 0x0C ∧ sub = 10 then some (range 7 3)
  else if off = 0x0F ∧ sub = 7 then some (range 1 6)
  else if 0x2030 ≤ idx ∧ idx < 0x2040 ∧ sub = 16 then some (range 9 7)
  else if 0x2040 ≤ idx ∧ idx < 0x2050 ∧ sub = 8 then some (range 5 3)
  else if 0x6000 ≤ idx ∧ idx < 0x6008 ∧ sub = 10 then some (range 2 8)
  else if 0x6008 ≤ idx ∧ idx < 0x600E ∧ sub = 15 then some (range 2 13)
  else if idx = 0x600E ∧ sub = 11 then some (range 2 9)
  else if idx = 0x8000 ∧ sub = 6 then some (range 1 5)
  else if 0x2130 ≤ idx ∧ idx < 0x2138 ∧ sub = 7 then some (range 1 (if roleOf fn = 1 then 4 else 6))
  else none

/-- A key taken by a slot; with no slot active, the slot becomes active with both counters 0 (R374, R375). -/
def State.keyWriteOp (s : State) (slot : Nat) (key : List Byte) : State :=
  let s := { s with can := if slot = 0 then { s.can with key0 := some key } else { s.can with key1 := some key } }
  if s.reg 0x1111 3 = 0xFF then
    { ((s.setReg 0x1111 3 slot).setReg 0x1111 4 0).setReg 0x1111 5 0 with can := { s.can with dueRaised := false } }
  else s

/-- The CAN controller joins or leaves the bus (R369): its queue, its counters and a partial message go with it. -/
def State.canSwitch (s : State) (on : Bool) : State :=
  if decide (s.reg 0x1110 9 ≠ 0) = on then s
  else
    let s := ((s.setReg 0x1110 9 (b2n on)).setReg 0x1110 10 0).setReg 0x1110 11 0
    { s with can := { s.can with queue := [], waiting := [], msg := none, busOffAt := none, recovering := false } }

/-- The mirror ring turned on or off (R86): it starts empty, and nothing waits. -/
def State.ringSwitch (s : State) : State :=
  let s := { s with dict := { s.dict with ring := [], mirrored := s.dict.nextSeq - 1 } }
  (s.setReg 0x1020 3 0).setReg 0x1020 7 0

/-- A stream enabled or disabled at an edge (R241, R242). -/
def State.streamSwitch (s : State) (st on : Nat) : State :=
  if on = 0 then (s.setStream st { s.stream st with fs := none }).setStreamState st 0
  else if s.streamState st = 0 then s.setStreamState st (if s.portState (st / 4) = 3 then 2 else 1)
  else s

/-- A change of a QUOTA (R335): at once, or at the end of an active TRACK descriptor of the partition. -/
def State.quotaChange (s : State) (st : Nat) : State :=
  match s.streamPart st with
  | none => s
  | some p =>
    let tracking := match (s.eng 14).run, s.engTask 14 with
      | some r, some t => decide (t.part = p) && decide (fType r.bytes = 0x21)
      | _, _ => false
    if tracking then (if s.quotaWait.contains p then s else { s with quotaWait := s.quotaWait ++ [p] })
    else (s.freeContexts p).cutRanges p

/-- The parameter record written from PARAM_INIT (R270). -/
def State.paramWrite (s : State) (st : Nat) : State :=
  let a := s.bufAddr st (fun b => b.param)
  if a = 0 then s else s.ddrWrite a (slice (s.blob (stIdx st 0x0D) 1) 0 64)

/-- The checker turned off (R433): tables and held records go, and SAFE_N is low (log 36). -/
def State.umbraOff (s : State) : State :=
  let s := s.releaseHeld (fun _ => true) true
  ({ s with umbra := { s.umbra with tables := [], judged := [], rate := [], released := [], ready := false } }).driveSafe false

/-- What a write of a number of a glob, function, port or stream object adds to its storing. `was` is the state before the store. -/
def State.applyNum (was s : State) (fn idx sub n : Nat) : State :=
  let was1 := was.regF fn idx sub
  if idx = 0x1010 ∧ sub = 1 then s.setReg 0x1010 3 (if n / 65536 = 1 then 1 else 2)
  else if idx = 0x1104 ∧ sub = 3 then
    (if n = 1 ∧ was1 = 0 then s.setFn fn { s.fnSt fn with evHead := 0, evTail := 0, evSeq := 0 } else s)
  else if idx = 0x1105 ∧ sub = 3 then
    (if n = 1 ∧ was1 = 0 then s.setFn fn { s.fnSt fn with resHead := 0, resTail := 0 } else s)
  else if idx = 0x1110 ∧ sub = 1 then s.canSwitch (decide (n = 1))
  else if idx = 0x1020 ∧ sub = 4 then (if n = was1 then s else s.ringSwitch)
  else if idx = 0x9001 ∧ sub = 1 then s.flushHost
  else if idx = 0x7000 ∧ sub = 1 then (if n = 0 ∧ was1 = 1 then s.umbraOff else s)
  else if 0x2030 ≤ idx ∧ idx < 0x2040 ∧ sub = 1 then (if n = was1 then s else s.configPort (idx - 0x2030))
  else if 0x2030 ≤ idx ∧ idx < 0x2040 ∧ (sub = 3 ∨ sub = 4) then s.mapWritten (idx - 0x2030)
  else if 0x4000 ≤ idx ∧ idx < 0x5000 ∧ offOf idx = 0 ∧ sub = 1 then s.streamSwitch (stOf idx) n
  else if idx = 0x7000 ∧ sub = 4 then { s with umbra := { s.umbra with cleared := true } }
  else if 0x6040 ≤ idx ∧ idx < 0x6080 ∧ sub = 1 then (if n = was1 then s else s.quotaChange (idx - 0x6040))
  else if n ≠ 1 then s
  else
    match clearList fn idx sub with
    | some l => (if 0x5300 ≤ idx ∧ idx < 0x5350 then (s.settleRes (idx - 0x5300)).countReady (idx - 0x5300)
        else if 0x6000 ≤ idx ∧ idx < 0x600F then s.settleEng (idx - 0x6000)
        else if 0x5100 ≤ idx ∧ idx < 0x5120 then s.padRun (idx - 0x5100) else s).clearSubs idx l
    | none =>
      if idx = 0x1100 ∧ sub = 8 then s.startRetrain
      else if idx = 0x2053 ∧ sub = 4 then s.svnRaiseOp
      else if idx = 0x2055 ∧ sub = 5 then s.dumpReleaseOp
      else if 0x2060 ≤ idx ∧ idx < 0x2069 ∧ sub = 6 then s.restartProc (idx - 0x2060) 3
      else if idx = 0x8010 ∧ sub = 6 then s.eraseList
      else if idx = 0x8030 ∧ sub = 2 then { s with avs := { s.avs with asked := some s.tickCount } }
      else s

/-- What a write of bytes adds to its storing. -/
def State.applyBytes (s : State) (idx sub : Nat) (b : List Byte) : State :=
  if idx = 0x1111 then s.keyWriteOp (sub - 1) b
  else if 0x2040 ≤ idx ∧ idx < 0x2050 then s.setI3c (idx - 0x2040) { s.i3c (idx - 0x2040) with dasa := true }
  else if 0x4000 ≤ idx ∧ idx < 0x5000 then
    (let st := stOf idx
     if offOf idx = 0x0D then s.paramWrite st
     else if offOf idx = 0x0E ∧ sub = 3 then
       s.setI3c (st / 4) { s.i3c (st / 4) with hostNew := kput (s.i3c (st / 4)).hostNew st true }
     else s)
  else s

/-- The byte string that an object selects: OD 2055.02, OD 6013.02, OD 9000.04. -/
def selects (idx sub : Nat) : Option Nat :=
  if idx = 0x2055 ∧ sub = 1 then some 2
  else if idx = 0x6013 ∧ sub = 1 then some 2
  else if idx = 0x9000 ∧ sub = 5 then some 4
  else none

/-- Another byte string is selected: its readers read a changed value (R76). -/
def State.selectOther (was s : State) (fn idx sub n : Nat) : State :=
  match selects idx sub with
  | some b => if was.regF fn idx sub = n then s else s.newVersion fn idx b
  | none => s

/-- What a write adds to its storing. -/
def applyExtra (was s : State) (fn idx sub : Nat) : Val → State
  | .num n => was.selectOther (was.applyNum s fn idx sub n) fn idx sub n
  | .bytes b => s.applyBytes idx sub b

/-- A write of OD 2000.05 (R29, R31, R62): the edge that it makes comes 3 cycles later. One that follows an accepted write whose edge is
still to come is early. -/
def State.hostTickOp (s : State) : State × Nat :=
  if s.tickOn = false ∨ s.reg 0x2000 1 ≠ 2 then (s, stTickNotHost)
  else if s.tick.hostDue.isSome ∨ s.tooEarly (s.now + 3) then (s.bump 32 0x2001 6 1, stTickEarly)
  else ({ s with tick := { s.tick with hostDue := some (s.now + 3) } }, stOk)

/-- A maintenance request enters its unit's ready list at level 15 (R224, R225), and SCH traces points 6 and 2 (R396). -/
def State.maintOp (s : State) (fn : Nat) (b : List Byte) : State :=
  let u := s.regF fn 0x5420 2
  let part := if roleOf fn = 1 then some (callerPart fn) else none
  let s := (s.trace 2 part 6).handOver part
  let s := s.addTask { task0 with
    part := if roleOf fn = 1 then callerPart fn else 0, num := 0xFFFF, node := { node0 with kind := 9, res := 0x30 + u, prio := 15 },
    tick := s.tickCount, edge := s.tick.lastEdge.getD 0, stage := 1, eligAt := s.now, maint := some fn, desc := b }
  (s.setRegF fn 0x5420 3 1).countReady (0x30 + u)

/-- Objects whose write answers a status of its own, with the state after it. -/
def writeStatus (s : State) (fn idx sub : Nat) (v : Val) : Option (State × Nat) :=
  match v with
  | .num n =>
    if idx = 0x2000 ∧ sub = 5 then some s.hostTickOp
    else if idx = 0x2050 ∧ sub = 2 then some (s.startOp n)
    else if idx = 0x2053 ∧ sub = 2 then some (s.updateCommitOp n)
    else none
  | .bytes b =>
    if idx = 0x2051 ∧ sub = 1 then some (s.loadImageOp b)
    else if idx = 0x2053 ∧ sub = 1 then some (s.updateImageOp b)
    else if idx = 0x5210 ∧ sub = 1 then some (s.abortOp (leNat (b.take 2)) (leNat (slice b 2 2)))
    else if idx = 0x5420 ∧ sub = 1 then some (s.maintOp fn b, stOk)
    else none

end Sys2Proof.Machine
end

