-- ==== Sys2Proof/Machine/Admission.lean ====
section
/-! DEFINITION. Admission (02 R51–R57, 16 R402–R404, 17 R427): the checks of R52 in order, and the report. -/

namespace Sys2Proof.Machine

/-- A failed check: status, number of the check, item, demand, limit (R52). -/
structure Admit where
  status : Nat
  check  : Nat
  item   : Nat
  demand : Nat
  limit  : Nat
  deriving DecidableEq, Repr

/-- A check that passes, or fails with what it reports. -/
def admitNeed (ok : Bool) (a : Admit) : Option Admit := if ok then none else some a

/-- The first failure of a list. -/
def firstAdmit : List (Option Admit) → Option Admit
  | [] => none
  | none :: as => firstAdmit as
  | some a :: _ => some a

/-- The nodes of a plan with their numbers. -/
def Plan.numbered (pl : Plan) : List (Nat × PNode) := List.zip (List.range pl.nodes.length) pl.nodes

/-! ### The worst case (R54, R402) -/

/-- The ends that R54 computes: by node and by resource, the worst, and the first node that passes its engine window. -/
structure Ends where
  ends : KMap Nat
  free : KMap Nat
  last : Nat
  past : Option Nat
  deriving DecidableEq, Repr

/-- One node of the computation of R54. An engine node starts no earlier than WIN_START (R402). -/
def Ends.add (win : Nat → Option (Nat × Nat)) (e : Ends) (x : Nat × PNode) : Ends :=
  let n := x.2
  let w := if isEngine n.res then win (n.res - 0x20) else none
  let from' := max (max n.release (kget 0 e.free n.res)) (match w with
    | some v => v.1
    | none => 0)
  let start := n.preds.foldl (fun a k => max a (kget 0 e.ends k)) from'
  let stop := start + n.wcet
  let passes := match w with
    | some v => decide (v.2 ≠ 0xFFFFFFFF) && decide (v.2 < stop)
    | none => false
  { ends := kput e.ends x.1 stop, free := kput e.free n.res stop, last := max e.last stop,
    past := if e.past.isNone && passes then some x.1 else e.past }

/-- The computation of R54 over a plan's nodes. -/
def worstEnds (win : Nat → Option (Nat × Nat)) (ns : List (Nat × PNode)) : Ends :=
  ns.foldl (Ends.add win) { ends := [], free := [], last := 0, past := none }

/-- The end of a node. -/
def Ends.of (e : Ends) (n : Nat) : Nat := kget 0 e.ends n

/-- A plan's nodes with a unit's work moved: nodes of KIND 0xC stay (R437, R456), and so do re-shard nodes of other units
(log 81). -/
def movedNodes (a b : Nat) (ns : List (Nat × PNode)) : List (Nat × PNode) :=
  ns.map (fun x => if x.2.res = a ∧ x.2.kind ≠ 12 then (x.1, { x.2 with res := b }) else x)

/-! ### Programs in the TOD programs section (R187, R224, R436) -/

/-- The descriptors of a chain from a position in the section on, up to LAST: their positions and bytes. -/
def secChain (sec : List Byte) : Nat → Nat → List (Nat × List Byte)
  | 0, _ => []
  | n + 1, k =>
    let b := slice sec (64 * k) 64
    if 64 * k + 64 ≤ sec.length then (if (wordAt b 0).testBit 8 then [(k, b)] else (k, b) :: secChain sec n (k + 1)) else []

/-- The program of a node. -/
def Plan.program (pl : Plan) (n : Nat) : List (Nat × List Byte) :=
  let sec := planSection pl 5
  secChain sec (sec.length / 64) (Config.nodeProgram sec n)

/-- Check 3 over programs: a self-test program holds only KNOWN_ANSWER and no other program holds one (R436); a plan holds no FILL,
COMPARE or target kind 2 (R224). The failing item is the descriptor's byte offset. -/
def programTests (b : List Byte) (pl : Plan) : Tests :=
  pl.numbered.flatMap (fun x =>
    if isCore x.2.res then
      (pl.program x.1).map (fun d => (decide (todType d.2 = 0x30) == decide (x.2.kind = 12), plOff b 5 + 64 * d.1))
    else if isDma x.2.res ∧ x.2.kind ≠ 9 then
      (pl.program x.1).map (fun d => (decide (dType d.2 ≠ 5) && decide (dType d.2 ≠ 6) && decide ((srcSide d.2).kind ≠ 2)
        && decide ((dstSide d.2).kind ≠ 2), plOff b 5 + 64 * d.1))
    else [])

/-! ### Checks 5 to 7 -/

/-- The handle entries that a plan binds (R140): core, handle, base, rows, layout, DIAG and GUARD, fill. -/
def Plan.binds (pl : Plan) : List (Nat × Nat × Nat × Nat × Nat × Nat × Nat) := Config.planBinds (planSection pl 5)

/-- The cores that the owner tables of a plan name: sources in scratchpads, and destinations (R175). -/
def Plan.ownerCores (pl : Plan) : List Nat :=
  let sec := planSection pl 7
  (ownerTables sec).flatMap (fun t => (tableEntries sec t).flatMap (fun e => if e.srcKind = 0 then [e.srcCore, e.dstCore] else [e.dstCore]))

/-- The resources that a plan names: in nodes, bindings, substitution entries, owner tables and bound handles. -/
def Plan.named (pl : Plan) : List Nat :=
  pl.nodes.map (fun x => x.res) ++ pl.bindings.map (fun x => x.res) ++ (substEntries (planSection pl 9)).flatMap (fun e => [e.1, e.2])
    ++ pl.ownerCores ++ pl.binds.map (fun x => x.1)

/-- Check 5: engines and DMA units in service with a share (R402, R403). The item is the lowest. -/
def State.checkEngines (s : State) (p : Nat) (pl : Plan) : Option Admit :=
  let bad (r : Nat) : Bool :=
    (isEngine r && (s.resRetired r || (s.window p (r - 0x20)).isNone)) || (isDma r && decide (s.reg (0x3120 + p) (r - 0x30 + 1) = 0))
  ((List.range 0x36).find? (fun r => bad r && pl.named.contains r)).map (fun r =>
    { status := stAdmitEngines, check := 5, item := r, demand := 0, limit := 0 })

/-- A core that check 6 counts: in the partition, neither retired nor flagged (R498). -/
def State.coreCounts (s : State) (p c : Nat) : Bool :=
  s.coreIn p c && decide (s.reg (0x5000 + c) 1 ≤ 1) && decide (s.reg (0x8100 + c) 4 = 0)

/-- Check 6. -/
def State.checkCores (s : State) (p : Nat) (pl : Plan) : Option Admit :=
  let named := pl.named
  let bad := (List.range 32).find? (fun c => named.contains c && !s.coreCounts p c)
  let limit := ((List.range 32).filter (s.coreCounts p)).length
  let demand := pl.workCores + pl.spare
  match bad with
  | some c => some { status := stAdmitCores, check := 6, item := c, demand := demand, limit := limit }
  | none => admitNeed (decide (demand ≤ limit)) { status := stAdmitCores, check := 6, item := 0xFFFFFFFF, demand := demand, limit := limit }

/-- The plan that a new plan will run beside in its changeover tick: the one in force, unless it is being stopped (R27, R50). -/
def State.besidePlan (s : State) (p : Nat) : Option Plan := if s.planState p = 4 then none else (s.planSt p).cur

/-- Bytes of the buffers of a record: raw sets, statistics sets, parameter record, control record (R497). -/
def bufSpans (x : Slot) (b : BufRec) : List (Nat × Nat) :=
  let raw := x.height * x.pitch
  [(b.rawA, raw), (b.rawB, raw), (b.statsA, 7232), (b.statsB, 7232), (b.param, 64), (b.loop, 64)]

/-- A span of LPDDR5 inside a partition's granules. -/
def State.spanIn (s : State) (p addr len : Nat) : Bool :=
  decide (s.rangeAddr p 0 ≤ addr) && decide (addr + len ≤ s.rangeAddr p 0 + 67108864 * s.reg (0x3100 + p) 7)

/-- The rules of R497 for the record of a stream. -/
def State.bufOk (s : State) (p : Nat) (pl : Plan) (st : Nat) : Bool :=
  let x := pl.slots.getD st (slotOf [] 0)
  let b := pl.bufs.getD st (bufOf [] 0)
  let bound (k : Nat) : Bool := pl.nodes.any (fun n => n.bound && decide (n.stream = st) && decide (n.kind = k))
  let spans := bufSpans x b
  spans.all (fun e => decide (e.1 % 64 = 0) && (decide (e.1 = 0) || s.spanIn p e.1 e.2))
    && (decide (b.rawA = 0) == x.inl) && (decide (b.rawB = 0) == x.inl) && decide (b.statsA ≠ 0) && decide (b.statsB ≠ 0)
    && (decide (b.param = 0) == !bound 0) && (decide (b.loop = 0) == !bound 1)

/-- Does a stream's record overlap an earlier record or itself? -/
def bufMeets (pl : Plan) (st : Nat) : Bool :=
  let spans (i : Nat) : List (Nat × Nat) :=
    (bufSpans (pl.slots.getD i (slotOf [] 0)) (pl.bufs.getD i (bufOf [] 0))).filter (fun e => decide (e.1 ≠ 0))
  let meet (a b : Nat × Nat) : Bool := spansMeet a.1 a.2 b.1 b.2
  let mine := spans st
  ((List.range st).any (fun i => (spans i).any (fun a => mine.any (meet a))))
    || (List.zip (List.range mine.length) mine).any (fun e => (mine.take e.1).any (meet e.2))

/-- The handles that a plan binds on a core. -/
def Plan.boundHandles (pl : Plan) (c : Nat) : List Nat :=
  ((pl.binds.filter (fun x => decide (x.1 = c))).map (fun x => x.2.1)).eraseDups

/-- The handles of a core that the plan beside a new one holds in its changeover tick. -/
def State.besideHandles (s : State) (p c : Nat) : List Nat :=
  match s.besidePlan p with
  | some o => o.boundHandles c
  | none => []

/-- Entries of a core's handle table that a plan needs beside the old one. -/
def State.handleDemand (s : State) (p : Nat) (pl : Plan) (c : Nat) : Nat := (pl.boundHandles c).length + (s.besideHandles p c).length

/-- Check 7 over the handles of a core: disjoint from those of the old plan; rows in range and not withdrawn (R140, R451). -/
def State.bindsOk (s : State) (p : Nat) (pl : Plan) (c : Nat) : Bool :=
  let mine := pl.binds.filter (fun x => decide (x.1 = c))
  (pl.boundHandles c).all (fun h => decide (h < 64) && !(s.besideHandles p c).contains h)
    && mine.all (fun x => decide (x.2.2.1 + x.2.2.2.1 ≤ 10240)
      && (List.range x.2.2.2.1).all (fun i => !s.rowWithdrawn c (x.2.2.1 + i)))

/-- Check 7. -/
def State.checkMemory (s : State) (p : Nat) (pl : Plan) : Option Admit :=
  let no (item demand limit : Nat) : Admit := { status := stAdmitMemory, check := 7, item := item, demand := demand, limit := limit }
  let prog := (planSection pl 5).length + ((s.planSt p).cur.toList).foldl (fun a o => a + (planSection o 5).length) 0
  firstAdmit [
    admitNeed (decide (pl.memBytes ≤ s.planMemFree)) (no pl.memBytes pl.memBytes s.planMemFree),
    ((List.range 32).find? (fun c => decide (64 < s.handleDemand p pl c) || !s.bindsOk p pl c)).map (fun c =>
      if 64 < s.handleDemand p pl c then no c (s.handleDemand p pl c) 64 else no c 0 0),
    ((List.range 64).find? (fun st => !s.bufOk p pl st || bufMeets pl st)).map (fun st => no st 0 0),
    admitNeed (decide (prog ≤ Config.programSize p)) (no (planSection pl 5).length prog (Config.programSize p)),
    (pl.bindings.find? (fun x => !(s.queueIn p x.queue && s.spanIn p (s.rangeAddr p x.cqAddr) (16 * x.depth)
      && (!x.hostFed || s.spanIn p (s.rangeAddr p x.sqAddr) (64 * x.depth))))).map (fun x => no x.queue 0 0)]

/-! ### Checks 8 to 13 -/

/-- Check 9, port by port. -/
def checkFsync (pl : Plan) (pmin : Nat) : Option Admit :=
  firstAdmit ((List.zip (List.range 16) pl.ports).map (fun e =>
    let d := e.2.tsync + e.2.latency + e.2.readout
    admitNeed (decide (d ≤ pmin)) { status := stAdmitFsync, check := 9, item := e.1, demand := d, limit := pmin }))

/-- Check 10: node by node the window and the DEADLINE, then the worst case against L (R54, R402). -/
def checkSteady (win : Nat → Option (Nat × Nat)) (pl : Plan) (l : Nat) : Option Admit :=
  let e := worstEnds win pl.numbered
  let node (x : Nat × PNode) : Option Admit :=
    let w := if isEngine x.2.res then win (x.2.res - 0x20) else none
    firstAdmit [
      (match w with
       | some v => admitNeed (decide (v.2 = 0xFFFFFFFF) || decide (e.of x.1 ≤ v.2))
           { status := stAdmitEngines, check := 10, item := x.2.res, demand := e.of x.1, limit := v.2 }
       | none => none),
      admitNeed (decide (e.of x.1 ≤ x.2.deadline))
        { status := stAdmitTick, check := 10, item := x.1, demand := e.of x.1, limit := x.2.deadline }]
  match firstAdmit (pl.numbered.map node) with
  | some a => some a
  | none =>
    admitNeed (decide (e.last ≤ l))
      { status := stAdmitTick, check := 10, item := ((pl.numbered.find? (fun x => decide (e.of x.1 = e.last))).map (fun x => x.1)).getD 0,
        demand := e.last, limit := l }

/-- Check 11 (R52, R54): the largest of the degraded worst cases, with the entry that gives it. An entry under which a node leaves its engine window
comes first (R402; log 43). -/
def checkSpares (win : Nat → Option (Nat × Nat)) (pl : Plan) (l : Nat) : Option Admit :=
  let es := substEntries (planSection pl 9)
  let ends := (List.zip (List.range es.length) es).map (fun x => (x.1, worstEnds win (movedNodes x.2.1 x.2.2 pl.numbered)))
  let refuse (x : Nat × Ends) : Admit := { status := stAdmitSpare, check := 11, item := x.1, demand := x.2.last, limit := l }
  match ends.find? (fun x => x.2.past.isSome) with
  | some x => some (refuse x)
  | none =>
    let top := ends.foldl (fun a x => max a x.2.last) 0
    (ends.find? (fun x => decide (x.2.last = top) && decide (l < top))).map refuse

/-- The degraded worst case: the largest over the entries, the steady one where there is none. -/
def degradedEnd (win : Nat → Option (Nat × Nat)) (pl : Plan) : Nat :=
  match substEntries (planSection pl 9) with
  | [] => (worstEnds win pl.numbered).last
  | es => es.foldl (fun a x => max a (worstEnds win (movedNodes x.1 x.2 pl.numbered)).last) 0

/-- Check 12. -/
def checkLoop (win : Nat → Option (Nat × Nat)) (pl : Plan) (pmin : Nat) : Option Admit :=
  if pl.inlineEn then
    let n := pl.inlineStream / 4
    let x := pl.ports.getD n (portOf [] 0)
    let limit := pmin + x.tsync + x.latency
    let e := worstEnds win pl.numbered
    firstAdmit ((pl.numbered.filter (fun y => decide (y.2.kind = 11) && decide (y.2.res = 0x40 + n))).map (fun y =>
      admitNeed (decide (e.of y.1 ≤ limit)) { status := stAdmitLoop, check := 12, item := y.1, demand := e.of y.1, limit := limit }))
  else none

/-- UCIe bytes in a cycle at the rate and width in force (R347, R350). -/
def State.linkBytes (s : State) : Nat := (512 + 256 * s.reg 0x1100 3) * s.reg 0x1100 4 / 128

/-- Output bytes of a plan: what its output nodes' descriptors write to the host. -/
def Plan.outputBytes (pl : Plan) : Nat :=
  (pl.numbered.filter (fun x => decide (x.2.phase = 5) && decide (x.2.kind = 10))).foldl (fun a x =>
    (pl.program x.1).foldl (fun a d => if (dstSide d.2).kind = 5 then a + writeTotal d.2 else a) a) 0

/-- Check 13 (R404). 396.8 GB/s is 3,968/5 bytes in a cycle. -/
def State.checkBandwidth (s : State) (p : Nat) (pl : Plan) : Option Admit :=
  let b := s.reg (0x3120 + p) 7
  let out := pl.phases.getD 5 (phaseOf [] 0)
  let no (ph demand limit : Nat) : Admit := { status := stAdmitBandwidth, check := 13, item := ph, demand := demand, limit := limit }
  firstAdmit (pl.phases.map (fun x =>
      let d := 64 * x.blocks
      let room := 85 * b * 3968 * (x.winEnd - x.winStart)
      admitNeed (decide (d * 32000 ≤ room)) (no x.phase d (room / 32000)))
    ++ [let d := pl.outputBytes
        let room := 85 * b * s.linkBytes * (out.winEnd - out.winStart)
        admitNeed (decide (d * 6400 ≤ room)) (no 5 d (room / 6400))])

/-! ### Check 14 (R427, R437) -/

/-- Node pairs of a section: (primary, copy). -/
def nodePairs (sec : List Byte) : List (Nat × Nat) :=
  (List.range (markCounts sec).2.1).map (fun i => (fld (wordAt sec (4 + i)) 15 0, fld (wordAt sec (4 + i)) 31 16))

/-- The pairs and the rules of a section. -/
def markPairs (sec : List Byte) : List OutPair := (List.range (markCounts sec).1).map (outPair sec)
def markRules (sec : List Byte) : List Rule := (List.range (markCounts sec).2.2).map (ruleRec sec)

/-- RATE elements of a section. -/
def rateElems (sec : List Byte) : Nat := ((markRules sec).filter (fun r => decide (r.kind = 2))).foldl (fun a r => a + r.count) 0

/-- T_v of R427. -/
def checkerWork (sec : List Byte) : Nat :=
  4000 + (markPairs sec).foldl (fun a x => a + 400 + ceilDiv x.count 4) 0 + (markRules sec).foldl (fun a r => a + 100 + r.count) 0

/-- The output nodes of a section's pairs. -/
def markOutputs (sec : List Byte) : List Nat := (markPairs sec).flatMap (fun x => [x.primary, x.copy])

/-- The last compute nodes, and the output nodes with their extents, of one pair are fit (R427). -/
def pairFit (pl : Plan) (members : List Nat) (x : OutPair) : Bool :=
  let src (n : Nat) : Bool := members.contains n && (isCore (planNode pl n).res || isEngine (planNode pl n).res)
  let out (n : Nat) : Bool :=
    decide (n < pl.nodes.length) && decide ((planNode pl n).phase = 5) && decide ((planNode pl n).kind = 10)
      && (match (pl.program n).getLast? with
          | some d =>
            let e := dstExtent d.2
            decide ((dstSide d.2).kind = 3) && decide ((ceilDiv (x.count * fmtBits x.fmt) 8 : Nat) ≤ e.2 - e.1)
          | none => false)
  src x.srcA && src x.srcB && out x.primary && out x.copy

/-- Ticks that one pass of a self-test program takes in its slots (R427): the slices left to run when a tick starts, in order, each slot
taking those that fit its WCET. `n` bounds the ticks; none where it takes more. -/
def slotTicks (wcets : List Nat) : Nat → List Nat → Option Nat
  | _, [] => some 0
  | 0, _ => none
  | n + 1, cs =>
    let take (w : Nat) : Nat × List Nat → Nat → Nat × List Nat := fun a _ =>
      match a.2 with
      | c :: r => if a.1 + c ≤ w then (a.1 + c, r) else a
      | [] => a
    let left := wcets.foldl (fun cs w => ((List.range cs.length).foldl (take w) (0, cs)).2) cs
    (slotTicks wcets n left).map (· + 1)

/-- The self-test test of R427 for a core: in service or spare it has a slot, its slots name one program, and a pass takes at most 50
ticks. Answers the item that fails. -/
def State.slotFit (s : State) (p : Nat) (pl : Plan) (marked : Bool) (c : Nat) : Option Nat :=
  let slots := pl.numbered.filter (fun x => decide (x.2.kind = 12) && decide (x.2.res = c))
  match slots with
  | [] => if marked && s.coreIn p c && decide (s.reg (0x5000 + c) 1 ≤ 1) then some c else none
  | x :: rest =>
    let prog := pl.program x.1
    match rest.find? (fun y => decide (pl.program y.1 ≠ prog)) with
    | some y => some y.1
    | none =>
      if marked && (slotTicks (slots.map (fun y => y.2.wcet)) 50 (prog.map (fun d => todCycles d.2 0 0 false))).isNone then some c else none

/-- The plans in force in other partitions. -/
def State.othersRun (s : State) (p : Nat) : List Plan :=
  ((List.range 8).filter (fun q => decide (q ≠ p) && decide (s.planState q ≠ 0))).filterMap (fun q => (s.planSt q).cur)

/-- Every plan that the device holds. -/
def State.heldPlans (s : State) : List Plan :=
  s.plans.flatMap (fun e => e.2.waiting.toList ++ e.2.cur.toList ++ e.2.old.toList)

/-- Check 14. `held`: is the plan among the held ones already (R51)? -/
def State.checkSafety (s : State) (p : Nat) (pl : Plan) (l : Nat) (held : Bool) : Option Admit :=
  let win := s.window p
  let sec := planSection pl 8
  let marked := pl.marked
  let pairs := nodePairs sec
  let members := pairs.flatMap (fun e => [e.1, e.2])
  let no (item demand limit : Nat) : Admit := { status := stAdmitSafety, check := 14, item := item, demand := demand, limit := limit }
  let plain (item : Nat) : Admit := no item 0 0
  let res (m : Nat × Nat) (n : Nat) : Nat :=
    let x := planNode pl n
    if x.res = m.1 ∧ x.kind ≠ 12 then m.2 else x.res
  let maps := (0x100, 0x100) :: substEntries (planSection pl 9)
  let total (f : List Byte → Nat) (ps : List Plan) : Nat := ps.foldl (fun a o => a + f (planSection o 8)) 0
  let judged := pl :: s.othersRun p
  let loaded := if held then s.heldPlans else pl :: s.heldPlans
  let e := worstEnds win pl.numbered
  let outs := markOutputs sec
  let lastOut := outs.foldl (fun a n => max a (e.of n)) 0
  let verdict := lastOut + ceilDiv (checkerWork sec * 5) 8
  firstAdmit [
    (pl.numbered.find? (fun x => x.2.safety && decide ((members.filter (fun (m : Nat) => decide (m = x.1))).length ≠ 1))).map
      (fun x => plain x.1),
    (pairs.find? (fun x => !(decide (x.1 < pl.nodes.length) && decide (x.2 < pl.nodes.length)
        && decide ((planNode pl x.1).kind = (planNode pl x.2).kind) && (planNode pl x.1).safety && (planNode pl x.2).safety
        && maps.all (fun m => decide (res m x.1 ≠ res m x.2))))).map (fun x => plain x.1),
    ((List.range (markCounts sec).1).find? (fun i => marked && !pairFit pl members (outPair sec i))).map plain,
    ((List.range (markCounts sec).2.2).find? (fun k =>
      let r := ruleRec sec k
      marked && !(decide (r.pair < (markCounts sec).1) && (decide (r.kind ≠ 3) || decide (r.other < (markCounts sec).1))))).map plain,
    admitNeed (decide (total rateElems judged ≤ 65536)) (no 0 (total rateElems judged) 65536),
    admitNeed (decide (total (fun b => (markCounts b).1) judged ≤ 256)) (no 0 (total (fun b => (markCounts b).1) judged) 256),
    admitNeed (decide (total (fun b => (markCounts b).2.2) judged ≤ 1024)) (no 0 (total (fun b => (markCounts b).2.2) judged) 1024),
    admitNeed (decide (total List.length loaded ≤ 524288)) (no 0 (total List.length loaded) 524288),
    admitNeed (!marked || decide (verdict ≤ markDeadline sec))
      (no ((outs.find? (fun n => decide (e.of n = lastOut))).getD 0) verdict (markDeadline sec)),
    admitNeed (!marked || decide (markDeadline sec ≤ l)) (no 0 (markDeadline sec) l),
    ((List.range 32).findSome? (fun c => s.slotFit p pl marked c)).map plain]

/-! ### Check 15 (R57) -/

/-- Check 15 against the plan that finishes its processing half. -/
def checkChangeover (win : Nat → Option (Nat × Nat)) (old pl : Plan) : Option Admit :=
  let e := worstEnds win (old.numbered.filter (fun x => !intakeHalf x.2))
  let busy (r : Nat) : Nat := (old.numbered.filter (fun x => decide (x.2.res = r) && !intakeHalf x.2)).foldl (fun a x => max a (e.of x.1)) 0
  let mine := pl.numbered.filter (fun x => intakeHalf x.2)
  let firsts := mine.filter (fun x => !mine.any (fun y => decide (y.1 < x.1) && decide (y.2.res = x.2.res)))
  firstAdmit (firsts.map (fun x =>
    admitNeed (decide (busy x.2.res ≤ x.2.release))
      { status := stAdmitChangeover, check := 15, item := x.1, demand := busy x.2.res, limit := x.2.release }))

/-! ### All checks -/

/-- Checks 8 to 15 of a plan at a source and a rate (R51, R52). -/
def State.checkTiming (s : State) (p : Nat) (pl : Plan) (src rate : Nat) (old : Option Plan) (held : Bool) : Option Admit :=
  let pmin := pMinOf src rate
  let l := pmin * 96 / 100
  let win := s.window p
  firstAdmit [
    admitNeed (decide (rate ≤ pl.maxRate)) { status := stAdmitTick, check := 8, item := 0, demand := rate, limit := pl.maxRate },
    checkFsync pl pmin, checkSteady win pl l, checkSpares win pl l, checkLoop win pl pmin, s.checkBandwidth p pl,
    s.checkSafety p pl l held,
    (match old with
     | some o => checkChangeover win o pl
     | none => none)]

/-- Checks 1 to 15 of a staged plan, in order (R52). -/
def State.admitPlan (s : State) (p : Nat) (b : List Byte) (src rate : Nat) : Option Admit :=
  let bare (st ck item : Nat) : Admit := { status := st, check := ck, item := item, demand := 0, limit := 0 }
  let window (e : Nat) : Bool := (s.window p e).isSome
  match check1 b p window with
  | some i => some (bare stPlanFormat 1 i)
  | none =>
    let pl := parsePlan b
    if plHdr b 1 31 16 ≠ 1 ∨ plHdr b 1 15 0 ≠ 0 then some (bare stPlanVersion 2 0)
    else
      match (check3 b (fun e => moveOk false (entryMove e))).or (firstBad (programTests b pl)) with
      | some i => some (bare stBadEncoding 3 i)
      | none =>
        firstAdmit [admitNeed (decide (s.reg 0x1010 3 ≠ 2)) (bare stHeld 4 0), s.checkEngines p pl, s.checkCores p pl,
          s.checkMemory p pl, s.checkTiming p pl src rate (s.besidePlan p) false]

/-- The admission report of a partition (OD 212p). -/
def State.admitReport (s : State) (p txn : Nat) (a : Option Admit) : State :=
  let a := a.getD { status := 0, check := 0, item := 0, demand := 0, limit := 0 }
  let i := 0x2120 + p
  (((((s.setReg i 1 a.status).setReg i 2 a.check).setReg i 3 a.item).setReg i 4 a.demand).setReg i 5 a.limit).setReg i 6 txn

/-- Plans that the re-check of R51 covers in a partition: the one in force and the one that waits, with the plan beside it. `past`:
its changeover is over at the edge at which the change takes effect. -/
def State.recheckPlans (s : State) (p : Nat) (past : Bool) : List (Plan × Option Plan) :=
  let x := s.planSt p
  (if s.planState p = 1 ∨ s.planState p = 2 ∨ s.planState p = 3 then x.cur.toList.map (fun pl => (pl, none)) else [])
    ++ x.waiting.toList.map (fun pl => (pl, if s.planState p = 4 ∨ past = true then none else x.cur))

/-- The re-check of R51: the first partition that fails, and why. `past` names the partitions whose changeover is over by then. -/
def State.recheck (s : State) (src rate : Nat) (past : Nat → Bool) : Option (Nat × Admit) :=
  (List.range 8).findSome? (fun p =>
    ((s.recheckPlans p (past p)).findSome? (fun e => s.checkTiming p e.1 src rate e.2 true)).map (fun a => (p, a)))

end Sys2Proof.Machine
end

