-- ==== Sys2Proof/Machine/Dict.lean ====
section
/-! DEFINITION. The dictionary service (03): requests in the order of checks of R75, segments (R76), transactions
(R79–R84), the journal's reading (R90), and the answer that each transport carries. -/

namespace Sys2Proof.Machine

/-! ### Values -/

/-- The value of an object in force, as function `fn` reads it: computed where an object has a rule of its own, latched at
the last tick edge where the chapter's access rule says so for a partition owner (R77). -/
def State.objValue (s : State) (fn : Nat) (o : ObjRow) (idx sub : Nat) : Val :=
  let h := holdFn o fn
  let old := decide (roleOf fn = 1) && o.latched
  match customRead s fn idx sub with
  | some v => v
  | none =>
    if tySize o.ty = 0 then
      .bytes (if old then kget (defBytes idx sub) s.dict.latchedB (okey h idx sub) else s.blobF h idx sub)
    else .num (if old then kget (defNum idx sub) s.dict.latched (okey h idx sub) else s.regF h idx sub)

/-- A value stored under its object. -/
def State.storeVal (s : State) (fn idx sub : Nat) : Val → State
  | .num n => s.setRegF fn idx sub n
  | .bytes b => s.setBlobF fn idx sub b

/-! ### Transactions -/

/-- The open transaction `id` of the caller. -/
def State.findTxn (s : State) (fn id : Nat) : Option Txn :=
  s.dict.txns.find? (fun t => decide (t.id = id) && decide (t.role = roleOf fn) && decide (t.fn = fn))

/-- The open transaction of a role in a scope. -/
def State.scopeTxn (s : State) (role : Nat) (scope : Option Nat) : Option Txn :=
  s.dict.txns.find? (fun t => decide (t.role = role) && decide (t.scope = scope))

/-- A transaction replaced by its new form. -/
def State.putTxn (s : State) (t : Txn) : State :=
  { s with dict := { s.dict with txns := s.dict.txns.map (fun u => if u.id = t.id then t else u) } }

/-- The staging buffer of partition `p` set, with OD 210p.02 and OD 210p.03 (R47). -/
def State.setStaging (s : State) (p : Nat) (b : List Byte) : State :=
  let s := if (s.planSt p).staging = b then s else s.newVersion 0 (0x2100 + p) 1
  ((s.setPlanSt p { s.planSt p with staging := b }).setReg (0x2100 + p) 2 b.length).setReg (0x2100 + p) 3 (if b.isEmpty then 0 else dwordAt b 9)

/-- The staging buffers of the plans that a transaction staged are empty (R47, log 40). -/
def State.clearStaging (s : State) (ws : List Staged) : State :=
  (ws.filter (fun w => decide (0x2100 ≤ w.idx) && decide (w.idx < 0x2108) && decide (w.sub = 1))).foldl (fun s w =>
    s.setStaging (w.idx - 0x2100) []) s

/-- A transaction closed, with its unfinished segmented writes (R83). OD 1011.04 counts the open ones. -/
def State.closeTxn (s : State) (id : Nat) : State :=
  let s := (s.dict.txns.filter (fun u => decide (u.id = id))).foldl (fun s u => s.clearStaging u.staged) s
  let ts := s.dict.txns.filter (fun u => decide (u.id ≠ id))
  { s with dict := { s.dict with txns := ts, segments := s.dict.segments.filter (fun g => decide (g.txn ≠ id)) } }.setReg
    0x1011 4 ts.length

/-- The time of the last command that carried a transaction's identifier (R84). -/
def State.touchTxn (s : State) (fn id : Nat) : State :=
  match s.findTxn fn id with
  | some t => s.putTxn { t with lastCmd := s.now }
  | none => s

/-- The staged value of an object in a transaction. -/
def stagedVal (t : Txn) (h idx sub : Nat) : Option Val :=
  (t.staged.find? (fun w => decide (w.fn = h) && decide (w.idx = idx) && decide (w.sub = sub))).map (fun w => w.val)

/-- The bytes that a staged value counts: none for a PLAN (R80). -/
def stagedBytes (w : Staged) : Nat :=
  match objRow w.idx w.sub with
  | none => 0
  | some o => if o.ty = .plan then 0 else (valBytes o.ty w.val).length

/-- A value staged: a second write of an object keeps its place (R80). -/
def stageIn (t : Txn) (w : Staged) : Txn :=
  let same (u : Staged) : Bool := decide (u.fn = w.fn) && decide (u.idx = w.idx) && decide (u.sub = w.sub)
  if t.staged.any same then { t with staged := t.staged.map (fun u => if same u then w else u) }
  else { t with staged := t.staged ++ [w] }

/-- Is the object locked by a COMMIT between its decision and its completion (R78)? -/
def State.locked (s : State) (h idx sub : Nat) : Bool :=
  s.dict.commits.any (fun c => c.decided.isSome &&
    c.txn.staged.any (fun w => decide (w.fn = h) && decide (w.idx = idx) && decide (w.sub = sub)))

/-! ### Availability of the firmware (R78, R361, R387–R395) -/

/-- The restart estimate of a processor: the bound less the time elapsed, in whole ms rounded up (R394). -/
def State.restartLeft (s : State) (x : Nat) : Nat :=
  ceilDiv (msCycles (restartMs x) - (s.now - kget 0 s.fw.restartAt x)) 500000

/-- What a command meets that needs processor `x`: nothing, BUSY with a retry time, INTERNAL_ERROR (R78, R393). -/
def State.procGate (s : State) (x : Nat) : Option (Nat × List Byte) :=
  let st := s.reg (0x2060 + x) 1
  if st = 2 then some (stBusy, retryPayload (s.restartLeft x))
  else if st = 3 then some (stInternalError, [])
  else none

/-- Does SEC serve this request before SCH runs (R388)? -/
def secServes (state : Nat) (opcode idx sub : Nat) : Bool :=
  if opcode = 1 then
    (decide (0x1000 ≤ idx) && decide (idx ≤ 0x1002)) || decide (idx = 0x1010) || decide (idx = 0x1100) || decide (idx = 0x1101)
      || decide (idx = 0x2050) || decide (idx = 0x2051) || decide (idx = 0x2053) || decide (idx = 0x2055)
      || (decide (0x2060 ≤ idx) && decide (idx ≤ 0x2068))
  else if opcode = 2 then
    (decide (idx = 0x1010) && (decide (sub = 1) || decide (sub = 4)))
      || (decide (state = 2) && ((decide (idx = 0x2050) && decide (sub = 2)) || (decide (idx = 0x2051) && decide (sub = 1))
            || (decide (idx = 0x2055) && decide (sub = 5))))
  else false

/-- What stops a request before its checks: the start states of R387 and a restart of SCH (R394, R395). -/
def State.serviceGate (s : State) (fn opcode idx sub : Nat) : Option (Nat × List Byte) :=
  let st := s.reg 0x2050 1
  if st = 4 then
    (if fn = 0 ∧ opcode = 1 ∧ (idx = 0x1000 ∨ idx = 0x2050) then none else some (stInternalError, []))
  else if st < 3 then
    (match s.procGate 0 with
     | some g => some g
     | none => if fn = 0 ∧ secServes st opcode idx sub = true then none else some (stBusy, retryPayload 10))
  else s.procGate 2

/-- The processor beside SCH that a write of an object needs (R381, R394): SEC for keys and images, CC5 for front-end and
stream objects. -/
def procOf (idx sub : Nat) : Option Nat :=
  if idx = 0x1111 ∧ sub ≤ 2 then some 0
  else if idx = 0x2051 ∨ idx = 0x2053 then some 0
  else if 0x4000 ≤ idx ∧ idx < 0x5000 then some 8
  else if 0x2030 ≤ idx ∧ idx < 0x2050 then some 8
  else none

/-- The TYPE of a response: the object's code, 0 where the address has none (R66, R72). -/
def objType (idx sub : Nat) : Nat := ((objRow idx sub).map (fun o => tyCode o.ty)).getD 0

/-- The TYPE of a response that carries nothing but a refusal. -/
def reqType (opcode : Nat) (r : Req) : Nat := if opcode = 1 ∨ opcode = 2 then objType r.index.toNat r.sub.toNat else 0

/-! ### The checks of R75 -/

/-- Step 1: message form (R71, R73, R376). A transaction command carries no LENGTH (log 77). -/
def formCheck (fn opcode : Nat) (r : Req) : Nat :=
  let len := r.length.toNat
  firstFail [
    need (decide (1 ≤ opcode) && decide (opcode ≤ 6)) stBadEncoding,
    need (decide (r.flags.toNat / 4 = 0) && decide (r.rsvd = 0)) stBadEncoding,
    need (decide (len ≤ (if fn = 9 then 256 else 4096))) stBadLength,
    need (decide (opcode ≠ 2) || decide (r.payload.length = len)) stBadLength,
    need (decide (opcode ≤ 2) || decide (len = 0)) stBadLength]

/-- Is this a command that a version mismatch or the held state lets pass (R92)? -/
def versionReads (opcode idx : Nat) : Bool :=
  decide (opcode = 1) && (decide (idx = 0x1000) || decide (idx = 0x1001) || decide (idx = 0x1002) || decide (idx = 0x1010))

/-- Step 2: version and held state (R92, R389). A function that has never written OD 1010.04 has stated no version (log 12). -/
def State.versionCheck (s : State) (fn opcode idx sub : Nat) : Nat :=
  let mine := klook s.dict.num (okey fn 0x1010 4)
  let bad := match mine with
    | some v => decide (v / 65536 ≠ 1)
    | none => false
  let pass := versionReads opcode idx
  if bad && !(pass || (decide (opcode = 2) && decide (idx = 0x1010) && decide (sub = 4))) then stVersionMismatch
  else if decide (s.reg 0x1010 3 = 2) && !(pass || (decide (opcode = 2) && decide (idx = 0x1010) && decide (sub = 1))) then
    stHeld
  else if decide (opcode = 2) && decide (idx = 0x2051) && decide (sub = 1) && decide (s.reg 0x1010 3 ≠ 1) then stHeld
  else stOk

/-- Step 3: the address (R65). -/
def addressCheck (idx sub : Nat) (write : Bool) : Nat :=
  if 0xA000 ≤ idx ∧ idx ≤ 0xEFFF then (if write then stReservedIndex else stNoObject)
  else if 0xF000 ≤ idx then stOk
  else need (objRow idx sub).isSome stNoObject

/-- Step 4: role rights (R65, R69). -/
def State.rightsCheck (s : State) (fn idx sub : Nat) (write : Bool) (v : Option Val) : Nat :=
  if 0xF000 ≤ idx then need (decide (fn = 0) && !write) stAccessDenied
  else
    match objRow idx sub with
    | none => stNoObject
    | some o => firstFail [need (s.mayReach fn o idx write) stAccessDenied, rightsExtra s fn idx sub write v]

/-- Step 5: the access code of a write (R67). -/
def accessCheck (o : ObjRow) (txn : Nat) : Nat :=
  match o.acc with
  | .ro => stReadOnly
  | .konst => stReadOnly
  | .rwt => need (decide (txn ≠ 0)) stTxnRequired
  | _ => stOk

/-- Is the object in a transaction's scope (R79, R405)? -/
def State.inScope (s : State) (fn : Nat) (t : Txn) (o : ObjRow) (idx : Nat) : Bool :=
  match t.scope with
  | none => true
  | some p => decide (s.objPart fn o idx = some p) && !(decide (0x3100 ≤ idx) && decide (idx < 0x3130))

/-- Step 6 of a write: the transaction, its scope, its limits of 256 objects and 4,194,304 bytes (R79, R80). -/
def State.txnCheck (s : State) (fn : Nat) (o : ObjRow) (r : Req) : Nat :=
  let id := r.txn.toNat
  if id = 0 then stOk
  else
    match s.findTxn fn id with
    | none => stTxnUnknown
    | some t =>
      if !s.inScope fn t o r.index.toNat then stTxnScope
      else
        let h := holdFn o fn
        let others := t.staged.filter (fun w =>
          !(decide (w.fn = h) && decide (w.idx = r.index.toNat) && decide (w.sub = r.sub.toNat)))
        let mine := if o.ty = .plan then 0 else (if tySize o.ty = 0 then r.offset.toNat else 0) + r.payload.length
        need (decide (others.length + 1 ≤ 256)
          && decide ((others.map stagedBytes).foldl (· + ·) 0 + mine ≤ 4194304)) stTxnFull

/-- The unfinished segmented write of a caller for an object. -/
def State.segment (s : State) (fn idx sub txn : Nat) : List Byte :=
  match s.dict.segments.find? (fun g => decide (g.fn = fn) && decide (g.idx = idx) && decide (g.sub = sub)
    && decide (g.txn = txn)) with
  | some g => g.bytes
  | none => []

/-- The unfinished segmented writes of an object by a caller, replaced by one, or by none. -/
def State.setSegment (s : State) (fn idx sub txn : Nat) (b : Option (List Byte)) : State :=
  let gs := s.dict.segments.filter (fun g => !(decide (g.fn = fn) && decide (g.idx = idx) && decide (g.sub = sub)))
  { s with dict := { s.dict with segments :=
      match b with
      | some bytes => { fn := fn, idx := idx, sub := sub, txn := txn, bytes := bytes } :: gs
      | none => gs } }

/-- The value that a WRITE completes: its own payload for a fixed-size type, the segments and its payload otherwise. -/
def State.offered (s : State) (fn : Nat) (o : ObjRow) (r : Req) : List Byte :=
  if tySize o.ty ≠ 0 ∨ r.offset.toNat = 0 then r.payload
  else s.segment fn r.index.toNat r.sub.toNat r.txn.toNat ++ r.payload

/-- Step 7 of a write: lengths, segments, the value (R66, R76). -/
def State.valueStep (s : State) (fn : Nat) (o : ObjRow) (r : Req) : Nat :=
  let idx := r.index.toNat
  let sub := r.sub.toNat
  if tySize o.ty ≠ 0 then
    firstFail [
      need (decide (r.payload.length = tySize o.ty) && decide (r.offset.toNat = 0) && reqLast r) stBadLength,
      valueCheck o (parseVal o.ty r.payload),
      valueExtra s fn idx sub (parseVal o.ty r.payload)]
  else
    let off := r.offset.toNat
    let bytes := s.offered fn o r
    firstFail [
      need (decide (off + r.payload.length ≤ o.maxLen)) stBadLength,
      need (decide (off = 0) || decide ((s.segment fn idx sub r.txn.toNat).length = off)) stSegmentOrder,
      (if reqLast r then firstFail [valueCheck o (.bytes bytes), valueExtra s fn idx sub (.bytes bytes)] else stOk)]

/-- Is a WRITE to this object journaled (R85)? -/
def journaledWrite (idx sub : Nat) : Bool := !(decide (idx = 0x2000) && decide (sub = 5)) && decide (idx ≠ 0x1021)

/-- Step 8 of a WRITE: BUSY with its retry time (R78). -/
def State.busyStep (s : State) (fn : Nat) (o : ObjRow) (r : Req) : Option (Nat × List Byte) :=
  let idx := r.index.toNat
  let sub := r.sub.toNat
  match (procOf idx sub).bind (fun x => s.procGate x) with
  | some g => some g
  | none =>
    if s.locked (holdFn o fn) idx sub then some (stBusy, retryPayload 1)
    else
      match busyExtra s fn idx sub (parseVal o.ty (s.offered fn o r)) with
      | some ms => some (stBusy, retryPayload ms)
      | none => if journaledWrite idx sub && s.journalFull then some (stBusy, retryPayload 1) else none

/-! ### READ -/

/-- Entries of the journal that are held: the ring's older ones, then the on-chip ones (R86). -/
def State.heldEntries (s : State) : List JEntry :=
  let first := (s.dict.journal.head?.map (fun e => e.seq)).getD 0
  s.dict.ring.filter (fun e => decide (e.seq < first)) ++ s.dict.journal

/-- Is an entry visible to function `fn` (R90)? -/
def State.jVisible (s : State) (fn : Nat) (all : List JEntry) (e : JEntry) : Bool :=
  let readable (x : JEntry) : Bool :=
    match objRow x.index x.sub with
    | some o => s.mayReach fn o x.index false
    | none => false
  let shown (x : JEntry) : Bool :=
    x.isGlobal && (decide (x.kind = 1) || decide (x.kind = 3) || decide (x.kind = 8)) && readable x
  let view (x : JEntry) : Bool := (!x.isGlobal && decide (x.part = callerPart fn)) || shown x
  if fn = 0 then true
  else if fn = 9 then decide (e.role = 2)
  else
    view e || (e.isGlobal && (decide (e.kind = 4) || decide (e.kind = 5) || decide (e.kind = 6))
      && all.any (fun x => decide (x.kind = 3) && decide (x.txn = e.txn) && x.staged && decide (x.outcome = stOk) && view x))

/-- The visible entries from the cursor on, at most `n`, and the cursor after the last entry examined (R90). -/
def jScan (vis : JEntry → Bool) : List JEntry → Nat → Nat → List JEntry → List JEntry × Nat
  | [], _, cur, acc => (acc, cur)
  | e :: es, n, cur, acc =>
    if n = 0 then (acc, cur)
    else if e.seq < cur then jScan vis es n cur acc
    else if vis e then jScan vis es (n - 1) (e.seq + 1) (acc ++ [e])
    else jScan vis es n (e.seq + 1) acc

/-- What a read is about to move is kept, until its response is written: SEC takes back a read whose answer SCH could not give (R395). -/
def State.keepCursor (s : State) (fn idx : Nat) (subs : List Nat) : State :=
  s.setFn fn { s.fnSt fn with undo := subs.map (fun k => (idx, k, s.regF fn idx k)) }

/-- READ of OD 1021.02: status, entries, the state with the cursor moved (R90). -/
def State.journalReadOp (s : State) (fn len : Nat) : State × Nat × List Byte :=
  let cur := s.regF fn 0x1021 1
  let held := s.heldEntries
  let oldest := (held.head?.map (fun e => e.seq)).getD 1
  if len < 64 then (s, stBadLength, [])
  else if s.dict.nextSeq ≤ cur then (s, stOk, [])
  else if cur < oldest then (s, stJournalLost, [])
  else
    let r := jScan (s.jVisible fn held) held (min (s.regF fn 0x1021 3) (len / 64)) cur []
    ((s.keepCursor fn 0x1021 [1]).setRegF fn 0x1021 1 r.2, stOk, r.1.flatMap entryBytes)

/-- Is a log entry visible to function `fn` (R397)? -/
def logVisible (fn : Nat) (e : LogEntry) : Bool :=
  decide (fn = 0) || (!e.isGlobal && decide (e.part = callerPart fn))

/-- The visible log entries from a cursor on, at most `n`, and the cursor past the last examined. -/
def logScan (fn : Nat) : List LogEntry → Nat → Nat → List LogEntry → List LogEntry × Nat
  | [], _, cur, acc => (acc, cur)
  | e :: es, n, cur, acc =>
    if n = 0 then (acc, cur)
    else if e.seq < cur then logScan fn es n cur acc
    else if logVisible fn e then logScan fn es (n - 1) (e.seq + 1) (acc ++ [e])
    else logScan fn es n (e.seq + 1) acc

/-- READ of OD 2054.02: a cursor below the oldest held entry is first raised to it, and the skipped ones counted (R397). -/
def State.logReadOp (s : State) (fn len : Nat) : State × Nat × List Byte :=
  let cur := s.regF fn 0x2054 1
  let oldest := (s.elog.entries.head?.map (fun e => e.seq)).getD s.elog.nextLog
  let s := s.keepCursor fn 0x2054 [1, 6]
  let s := if max cur 1 < oldest then s.bumpF 32 fn 0x2054 6 (oldest - max cur 1) else s
  let r := logScan fn s.elog.entries (min 64 (len / 32)) (max cur oldest) []
  (s.setRegF fn 0x2054 1 r.2, stOk, r.1.flatMap logBytes)

/-- How often the byte string that a function reads has changed (R76). -/
def State.versionOf (s : State) (fn : Nat) (o : ObjRow) (idx sub : Nat) : Nat :=
  let n := kget 0 (if decide (roleOf fn = 1) && o.latched then s.dict.latchedV else s.dict.vers) (okey (holdFn o fn) idx sub)
  if idx = 0x6013 ∧ sub = 2 then n * 2 ^ 64 + s.ctxVersion (s.regF fn 0x6013 1) else n

/-- What a READ answers that has passed the checks: status and bytes, with the value last read kept for R76. A cursor read takes no OFFSET
(log 77). -/
def State.readValue (s : State) (fn : Nat) (o : ObjRow) (r : Req) : State × Nat × List Byte :=
  let idx := r.index.toNat
  let sub := r.sub.toNat
  let off := r.offset.toNat
  let len := r.length.toNat
  if idx = 0x1021 ∧ sub = 2 then (if off = 0 then s.journalReadOp fn len else (s, stBadLength, []))
  else if idx = 0x2054 ∧ sub = 2 then (if off = 0 then s.logReadOp fn len else (s, stBadLength, []))
  else if tySize o.ty ≠ 0 ∧ off ≠ 0 then (s, stBadLength, [])
  else if o.acc = .wo then (s, stOk, (zeroBytes o).take len)
  else
    let stagedOne :=
      if reqStagedRead r then (s.findTxn fn r.txn.toNat).bind (fun t => stagedVal t (holdFn o fn) idx sub) else none
    let bytes := valBytes o.ty (stagedOne.getD (s.objValue fn o idx sub))
    if tySize o.ty ≠ 0 then (s, stOk, bytes.take len)
    else
      let key := okey (if stagedOne.isSome then stagedFn fn else fn) idx sub
      let now' := (if stagedOne.isSome then kget 0 s.dict.vers (okey (stagedFn (holdFn o fn)) idx sub) else s.versionOf fn o idx sub, bytes)
      let s' := { s with dict := { s.dict with lastRead := kput s.dict.lastRead key now' } }
      match klook s.dict.lastRead key with
      | some old => if off ≠ 0 ∧ old ≠ now' then (s, stValueChanged, []) else (s', stOk, (bytes.drop off).take len)
      | none => (s', stOk, (bytes.drop off).take len)

/-- READ: the checks of R75 in order, then the value. The value of a device owner's read in F000–FFFF is read as a BLOB (log 66). -/
def State.doRead (s : State) (fn : Nat) (r : Req) : State × Resp :=
  let idx := r.index.toNat
  let sub := r.sub.toNat
  let id := r.txn.toNat
  let st := firstFail [
    s.versionCheck fn 1 idx sub, addressCheck idx sub false, s.rightsCheck fn idx sub false none,
    need (decide (id = 0) || (s.findTxn fn id).isSome) stTxnUnknown]
  if st ≠ stOk then (s.touchTxn fn id, mkResp 1 r (objType idx sub) id st [])
  else if 0xF000 ≤ idx then
    (s.touchTxn fn id, mkResp 1 r 12 id stOk (((Config.diagnostics idx sub s.now).drop r.offset.toNat).take r.length.toNat))
  else
    match objRow idx sub with
    | none => (s, mkResp 1 r 0 id stNoObject [])
    | some o =>
      let x := s.readValue fn o r
      (x.1.touchTxn fn id, mkResp 1 r (tyCode o.ty) id x.2.1 (if x.2.1 = stOk then x.2.2 else []))

/-! ### WRITE -/

/-- The journal entry of a queue abort (R87, R196): its INDEX is the queue. -/
def State.abortEntry (s : State) (fn q status : Nat) : JEntry :=
  let part := s.queuePart q
  { s.entry0 7 with index := q, role := roleOf fn, part := part.getD 0, isGlobal := part.isNone, outcome := status,
                    transport := transportOf fn }

/-- The journal entry of a WRITE: WRITE outside a transaction, STAGE inside, ABORT for a queue abort that ends with OK or ALREADY_COMPLETE
(R87, R88). A key write carries zero hashes (R375), and so does a segment that is not the LAST (log 66). -/
def State.writeEntry (s : State) (fn : Nat) (o : Option ObjRow) (r : Req) (status : Nat) : JEntry :=
  let idx := r.index.toNat
  let sub := r.sub.toNat
  let key := decide (idx = 0x1111) && (decide (sub = 1) || decide (sub = 2))
  let whole := match o with
    | some o => decide (tySize o.ty ≠ 0) || reqLast r
    | none => true
  let part := o.bind (fun o => s.objPart fn o idx)
  if idx = 0x5210 ∧ sub = 1 ∧ r.txn = 0 ∧ reqLast r = true ∧ (status = stOk ∨ status = stAlreadyComplete) then s.abortEntry fn (leNat ((s.segment fn idx sub 0 ++ r.payload).take 2)) status
  else
  { seq := 0, tick := s.tickCount, txn := r.txn.toNat, index := idx, sub := sub, role := roleOf fn, part := part.getD 0,
    isGlobal := part.isNone, kind := if r.txn.toNat = 0 then 1 else 3, outcome := status, count := 0,
    transport := transportOf fn,
    oldHash := if key || !whole then hash0 else
      (match o with
       | some o => hash96 (valBytes o.ty (s.objValue fn o idx sub))
       | none => hash0),
    newHash := if key || !whole then hash0 else
      (match o with
       | some o => hash96 (s.offered fn o r)
       | none => hash96 r.payload),
    staged := whole }

/-- Does a write of this object put its bytes into force by the common rule? A WO object stores nothing. -/
def storesValue (o : ObjRow) : Bool := decide (o.acc ≠ .wo)

/-- What an accepted WRITE does (R67, R76): a segment kept, a value staged, or a value taken at once, with what the object
adds. A LAST segment that the object's own checks refuse leaves the segments before it. -/
def State.takeWrite (s : State) (fn : Nat) (o : ObjRow) (r : Req) : State × Nat :=
  let idx := r.index.toNat
  let sub := r.sub.toNat
  let id := r.txn.toNat
  let bytes := s.offered fn o r
  if tySize o.ty = 0 ∧ reqLast r = false then (s.setSegment fn idx sub id (some bytes), stOk)
  else
    let v := parseVal o.ty bytes
    let h := holdFn o fn
    let kept := s.dict.segments
    let s := if tySize o.ty = 0 then s.setSegment fn idx sub id none else s
    if id ≠ 0 then
      match s.findTxn fn id with
      | none => (s, stTxnUnknown)
      | some t =>
        let s := (s.putTxn (stageIn t { fn := h, idx := idx, sub := sub, val := v })).newVersion (stagedFn h) idx sub
        (match v with
         | .bytes b =>
           if o.ty = .plan then (s.setStaging (idx - 0x2100) b, stOk) else (s, stOk)
         | _ => (s, stOk))
    else
      match writeStatus s fn idx sub v with
      | some x => if x.2 = stOk then x else ({ x.1 with dict := { x.1.dict with segments := kept } }, x.2)
      | none =>
        (applyExtra s (if storesValue o then s.storeVal h idx sub v else s) fn idx sub v, stOk)

/-- WRITE: the checks of R75 in order, the effect, the journal (R85). A BUSY refusal is not recorded. -/
def State.doWrite (s : State) (fn : Nat) (r : Req) : State × Resp :=
  let idx := r.index.toNat
  let sub := r.sub.toNat
  let id := r.txn.toNat
  let o? := objRow idx sub
  let early := firstFail [
    s.versionCheck fn 2 idx sub, addressCheck idx sub true,
    s.rightsCheck fn idx sub true (o?.map (fun o => parseVal o.ty r.payload))]
  let rest := match o? with
    | none => stOk
    | some o => firstFail [accessCheck o id, s.txnCheck fn o r, s.valueStep fn o r]
  let st := firstFail [early, rest]
  let ty := objType idx sub
  let journal := journaledWrite idx sub
  if st ≠ stOk then
    let e := s.writeEntry fn o? r st
    let s := if st = stSegmentOrder then s.setSegment fn idx sub id none else s
    let s := if journal && !s.journalFull then s.journalAdd e else s
    (s.touchTxn fn id, mkResp 2 r ty id st [])
  else
    match o? with
    | none => (s, mkResp 2 r ty id stNoObject [])
    | some o =>
      match s.busyStep fn o r with
      | some g =>
        let s := if journal && !s.journalFull && decide (g.1 ≠ stBusy) then s.journalAdd (s.writeEntry fn o? r g.1) else s
        (s.touchTxn fn id, mkResp 2 r ty id g.1 g.2)
      | none =>
        let x := s.takeWrite fn o r
        let whole := decide (tySize o.ty ≠ 0) || reqLast r
        let s1 := if journal then x.1.journalAdd (s.writeEntry fn o? r x.2) else x.1
        let s2 := if x.2 = stOk && decide (id = 0) && whole then s1.changed (holdFn o fn) idx sub else s1
        (s2.touchTxn fn id,
         mkResp 2 r ty id x.2 (if x.2 = stOk then leBytes 8 (if journal then s1.dict.nextSeq - 1 else 0) else []))

/-! ### BEGIN, ROLLBACK, TXN_QUERY -/

/-- The journal entry of a transaction command. -/
def State.txnEntry (s : State) (fn : Nat) (scope : Option Nat) (kind id status : Nat) : JEntry :=
  { s.entry0 kind with txn := id, role := roleOf fn, part := scope.getD 0, isGlobal := scope.isNone, outcome := status,
                       transport := transportOf fn }

/-- May the caller open or query a transaction in this scope (R79)? -/
def scopeAllowed (fn : Nat) (scope : Option Nat) : Bool :=
  decide (roleOf fn ≠ 1) || decide (scope = some (callerPart fn))

/-- BEGIN (R79). -/
def State.doBegin (s : State) (fn : Nat) (r : Req) : State × Resp :=
  let s := s.touchTxn fn r.txn.toNat
  let scope := reqScope r
  let opened := s.scopeTxn (roleOf fn) scope
  let st := firstFail [s.versionCheck fn 3 0 0, need (scopeAllowed fn scope) stAccessDenied,
    need opened.isNone stTxnOpen]
  if st ≠ stOk then
    let id := if st = stTxnOpen then (opened.map (fun t => t.id)).getD 0 else 0
    let s := if s.journalFull then s else s.journalAdd (s.txnEntry fn scope 2 id st)
    (s, mkResp 3 r 0 id st [])
  else if s.journalFull then (s, mkResp 3 r 0 0 stBusy (retryPayload 1))
  else
    let id := s.dict.nextTxn
    let seq := s.dict.nextSeq
    let late := s.dict.effects.flatMap (fun e => e.writes) ++
      (s.dict.commits.filter (fun c => c.decided.isSome)).flatMap (fun c => c.txn.staged)
    let s := s.journalAdd (s.txnEntry fn scope 2 id stOk)
    let t : Txn := { id := id, role := roleOf fn, fn := fn, scope := scope, beginSeq := seq,
                     waiting := late.map (fun w => okey w.fn w.idx w.sub), staged := [], lastCmd := s.now }
    let ts := s.dict.txns ++ [t]
    let s := { s with dict := { s.dict with txns := ts, nextTxn := id + 1 } }.setReg 0x1011 4 ts.length
    (s, mkResp 3 r 0 id stOk (leBytes 8 seq))

/-- ROLLBACK (R83): staged writes and unfinished segments discarded, the transaction closed. A transaction in admission is
still open. -/
def State.doRollback (s : State) (fn : Nat) (r : Req) : State × Resp :=
  let id := r.txn.toNat
  let ver := s.versionCheck fn 5 0 0
  match (if ver = stOk then s.findTxn fn id else none) with
  | none =>
    let st := if ver = stOk then stTxnUnknown else ver
    let s := if s.journalFull then s else s.journalAdd (s.txnEntry fn none 5 id st)
    (s.touchTxn fn id, mkResp 5 r 0 id st [])
  | some t =>
    if s.journalFull then (s.touchTxn fn id, mkResp 5 r 0 id stBusy (retryPayload 1))
    else
      let seq := s.dict.nextSeq
      let s := s.journalAdd { s.txnEntry fn t.scope 5 id stOk with count := t.staged.length }
      let s := { s with dict := { s.dict with commits := s.dict.commits.filter (fun c => decide (c.txn.id ≠ id)) } }
      (s.closeTxn id, mkResp 5 r 0 id stOk (leBytes 8 seq))

/-- TXN_QUERY (R73): the open transaction of the caller's role in a scope. It restarts an idle time only where it carries the identifier
(R84). -/
def State.doQuery (s : State) (fn : Nat) (r : Req) : State × Resp :=
  let scope := reqScope r
  let st := firstFail [s.versionCheck fn 6 0 0, need (scopeAllowed fn scope) stAccessDenied]
  let s := s.touchTxn fn r.txn.toNat
  if st ≠ stOk then (s, mkResp 6 r 0 0 st [])
  else
    match s.scopeTxn (roleOf fn) scope with
    | none => (s, mkResp 6 r 0 0 stOk (zeros 8))
    | some t => (s, mkResp 6 r 0 t.id stOk (leBytes 4 t.id ++ leBytes 2 t.staged.length ++ zeros 2))

end Sys2Proof.Machine
end

