-- ==== Sys2Proof/Machine/Parts.lean ====
section
/-! DEFINITION. What committed writes do when they take effect (R34, R82): transactions abandoned (R84), resources that move between
partitions (R401–R411), and every other object. -/

namespace Sys2Proof.Machine

/-! ### Abandonment (R84) -/

/-- A transaction abandoned: a journal entry of KIND 0x06 in the role of its opener, through no transport. A COMMIT of it that
admission still runs for ends with it. -/
def State.abandonTxn (s : State) (t : Txn) : State :=
  let s := s.journalAdd { s.entry0 6 with txn := t.id, role := t.role, part := t.scope.getD 0, isGlobal := t.scope.isNone,
                                          count := t.staged.length }
  let s := s.cutAdmission stTxnUnknown [] (fun u => decide (u.id = t.id))
  (s.bump 32 0x1011 5 1).closeTxn t.id

/-- The transactions that meet a condition abandoned. -/
def State.abandonWhere (s : State) (f : Txn → Bool) : State := (s.dict.txns.filter f).foldl State.abandonTxn s

/-! ### Resources (R401, R405, R410, R411) -/

/-- Is this an object of OD 310p, OD 311p or OD 312p? -/
def isPartObject (idx : Nat) : Bool := decide (0x3100 ≤ idx) && decide (idx < 0x3128)

/-- Does a partition hold any resource? -/
def State.holdsAny (s : State) (p : Nat) : Bool :=
  let i := 0x3100 + p
  [2, 3, 5, 7, 9, 11].any (fun k => decide (s.reg i k ≠ 0)) || (List.range 15).any (fun e => decide (s.reg (i + 16) (e + 1) ≠ 0))
    || (List.range 7).any (fun u => decide (s.reg (i + 32) (u + 1) ≠ 0))

/-- CORE_STATE and CORE_PARTITION after an assignment (R126): a retired core stays retired. -/
def State.assignCores (s : State) : State :=
  (List.range 32).foldl (fun (s : State) c =>
    let st := s.reg (0x5000 + c) 1
    match s.corePart c with
    | none => if st = 2 then s else s.setReg (0x5000 + c) 1 3
    | some p => (if st = 3 then s.setReg (0x5000 + c) 1 0 else s).setReg (0x5000 + c) 2 p) s

/-- A core that moves: its handles released, its row-valid bits cleared in the next 40 cycles, its self-test pass counted anew (R140,
R144). -/
def State.moveCore (s : State) (c : Nat) : State :=
  let s := s.padDrain c
  let p := s.pad c
  let s := s.setPad c { p with handles := p.handles.map (fun e => (e.1, { e.2 with bound := false })), valid := [],
                               clearAt := some (s.now + 40) }
  let s : State := { s with fw := { s.fw with bindDue := s.fw.bindDue.filter (fun b => decide (b.1 ≠ c)) } }
  (s.setCore c { s.core c with passAt := s.tickCount }).countValid c

/-- A port that moves: its streams keep their states, and its frames are dropped (R405). -/
def State.movePort (s : State) (n : Nat) : State :=
  let s := (portStreams n).foldl (fun s st => s.setStream st { s.stream st with cur := none, late := [] }) s
  let s := if (s.portPart n).isSome then s
    else (portStreams n).foldl (fun s st => [3, 4, 5].foldl (fun s k => s.setReg (0x6040 + st) k 0) s) s
  s.setPort n { s.port n with work := [], ring := [], stalled := none }

/-- Places that leave a partition: Facet units, then granules, each ascending (R411). -/
def leaving (was s : State) : List Scrub :=
  let gone (g : Bool) (n : Nat) (own own' : Nat → Option Nat) : List Scrub :=
    (List.range n).filterMap (fun i => (own i).bind (fun p =>
      if own' i = some p then none else some { granule := g, index := i, part := p }))
  gone false 2040 was.unitPart s.unitPart ++ gone true 512 was.granulePart s.granulePart

/-- The scrubs that wait, in the order of R411. The fill under way stays the first. -/
def scrubOrder (now new : List Scrub) : List Scrub :=
  let rest := now.drop 1 ++ new
  let units := rest.filter (fun x => !x.granule)
  let grans := rest.filter (fun x => x.granule)
  now.take 1 ++ (List.range 2040).flatMap (fun i => units.filter (fun x => decide (x.index = i)))
    ++ (List.range 512).flatMap (fun i => grans.filter (fun x => decide (x.index = i)))

/-- A partition after an assignment: ACTIVE while it holds a resource. One that loses its last resource is torn down: its flags become
0 and its transactions are abandoned; it reads SCRUBBING until its scrubs end (R410, R411, R420). -/
def State.settlePart (was s : State) (p : Nat) : State :=
  if s.holdsAny p then s.setReg (0x3100 + p) 1 1
  else
    let pending := s.scrubs.any (fun x => decide (x.part = p))
    let s := s.setReg (0x3100 + p) 1 (if pending then 2 else 0)
    if was.holdsAny p then
      (s.scrWrite (flagAddr (512 * p)) (zeros 4096)).abandonWhere (fun t => decide (t.scope = some p))
    else s

/-- The stored value of a partition's context run and store place. -/
def State.ctxPlace (s : State) (p : Nat) : Nat × Nat × Nat :=
  (s.reg (0x3100 + p) 10, s.reg (0x3100 + p) 11, s.rangeAddr p (64 * s.reg (0x3100 + p) 12))

/-- Assignments that have just been stored take effect together (R405): `was` is the state before them. -/
def State.takeParts (was s : State) : State :=
  let s := (List.range 8).foldl (fun s p =>
    if was.ctxPlace p = s.ctxPlace p then s
    else { s.setPlanSt p { s.planSt p with primed := false } with ctxCache := s.ctxCache.filter (fun l => !was.ctxIn p l.ctx) }) s
  let s := ((List.range 32).filter (fun (c : Nat) => decide (was.corePart c ≠ s.corePart c))).foldl State.moveCore s
  let s := s.assignCores
  let s : State := { s with queues := s.queues.map (fun (e : Nat × QueueSt) =>
    if was.queuePart e.1 = s.queuePart e.1 then e else (e.1, { e.2 with bind := none, was := none })) }
  let s := ((List.range 16).filter (fun (n : Nat) => decide (was.portPart n ≠ s.portPart n))).foldl State.movePort s
  let s := ({ s with scrubs := scrubOrder s.scrubs (leaving was s) }).countScrub.scrubNext
  let s := (List.range 8).foldl (fun s p =>
    if was.ctxPlace p = s.ctxPlace p ∧ (List.range 16).all (fun n => was.portIn p n == s.portIn p n) then s else (s.cutRanges p).countLive p) s
  (List.range 8).foldl (fun s p => was.settlePart s p) s

/-! ### Writes that take effect (R82) -/

/-- The value of a staged write stored under its object. -/
def State.storeStaged (s : State) (w : Staged) : State := s.storeVal w.fn w.idx w.sub w.val

/-- The tick unit after a change of its objects (R33, R34): an enable waits for its first edge. Until that edge no pulse is due, and an
FSYNC pin follows its inactive level at once (R37). -/
def State.tickWrite (was s : State) (idx sub n : Nat) : State :=
  if idx = 0x2000 ∧ sub = 3 ∧ n ≠ was.reg 0x2000 3 then
    { s with tick := { s.tick with lastEdge := none, enabledAt := s.now, run := 0, lost := false, guard := false, hostDue := none } }
  else if 0x2010 ≤ idx ∧ idx < 0x2020 ∧ (sub = 3 ∨ sub = 4) ∧ s.tick.lastEdge = none then
    s.setPort (idx - 0x2010) { s.port (idx - 0x2010) with fsync := decide (s.reg idx 3 = 1) }
  else s

/-- One write of a commit takes effect. A PLAN and a PLAN_STOP act through the plan states; partition objects are stored, and act
together afterwards. `fn` is the function that committed. -/
def State.applyWrite (s : State) (fn : Nat) (w : Staged) : State :=
  let was := s
  let s :=
    if 0x2100 ≤ w.idx ∧ w.idx < 0x2108 ∧ (w.sub = 1 ∨ w.sub = 4) then s
    else if isPartObject w.idx then s.storeStaged w
    else
      match writeStatus s fn w.idx w.sub w.val with
      | some x => if w.idx = 0x5210 ∧ (x.2 = stOk ∨ x.2 = stAlreadyComplete) then x.1.journalAdd (s.abortEntry fn (match w.val with
          | .bytes b => leNat (b.take 2)
          | .num _ => 0) x.2) else x.1
      | none =>
        let s' := match objRow w.idx w.sub with
          | some o => if storesValue o then s.storeStaged w else s
          | none => s
        let s' := applyExtra was s' fn w.idx w.sub w.val
        (match w.val with
         | .num n => was.tickWrite s' w.idx w.sub n
         | .bytes _ => s')
  s.changed w.fn w.idx w.sub

/-- The writes of a commit take effect, in staging order; resources move together. -/
def State.applyWrites (s : State) (fn : Nat) (ws : List Staged) : State :=
  let was := s
  let s := ws.foldl (fun s w => s.applyWrite fn w) s
  if ws.any (fun w => isPartObject w.idx) then was.takeParts s else s

/-- Does a list of writes stop the plan of partition `p`? -/
def stopsPlan (ws : List Staged) (p : Nat) : Bool :=
  ws.any (fun w => decide (w.idx = 0x2100 + p) && decide (w.sub = 4) && decide (w.val = .num 1))

/-- The plan that a list of writes stages for partition `p`. -/
def stagedPlan (ws : List Staged) (p : Nat) : Option (List Byte) :=
  (ws.find? (fun w => decide (w.idx = 0x2100 + p) && decide (w.sub = 1))).map (fun w => match w.val with
    | .bytes b => b
    | .num _ => [])

end Sys2Proof.Machine
end

