-- ==== Sys2Proof/Machine/Commit.lean ====
section
/-! DEFINITION. COMMIT (R48–R51, R81, R82, R405): the conflict check, the checks before the decision, the decision, completion, and the
plans that a commit hands over. -/

namespace Sys2Proof.Machine

/-! ### What is coming into force -/

/-- Commits decided and not yet complete. -/
def State.decidedRuns (s : State) : List CommitRun := s.dict.commits.filter (fun c => c.decided.isSome)

/-- Writes that are decided and not yet in force, in the order in which they take effect. -/
def State.lateWrites (s : State) : List Staged :=
  s.dict.effects.flatMap (fun e => e.writes) ++ s.decidedRuns.flatMap (fun c => c.txn.staged)

/-- Objects as a list of writes leaves them, with the plans that it hands over. -/
def State.withStaged (s : State) (ws : List Staged) : State :=
  let s := (ws.filter (fun w => !(decide (0x2100 ≤ w.idx) && decide (w.idx < 0x2108)))).foldl State.storeStaged s
  (List.range 8).foldl (fun s p => match stagedPlan ws p with
    | some b => s.setPlanSt p { s.planSt p with waiting := some (parsePlan b) }
    | none => s) s

/-- Is a plan of partition `p` decided and not yet admitted? -/
def State.planComing (s : State) (p : Nat) : Bool := s.decidedRuns.any (fun c => (stagedPlan c.txn.staged p).isSome)

/-- Has partition `p` a plan in a state other than NONE, or one that is decided? -/
def State.planHeld (s : State) (p : Nat) : Bool := decide (s.planState p ≠ 0) || s.planComing p

/-! ### BUSY under R50 -/

/-- Does the state of partition `p` forbid a plan or a stop (R50)? -/
def State.planBlocked (s : State) (p : Nat) : Bool :=
  decide (s.planState p = 1) || decide (s.planState p = 2) || (decide (s.planState p = 4) && (s.planSt p).waiting.isSome) || s.planComing p

/-- Tick edges until partition `p` enters RUNNING. A stop that is committed and not yet in force adds one. -/
def State.edgesLeft (s : State) (p : Nat) : Nat :=
  if s.planComing p then 3
  else if s.planState p = 2 then 1
  else if s.planState p = 1 ∧ s.dict.effects.any (fun e => stopsPlan e.writes p) ∧ (s.planSt p).cur.isSome then 3
  else 2

/-- The retry time of R50 in ms: each edge comes P_nom after the one before, or floor(P_nom × 101 ÷ 100) with an outside source. Without
an edge to reckon from it is 0xFFFFFFFF (log 77). The values in force count for every edge (log 81). -/
def State.planRetry (s : State) (p : Nat) : Nat :=
  let inner := decide (s.reg 0x2000 1 = 0)
  let step := if inner then s.pNom else s.pNom * 101 / 100
  if s.tickOn = false ∨ (inner = false ∧ s.tick.lastEdge.isNone) then 0xFFFFFFFF
  else ceilDiv (s.tick.lastEdge.getD s.tick.enabledAt + s.edgesLeft p * step - s.now) 500000

/-! ### The partition checks of R405 -/

/-- What partition `p` holds: cores, ports, runs, windows, shares. Where its context store lies is no resource, nor is the first place of an
empty run (R405; log 48). -/
def State.holdings (s : State) (p : Nat) : List Nat :=
  let run (k : Nat) : List Nat := if s.reg (0x3100 + p) (k + 1) = 0 then [0, 0] else [s.reg (0x3100 + p) k, s.reg (0x3100 + p) (k + 1)]
  [s.reg (0x3100 + p) 2, s.reg (0x3100 + p) 3] ++ run 4 ++ run 6 ++ run 8 ++ run 10
    ++ (List.range 15).map (fun e => s.reg (0x3110 + p) (e + 1))
    ++ (List.range 7).map (fun u => s.reg (0x3120 + p) (u + 1))

/-- Pairs of different partitions. -/
def partPairs : List (Nat × Nat) := (List.range 8).flatMap (fun p => (List.range p).map (fun q => (q, p)))

/-- Do two partitions share a place, or two of their windows overlap? -/
def State.partsMeet (s : State) : Bool :=
  let r (p k : Nat) : Nat := s.reg (0x3100 + p) k
  let run (a k : Nat × Nat) : Bool := spansMeet (r a.1 k.1) (r a.1 k.2) (r a.2 k.1) (r a.2 k.2)
  partPairs.any (fun a =>
    decide (Nat.land (r a.1 2) (r a.2 2) ≠ 0) || decide (Nat.land (r a.1 3) (r a.2 3) ≠ 0)
      || run a (4, 5) || run a (6, 7) || run a (8, 9) || run a (10, 11)
      || (List.range 15).any (fun e => match s.window a.1 e, s.window a.2 e with
          | some v, some w => decide (max v.1 w.1 < min v.2 w.2)
          | _, _ => false))

/-- Does a run of partition `p` end within its resource? -/
def State.partFits (s : State) (p : Nat) : Bool :=
  let r (k : Nat) : Nat := s.reg (0x3100 + p) k
  decide (r 4 + r 5 ≤ 8192) && decide (r 8 + r 9 ≤ 2040) && decide (r 10 + r 11 ≤ 1048576)
    && (decide (r 7 = 0) || (decide (4 ≤ r 6) && decide (67108864 * (r 6 + r 7) ≤ s.capacityUsed)))
    && (decide (r 11 = 0) || decide (4096 * r 12 + 64 * r 11 ≤ 67108864 * r 7))

/-- The shares of all partitions within R403 and R404. -/
def State.sharesFit (s : State) : Bool :=
  let total (u : Nat) : Nat := (List.range 8).foldl (fun a p => a + s.reg (0x3120 + p) u) 0
  (List.zip (List.range 6) [32, 32, 32, 32, 17, 16]).all (fun e => decide (total (e.1 + 1) ≤ e.2)) && decide (total 7 ≤ 64)

/-- Is a granule or unit gained that is still to be scrubbed: one in the list, or one that another partition holds until this commit or
one before it takes effect (R411)? `base` is what earlier commits leave, `next` what this one leaves. -/
def State.gainsDirty (s base next : State) : Bool :=
  let dirty (g : Bool) (own : State → Nat → Option Nat) (i : Nat) : Bool :=
    (own next i).isSome && decide (own next i ≠ own base i) && (s.scrubbing g i || (own base i).isSome || (own s i).isSome)
  (List.range 2040).any (dirty false State.unitPart) || (List.range 512).any (dirty true State.granulePart)

/-- R405: the status, and for BUSY the payload. The estimate of a scrub's end is free (log 44). -/
def State.partCheck (s base next : State) : Option (Nat × List Byte) :=
  let changes (p : Nat) : Bool := decide (base.holdings p ≠ next.holdings p)
  if (List.range 8).any (fun p => changes p && s.planHeld p) then some (stPartitionActive, [])
  else if next.partsMeet || !(List.range 8).all next.partFits || !next.sharesFit then some (stOutOfRange, [])
  else if s.gainsDirty base next then some (stBusy, retryPayload (Config.freeNat s.free))
  else none

/-! ### Checks before the decision (R81 step 2) -/

/-- The partitions for which writes stage a plan or a stop. -/
def planParts (ws : List Staged) : List Nat := (List.range 8).filter (fun p => (stagedPlan ws p).isSome || stopsPlan ws p)

/-- Does a list of writes touch the tick's source, rate or edge (R33, R51)? -/
def touchesTick (ws : List Staged) : Bool := ws.any (fun w => decide (w.idx = 0x2000) && (decide (w.sub = 1) || decide (w.sub = 2)))

/-- Admission of the staged plans in partition order, each report written; the plans that pass are held for those after them. Answers the
state, the objects as they will be, and the first status that is not OK. -/
def admitAll (txn : Txn) (src rate : Nat) : List Nat → State → State → State × State × Nat
  | [], s, next => (s, next, stOk)
  | p :: ps, s, next =>
    match stagedPlan txn.staged p with
    | none => admitAll txn src rate ps s next
    | some b =>
      let a := next.admitPlan p b src rate
      let s := s.admitReport p txn.id a
      match a with
      | some x => (s, next, x.status)
      | none => admitAll txn src rate ps s (next.setPlanSt p { next.planSt p with waiting := some (parsePlan b) })

/-- Step 2 of R81 before admission: the first failure, as a status and the payload of BUSY. -/
def State.quickChecks (s : State) (ws : List Staged) : Option (Nat × List Byte) :=
  let base := s.withStaged s.lateWrites
  match (planParts ws).find? s.planBlocked with
  | some p => some (stBusy, retryPayload (s.planRetry p))
  | none =>
    if (List.range 8).any (fun p => (stagedPlan ws p).isSome && stopsPlan ws p) then some (stOutOfRange, [])
    else if ws.any (fun w => decide (w.idx = 0x2000) && decide (w.sub = 3) && decide (w.val = .num 0)) && (List.range 8).any s.planHeld then
      some (stTickInUse, [])
    else if ws.any (fun w => isPartObject w.idx) then s.partCheck base (base.withStaged ws)
    else none

/-- Does a decision made now fall into the last 50,000 cycles before an edge that is known, or may it with an outside source (R81,
log 45)? -/
def State.edgeNear (s : State) : Bool :=
  if s.reg 0x2000 1 = 0 then decide (s.tick.lastEdge.getD s.tick.enabledAt + s.pNom ≤ s.now + 50000)
  else match s.tick.lastEdge with
    | none => true
    | some e => decide (e + s.pNom * 99 / 100 ≤ s.now + 50000)

/-- Is the changeover of a partition's plan over at the edge at which a change decided now takes effect: the plan waits for the internal
generator's next edge, and the change for the one after it (R51, R81)? -/
def State.pastChange (s : State) (p : Nat) : Bool :=
  s.tickOn && decide (s.reg 0x2000 1 = 0) && s.edgeNear && (s.planSt p).waiting.isSome

/-- Admission in step 2 of R81: the state with the reports, and the status. The plans are admitted on what this commit and those before
it leave. -/
def State.admission (s : State) (txn : Txn) : State × Nat :=
  let plain := txn.staged.filter (fun w => !(decide (0x2100 ≤ w.idx) && decide (w.idx < 0x2108)))
  let next := ((s.withStaged s.lateWrites).withStaged plain).assignCores
  let src := next.reg 0x2000 1
  let rate := next.reg 0x2000 2
  let r := admitAll txn src rate (List.range 8) s next
  if r.2.2 ≠ stOk then (r.1, r.2.2)
  else if touchesTick txn.staged then
    (match r.2.1.recheck src rate s.pastChange with
     | some e => (r.1.admitReport e.1 txn.id (some e.2), e.2.status)
     | none => (r.1, stOk))
  else (r.1, stOk)

/-! ### Programs (R47, R142) -/

/-- A TOD with its GEN fields raised by the generations that the entries have after the plan's own bind, and its TOD_CRC again. -/
def fixTod (gen : Nat → Nat → Nat) (c : Nat) (b : List Byte) : List Byte :=
  let put (b : List Byte) (o : Nat) : List Byte :=
    if todUse b o then
      let i := 2 + o / 2
      let lo := 2 ^ (12 * (o % 2))
      let old := todGen b o
      overlay b (4 * i) (leBytes 4 (wordAt b i - old * lo + (old + gen (todCore b c o) (todHandle b o)) % 4096 * lo))
    else b
  let b := [0, 1, 2, 3].foldl put b
  overlay b 60 (leBytes 4 (crc32 (slice b 0 60)))

/-- The programs of the given nodes of a section rewritten, each descriptor once. -/
def fixPrograms (fix : Nat → List Byte → List Byte) (sec : List Byte) (ns : List (Nat × List (Nat × List Byte))) : List Byte :=
  (ns.foldl (fun (a : List Byte × List Nat) n =>
    n.2.foldl (fun (a : List Byte × List Nat) d =>
      if a.2.contains d.1 then a else (overlay a.1 (64 * d.1) (fix n.1 d.2), d.1 :: a.2)) a) (sec, [])).1

/-- The generation of a handle after the bind of a plan. -/
def State.genAfter (s : State) (pl : Plan) (c h : Nat) : Nat :=
  ((s.pad c).handle h).gen + (if pl.binds.any (fun x => decide (x.1 = c) && decide (x.2.1 = h)) then 1 else 0)

/-- A plan's programs as copied into the program region of its partition. -/
def State.placeProgram (s : State) (pl : Plan) : State :=
  let sec := planSection pl 5
  let nodes := (pl.numbered.filter (fun x => isCore x.2.res)).map (fun x => (x.2.res, pl.program x.1))
  s.ddrWrite (Config.programPlace pl.part sec) (fixPrograms (fixTod (s.genAfter pl)) sec nodes)

/-- A plan handed over (R50): it waits for its edge, and the partition is ADMITTED unless it drains. -/
def State.admitted (s : State) (p : Nat) (b : List Byte) : State :=
  let pl := parsePlan b
  let s := s.setPlanSt p { s.planSt p with waiting := some pl }
  let s := if s.planState p = 4 then s else s.setReg (0x2110 + p) 2 1
  let next := s.withStaged s.lateWrites
  let win := next.window p
  let s := ((s.setReg (0x2110 + p) 3 (worstEnds win pl.numbered).last).setReg (0x2110 + p) 4 (degradedEnd win pl)).setReg (0x2110 + p) 5
    next.limitL
  s.placeProgram pl

/-! ### Decision and completion (R81 step 3, R34) -/

/-- NEW_HASH of a staged write: a key write carries the zero hash (R375). -/
def stagedHash (w : Staged) : List Byte :=
  if w.idx = 0x1111 ∧ (w.sub = 1 ∨ w.sub = 2) then hash0
  else hash96 (match objRow w.idx w.sub with
    | some o => valBytes o.ty w.val
    | none => [])

/-- The COMMIT entry of a transaction (R87). -/
def State.commitEntry (s : State) (fn : Nat) (txn : Txn) (status tick : Nat) : JEntry :=
  { s.txnEntry fn txn.scope 4 txn.id status with
    tick := tick, count := if status = stOk then txn.staged.length else 0,
    newHash := hash96 (txn.staged.flatMap stagedHash) }

/-- The response of a COMMIT. -/
def commitResp (run : CommitRun) (status : Nat) (payload : List Byte) (seq : Nat) : Resp :=
  { mkResp 4 run.req 0 run.txn.id status payload with seq := seq }

/-- A decided COMMIT completes: the plans are handed over, and the writes wait for the next edge, or take effect at once while the tick is
off. -/
def State.finishCommit (s : State) (run : CommitRun) : State × Resp :=
  let on := s.tickOn
  let tick := if on then s.tickCount + 1 else s.tickCount
  let s := if run.seq = 0 then s.journalAdd (s.commitEntry run.fn run.txn stOk tick) else s
  let seq := if run.seq = 0 then s.dict.nextSeq - 1 else run.seq
  let ws := run.txn.staged
  let s := s.handOver run.txn.scope
  let s := if on then
      { s with dict := { s.dict with effects := s.dict.effects ++ [{ seq := seq, fn := run.fn, writes := ws }] } }
    else s.applyWrites run.fn ws
  let s := (List.range 8).foldl (fun s p => match stagedPlan ws p with
    | some b => s.admitted p b
    | none => s) s
  (s, commitResp run stOk (leBytes 8 seq ++ leBytes 8 tick) seq)

/-- The decision: the transaction closes, and the COMMIT completes, or waits for the edge with its objects locked. -/
def State.decideCommit (s : State) (run : CommitRun) : State × Option Resp :=
  let s := s.closeTxn run.txn.id
  if s.tickOn && s.edgeNear then
    let inner := decide (s.reg 0x2000 1 = 0)
    let off := s.dict.effects.any (fun e => e.writes.any (fun w => decide (w.idx = 0x2000) && decide (w.sub = 3) && decide (w.val = .num 0)))
    let s := if inner then s.journalAdd (s.commitEntry run.fn run.txn stOk (s.tickCount + (if off then 1 else 2))) else s
    let run := { run with decided := some s.now, tick := s.tickCount, seq := if inner then s.dict.nextSeq - 1 else 0 }
    ({ s with dict := { s.dict with commits := s.dict.commits ++ [run] } }, none)
  else
    let x := s.finishCommit run
    (x.1, some x.2)

/-- A COMMIT refused at step 2: the transaction stays open. The refusal is journaled, but for BUSY (R81, R85). -/
def State.refuseCommit (s : State) (run : CommitRun) (st : Nat) (payload : List Byte) : State × Option Resp :=
  if st = stBusy then ({ s with free := s.free + 1 }, some (commitResp run st payload 0))
  else
    let s := s.journalAdd (s.commitEntry run.fn run.txn st s.tickCount)
    (s, some (commitResp run st payload (s.dict.nextSeq - 1)))

/-- Step 2 of R81 and, where it passes, the decision. -/
def State.runCommit (s : State) (run : CommitRun) : State × Option Resp :=
  match s.quickChecks run.txn.staged with
  | some x => s.refuseCommit run x.1 x.2
  | none =>
    let a := s.admission run.txn
    if a.2 = stOk then a.1.decideCommit run else a.1.refuseCommit run a.2 []

/-- Does COMMIT run admission: is a plan or a tick object staged (R48, R51)? -/
def needsAdmission (ws : List Staged) : Bool := touchesTick ws || (List.range 8).any (fun p => (stagedPlan ws p).isSome)

/-- The processors that the commit of a transaction needs beside SCH: those of its objects, and the control cores of the clusters that
its plans use (R394). -/
def commitProcs (ws : List Staged) : List Nat :=
  ws.filterMap (fun w => procOf w.idx w.sub) ++ (List.range 8).flatMap (fun p => match stagedPlan ws p with
    | none => []
    | some b =>
      let pl := parsePlan b
      pl.nodes.filterMap (fun x => if isCore x.res then some (3 + x.res / 8) else if isEngine x.res then some 7 else none)
        ++ pl.binds.map (fun x => 3 + x.1 / 8))

/-- Has a touched object changed since the BEGIN (R81 step 1)? -/
def State.conflicts (s : State) (t : Txn) (w : Staged) : Bool :=
  let k := okey w.fn w.idx w.sub
  decide (t.beginSeq < kget 0 s.dict.lastChange k) || t.waiting.contains k

/-- COMMIT (R81). A refusal without a transaction has no scope for its entry (log 66). -/
def State.doCommit (s : State) (fn : Nat) (r : Req) : State × Option Resp :=
  let id := r.txn.toNat
  let ver := s.versionCheck fn 4 0 0
  match (if ver = stOk then s.findTxn fn id else none) with
  | none =>
    let st := if ver = stOk then stTxnUnknown else ver
    let s := if s.journalFull then s else s.journalAdd (s.txnEntry fn none 4 id st)
    (s.touchTxn fn id, some { mkResp 4 r 0 id st [] with seq := s.dict.nextSeq - 1 })
  | some t =>
    let s := s.touchTxn fn id
    match (commitProcs t.staged).findSome? (fun x => s.procGate x) with
    | some g =>
      if g.1 = stBusy ∨ s.journalFull = true then (s, some (mkResp 4 r 0 id g.1 g.2))
      else
        let s := s.journalAdd (s.commitEntry fn t g.1 s.tickCount)
        (s, some { mkResp 4 r 0 id g.1 g.2 with seq := s.dict.nextSeq - 1 })
    | none =>
      if s.journalFull || t.staged.any (fun w => s.locked w.fn w.idx w.sub) then
        (s, some (mkResp 4 r 0 id stBusy (retryPayload 1)))
      else
        let run : CommitRun := { fn := fn, req := r, txn := t, seq := 0, decided := none, tick := 0 }
        match t.staged.find? (s.conflicts t) with
        | some w =>
          let s := (s.journalAdd (s.commitEntry fn t stConflict s.tickCount)).bump 32 0x1011 6 1
          (s.closeTxn id, some (commitResp run stConflict (leBytes 2 w.idx ++ leBytes 1 w.sub ++ zeros 1) (s.dict.nextSeq - 1)))
        | none =>
          if needsAdmission t.staged && (s.quickChecks t.staged).isNone then
            ({ s with dict := { s.dict with commits := s.dict.commits ++ [run] } }, none)
          else s.runCommit run

/-- Admission of the first COMMIT in it ends (R48, R81): the state, and where it completes its function and response. -/
def State.admissionEnd (s : State) : State × Option (CommitRun × Resp) :=
  match s.dict.commits.find? (fun c => c.decided.isNone) with
  | none => (s, none)
  | some run =>
    let left := s.dict.commits.filter (fun c => c.decided.isSome || decide (c.txn.id ≠ run.txn.id))
    let s := { s with dict := { s.dict with commits := left } }
    let s := s.touchTxn run.fn run.txn.id
    let x := s.runCommit run
    (x.1, x.2.map (fun r => (run, r)))

/-- May a decided COMMIT complete: an edge has come since, none is near any more, or the tick is off? -/
def State.commitDue (s : State) (c : CommitRun) : Bool :=
  match c.decided with
  | none => false
  | some d => !s.tickOn || decide (c.tick < s.tickCount) || (decide (c.seq = 0) && decide (d + 50000 ≤ s.now))

/-- The first decided COMMIT that may complete does. -/
def State.commitEnd (s : State) : State × Option (CommitRun × Resp) :=
  match s.dict.commits.find? s.commitDue with
  | none => (s, none)
  | some run =>
    let left := s.dict.commits.filter (fun c => decide (c.txn.id ≠ run.txn.id))
    let x := ({ s with dict := { s.dict with commits := left } } : State).finishCommit run
    (x.1, some (run, x.2))

end Sys2Proof.Machine
end

