-- ==== Sys2Proof/Machine/Serve.lean ====
section
/-! DEFINITION. Requests served (R70–R77, R359–R361, R376, R394, R395): one request of a caller, its response on the caller's transport, the
mailbox, and the rows of the table that are requests for one object. -/

namespace Sys2Proof.Machine

/-! ### One request -/

/-- The command of an opcode (R73). COMMIT may answer later. -/
def State.operate (s : State) (fn opcode : Nat) (r : Req) : State × Option Resp :=
  if opcode = 4 then s.doCommit fn r
  else
    let x := if opcode = 1 then s.doRead fn r
      else if opcode = 2 then s.doWrite fn r
      else if opcode = 3 then s.doBegin fn r
      else if opcode = 5 then s.doRollback fn r
      else s.doQuery fn r
    (x.1, some { x.2 with seq := if s.dict.nextSeq < x.1.dict.nextSeq then x.1.dict.nextSeq - 1 else 0 })

/-- The answer to a request: what keeps the service from it, then its form, then the command (R75, R78, R361). -/
def State.answerTo (s : State) (fn opcode : Nat) (r : Req) : State × Option Resp :=
  match s.serviceGate fn opcode r.index.toNat r.sub.toNat with
  | some g => (s.touchTxn fn r.txn.toNat, some (mkResp opcode r (reqType opcode r) r.txn.toNat g.1 g.2))
  | none =>
    let st := formCheck fn opcode r
    if st ≠ stOk then (s.touchTxn fn r.txn.toNat, some (mkResp opcode r (reqType opcode r) r.txn.toNat st []))
    else s.operate fn opcode r

/-- The partition for which a caller acts. -/
def callerScope (fn : Nat) : Option Nat := if roleOf fn = 1 then some (callerPart fn) else none

/-- Is a role open? A partition owner's is once its VF is enabled (R351). -/
def State.roleOpen (s : State) (fn : Nat) : Bool := decide (roleOf fn ≠ 1) || (s.fnSt fn).enabled

/-- The processor that serves requests: SCH, and SEC until it runs (R385, R395). -/
def State.server (s : State) : Nat := if s.reg 0x2050 1 = 3 ∧ s.proc 2 = 1 then 2 else 0

/-- One request served. Before the ROM has released SEC nothing answers (R386), nor does a VF that is not enabled (R351). -/
def State.serve (s : State) (fn opcode : Nat) (r : Req) : State :=
  if s.reg 0x2050 1 = 0 ∨ s.roleOpen fn = false then s
  else
    let s := (s.bumpF 64 fn 0x1012 2 1).trace s.server (callerScope fn) 0
    let x := s.answerTo fn opcode r
    match x.2 with
    | some p => x.1.deliver fn p
    | none => x.1

/-- A row of the table that is a request. -/
def serveRow (t : Nat) (c : Caller) (opcode : Nat) (r : Req) (s : State) : Out :=
  whileLive t s (fun s => s.serve (callerFn c) opcode r)

/-- A request with its object. -/
def reqFor (r : Req) (idx sub : Nat) : Req := { r with index := BitVec.ofNat 16 idx, sub := BitVec.ofNat 8 sub }

/-! ### Rows: the opcodes of R73 -/

/-- READ. -/
def execRead (t : Nat) (c : Caller) (r : Req) (s : State) : Out := serveRow t c 1 r s
/-- WRITE. -/
def execWrite (t : Nat) (c : Caller) (r : Req) (s : State) : Out := serveRow t c 2 r s
/-- BEGIN (R79). -/
def execBegin (t : Nat) (c : Caller) (r : Req) (s : State) : Out := serveRow t c 3 r s
/-- COMMIT (R81). -/
def execCommit (t : Nat) (c : Caller) (r : Req) (s : State) : Out := serveRow t c 4 r s
/-- ROLLBACK (R83). -/
def execRollback (t : Nat) (c : Caller) (r : Req) (s : State) : Out := serveRow t c 5 r s
/-- TXN_QUERY (R73). -/
def execTxnQuery (t : Nat) (c : Caller) (r : Req) (s : State) : Out := serveRow t c 6 r s

/-! ### Rows: what the device does about transactions and the journal -/

/-- A step of a COMMIT, and its response where it ends. -/
def State.answerCommit (x : State × Option (CommitRun × Resp)) : State :=
  match x.2 with
  | some e => x.1.deliverRun e.1 e.2
  | none => x.1

/-- ADMISSION_DONE (R48): the first COMMIT in admission is accepted or refused. It runs in SCH. -/
def execAdmissionDone (t : Nat) (s : State) : Out :=
  whileLive t s (fun s => if s.proc 2 = 1 then State.answerCommit ((s.trace 2 none 7).admissionEnd) else s)

/-- COMMIT_COMPLETE (R81): a COMMIT whose decision fell before an edge completes after it, also while SCH restarts, since its changes are
prepared (R394). -/
def execCommitComplete (t : Nat) (s : State) : Out := whileLive t s (fun s => State.answerCommit s.commitEnd)

/-- TXN_IDLE_EXPIRY (R84): 2,000 ms without a command. The time does not run in admission, nor while SCH does not serve. -/
def execTxnIdleExpiry (t : Nat) (id : BitVec 32) (s : State) : Out :=
  whileLive t s (fun s =>
    match s.dict.txns.find? (fun u => decide (u.id = id.toNat)) with
    | some u =>
      if s.proc 2 = 1 ∧ u.lastCmd + msCycles 2000 ≤ s.now ∧ s.dict.commits.any (fun c => decide (c.txn.id = u.id)) = false then
        s.abandonTxn u
      else s
    | none => s)

/-- The place of an entry in the ring of 1,048,576 entries: one slot after another. Which slot is the first is free (log 66). -/
def ringPlace (seq : Nat) : Nat := ringArea + 64 * ((Config.ringFirst + seq) % 1048576)

/-- JOURNAL_MIRROR_COPY (R86): SCH copies the next entry to the ring of 1,048,576 entries. -/
def execJournalMirrorCopy (t : Nat) (s : State) : Out :=
  whileLive t s (fun s =>
    match s.dict.journal.find? (fun e => decide (s.dict.mirrored < e.seq)) with
    | some e =>
      if s.proc 2 = 1 ∧ s.reg 0x1020 4 = 1 then
        let ring := s.dict.ring ++ [e]
        let ring := keepLast 1048576 ring
        let s := s.ddrWrite (ringPlace e.seq) (entryBytes e)
        let s := { s with dict := { s.dict with ring := ring, mirrored := e.seq } }
        (s.setReg 0x1020 3 ((ring.headD e).seq)).setReg 0x1020 7 s.lag
      else s
    | none => s)

/-! ### Rows: requests for one object -/

/-- A write of OD 210p.01 stages a plan (R47). -/
def execPlanImage (t : Nat) (c : Caller) (p : Part) (r : Req) (s : State) : Out := serveRow t c 2 (reqFor r (0x2100 + p.val) 1) s
/-- A write of OD 210p.04 stages a stop (R49). -/
def execPlanStop (t : Nat) (c : Caller) (p : Part) (r : Req) (s : State) : Out := serveRow t c 2 (reqFor r (0x2100 + p.val) 4) s
/-- A write of OD 213p.07 clears overrun counters (R63). -/
def execClearOverrun (t : Nat) (c : Caller) (p : Part) (r : Req) (s : State) : Out := serveRow t c 2 (reqFor r (0x2130 + p.val) 7) s
/-- A write of a CLEAR_COUNTS object, which the request names. -/
def execClearCounts (t : Nat) (c : Caller) (r : Req) (s : State) : Out := serveRow t c 2 r s
/-- A write of OD 1010.01 (R92). -/
def execHostIfVersion (t : Nat) (c : Caller) (r : Req) (s : State) : Out := serveRow t c 2 (reqFor r 0x1010 1) s
/-- A write of OD 1010.04 (R92). -/
def execFunctionIfVersion (t : Nat) (c : Caller) (r : Req) (s : State) : Out := serveRow t c 2 (reqFor r 0x1010 4) s
/-- A write of OD 1020.04 (R86). -/
def execRingEnable (t : Nat) (c : Caller) (r : Req) (s : State) : Out := serveRow t c 2 (reqFor r 0x1020 4) s
/-- A read of OD 1021.02 (R90). -/
def execJournalRead (t : Nat) (c : Caller) (r : Req) (s : State) : Out := serveRow t c 1 (reqFor r 0x1021 2) s
/-- A read of OD 2054.02 (R397). -/
def execLogRead (t : Nat) (c : Caller) (r : Req) (s : State) : Out := serveRow t c 1 (reqFor r 0x2054 2) s
/-- A write of OD 5210.01 aborts host entries (R196). -/
def execAbort (t : Nat) (c : Caller) (r : Req) (s : State) : Out := serveRow t c 2 (reqFor r 0x5210 1) s
/-- A write of OD 5420.01 starts a maintenance request (R224). -/
def execMaintDesc (t : Nat) (c : Caller) (r : Req) (s : State) : Out := serveRow t c 2 (reqFor r 0x5420 1) s
/-- A write of a stream's QUOTA (R335). -/
def execQuota (t : Nat) (c : Caller) (st : StreamId) (r : Req) (s : State) : Out := serveRow t c 2 (reqFor r (0x6040 + st.val) 1) s
/-- A write of OD 1100.08 starts a retrain (R350). -/
def execRetrain (t : Nat) (c : Caller) (r : Req) (s : State) : Out := serveRow t c 2 (reqFor r 0x1100 8) s
/-- A write of OD 1111.01 or OD 1111.02 (R375). -/
def execKeyWrite (t : Nat) (c : Caller) (slot : Fin 2) (r : Req) (s : State) : Out := serveRow t c 2 (reqFor r 0x1111 (1 + slot.val)) s
/-- A write of OD 1104.03 (R367). -/
def execEvEnable (t : Nat) (c : Caller) (r : Req) (s : State) : Out := serveRow t c 2 (reqFor r 0x1104 3) s
/-- A write of OD 1105.03 (R367). -/
def execResEnable (t : Nat) (c : Caller) (r : Req) (s : State) : Out := serveRow t c 2 (reqFor r 0x1105 3) s
/-- A write of OD 2051.01 loads an image (R389). -/
def execLoadImage (t : Nat) (c : Caller) (r : Req) (s : State) : Out := serveRow t c 2 (reqFor r 0x2051 1) s
/-- A write of OD 2050.02 starts the loaded images (R390). -/
def execStart (t : Nat) (c : Caller) (r : Req) (s : State) : Out := serveRow t c 2 (reqFor r 0x2050 2) s
/-- A write of OD 2053.01 updates an image in flash (R391). -/
def execUpdateImage (t : Nat) (c : Caller) (r : Req) (s : State) : Out := serveRow t c 2 (reqFor r 0x2053 1) s
/-- A write of OD 2053.02 commits the set (R391). -/
def execUpdateCommit (t : Nat) (c : Caller) (r : Req) (s : State) : Out := serveRow t c 2 (reqFor r 0x2053 2) s
/-- A write of OD 2053.04 raises SVN floors (R391). -/
def execSvnRaise (t : Nat) (c : Caller) (r : Req) (s : State) : Out := serveRow t c 2 (reqFor r 0x2053 4) s
/-- A write of OD 2055.05 releases a dump slot (R398). -/
def execDumpRelease (t : Nat) (c : Caller) (r : Req) (s : State) : Out := serveRow t c 2 (reqFor r 0x2055 5) s
/-- A write of OD 206x.06 restarts a processor (R392). -/
def execRestart (t : Nat) (c : Caller) (x : ProcId) (r : Req) (s : State) : Out := serveRow t c 2 (reqFor r (0x2060 + x.val) 6) s
/-- A write of OD 7000.04 clears SAFE_N's latch (R433). -/
def execSafeClear (t : Nat) (c : Caller) (r : Req) (s : State) : Out := serveRow t c 2 (reqFor r 0x7000 4) s
/-- A write of OD 8010.06 erases the retirement list (R453). -/
def execListErase (t : Nat) (c : Caller) (r : Req) (s : State) : Out := serveRow t c 2 (reqFor r 0x8010 6) s
/-- A write of OD 8030.02 asks for a service window (R459). -/
def execServiceNow (t : Nat) (c : Caller) (r : Req) (s : State) : Out := serveRow t c 2 (reqFor r 0x8030 2) s

/-! ### The mailbox (R359, R360, R395) -/

/-- The response written into the buffer: DONE, and vector 0. -/
def State.mailboxAnswer (s : State) (f : Nat) (r : Resp) : State :=
  let x := s.fnSt f
  (s.setFn f { x with respBuf := respBytes r, respSeq := x.reqSeq, mbState := 2, answer := none }).fire f 0

/-- What the journal says of a pending request that SCH has answered: the outcome, the sequence number, for COMMIT the effect tick. -/
def State.journalAnswer (s : State) (f : Nat) : Option Resp :=
  (s.fnSt f).answer.bind (fun a =>
    ((s.dict.journal.find? (fun e => decide (a.seq ≠ 0) && decide (e.seq = a.seq))).map (fun e =>
      { a with status := e.outcome, payload := leBytes 8 e.seq ++ (if a.opcode = 4 then leBytes 8 e.tick else []) })))

/-- SEC answers for SCH (R393, R395): from the journal, or with BUSY, in FAILED INTERNAL_ERROR; a cursor that a read so refused has moved is
set back. -/
def State.awayAnswer (s : State) (f opcode : Nat) (r : Req) : State :=
  match s.journalAnswer f with
  | some a => s.mailboxAnswer f a
  | none =>
    let gate := (s.procGate 2).getD (stBusy, retryPayload (s.restartLeft 2))
    let a := mkResp opcode r (reqType opcode r) r.txn.toNat gate.1 gate.2
    let s := match (s.fnSt f).answer with
      | none => (s.bumpF 64 f 0x1012 2 1).trace 0 (callerScope f) 0
      | some b =>
        if b.opcode = 1 ∧ b.status = stOk ∧ b.sub = 2 then
          ((s.fnSt f).undo.filter (fun (u : Nat × Nat × Nat) => decide (u.1 = b.idx))).foldl
            (fun (s : State) (u : Nat × Nat × Nat) => s.setRegF f u.1 u.2.1 u.2.2) s
        else s
    (s.countResp f a).mailboxAnswer f a

/-- MAILBOX_DONE (R360): the pending request is answered. A COMMIT in admission, or one that waits for its edge, is not answered yet. -/
def execMailboxDone (t : Nat) (f : Fn) (s : State) : Out :=
  whileLive t s (fun s =>
    let x := s.fnSt f.val
    let q := reqOfBytes x.reqBuf
    if x.mbState ≠ 1 ∨ s.reg 0x2050 1 = 0 ∨ s.dict.commits.any (fun c => decide (c.fn = f.val) && !c.silent) = true then s
    else if s.reg 0x2050 1 = 3 ∧ s.proc 2 ≠ 1 then s.awayAnswer f.val q.1 q.2
    else
      match x.answer with
      | some a => s.mailboxAnswer f.val a
      | none =>
        let s := s.serve f.val q.1 q.2
        match (s.fnSt f.val).answer with
        | some a => s.mailboxAnswer f.val a
        | none => s)

end Sys2Proof.Machine
end

