-- ==== Sys2Proof/Machine/Can.lean ====
section
/-! DEFINITION. The CAN FD field port and Aedsy (14 R369–R378). -/

namespace Sys2Proof.Machine

/-! ### The controller (R369, R371) -/

/-- Is the controller on the bus: error active or error passive? -/
def State.canOn (s : State) : Bool := decide (s.reg 0x1110 9 = 1) || decide (s.reg 0x1110 9 = 2)

/-- TEC and REC set, and with them error active or error passive (ISO 11898-1). -/
def State.canCounts (s : State) (tec rec' : Nat) : State :=
  ((s.setReg 0x1110 10 tec).setReg 0x1110 11 rec').setReg 0x1110 9 (if 127 < tec ∨ 127 < rec' then 2 else 1)

/-- A frame received without error: REC falls by 1; from above 127 it takes a value from 119 to 127, which is free (ISO 11898-1). -/
def State.canReceived (s : State) : State :=
  let n := s.reg 0x1110 11
  if 127 < n then
    let d := s.draw
    d.2.canCounts (s.reg 0x1110 10) (119 + Config.freeNat d.1 % 9)
  else s.canCounts (s.reg 0x1110 10) (n - 1)

/-- CAN_BUS_OFF. -/
def execCanBusOff (t : Nat) (tec : Nat) (s : State) : Out :=
  whileLive t s fun s =>
    if s.canOn then
      let s := (((s.setReg 0x1110 10 (min tec 255)).setReg 0x1110 9 3).bump 32 0x1110 12 1).raiseEvent 0x60 none 0 tec 0 0
      { s with can := { s.can with busOffAt := some s.now, recovering := false } }
    else s

/-- BUSOFF_DELAY_EXPIRY: the recovery sequence starts. -/
def execBusoffDelayExpiry (t : Nat) (s : State) : Out :=
  whileLive t s fun s =>
    match s.can.busOffAt with
    | some c =>
      if s.reg 0x1110 9 = 3 ∧ c + msCycles (s.reg 0x1110 8) ≤ s.now then
        { s with can := { s.can with recovering := true } }.setReg 0x1110 9 4
      else s
    | none => s

/-- CAN_RECOVERED: error active again. -/
def execCanRecovered (t : Nat) (s : State) : Out :=
  whileLive t s fun s =>
    if s.reg 0x1110 9 = 4 then
      let s := { s with can := { s.can with busOffAt := none, recovering := false } }.canCounts 0 0
      s.raiseEvent 0x61 none 0 (s.reg 0x1110 12) 0 0
    else s

/-- CAN_ERROR_PASSIVE: bus errors have moved the counters. -/
def execCanErrorPassive (t : Nat) (e : CanErrors) (s : State) : Out :=
  whileLive t s fun s =>
    if s.canOn && decide (e.tecCount ≤ 255) && decide (e.recCount ≤ 255) then s.canCounts e.tecCount e.recCount else s

/-! ### Identifiers, MAC (R370, R373) -/

/-- The place of an identifier among Aedsy's six. -/
def State.aedsyId (s : State) (id : BitVec 29) (ext : Bool) : Option Nat :=
  let base := s.reg 0x1110 4
  if ext = decide (s.reg 0x1110 5 = 1) ∧ base ≤ id.toNat ∧ id.toNat < base + 6 then some (id.toNat - base) else none

/-- The first 8 bytes of AES-CMAC over the identifier and 56 bytes. -/
def frameMac (key : List Byte) (id : Nat) (ext : Bool) (b : List Byte) : List Byte :=
  (aesCmac key (leBytes 4 (id + 2 ^ 31 * b2n ext) ++ slice b 0 56)).take 8

/-- The key of a slot. -/
def State.canKey (s : State) (slot : Nat) : Option (List Byte) := if slot = 0 then s.can.key0 else s.can.key1

/-- Byte `i` of a frame. -/
def byteOf (b : List Byte) (i : Nat) : Nat := (b.getD i 0).toNat

/-- Step 1 of R373 for a frame at place `k`: 64 bytes, VERSION 1, TYPE for its identifier, segments, reserved bits; of a KEY_SWITCH also
its one segment and its BODY of zeros (R375). -/
def aedsyForm (k : Nat) (b : List Byte) : Bool :=
  decide (b.length = 64) && decide (byteOf b 0 / 16 = 1) && decide (byteOf b 1 / 2 = 0)
    && decide (1 ≤ byteOf b 3) && decide (byteOf b 3 ≤ 6) && decide (byteOf b 2 < byteOf b 3)
    && ((decide (k = 2) && decide (byteOf b 0 % 16 = 1))
      || (decide (k = 3) && decide (byteOf b 0 % 16 = 6) && decide (byteOf b 3 = 1) && (slice b 8 48).all (fun x => decide (x = 0))))

/-- FRESH of a frame. -/
def frameFresh (b : List Byte) : Nat := wordAt b 1

/-- A failed MAC or freshness check: counted, an event, and at most one response in 100 ms (R373). -/
def State.aedsyRefuse (s : State) (st fresh : Nat) : State :=
  let s := (s.bump 32 0x1111 (if st = stAuthFailed then 6 else 7) 1).raiseEvent 0x62 none 0 st fresh 0
  let due := match s.can.lastReply with
    | some l => decide (l + msCycles 100 ≤ s.now)
    | none => true
  if due then
    { s with can := { s.can with lastReply := some s.now } }.canRespond
      { opcode := 0, ty := 0, tag := 0, txn := 0, idx := 0, sub := 0, status := st, payload := [] }
  else s

/-- A frame dropped at step 1 or 2. -/
def State.aedsyDrop (s : State) : State := s.bump 32 0x1111 11 1

/-! ### Requests (R376) -/

/-- Is an earlier request still unanswered: does a response wait or go out, or does a COMMIT run? -/
def State.fieldBusy (s : State) : Bool :=
  (s.can.queue ++ s.can.waiting).any (fun f => decide (f.ty = 2) && (decide (f.seg ≠ 0) || decide (byteOf f.body 0 ≠ 0)))
    || s.dict.commits.any (fun c => decide (c.fn = 9))

/-- A whole message: refused with REKEY_PENDING, BUSY or BAD_LENGTH, or served in role 2. -/
def State.fieldRequest (s : State) (count : Nat) (b : List Byte) : State :=
  let q := reqOfBytes b
  let r := q.2
  let p := if q.1 = 2 then r.length.toNat else 0
  let refuse (st : Nat) (payload : List Byte) : State :=
    (s.bumpF 64 9 0x1012 2 1).deliver 9 (mkResp q.1 r 0 r.txn.toNat st payload)
  if s.reg 0x2050 1 = 0 then s
  else if 0xFFFF0000 ≤ s.reg 0x1111 4 then refuse stRekeyPending []
  else if s.fieldBusy then refuse stBusy (retryPayload 1)
  else if formCheck 9 q.1 r = stOk ∧ count ≠ ceilDiv (20 + p) 48 then refuse stBadLength []
  else s.serve 9 q.1 r

/-- A segment taken into the partial message; the last one completes it. -/
def State.fieldSegment (s : State) (b : List Byte) : State :=
  let seg := byteOf b 2
  let count := byteOf b 3
  let take (old : List Byte) (s : State) : State :=
    let bytes := old ++ slice b 8 48
    if seg + 1 = count then ({ s with can := { s.can with msg := none } } : State).fieldRequest count bytes
    else { s with can := { s.can with msg := some { count := count, next := seg + 1, bytes := bytes, lastAt := s.now } } }
  if seg = 0 then take [] s
  else
    match s.can.msg with
    | some m =>
      if m.next = seg ∧ m.count = count ∧ s.now < m.lastAt + msCycles 100 then take m.bytes s
      else ({ s with can := { s.can with msg := none } } : State).aedsyDrop
    | none => s.aedsyDrop

/-! ### Device frames of their own (R377) -/

/-- The body of a STATUS frame. -/
def State.statusBody (s : State) : List Byte :=
  let active := (List.range 64).foldl (fun a st => a + 2 ^ st * b2n (decide (s.streamState st = 3))) 0
  let plans := (List.range 8).foldl (fun a p => a + 8 ^ p * s.planState p) 0
  let overruns := (List.range 8).foldl (fun a p => a + s.reg (0x2130 + p) 1) 0
  leBytes 8 s.tickCount ++ leBytes 8 active ++ leBytes 3 plans ++ leBytes 1 (s.reg 0x1100 1) ++ leBytes 4 overruns
    ++ leBytes 8 (s.reg 0x1020 1) ++ leBytes 4 (s.reg 0x1111 12) ++ zeros 12

/-- A STATUS frame queued. -/
def State.canStatus (s : State) : State :=
  s.canQueueOwn { idOff := 5, ty := 4, seg := 0, count := 1, body := s.statusBody }

/-- AEDSY_STATUS_FRAME: at every OD 1111.08-th tick edge. -/
def execAedsyStatusFrame (t : Nat) (s : State) : Out :=
  whileLive t s fun s =>
    let n := s.reg 0x1111 8
    if n ≠ 0 ∧ s.tickCount % n = 0 ∧ s.can.statusAt < s.tickCount then
      { s with can := { s.can with statusAt := s.tickCount } }.canStatus
    else s

/-! ### Frames received (R373–R376) -/

/-- A KEY_SWITCH frame past step 1: the inactive slot's key, the MAC, FRESH 1; then that slot is active (R374, R375). -/
def State.keySwitchOp (s : State) (id : Nat) (ext : Bool) (b : List Byte) : State :=
  let slot := byteOf b 1 % 2
  if slot = s.reg 0x1111 3 then s.aedsyDrop
  else
    match s.canKey slot with
    | none => s.aedsyDrop
    | some key =>
      if frameMac key id ext b ≠ slice b 56 8 then s.aedsyRefuse stAuthFailed (frameFresh b)
      else if frameFresh b ≠ 1 then s.aedsyRefuse stFreshness (frameFresh b)
      else
        let s := ((s.setReg 0x1111 3 slot).setReg 0x1111 4 1).setReg 0x1111 5 0
        let s := { s with can := { s.can with
          key0 := if slot = 0 then s.can.key0 else none, key1 := if slot = 0 then none else s.can.key1,
          queue := [], dueRaised := false } }
        ((s.bump 64 0x1110 13 1).canStatus).canSend []

/-- A DICT_REQUEST frame past step 1: the active slot, the MAC, freshness; then its segment is taken. -/
def State.dictRequestOp (s : State) (id : Nat) (ext : Bool) (b : List Byte) : State :=
  let slot := byteOf b 1 % 2
  let rx := s.reg 0x1111 4
  let fresh := frameFresh b
  if slot ≠ s.reg 0x1111 3 then s.aedsyDrop
  else
    match s.canKey slot with
    | none => s.aedsyDrop
    | some key =>
      if frameMac key id ext b ≠ slice b 56 8 then s.aedsyRefuse stAuthFailed fresh
      else if ¬(rx < fresh ∧ fresh ≤ rx + 1048576) then s.aedsyRefuse stFreshness fresh
      else ((s.setReg 0x1111 4 fresh).bump 64 0x1110 13 1).fieldSegment b

/-- A frame from the bus. With no active slot every Aedsy frame is dropped (R375). -/
def State.canFrame (s : State) (id : BitVec 29) (ext : Bool) (b : List Byte) : State :=
  if s.canOn = false then s
  else
    let s := s.canReceived
    match s.aedsyId id ext with
    | none => s
    | some k =>
      if s.canKeyed = false ∨ aedsyForm k b = false then s.aedsyDrop
      else if k = 3 then s.keySwitchOp id.toNat ext b
      else s.dictRequestOp id.toNat ext b

/-- DICT_REQUEST. -/
def execDictRequest (t : Nat) (id : BitVec 29) (ext : Bool) (frame : List Byte) (s : State) : Out :=
  whileLive t s (fun s => s.canFrame id ext frame)

/-- KEY_SWITCH. -/
def execKeySwitch (t : Nat) (id : BitVec 29) (ext : Bool) (frame : List Byte) (s : State) : Out :=
  whileLive t s (fun s => s.canFrame id ext frame)

/-- CAN_FRAME_IGNORED: a frame on another identifier is acknowledged. -/
def execCanFrameIgnored (t : Nat) (id : BitVec 29) (ext : Bool) (s : State) : Out :=
  whileLive t s fun s => if s.canOn && (s.aedsyId id ext).isNone then s.canReceived else s

/-- AEDSY_PARTIAL_TIMEOUT. -/
def execAedsyPartialTimeout (t : Nat) (s : State) : Out :=
  whileLive t s fun s =>
    match s.can.msg with
    | some m => if m.lastAt + msCycles 100 ≤ s.now then { s with can := { s.can with msg := none } } else s
    | none => s

/-! ### Freshness and transmission (R371, R374) -/

/-- AEDSY_REKEY_DUE: raised once. -/
def execAedsyRekeyDue (t : Nat) (s : State) : Out :=
  whileLive t s fun s =>
    if s.canKeyed && s.rekeyDue && !s.can.dueRaised then
      { s with can := { s.can with dueRaised := true } }.raiseEvent 0x63 none 0 (s.reg 0x1111 4) (s.reg 0x1111 5) 0
    else s

/-- AEDSY_FRESH_LIMIT: frames that may no longer be sent leave the queue. -/
def execAedsyFreshLimit (t : Nat) (s : State) : Out :=
  whileLive t s fun s =>
    let keep := canMaySend (s.reg 0x1111 5)
    { s with can := { s.can with queue := s.can.queue.filter keep, waiting := s.can.waiting.filter keep } }.canSend []

/-- The bytes of a device frame. -/
def State.txBytes (s : State) (f : CanTx) : List Byte :=
  let slot := s.reg 0x1111 3
  let b := [BitVec.ofNat 8 (16 + f.ty), BitVec.ofNat 8 (slot + 2 * b2n s.rekeyDue), BitVec.ofNat 8 f.seg, BitVec.ofNat 8 f.count]
    ++ leBytes 4 (s.reg 0x1111 5) ++ slice f.body 0 48
  b ++ frameMac ((s.canKey slot).getD []) (s.reg 0x1110 4 + f.idOff) (decide (s.reg 0x1110 5 = 1)) b

/-- CAN_TX_COMPLETE: the first frame of the queue has gone out; a response that waited moves in. -/
def execCanTxComplete (t : Nat) (s : State) : Out :=
  whileLive t s fun s =>
    match s.can.queue with
    | [] => s
    | f :: fs =>
      if s.canOn && s.canKeyed && canMaySend (s.reg 0x1111 5) f then
        let s := s.setReg 0x1111 5 (s.reg 0x1111 5 + 1)
        let d := s.drives (s.txBytes f)
        let s := { d.2 with can := { s.can with queue := fs, lastTx := d.1 } }
        ((s.bump 64 0x1110 14 1).canCounts (s.reg 0x1110 10 - 1) (s.reg 0x1110 11)).canSend []
      else s

end Sys2Proof.Machine
end

