-- ==== Sys2Proof/Machine/Clear.lean ====
section
/-! DEFINITION. The end of a row-valid clear (05 R144): the accesses that waited for it proceed. -/

namespace Sys2Proof.Machine

/-- An access that waited, carried out: a TOD's copy where its core waits for it, else the TOD's completion. -/
def State.serveHeld (s : State) (c : Nat) (x : PadHeld) : State :=
  match x with
  | .dma u ch write => s.dmaAccess u ch write []
  | .reshard u ch => s.reshardEnd u ch
  | .tod k => s.todAccess k (fun s => if (s.core k).wait = 2 then s.flagCopy k else s.todComplete k)
  | _ => s.servePad c x

/-- ROW_VALID_CLEAR_DONE: the clear ends, and the accesses that waited proceed in the order in which they came. -/
def execRowValidClearDone (t : Nat) (c : CoreId) (s : State) : Out :=
  whileLive t s (fun s =>
    match (s.pad c.val).clearAt with
    | none => s
    | some e =>
      if s.now < e then s
      else
        let held := (s.pad c.val).held
        (held.foldl (fun s x => s.serveHeld c.val x) (s.setPad c.val { s.pad c.val with clearAt := none, held := [] })).padCycle c.val)

end Sys2Proof.Machine
end

