-- ==== Sys2Proof/Machine/Functions.lean ====
section
/-! DEFINITION. What the host does to the PCIe functions (07 R193, 14 R348–R362, R367): the mailbox registers, doorbells, ring registers, the
register window, the apertures, configuration, and the resets of functions. -/

namespace Sys2Proof.Machine

/-! ### Which requests reach a function -/

/-- Does a memory request of the host reach function `f`: the data link layer is up, the function is enabled and in D0, and IDE lets it
in (R348, R352, R415)? -/
def State.reaches (s : State) (f : Nat) : Bool :=
  let x := s.fnSt f
  s.link.dlUp && x.enabled && !x.d3 && !(decide (s.reg 0x9001 1 = 1) && decide (s.reg 0x9001 2 ≠ 1))

/-- A write of the host that reaches its function; one that does not is dropped. -/
def hostWriteRow (t : Nat) (f : Fn) (s : State) (g : State → State) : Out :=
  whileLive t s (fun s => if s.reaches f.val then g s else s)

/-- A read of the host: one that reaches no function completes with Unsupported Request. -/
def hostReadRow (t : Nat) (f : Fn) (s : State) (g : State → State) : Out :=
  whileLive t s (fun s => if s.reaches f.val then g s else s.complete .unsupported)

/-! ### The mailbox (R359, R360) -/

/-- REQ_SEQ. -/
def execReqSeq (t : Nat) (f : Fn) (value : BitVec 16) (s : State) : Out :=
  hostWriteRow t f s fun s =>
    let x := s.fnSt f.val
    if x.mbState = 0 then s.setFn f.val { x with mbState := 1, reqSeq := value.toNat, answer := none }
    else s.setFn f.val { x with overrun := true }

/-- ACK: bit 0 moves DONE to IDLE. -/
def execAck (t : Nat) (f : Fn) (value : BitVec 32) (s : State) : Out :=
  hostWriteRow t f s fun s =>
    let x := s.fnSt f.val
    if x.mbState = 2 ∧ value.getLsbD 0 = true then s.setFn f.val { x with mbState := 0 } else s

/-- OVERRUN_CLEAR: a write of control word 1 with bit 2 set. -/
def execOverrunClear (t : Nat) (f : Fn) (value : BitVec 32) (s : State) : Out :=
  hostWriteRow t f s fun s =>
    if value.getLsbD 2 then s.setFn f.val { s.fnSt f.val with overrun := false } else s

/-! ### Doorbells (R193) -/

/-- Why a doorbell write is refused: the queue is another partition's, or not host-fed. The PF is privileged (R406, R407). -/
def State.doorbellCheck (s : State) (f q : Nat) : Nat :=
  if f ≠ 0 ∧ s.queuePart q ≠ some (f - 1) then stAccessDenied
  else match (s.queue q).bind with
    | some b => need b.hostFed stQueueUnbound
    | none => stQueueUnbound

/-- A refused doorbell write: counted, latched, and for another partition's queue a firewall refusal, whose target is free since R199 has no
code for a queue (log 46). -/
def State.refuseDoorbell (s : State) (f q st : Nat) : State :=
  let x := s.queue q
  let s := (s.setQueue q { x with refused := satAdd 32 x.refused 1 }).setRegF f 0x5202 1 st
  if st = stAccessDenied then
    let d := s.draw
    d.2.firewallRefuse (0x70 + f) (f - 1) true (Config.freeNat d.1) (Config.freeNat d.1 / 16)
  else s

/-- How far index `v`, modulo twice the depth, lies ahead of `base`. -/
def aheadOf (depth base v : Nat) : Nat := (v % (2 * depth) + 2 * depth - base % (2 * depth)) % (2 * depth)

/-- SQ_TAIL: entries up to the new tail are submitted. -/
def execSqTail (t : Nat) (f : Fn) (q : QueueId) (value : BitVec 32) (s : State) : Out :=
  hostWriteRow t f s fun s =>
    let x := s.queue q.val
    let depth := ((x.bind).map Binding.depth).getD 1
    let n := aheadOf depth x.sqHead value.toNat
    let st := firstFail [s.doorbellCheck f.val q.val, need (decide (n ≤ depth)) stQueueFull]
    if st ≠ stOk then s.refuseDoorbell f.val q.val st
    else
      let old := x.sqTimes.take n
      s.setQueue q.val { x with
        sqTail := x.sqHead + n, sqTimes := old ++ List.replicate (n - old.length) s.now,
        aborted := x.aborted.filter (fun i => decide (i < x.sqHead + n)) }

/-- CQ_HEAD: records up to the new head are free. -/
def execCqHead (t : Nat) (f : Fn) (q : QueueId) (value : BitVec 32) (s : State) : Out :=
  hostWriteRow t f s fun s =>
    let x := s.queue q.val
    let st := s.doorbellCheck f.val q.val
    if st ≠ stOk then s.refuseDoorbell f.val q.val st
    else
      let depth := ((x.bind).map Binding.depth).getD 1
      let held := aheadOf depth value.toNat x.cqTail
      let tail := if x.cqTail < held then x.cqTail + 2 * depth else x.cqTail
      s.setQueue q.val { x with cqTail := tail, cqHead := tail - held }

/-! ### Ring registers (R365, R367) -/

/-- A free-running 32-bit tail index taken, at most the head. -/
def tailTaken (head value : Nat) : Nat :=
  let held := (head % 2 ^ 32 + 2 ^ 32 - value % 2 ^ 32) % 2 ^ 32
  if held ≤ head ∧ held < 2 ^ 31 then head - held else head

/-- EV_TAIL. -/
def execEvTail (t : Nat) (f : Fn) (value : BitVec 32) (s : State) : Out :=
  hostWriteRow t f s fun s =>
    let x := s.fnSt f.val
    s.setFn f.val { x with evTail := tailTaken x.evHead value.toNat }

/-- RES_TAIL. -/
def execResTail (t : Nat) (f : Fn) (value : BitVec 32) (s : State) : Out :=
  hostWriteRow t f s fun s =>
    let x := s.fnSt f.val
    s.setFn f.val { x with resTail := tailTaken x.resHead value.toNat }

/-- EVENT_OVERFLOW_ENTRY (R365): the ring that dropped entries has room again. -/
def execEventOverflowEntry (t : Nat) (f : Fn) (s : State) : Out := whileLive t s (fun s => s.evOverflow f.val)

/-! ### Vectors (R362) -/

/-- MSIX_COALESCE_EXPIRY: the period ends, and the vector fires if something new has happened. -/
def execMsixCoalesceExpiry (t : Nat) (f : Fn) (v : Vec) (s : State) : Out :=
  whileLive t s (fun s =>
    if kget false (s.fnSt f.val).fresh v.val && s.coalesceOver f.val v.val then s.fire f.val v.val else s)

/-- TICK_VECTOR: vector 2 at every OD 1106.01-th tick edge, once for an edge. -/
def execTickVector (t : Nat) (f : Fn) (s : State) : Out :=
  whileLive t s (fun s =>
    let n := s.regF f.val 0x1106 1
    let since := match klook (s.fnSt f.val).lastFire 2, s.tick.lastEdge with
      | some l, some e => decide (l < e)
      | none, some _ => true
      | _, none => false
    if n ≠ 0 ∧ s.tickCount % n = 0 ∧ since = true then s.fire f.val 2 else s)

/-! ### The register window (R358) -/

/-- The object of a slot, whether a mirror in hardware serves it, and the processor that serves it otherwise. -/
def windowSlot (off : Nat) : Option (Nat × Nat × Option Nat) :=
  let i := off / 8
  if i = 0 then some (0x1102, 1, none)
  else if i ≤ 4 then some (0x2001, i, none)
  else if i = 5 then some (0x1020, 1, none)
  else if i = 6 then some (0x1020, 7, none)
  else if i = 7 then some (0x1010, 3, none)
  else if i = 8 then some (0x1100, 1, none)
  else if i = 9 then some (0x1000, 7, none)
  else if 0x20 ≤ i ∧ i < 0x28 then some (0x2110 + (i - 0x20), 2, some 2)
  else if 0x28 ≤ i ∧ i < 0x30 then some (0x2130 + (i - 0x28), 1, some 2)
  else if 0x30 ≤ i ∧ i < 0x38 then some (0x2120 + (i - 0x30), 1, some 2)
  else if 0x40 ≤ i ∧ i < 0x80 then some (stIdx (i - 0x40) 1, 1, some 8)
  else if 0x80 ≤ i ∧ i < 0xC0 then some (stIdx (i - 0x80) 1, 2, some 8)
  else if 0xC0 ≤ i ∧ i < 0x100 then some (stIdx (i - 0xC0) 1, 4, some 8)
  else if 0x100 ≤ i ∧ i < 0x120 then some (0x5000 + (i - 0x100), 1, some (3 + (i - 0x100) / 8))
  else if 0x120 ≤ i ∧ i < 0x12F then some (0x6000 + (i - 0x120), 1, some 7)
  else if 0x130 ≤ i ∧ i < 0x140 then some (0x2030 + (i - 0x130), 6, some 8)
  else if 0x140 ≤ i ∧ i < 0x150 then some (0x2040 + (i - 0x140), 4, some 8)
  else none

/-- A refused access of the window: latched and counted. It makes no journal entry (log 81). -/
def State.refuseWindow (s : State) (f off st : Nat) : State :=
  (s.setRegF f 0x1102 1 (st + 65536 * (off / 8 % 8192))).bumpF 32 f 0x1102 2 1

/-- The status of a read of the window: its alignment, the service of the slot, then R75 in the role of the function. -/
def State.windowCheck (s : State) (f off len : Nat) : Nat :=
  match windowSlot off with
  | none => firstFail [need ((decide (len = 4) || decide (len = 8)) && decide (off % len = 0)) stBadLength, stNoObject]
  | some (idx, sub, own) =>
    firstFail [
      need ((decide (len = 4) || decide (len = 8)) && decide (off % len = 0)) stBadLength,
      s.versionCheck f 1 idx sub, s.rightsCheck f idx sub false none,
      (match own with
       | none => stOk
       | some x => if s.reg 0x2050 1 ≠ 3 then stBusy
         else match s.procGate x with
           | some g => g.1
           | none => stOk)]

/-- The doorbells of a queue as a function reads them (R193): SQ_HEAD and CQ_TAIL modulo twice the depth, zero for a queue of another
partition and for one that nothing binds. -/
def State.doorbellBytes (s : State) (f q : Nat) : List Byte :=
  let x := s.queue q
  match x.bind with
  | some b =>
    if f ≠ 0 ∧ s.queuePart q ≠ some (f - 1) then zeros 8 else wordBytes [x.sqHead % (2 * b.depth), x.cqTail % (2 * b.depth)]
  | none => zeros 8

/-- What BAR0 holds from `base` on, as far as a read of up to 8 bytes there needs it: the doorbells, the mailbox, the MSI-X table and pending
bits, the ring registers; zero elsewhere (R193, R354, R359, R367). -/
def State.bar0Part (s : State) (f base : Nat) : List Byte :=
  let x := s.fnSt f
  if base < 0x10000 then s.doorbellBytes f (base / 8)
  else if base < 0x20000 then []
  else if base < 0x21018 then slice (slice x.reqBuf 0 4116) (base - 0x20000) 8
  else if base < 0x22000 then []
  else if base < 0x23018 then slice (slice x.respBuf 0 4116) (base - 0x22000) 8
  else if base = 0x24000 then wordBytes [0, x.mbState + 4 * b2n x.overrun + 65536 * (x.respSeq % 65536)]
  else if base < 0x30000 then []
  else if base < 0x30080 then slice x.msixTable (base - 0x30000) 8
  else if base = 0x38000 then leBytes 8 x.msixPend
  else if base = 0x3C000 then wordBytes [x.evHead % 2 ^ 32, x.evTail % 2 ^ 32]
  else if base = 0x3C008 then wordBytes [x.resHead % 2 ^ 32, x.resTail % 2 ^ 32]
  else []

/-- A naturally aligned read of 4 or 8 bytes of BAR0. -/
def State.bar0Read (s : State) (f off len : Nat) : List Byte := slice (slice (s.bar0Part f (off - off % 8)) 0 8) (off % 8) len

/-- REGISTER_WINDOW_READ. A refused read returns all ones. Offsets of the window count from its start; from 0x10000 on the offset, modulo the
BAR's size, goes on through the BAR, round to the doorbell region, which the table gives no row of its own (log 72). -/
def execRegisterWindowRead (t : Nat) (f : Fn) (off : Nat) (len : Nat) (s : State) : Out :=
  hostReadRow t f s fun s =>
    if 0x10000 ≤ off then s.complete (.data (s.bar0Read f.val ((off + 0x10000) % 0x40000) len)) else
    let st := s.windowCheck f.val off len
    if st ≠ stOk then (s.refuseWindow f.val off st).complete (.data (List.replicate len 0xFF))
    else
      match windowSlot off with
      | none => s
      | some (idx, sub, _) =>
        match objRow idx sub with
        | none => s
        | some o => s.complete (.data (slice (slice (valBytes o.ty (s.objValue f.val o idx sub)) 0 8) (off % 8) len))

/-- REGISTER_WINDOW_WRITE: refused with READ_ONLY. -/
def execRegisterWindowWrite (t : Nat) (f : Fn) (off : Nat) (s : State) : Out :=
  hostWriteRow t f s fun s => s.refuseWindow f.val off stReadOnly

/-! ### Other registers of BAR0 (R354, R359, R362) -/

/-- Pending messages of unmasked entries sent. -/
def State.sendPending (s : State) (f : Nat) : State :=
  (List.range 8).foldl (fun s v =>
    let x := s.fnSt f
    let e := slice x.msixTable (16 * v) 16
    if x.msixPend.testBit v && !(wordAt e 3).testBit 0 then
      (s.setFn f { x with msixPend := putBit x.msixPend v false }).hostWrite f (dwordAt e 0) (slice e 8 4)
    else s) s

/-- REGISTER_WRITE: the request buffer, unless a request is pending; the MSI-X table. Every other write is dropped. -/
def execRegisterWrite (t : Nat) (f : Fn) (off : Nat) (bytes : List Byte) (s : State) : Out :=
  hostWriteRow t f s fun s =>
    let x := s.fnSt f.val
    if 0x20000 ≤ off ∧ off < 0x21014 then
      (if x.mbState = 1 then s
       else s.setFn f.val { x with reqBuf := (overlay (slice x.reqBuf 0 4116) (off - 0x20000) bytes).take 4116 })
    else if 0x30000 ≤ off ∧ off < 0x30080 then
      (s.setFn f.val { x with msixTable := (overlay x.msixTable (off - 0x30000) bytes).take 128 }).sendPending f.val
    else s

/-! ### Apertures (R355, R356) -/

/-- Does an access write? -/
def accessWrites : Access → Bool
  | .rd _ => false
  | .wr _ => true

/-- Bytes of an access. -/
def accessLen : Access → Nat
  | .rd n => n
  | .wr bs => bs.length

/-- A refused aperture access: counted, and a read completes with Unsupported Request. -/
def State.refuseAperture (s : State) (f : Nat) (a : Access) : State :=
  let s := s.bumpF 32 f 0x1102 3 1
  if accessWrites a then s else s.complete .unsupported

/-- LPDDR5_APERTURE_ACCESS: the PF reaches the capacity in use, a VF its partition's granules. A poisoned block refuses a read (R444), and
a withdrawn page every request (R452). -/
def execLpddr5ApertureAccess (t : Nat) (f : Fn) (addr : Nat) (a : Access) (s : State) : Out :=
  whileLive t s fun s =>
    let n := accessLen a
    let inside := decide (addr + n ≤ s.capacityUsed)
    let mine := decide (f.val = 0) ||
      (s.granuleIn (f.val - 1) (addr / 67108864) && s.granuleIn (f.val - 1) ((addr + n - 1) / 67108864))
    if s.reaches f.val = false then (if accessWrites a then s else s.complete .unsupported)
    else if mine = false then (s.firewallRefuse (0x70 + f.val) (f.val - 1) (accessWrites a) 3 0).refuseAperture f.val a
    else if inside = false ∨ s.spanRetired addr n = true then s.refuseAperture f.val a
    else
      match a with
      | .rd k =>
        if 4096 < k then s.refuseAperture f.val a
        else if s.spanPoisoned addr k then (s.countPoison addr k (some (0x70 + f.val))).refuseAperture f.val a
        else s.complete (.data (s.ddrRead addr k))
      | .wr bs => (s.touchCtx false addr bs.length).ddrMerge addr bs

/-- SCRATCHPAD_APERTURE_ACCESS: by handle, or raw for the PF, within one word; an access waits while the core's row-valid bits are cleared
(R144). -/
def execScratchpadApertureAccess (t : Nat) (f : Fn) (addr : Nat) (a : Access) (s : State) : Out :=
  whileLive t s fun s =>
    let c := addr / 0x20000000
    let off := addr % 0x20000000
    let raw := decide (0x10000000 ≤ off) && decide (off < 0x10280000)
    let word := decide (1 ≤ accessLen a) && decide (off % 8 + accessLen a ≤ 8)
    let place := decide (c < 32) && (decide (off < 0x10000000) || raw)
    if s.reaches f.val = false then (if accessWrites a then s else s.complete .unsupported)
    else if place = false ∨ word = false then s.refuseAperture f.val a
    else if f.val ≠ 0 ∧ (raw = true ∨ s.corePart c ≠ some (f.val - 1)) then
      ((s.firewallRefuse (0x70 + f.val) (f.val - 1) (accessWrites a) (if raw then 2 else 1) c).bump 64 (0x5100 + c) 4 1).refuseAperture f.val a
    else
      s.padServe c [.host f.val raw (off / 0x400000) (if raw then (off - 0x10000000) / 8 else off % 0x400000 / 8) (off % 8) a]

/-! ### Resets of functions (R353) -/

/-- FLR of one function. A request that was pending and not yet served may or may not take effect: free. -/
def State.flr (s : State) (f : Nat) : State :=
  let x := s.fnSt f
  let d := s.draw
  let s := if x.mbState = 1 ∧ x.answer.isNone ∧ s.proc 2 = 1 ∧ Config.freeBit d.1 = true then
      (let q := reqOfBytes x.reqBuf
       d.2.serve f q.1 q.2)
    else d.2
  let s := s.abandonWhere (fun t => decide (t.fn = f))
  let s := { s with dict := { s.dict with commits := s.dict.commits.map (fun (c : CommitRun) => if c.fn = f then { c with silent := true } else c) } }
  let x := s.fnSt f
  let s := s.setFn f { x with mbState := 0, answer := none, d3 := false, memSpace := false, busMaster := false, bars := [0, 0, 0],
                              msixTable := zeros 128, msixPend := 0, fresh := [] }
  let part := callerScope f
  ((s.deviceClear f 0x1104 3 part).deviceClear f 0x1105 3 part).setRegF f 0x1102 1 0

/-- FLR of every VF, and VF Enable cleared. -/
def State.vfsOff (s : State) : State :=
  (List.range 8).foldl (fun s v =>
    if (s.fnSt (v + 1)).enabled then
      (let s := s.flr (v + 1)
       s.setFn (v + 1) { s.fnSt (v + 1) with enabled := false })
    else s) s

/-- FLR_VF. -/
def execFlrVf (t : Nat) (v : Part) (s : State) : Out :=
  whileLive t s fun s => if s.link.dlUp && (s.fnSt (v.val + 1)).enabled then s.flr (v.val + 1) else s

/-- FLR_PF: VF Enable is cleared as well, and SPDM sessions end (R417). -/
def execFlrPf (t : Nat) (s : State) : Out :=
  whileLive t s fun s => if s.link.dlUp then (s.flr 0).vfsOff.endSessions else s

/-- HOT_RESET: an FLR of every function; IDE goes OFF with its keys erased, and the link trains again, which after a hot reset counts as a
retrain (R350, R353, R415). A DL_Down also follows INSECURE, and a retrain that left no module (log 33). -/
def execHotReset (t : Nat) (dlDown : Bool) (s : State) : Out :=
  whileLive t s fun s =>
    if s.link.dlUp || (dlDown && (s.downDue || s.link.was0 || s.link.was1)) then
      let s := (s.flr 0).vfsOff.linkSecOff
      if dlDown then
        let s := s.startTraining
        { s with link := { s.link with again := false, was0 := false, was1 := false } }
      else
        let was0 := s.link.was0 || s.modUp 0
        let was1 := s.link.was1 || s.modUp 1
        let s := (s.bump 32 0x1100 5 1).startTraining
        { s with link := { s.link with again := true, was0 := was0, was1 := was1 } }
    else s

/-! ### Configuration (R348, R351, R352, R354) -/

/-- Sizes of the three BARs and their low bits: 64-bit, prefetchable or not (PRESUMED from PCIe, log 47). -/
def barSize (n : Nat) : Nat := if n = 0 then 262144 else if n = 1 then 2 ^ 35 else 2 ^ 34
def barBits (n : Nat) : Nat := if n = 1 then 12 else 4

/-- VF Enable with NumVFs `n`: VF1 to VFn are enabled. Clearing it acts as an FLR of every VF. -/
def State.enableVfs (s : State) (n : Nat) : State :=
  if n = 0 then s.vfsOff
  else (List.range 8).foldl (fun s v => s.setFn (v + 1) { s.fnSt (v + 1) with enabled := decide (v < n) }) s

/-- VF_ENABLE: the host sets NumVFs and VF Enable. -/
def execVfEnable (t : Nat) (n : Fin 9) (s : State) : Out :=
  whileLive t s fun s =>
    if s.link.dlUp then ({ s with link := { s.link with numVfs := n.val } } : State).enableVfs n.val else s

/-- D3HOT_ENTRY. -/
def execD3hotEntry (t : Nat) (f : Fn) (s : State) : Out :=
  whileLive t s fun s =>
    if s.link.dlUp && (s.fnSt f.val).enabled then s.setFn f.val { s.fnSt f.val with d3 := true } else s

/-- A configuration register of function `f` answered with a value of `n` bytes; the SR-IOV capability is the PF's. -/
def State.answerConfig (s : State) (n v : Nat) : State := s.complete (.data (leBytes n v))

/-- Is a capability there, in the PF or in a VF (R352)? SR-IOV is the PF's. For AER, DOE and IDE in a VF the rule gives no answer. -/
def hasCapability (pf : Bool) : Capability → Option Bool
  | .pciExpress => some true
  | .msiX => some true
  | .srIov => some pf
  | .aer => if pf then some true else none
  | .doe => if pf then some true else none
  | .ide => if pf then some true else none
  | .flr => some true
  | .d3hot => some true
  | .msi => some false
  | .intx => some false
  | .ats => some false
  | .pri => some false
  | .pasid => some false
  | .tph => some false
  | .aspm => some false
  | .l1Substates => some false
  | .l2 => some false
  | .resizableBar => some false
  | .hotPlug => some false

/-- A configuration request of an enabled function. Of R352's fields it answers the number the rule gives, not PCI Express' code for it
(log 47). -/
def State.configOp (s : State) (f : Nat) (r : ConfigReq) : State :=
  let x := s.fnSt f
  let free (s : State) : State :=
    let d := s.draw
    d.2.complete (.data (slice (Config.freeBytes d.1 4) 0 4))
  let pf (n v : Nat) : State := if f = 0 then s.answerConfig n v else free s
  match r with
  | .vendorId => s.answerConfig 2 Config.vendorId
  | .deviceId => s.answerConfig 2 (if f = 0 then 0x6432 else 0x6433)
  | .classCode => s.answerConfig 3 0x120000
  | .totalVfs => pf 2 8
  | .initialVfs => pf 2 8
  | .vfOffset => pf 2 1
  | .vfStride => pf 2 1
  | .bar n => s.answerConfig 8 (x.bars.getD n.val 0 + barBits n.val)
  | .writeBar n base => s.setFn f { x with bars := x.bars.set n.val (base % 2 ^ 64 / barSize n.val * barSize n.val) }
  | .memorySpace on => s.setFn f { x with memSpace := on }
  | .busMaster on => s.setFn f { x with busMaster := on }
  | .numVfs n => if f = 0 ∧ n ≤ 8 then { s with link := { s.link with numVfs := n } } else s
  | .vfEnableBit on => if f = 0 then s.enableVfs (if on then s.link.numVfs else 0) else s
  | .powerState d3 => s.setFn f { x with d3 := d3 }
  | .maxPayload => s.answerConfig 2 256
  | .tenBitTags => s.answerConfig 1 1
  | .msixVectors => s.answerConfig 1 8
  | .capability c =>
    match hasCapability (decide (f = 0)) c with
    | some b => s.answerConfig 1 (b2n b)
    | none =>
      let d := s.draw
      d.2.answerConfig 1 (b2n (Config.freeBit d.1))
  | .other _ => free s

/-- CONFIG_REQUEST: answered by hardware from DL_Up on, outside IDE (R348, R414); a VF that is not enabled does not answer. -/
def execConfigRequest (t : Nat) (f : Fn) (r : ConfigReq) (s : State) : Out :=
  whileLive t s fun s =>
    if s.link.dlUp && (s.fnSt f.val).enabled then s.configOp f.val r else s.complete .unsupported

end Sys2Proof.Machine
end

