-- ==== Sys2Proof/Machine/Edge.lean ====
section
/-! DEFINITION. A tick edge (02 R27, R31–R38, R49, R50, R58; 05 R140, R143; 07 R184; 10 R268, R270; 18 R449–R456): the tick that ends, the
writes that take effect, the plans' states, the work of retired units, pages, the tick that begins. -/

namespace Sys2Proof.Machine

/-! ### The entries of the tick that ends (R58, R268, R437, R449, R450) -/

/-- The channel of a DMA unit that runs a task. -/
def State.chanOf (s : State) (t : Task) : Option Nat :=
  if isDma t.node.res then (List.range 32).find? (fun c => decide ((s.chan (t.node.res - 0x30) c).task = some t.id)) else none

/-- Does a task wait in the in-line window or the statistics view (R267)? -/
def State.openWait (s : State) (t : Task) : Bool :=
  match (s.chanOf t).bind (fun c => (s.chan (t.node.res - 0x30) c).live.getLast?) with
  | none => false
  | some d =>
    if d.readTotal ≤ d.rPos then false
    else
      match d.readPlace d.rAt with
      | (onDst, .here a, left) =>
        let y := if onDst then dstSide d.bytes else srcSide d.bytes
        decide (y.kind = 6) && (match s.view6 y.core t.tick a.toNat (requestLen y.width a left) with
          | .waits => true
          | _ => false)
      | _ => false

/-- The resource of a task that ends at the edge is free. -/
def State.freeRes (s : State) (t : Task) : State :=
  let r := t.node.res
  if isCore r then (if (s.core r).task = some t.id then s.clearCore r else s)
  else if isEngine r then
    (if (s.eng (r - 0x20)).task = some t.id then s.engNext (r - 0x20) else s)
  else if isI3c r then
    (let x := s.i3c (r - 0x40)
     if x.task = some t.id then
       (s.setI3c (r - 0x40) { x with task := none, turns := [], turn := none, writes := [], record := [], nacked := false }).setBus (r - 0x40) (if x.recover.isSome then 2 else 0)
     else s)
  else
    match s.chanOf t with
    | some c => s.setChan (r - 0x30) c (s.chan (r - 0x30) c).clear
    | none => s

/-- A node of a stream without a Frame Start ends with ABSENT (R268). -/
def State.endAbsent (s : State) (t : Task) : State :=
  if t.stage = 2 ∨ t.stage = 5 then (s.closeTask { t with absent := true } stOk).freeRes t
  else ((s.unnext t).skipNode t.id).countReady t.node.res

/-- What the edge has done so far with the ending tick's entries: the state, late and cancelled nodes by partition, entries that
ended absent, entries that run on late after a cut frame. -/
structure Sweep where
  s     : State
  late  : KMap Nat
  canc  : KMap Nat
  gone  : List Nat
  runOn : List Nat
  deriving DecidableEq, Repr

/-- An entry that runs on late. -/
def Sweep.markLate (w : Sweep) (t : Task) : Sweep :=
  { w with s := w.s.modTask t.id (fun u => { u with late := true }), late := kmod 0 w.late t.part (· + 1) }

/-- An entry that has not started is cancelled (R58). -/
def Sweep.cancel (w : Sweep) (t : Task) : Sweep :=
  { w with s := (w.s.unnext t).cancelNode t.id true, canc := kmod 0 w.canc t.part (· + 1) }

/-- A reader whose recompute entry, or whose producer's, has not started (R449). -/
def Sweep.dropRedo (w : Sweep) (c : Task) : Sweep :=
  { w with s := w.s.cancelRedo c, canc := kmod 0 w.canc c.part (· + 1) }

/-- One entry of the tick that ends. `silent` are the streams without a Frame Start in it, `cut` those whose frame the edge cut. -/
def Sweep.step (silent cut : List Nat) (w : Sweep) (id : Nat) : Sweep :=
  match w.s.task? id with
  | none => w
  | some t =>
    let before (ids : List Nat) : Bool := (w.s.peers t).any (fun u => decide (u.num ∈ t.node.preds) && decide (u.id ∈ ids))
    let waits := decide (t.stage = 0) || decide (t.stage = 1)
    if t.ended then w
    else if t.ring.isSome then (if t.stage = 2 then { w with s := w.s.modTask id (fun u => { u with late := true }) } else w)
    else if t.selfTest then (if waits then { w with s := ((w.s.unnext t).skipNode id).countReady t.node.res } else w)
    else if t.redo = 1 then
      (match waits, w.s.task? t.redoFor with
       | true, some c => w.dropRedo c
       | _, _ => w)
    else if t.recomp ∧ t.stage = 1 then w.dropRedo t
    else if (t.node.bound && intakeHalf t.node && decide (t.node.stream ∈ silent) && (waits || w.s.openWait t))
        || (waits && before w.gone) then
      { w with s := w.s.endAbsent t, gone := id :: w.gone }
    else if t.node.bound && intakeHalf t.node && decide (t.node.stream ∈ silent) then
      { w with s := w.s.modTask id (fun u => { u with absent := true }), gone := id :: w.gone }
    else if waits && before w.runOn then { w.markLate t with runOn := id :: w.runOn }
    else if waits then w.cancel t
    else if w.s.openWait t && t.node.bound && decide (t.node.stream ∈ cut) then { w.markLate t with runOn := id :: w.runOn }
    else w.markLate t

/-- The overrun of a partition (R58, R364, R450). -/
def State.overrun (s : State) (p l c : Nat) : State :=
  if l + c = 0 then s
  else
    let i := 0x2130 + p
    let s := ((s.bump 64 i 1 1).bump 64 i 2 l).bump 64 i 3 c
    (s.raiseEvent 0x11 (some p) p l c 0).bump 64 0x8000 5 1

/-- The entries of tick `ended` at its edge: those of recomputations first, then in node order. -/
def State.endEntries (s : State) (ended : Nat) (silent cut : List Nat) : State :=
  let mine := s.tasks.filter (fun (t : Task) => decide (t.tick = ended) && t.maint.isNone)
  let ids := (mine.filter (fun t => decide (t.redo = 1)) ++ mine.filter (fun t => decide (t.redo ≠ 1))).map (fun t => t.id)
  let w := ids.foldl (Sweep.step silent cut) { s := s, late := [], canc := [], gone := [], runOn := [] }
  (List.range 8).foldl (fun s p => s.overrun p (kget 0 w.late p) (kget 0 w.canc p)) w.s

/-- Recorded entries of ended ticks leave the state once nothing of their partition and tick is under way. -/
def State.dropTasks (s : State) : State :=
  { s with tasks := s.tasks.filter (fun (t : Task) => decide (t.tick = s.tickCount) || decide (t.stage ≠ 4)
      || s.tasks.any (fun (u : Task) => decide (u.part = t.part) && decide (u.tick = t.tick) && decide (u.stage ≠ 4))) }

/-- Tasks that run at the end of a window which ends with the tick (R402). -/
def State.edgeWindows (s : State) : State :=
  (List.range 8).foldl (fun s p => (List.range 15).foldl (fun s e => match s.window p e with
    | some w => if w.2 = 0xFFFFFFFF then s.countWindow p e else s
    | none => s) s) s

/-! ### Handles (R140, R143) -/

/-- A bind of a plan, or of the work of a spare core: it waits where the control core of the cluster restarts or has failed (R140, R394). -/
def State.bindFor (s : State) (x : Nat × Nat × Nat × Nat × Nat × Nat × Nat) : State :=
  if s.away (3 + x.1 / 8) then { s with fw := { s.fw with bindDue := s.fw.bindDue ++ [(x.1, [x.2.1, x.2.2.1, x.2.2.2.1, x.2.2.2.2.1, x.2.2.2.2.2.1, x.2.2.2.2.2.2])] } } else s.bindHandle x

/-- The entries that a plan has bound, on substitutes too: core and handle. -/
def Plan.holds (pl : Plan) : List (Nat × Nat) :=
  pl.moved.foldl (fun bs m => bs ++ (bs.filter (fun x => decide (x.1 = m.1))).map (fun x => (m.2, x.2)))
    (pl.binds.map (fun x => (x.1, x.2.1)))

/-- Handle-table entries released; a bind of one that still waits is dropped. -/
def State.releaseHandles (s : State) (hs : List (Nat × Nat)) : State :=
  let late (b : Nat × List Nat) : Bool := hs.any (fun x => decide (x.1 = b.1) && decide (x.2 = b.2.getD 0 64))
  hs.foldl (fun s x =>
    let p := s.pad x.1
    s.setPad x.1 { p with handles := kput p.handles x.2 { p.handle x.2 with bound := false } })
    { s with fw := { s.fw with bindDue := s.fw.bindDue.filter (fun b => !late b) } }

/-- QUAR clears at the tick edge after the bind (R143). -/
def State.endQuarantine (s : State) : State :=
  { s with pads := s.pads.map (fun (e : Nat × PadSt) =>
      (e.1, { e.2 with handles := e.2.handles.map (fun h => (h.1, { h.2 with quar := false })) })) }

/-! ### Queues (R184, R185) -/

/-- A queue bound; one bound the same way already keeps its rings. -/
def State.bindQueue (s : State) (p : Nat) (b : Binding) : State :=
  let x := s.queue b.queue
  if x.bind = some b ∧ x.part = p then s.setQueue b.queue { x with was := none }
  else s.setQueue b.queue { queue0 with bind := some b, part := p, done := x.done, aborts := x.aborts, dropped := x.dropped,
                                        refused := x.refused, was := if x.bind.isSome then x.ring else x.was }

/-- The rings of the plan before the replaced one are forgotten: its entries are over, and the replaced plan's own records go to the rings that
its queues are bound to (R194). -/
def State.dropRings (s : State) (p : Nat) : State :=
  { s with queues := s.queues.map (fun (e : Nat × QueueSt) =>
      if e.2.part = p ∧ e.2.bind.isSome = true then (e.1, { e.2 with was := none }) else e) }

/-- The queues of a partition unbound, but for those in `keep`. -/
def State.unbindQueues (s : State) (p : Nat) (keep : List Nat) : State :=
  { s with queues := s.queues.map (fun (e : Nat × QueueSt) =>
      if e.2.part = p ∧ e.2.bind.isSome = true ∧ e.1 ∉ keep then (e.1, { e.2 with bind := none, was := e.2.ring }) else e) }

/-! ### Plan states (R27, R49, R50) -/

/-- CORE_STATE of a partition's cores under a plan: its spares, and the others in service; none is spare without a plan (R126). -/
def State.planCores (s : State) (p : Nat) (spares : List Nat) : State :=
  (List.range 32).foldl (fun s c =>
    if s.coreIn p c ∧ s.reg (0x5000 + c) 1 ≠ 2 then s.setReg (0x5000 + c) 1 (if c ∈ spares then 1 else 0) else s) s

/-- The entries of the plan in force become those of a replaced or released one. -/
def State.ageTasks (s : State) (p : Nat) : State :=
  { s with tasks := s.tasks.map (fun (t : Task) => if t.part = p ∧ t.maint.isNone = true then { t with old := true } else t) }

/-- Before a partition's first plan starts, its context store is filled with zeros (R333), and its ranges are cut (R335). -/
def State.primeContexts (s : State) (p : Nat) : State :=
  if (s.planSt p).primed then s
  else
    let base := s.rangeAddr p (64 * s.reg (0x3100 + p) 12)
    let len := 64 * s.reg (0x3100 + p) 11
    ({ s.setPlanSt p { s.planSt p with primed := true } with
      ddr := outside s.ddr base len, ctxCache := s.ctxCache.filter (fun l => !s.ctxIn p l.ctx),
      ctxUndef := s.ctxUndef.filter (fun x => !s.ctxIn p x), faults := { s.faults with poisoned := outside s.faults.poisoned (base / 64) (len / 64) } } : State).cutRanges p

/-- Flagged units of a partition retired at the edge at which its next plan takes effect (R460). -/
def State.retireFlagged (s : State) (p : Nat) : State :=
  (List.range 0x2F).foldl (fun s u =>
    if s.reg (0x8100 + u) 4 ≠ 1 ∨ s.unitServes u = false then s
    else if isCore u then (if s.coreIn p u then (s.retireCore u 4).marginEvent u 2 s.avsTarget else s)
    else if (s.window p (u - 0x20)).isSome then (s.retireEngine u 4).marginEvent u 2 s.avsTarget else s) s

/-- A new plan that takes effect sets the self-test cursors of its cores to 0; a background pass on one of them ends with its slice, and slots of
the old plan no longer move them (R437). -/
def State.resetCursors (s : State) (p : Nat) : State :=
  let s := (List.range 32).foldl (fun s c => if s.coreIn p c then (s.setCore c { s.core c with cursor := 0 }).setReg (0x7100 + c) 3 0 else s) s
  { s with tasks := s.tasks.map (fun (t : Task) =>
      if t.redo = 3 ∧ t.stage = 2 ∧ s.coreIn p t.node.res = true then { t with stop := true } else t) }

/-- The waiting plan of a partition enters CHANGEOVER (R27, R50), and OD 211p.01 names it from then on (log 77). -/
def State.enterChangeover (s : State) (p : Nat) : State :=
  let x := s.planSt p
  match x.waiting with
  | none => s
  | some pl =>
    let spares := (spareCores pl).filter (fun c => decide (s.reg (0x5000 + c) 1 ≠ 2))
    let s := if x.cur.isSome then ((s.ageTasks p).dropRings p).ageSection p else s.dropSection p
    let s := s.setPlanSt p { x with waiting := none, cur := some pl, old := x.cur, changeTick := s.tickCount }
    let s := ((s.setReg (0x2110 + p) 1 pl.planId).setReg (0x2110 + p) 2 2).setReg (0x2110 + p) 6 spares.length
    let s := s.planCores p spares
    let s := pl.binds.foldl State.bindFor s
    let s := s.resetCursors p
    let olds : List Nat := match x.cur with
      | some (o : Plan) => o.bindings.map (fun (b : Binding) => b.queue)
      | none => []
    let s := (pl.bindings.filter (fun (b : Binding) => decide (b.queue ∉ olds))).foldl (fun (s : State) b => s.bindQueue p b) s
    let s := { s with faults := { s.faults with
      dead := s.faults.dead.filter (fun e => decide (e.1 / 256 ≠ p)), consumed := s.faults.consumed.filter (fun e => !s.coreIn p e.1) } }
    let s := s.primeContexts p
    let s := ((List.range 64).filter (fun st => s.portIn p (st / 4))).foldl State.paramWrite s
    s.retireFlagged p

/-- The replaced plan is released (R27, R140, R424). -/
def State.releaseOld (s : State) (p : Nat) : State :=
  let x := s.planSt p
  match x.old with
  | none => s
  | some o =>
    let keep := match x.cur with
      | some pl => pl.holds
      | none => []
    let s := s.releaseHandles (o.holds.filter (fun h => decide (h ∉ keep)))
    (s.setPlanSt p { x with old := none, gone := some o }).dropSection (8 + p)

/-- The plan in force runs alone: its queues are bound and no others. -/
def State.ownQueues (s : State) (p : Nat) : State :=
  match (s.planSt p).cur with
  | none => s
  | some pl => pl.bindings.foldl (fun s b => s.bindQueue p b) (s.unbindQueues p (pl.bindings.map (fun (b : Binding) => b.queue)))

/-- A stop takes effect: DRAINING (R49). -/
def State.enterDraining (s : State) (p : Nat) : State := (s.setReg (0x2110 + p) 2 4).setReg (0x2100 + p) 4 1

/-- A stopped plan is released: NONE (R49, R50). -/
def State.enterNone (s : State) (p : Nat) : State :=
  let x := s.planSt p
  let s := match x.cur with
    | some pl => s.releaseHandles pl.holds
    | none => s
  let s := ((((s.setPlanSt p { x with cur := none, gone := x.cur }).ageTasks p).unbindQueues p []).dropSection p).writeBack p true
  let s := (((s.setReg (0x2110 + p) 1 0).setReg (0x2110 + p) 2 0).setReg (0x2110 + p) 6 0).deviceClear 0 (0x2100 + p) 4 (some p)
  s.planCores p []

/-- A partition's plans at an edge. `stop` says that a committed stop takes effect. -/
def State.planEdge (s : State) (p : Nat) (stop : Bool) : State :=
  let st := s.planState p
  if st = 1 then (if stop && (s.planSt p).cur.isSome then s.enterDraining p else s.enterChangeover p)
  else if st = 2 then
    (let s := (s.releaseOld p).ownQueues p
     if stop then s.enterDraining p else (s.setReg (0x2110 + p) 2 3).setReg (0x2110 + p) 7 s.tickCount)
  else if st = 3 then (if stop then s.enterDraining p else s)
  else if st = 4 then (s.enterNone p).enterChangeover p
  else s

/-! ### Work of retired units (R142, R181, R456) -/

/-- A word of a section changed. -/
def putWord (sec : List Byte) (off v : Nat) : List Byte := overlay sec off (leBytes 4 v)

/-- The owner tables with work on core `f` moved to core `g` (R181), and the nodes whose destination cores changed. -/
def moveOwners (sec : List Byte) (f g : Nat) : List Byte × List (Nat × Nat) :=
  (ownerTables sec).foldl (fun (a : List Byte × List (Nat × Nat)) t =>
    (List.range t.entries).foldl (fun (a : List Byte × List (Nat × Nat)) i =>
      let o := t.offset + 64 * i
      let e := ownerEntry a.1 o
      let b := if e.srcKind = 0 ∧ e.srcCore = f then putWord a.1 o (wordAt (slice a.1 o 4) 0 - 4 * f + 4 * g) else a.1
      if e.dstCore = f then (putWord b (o + 4) (wordAt (slice b (o + 4) 4) 0 - f + g), (t.node, g) :: a.2) else (b, a.2)) a) (sec, [])

/-- A plan with the work of unit `f` moved to `g`: nodes but for self-test slots, bindings, owner tables. A re-shard node with a
destination outside the cluster of its DMA unit moves to DMA4. -/
def movePlan (f g : Nat) (pl : Plan) : Plan :=
  let ow := if isCore f then moveOwners (planSection pl 7) f g else (planSection pl 7, [])
  let node (n : Nat) (x : PNode) : PNode :=
    if x.res = f ∧ x.kind ≠ 12 then { x with res := g }
    else if x.kind = 9 ∧ x.res < 0x34 ∧ ow.2.any (fun e => decide (e.1 = n) && decide (e.2 / 8 ≠ x.res - 0x30)) = true then
      { x with res := 0x34 }
    else x
  { pl with
    nodes := pl.numbered.map (fun e => node e.1 e.2), bindings := pl.bindings.map (fun b => if b.res = f then { b with res := g } else b),
    sections := pl.sections.map (fun e => if e.1 = 7 then (7, ow.1) else e), moved := pl.moved ++ [(f, g)] }

/-- The programs of the moved nodes with the generations of the spare's handles (R142): in the program region. -/
def State.movePrograms (s : State) (pl : Plan) (f g : Nat) : State :=
  let base := Config.programPlace pl.part (planSection pl 5)
  let offs := (((pl.numbered.filter (fun x => decide (x.2.res = f) && decide (x.2.kind ≠ 12))).flatMap (fun x =>
    (pl.program x.1).map (fun d => d.1)))).eraseDups
  let gen (c h : Nat) : Nat := if c = f then ((s.pad g).handle h).gen + 4096 - ((s.pad f).handle h).gen else 0
  offs.foldl (fun s o => s.ddrWrite (base + 64 * o) (fixTod gen f (s.ddrRead (base + 64 * o) 64))) s

/-- The bindings of a plan on a core, on which earlier moves may have put others' work. -/
def Plan.bindsOn (pl : Plan) (c : Nat) : List (Nat × Nat × Nat × Nat × Nat × Nat × Nat) :=
  (pl.moved.foldl (fun bs m => bs ++ (bs.filter (fun x => decide (x.1 = m.1))).map (fun x => (m.2, x.2))) pl.binds).filter
    (fun x => decide (x.1 = c))

/-- The work of a plan on unit `f` moves to `g`: handles, programs, queues. -/
def State.moveWork (s : State) (p : Nat) (pl : Plan) (f g : Nat) : State :=
  let s := if isCore f then (((pl.bindsOn f).map (fun x => (g, x.2))).foldl State.bindFor s).movePrograms pl f g else s
  { s with queues := s.queues.map (fun (e : Nat × QueueSt) => if e.2.part = p then
      (e.1, { e.2 with bind := e.2.bind.map (fun b => if b.res = f then { b with res := g } else b) }) else e) }

/-- A unit's work in the plans of a partition moved as R456 says; where no entry applies, the unit's nodes are cancelled from now on. -/
def State.moveUnit (s : State) (p f : Nat) : State :=
  let x := s.planSt p
  let goal (o : Option Plan) : Option (Plan × Option Nat) :=
    o.bind (fun pl => if carriesWork pl f then some (pl, s.substituteFor pl f) else none)
  let now' := goal x.cur
  let old' := goal x.old
  let move (s : State) (e : Option (Plan × Option Nat)) : State :=
    match e with
    | some (pl, some g) => s.moveWork p pl f g
    | _ => s
  let after (e : Option (Plan × Option Nat)) (o : Option Plan) : Option Plan :=
    match e with
    | some (pl, some g) => some (movePlan f g pl)
    | _ => o
  let gs := ([now', old'].filterMap (fun e => e.bind (fun y => y.2))).eraseDups
  let s := move (move s now') old'
  let s := s.setPlanSt p { s.planSt p with cur := after now' x.cur, old := after old' x.old }
  let s := (gs.filter isCore).foldl (fun s g =>
    let s := (s.setReg (0x5000 + g) 1 0).setReg (0x2110 + p) 6 (s.reg (0x2110 + p) 6 - 1)
    { s with faults := { s.faults with consumed := kput s.faults.consumed g true } }) s
  match now' with
  | some (_, none) => { s with faults := { s.faults with dead := kput s.faults.dead (256 * p + f) true } }
  | _ => s

/-- The units whose work moves at an edge: those put down for it in the order of their retirement, and those that were retired, or lost rows, before
a plan with work on them took effect. -/
def State.movable (s : State) : List Nat :=
  s.faults.toMove ++ (List.range 0x2F).filter (fun r =>
    (s.resRetired r || (isCore r && decide (s.reg (0x8100 + r) 8 ≠ 0))) && !s.faults.toMove.contains r)

/-- Does the work of a partition on a unit move: is the unit retired, or does a plan that runs bind a handle over rows withdrawn there (R451)? -/
def State.mustMove (s : State) (p r : Nat) : Bool :=
  s.resRetired r || (isCore r && ((s.planSt p).cur.toList ++ (s.planSt p).old.toList).any (fun pl =>
    (pl.bindsOn r).any (fun x => (List.range x.2.2.2.1).any (fun i => s.rowWithdrawn r (x.2.2.1 + i)))))

/-- The moves of an edge, of the units that were retired before it. They are SCH's, and wait while it does not serve (R394, R456). -/
def State.moveAll (s : State) (units : List Nat) : State :=
  if s.proc 2 ≠ 1 then s
  else
    let s := (List.range 8).foldl (fun s p => units.foldl (fun s r =>
      if kget false s.faults.dead (256 * p + r) ∨ s.mustMove p r = false then s else s.moveUnit p r) s) s
    { s with faults := { s.faults with
        toMove := s.faults.toMove.filter (fun r => !units.contains r),
        claimed := s.faults.claimed.filter (fun e => !units.contains e.2) } }

/-! ### Pages (R452) -/

/-- The address of a page of the remap pool: the spare granule lies above the capacity in use. -/
def State.poolAddr (s : State) (i : Nat) : Nat := s.capacityUsed + 4096 * i

/-- Blocks of a page with poison, marked or unmarked. -/
def State.setPoison (s : State) (block : Nat) (bad : Bool) : State :=
  { s with faults := { s.faults with
      poisoned := if bad then kput s.faults.poisoned block true else kdel s.faults.poisoned block } }

/-- A page copied to its pool page. Whether a block fails its check in the copy is free (log 21). -/
def State.copyPage (s : State) (e : Nat × Nat) : State :=
  let from' := 4096 * e.1
  let to' := s.poolAddr e.2
  let n := s.free
  let bad (k : Nat) : Bool := kget false s.faults.poisoned (from' / 64 + k) || Config.freeBit (n + k)
  let s := s.ddrWrite to' (s.ddrRead from' 4096)
  let s := (List.range 64).foldl (fun s k => s.setPoison (to' / 64 + k) (bad k)) s
  { s with free := n + 64 }

/-- From the edge on the page's addresses show the pool page. -/
def State.remapPage (s : State) (e : Nat × Nat) : State :=
  let from' := s.poolAddr e.2
  let to' := 4096 * e.1
  let bad (k : Nat) : Bool := kget false s.faults.poisoned (from' / 64 + k)
  let s := s.ddrWrite to' (s.ddrRead from' 4096)
  (List.range 64).foldl (fun s k => s.setPoison (to' / 64 + k) (bad k)) s

/-! ### The tick that begins (R17, R26, R187, R265, R456) -/

/-- A node's entry in the tick that begins. A node of the processing half whose stream has no frame is skipped; one on a unit that is
retired, or whose work found no substitute, is cancelled, and a self-test slot there is skipped. -/
def State.openNode (s : State) (p : Nat) (pl : Plan) (old proc : Bool) (n : Nat) (x : PNode) : State :=
  let id := s.nextId
  let off := s.resRetired x.res || kget false s.faults.dead (256 * p + x.res)
  let s := s.addTask { task0 with part := p, num := n, node := x, old := old, tick := s.tickCount, edge := s.edgeAt, prog := s.nodeProg pl n }
  if off then (if x.kind = 12 then s.skipNode id else (s.cancelNode id true).bump 64 (0x2130 + p) 3 1)
  else if proc && x.bound && (klook s.frames x.stream).isNone then s.skipNode id
  else s

/-- Stripes that a smaller frame leaves without work (R265). -/
def State.idleFrames (s : State) (p : Nat) (pl : Plan) (old : Bool) : State :=
  s.frames.foldl (fun s (e : Nat × FrameInfo) =>
    if (pl.slots.getD e.1 (slotOf [] 0)).inl then s
    else
      let idle := idleStripes pl e.1 e.2.h
      (s.tasks.filter (fun (t : Task) => decide (t.part = p) && (t.old == old) && decide (t.tick = s.tickCount) && decide (t.num ∈ idle)
        && t.maint.isNone && t.ring.isNone && decide (t.redo = 0) && !t.ended)).foldl (fun s t => s.endIdle t.id) s) s

/-- The entries of one half of a plan, or of both. -/
def State.openHalf (s : State) (p : Nat) (pl : Plan) (old intake proc : Bool) : State :=
  let s := pl.numbered.foldl (fun s e =>
    let i := intakeHalf e.2
    if (i && intake) || (!i && proc) then s.openNode p pl old (!i) e.1 e.2 else s) s
  if proc then s.idleFrames p pl old else s

/-- The entries of a partition in the tick that begins (R27, R49, R50). -/
def State.openEntries (s : State) (p : Nat) : State :=
  let x := s.planSt p
  let half (s : State) (o : Option Plan) (old intake proc : Bool) : State :=
    match o with
    | some pl => s.openHalf p pl old intake proc
    | none => s
  let st := s.planState p
  if st = 2 then half (half s x.old true false true) x.cur false true false
  else if st = 3 then half s x.cur false true true
  else if st = 4 then half s x.cur false false true
  else s

/-! ### What each tick starts anew -/

/-- Counts of the tick that end with it, and channels that return to service (R191, R222, R335, R402, R445, R449, R397). -/
def State.clearTick (s : State) : State :=
  { s with
    faults := { s.faults with transients := [], raised := [], redoCount := [] }, winDone := [],
    elog := { s.elog with traces := [] }, queues := s.queues.map (fun (e : Nat × QueueSt) => (e.1, { e.2 with used := 0 })),
    chans := s.chans.map (fun (e : Nat × Chan) => (e.1, { e.2 with halted := false })) }

/-- Objects that show what stood at the edge: OD 541u.04, PARAM_CURRENT, FSYNC_OFFSET, OD 53rr.06 (R37, R197, R225, R270). -/
def State.showEdge (s : State) : State :=
  let s := (List.range 6).foldl (fun s u =>
    s.setReg (0x5410 + u) 4 ((List.range 32).filter (fun c => (s.chan u c).task.isSome || s.sideHeld u c)).length) s
  let s := (List.range 64).foldl (fun s st =>
    let a := s.bufAddr st (fun b => b.param)
    if a = 0 then s else s.setBlob (stIdx st 0x0D) 3 (s.ddrRead a 64)) s
  let s := (List.range 16).foldl (fun s n =>
    s.setReg (0x2010 + n) 1 (match (s.portPart n).bind (fun p => s.shownPlan p) with
      | some pl => (pl.ports.getD n (portOf [] 0)).tsync
      | none => 0)) s
  let s := (List.range 15).foldl State.settleEng s
  (List.range 0x50).foldl (fun s r => (s.settleRes r).countReady r) s

/-- FSYNC pins at an edge: a pulse that is still up ends (R38), and the pin rests at its inactive level (R37). -/
def State.restFsync (s : State) (n : Nat) : State :=
  s.setPort n { s.port n with fsync := decide (s.reg (0x2010 + n) 3 = 1), fsyncUp := false }

/-- Values as partition owners read them in the tick that begins. -/
def State.latchAll (s : State) : State :=
  { s with dict := { s.dict with
      latched := s.dict.num, latchedB := s.dict.blob,
      latchedV := s.dict.blob.foldl (fun m e => if klook s.dict.latchedB e.1 = some e.2 then m else kmod 0 m e.1 (· + 1)) s.dict.latchedV } }

/-! ### The edge -/

/-- The tick unit at an edge at cycle `c` (R31, R35). `src` is OD 2001.04, `fly` says that the unit made the edge itself.
OD 2001.04 changes here alone (log 77). -/
def State.countTick (s : State) (c src : Nat) (fly : Bool) : State :=
  let s := match s.tick.lastEdge with
    | some e => s.setReg 0x2001 3 (min (c - e) (2 ^ 32 - 1))
    | none => s
  let s := ((s.bump 64 0x2001 1 1).setReg 0x2001 2 c).setReg 0x2001 4 src
  let s := if fly then s.bump 32 0x2001 5 1 else s
  { s with tick := { s.tick with lastEdge := some c, run := if fly then s.tick.run + 1 else 0, lost := fly && s.tick.lost, guard := false,
                                 hostDue := none } }

/-- The writes of committed transactions take effect (R33, R82). -/
def State.applyEffects (s : State) : State :=
  let effs := s.dict.effects
  effs.foldl (fun s e => s.applyWrites e.fn e.writes) { s with dict := { s.dict with effects := [] } }

/-- The partitions whose stop takes effect. -/
def State.stopsDue (s : State) : List Nat := (List.range 8).filter (fun p => s.dict.effects.any (fun e => stopsPlan e.writes p))

/-- The tick ends: its frames, its verdict, its entries. `c`, `src` and `fly` as in `countTick`. -/
def State.endTick (s : State) (c src : Nat) (fly : Bool) : State :=
  let ended := s.tickCount
  let silent := (List.range 64).filter (fun st => !(s.stream st).seen)
  let cut := (List.range 64).filter (fun st => (s.stream st).cur.isSome)
  let s := ((s.edgeWindows.cutFrames).countMissed).endVerdict
  { ((s.countTick c src fly).endEntries ended silent cut).dropTasks with ctxFreed := [] }

/-- Changes take effect: writes, plan states, what PMC does, moves, pages (R33, R50, R452, R456, R459). -/
def State.changeTick (s : State) (env : Readings) : State :=
  let stops := s.stopsDue
  let units := s.movable
  let s := s.faults.copied.foldl State.remapPage { s with faults := { s.faults with copied := [] } }
  let s := s.applyEffects.endQuarantine
  let s := (List.range 8).foldl (fun s p => s.planEdge p (stops.contains p)) s
  let s := (s.powerEdge env).moveAll units
  (List.range 8).foldl State.loadSection s

/-- The Frame Starts that ended in the edge's cycle belong to the tick that begins (R18). -/
def State.openEarly (s : State) : State :=
  (List.range 16).foldl (fun s n =>
    let es := (s.port n).early
    if es.isEmpty then s
    else es.foldl (fun s e => s.frameStart n e.1 e.2) (s.setPort n { s.port n with early := [] })) s

/-- Frame Starts that wait for an edge begin their frames where none is due any more (R18). -/
def State.openUndue (s : State) : State := if s.edgeDue then s else s.openEarly

/-- The watchdog of processor `x` kicked since, each time after half its period. Whether a firmware kicks it is free (R392, R396; log 30). -/
def State.kick (s : State) (x : Nat) : State :=
  match klook s.fw.watchdog x with
  | none => s
  | some w =>
    let half := msCycles (wdtMs x) / 2
    let n := (s.now - w) / half
    if n = 0 ∨ s.proc x ≠ 1 then s
    else
      let d := s.draw
      let kicks := Config.freeBit d.1
      let s : State := { d.2 with fw := { d.2.fw with watchdog := kput d.2.fw.watchdog x (if kicks then w + n * half else w) } }
      if s.reg 0x2054 4 < 3 then s else (List.range (if kicks then n else 0)).foldl (fun s _ => s.trace x none 5) s

/-- The tick begins: frames, pins, entries, SAFE_N, what is shown and latched. -/
def State.startTick (s : State) (ended : Nat) : State :=
  let s := s.clearTick
  let s := (List.range 16).foldl (fun s n => s.drainFe n (s.port n).work.length) s
  let s := (s.shiftFrames ended).dropOldFrames
  let s := (List.range 16).foldl State.restFsync s
  let s := (List.range 8).foldl State.openEntries s
  let s := (List.range 9).foldl State.kick s
  (((s.startVerdict.trace 2 none 1).showEdge).latchAll).openEarly

/-- A tick edge at cycle `c`. -/
def State.makeEdge (s : State) (c src : Nat) (fly : Bool) (env : Readings) : State :=
  let ended := s.tickCount
  ((((List.range 32).foldl State.padRun (s.at c)).endTick c src fly).changeTick env).startTick ended

end Sys2Proof.Machine
end

