-- ==== Sys2Proof/Machine/Tick.lean ====
section
/-! DEFINITION. The tick unit's rows (02 R29–R38): edges by source, the flywheel, the guard interval, FSYNC. -/

namespace Sys2Proof.Machine

/-- TICK_EDGE (R29): the internal generator's edge, at its cycle. The edge that an accepted write of OD 2000.05 has made due comes here too,
3 cycles after the acceptance (log 17). -/
def execTickEdge (t : Nat) (env : Readings) (s : State) : Out :=
  whileLive t s (fun s =>
    if s.tickOn = false then s
    else
      match s.tick.hostDue with
      | some c => if c ≤ s.now then s.makeEdge c 2 false env else s
      | none => if s.reg 0x2000 1 = 0 ∧ s.innerDue ≤ s.now then s.makeEdge s.innerDue 0 false env else s)

/-- TICK_IN_EDGE (R29, R31): a transition of TICK_IN to `level` at cycle `t`. The selected one makes an edge 3 cycles later, or is ignored as
early. The command stands in the queue where its edge comes: what has come in those cycles stands before it (log 17). A Frame Start that has
waited for an edge which does not come begins its frame now (R18). -/
def execTickInEdge (t : Nat) (level : Bool) (env : Readings) (s : State) : Out :=
  let moved := decide (level ≠ s.tick.tickIn)
  whileLive t { s with tick := { s.tick with tickIn := level } } (fun s =>
    if moved && s.tickOn && decide (s.reg 0x2000 1 = 1) && decide (level = decide (s.reg 0x2000 4 = 0)) then
      (if s.tooEarly (max s.now (t + 3)) then (s.bump 32 0x2001 6 1).openUndue else s.makeEdge (max s.now (t + 3)) 1 false env)
    else s.openUndue)

/-- HOST_TICK (R31, R62): a write of OD 2000.05, and where it is accepted the edge 3 cycles later. An edge that an earlier write has made due
stays TICK_EDGE's. -/
def execHostTick (t : Nat) (c : Caller) (r : Req) (env : Readings) (s : State) : Out :=
  whileLive t s (fun s =>
    let v := s.serve (callerFn c) 2 (reqFor r 0x2000 5)
    if s.tick.hostDue.isNone && v.tick.hostDue.isSome then v.makeEdge (max s.now (t + 3)) 2 false env else v.openUndue)

/-- FLYWHEEL_TICK (R31): the source has made no edge by 101 % of P_nom. A host's edge that comes at that cycle or before is the source's. -/
def execFlywheelTick (t : Nat) (env : Readings) (s : State) : Out :=
  whileLive t s (fun s =>
    match s.flyDue with
    | none => s
    | some due =>
      if s.tickOn && decide (s.reg 0x2000 1 ≠ 0) && decide (due ≤ s.now) && s.tick.hostDue.isNone then s.makeEdge due 3 true env else s)

/-- TICK_SOURCE_LOST (R31): the third flywheel tick of a run raises the event, once. -/
def execTickSourceLost (t : Nat) (s : State) : Out :=
  whileLive t s (fun s =>
    if 3 ≤ s.tick.run ∧ s.tick.lost = false then
      { s.raiseEvent 0x10 none 0 (s.reg 0x2001 4) 0 0 with tick := { s.tick with lost := true } }
    else s)

/-- GUARD_INTERVAL_START (R36, R452, R458): 96 % of the tick is reached. Retired pages are copied, and PMC makes its step. -/
def execGuardIntervalStart (t : Nat) (s : State) : Out :=
  whileLive t s (fun s =>
    if s.tick.lastEdge.isSome && !s.tick.guard && decide (s.limitL ≤ s.sinceEdge) then
      let s : State := { s with tick := { s.tick with guard := true } }
      let pages := s.faults.toCopy
      let s := pages.foldl State.copyPage { s with faults := { s.faults with toCopy := [], copied := s.faults.copied ++ pages } }
      s.replanStep
    else s)

/-- FSYNC_ASSERT (R37): the port's offset after the edge is reached, once in a tick. -/
def execFsyncAssert (t : Nat) (n : PortId) (s : State) : Out :=
  whileLive t s (fun s =>
    let i := 0x2010 + n.val
    if s.tick.lastEdge.isSome && decide (s.reg i 4 = 1) && !(s.port n.val).fsyncUp && decide (s.reg i 1 ≤ s.sinceEdge) then
      s.setPort n.val { s.port n.val with fsync := decide (s.reg i 3 = 0), fsyncAt := s.edgeAt + s.reg i 1, fsyncUp := true }
    else s)

/-- FSYNC_DEASSERT (R37, R38): the width has passed. An edge ends a pulse by itself. -/
def execFsyncDeassert (t : Nat) (n : PortId) (s : State) : Out :=
  whileLive t s (fun s =>
    let i := 0x2010 + n.val
    if (s.port n.val).fsyncUp && decide ((s.port n.val).fsyncAt + s.reg i 2 ≤ s.now) then
      s.setPort n.val { s.port n.val with fsync := decide (s.reg i 3 = 1) }
    else s)

end Sys2Proof.Machine
end

