-- ==== Sys2Proof/Machine/Dispatch.lean ====
section
/-! DEFINITION. One arm for each command: a direct call of its meaning. -/

namespace Sys2Proof.Machine

/-- The effect of a command on everything but the queue. -/
def exec (i : Instr) (s : State) : Host.Outcome State Fault Refusal :=
  match i with
  | .tickEdge t env => Sys2Proof.Machine.execTickEdge t env s
  | .tickInEdge t level env => Sys2Proof.Machine.execTickInEdge t level env s
  | .hostTick t c r env => Sys2Proof.Machine.execHostTick t c r env s
  | .flywheelTick t env => Sys2Proof.Machine.execFlywheelTick t env s
  | .tickSourceLost t => Sys2Proof.Machine.execTickSourceLost t s
  | .guardIntervalStart t => Sys2Proof.Machine.execGuardIntervalStart t s
  | .fsyncAssert t n => Sys2Proof.Machine.execFsyncAssert t n s
  | .fsyncDeassert t n => Sys2Proof.Machine.execFsyncDeassert t n s
  | .nodeRelease t p node => Sys2Proof.Machine.execNodeRelease t p node s
  | .nodeEligible t p node => Sys2Proof.Machine.execNodeEligible t p node s
  | .taskSelect t r => Sys2Proof.Machine.execTaskSelect t r s
  | .hostTaskMaxCycles t c => Sys2Proof.Machine.execHostTaskMaxCycles t c s
  | .todFetch t c => Sys2Proof.Machine.execTodFetch t c s
  | .todStart t c => Sys2Proof.Machine.execTodStart t c s
  | .todComplete t c => Sys2Proof.Machine.execTodComplete t c s
  | .taskComplete t q => Sys2Proof.Machine.execTaskComplete t q s
  | .scratchpadRequest t c reqs => Sys2Proof.Machine.execScratchpadRequest t c reqs s
  | .remoteNarrowRequest t initiator tag c h gen off a => Sys2Proof.Machine.execRemoteNarrowRequest t initiator tag c h gen off a s
  | .rawNarrowAccess t initiator c word a => Sys2Proof.Machine.execRawNarrowAccess t initiator c word a s
  | .rowValidClearDone t c => Sys2Proof.Machine.execRowValidClearDone t c s
  | .dmaDescriptorLoad t u ch => Sys2Proof.Machine.execDmaDescriptorLoad t u ch s
  | .dmaShadowActivate t u ch => Sys2Proof.Machine.execDmaShadowActivate t u ch s
  | .dmaReadData t u ch hostData => Sys2Proof.Machine.execDmaReadData t u ch hostData s
  | .dmaWriteLanded t u ch => Sys2Proof.Machine.execDmaWriteLanded t u ch s
  | .dmaBusError t u ch cause => Sys2Proof.Machine.execDmaBusError t u ch cause s
  | .dmaBusTimeout t u ch => Sys2Proof.Machine.execDmaBusTimeout t u ch s
  | .dmaRetryReissue t u ch => Sys2Proof.Machine.execDmaRetryReissue t u ch s
  | .reshardEntryEnd t u ch => Sys2Proof.Machine.execReshardEntryEnd t u ch s
  | .maintYield t u ch => Sys2Proof.Machine.execMaintYield t u ch s
  | .maintResume t u ch => Sys2Proof.Machine.execMaintResume t u ch s
  | .facetDescriptorActivate t e => Sys2Proof.Machine.execFacetDescriptorActivate t e s
  | .facetProgressFlag t e => Sys2Proof.Machine.execFacetProgressFlag t e s
  | .facetDescriptorEnd t e => Sys2Proof.Machine.execFacetDescriptorEnd t e s
  | .refinePassStart t e => Sys2Proof.Machine.execRefinePassStart t e s
  | .refineTileStart t e => Sys2Proof.Machine.execRefineTileStart t e s
  | .trackActivate t => Sys2Proof.Machine.execTrackActivate t s
  | .trackContextUpdate t => Sys2Proof.Machine.execTrackContextUpdate t s
  | .trackAllocate t => Sys2Proof.Machine.execTrackAllocate t s
  | .flagWaitPoll t c => Sys2Proof.Machine.execFlagWaitPoll t c s
  | .flagWaitExpired t c => Sys2Proof.Machine.execFlagWaitExpired t c s
  | .flagWaitCopyDone t c => Sys2Proof.Machine.execFlagWaitCopyDone t c s
  | .portHsRequest t n => Sys2Proof.Machine.execPortHsRequest t n s
  | .frameStart t n pk fn => Sys2Proof.Machine.execFrameStart t n pk fn s
  | .frameEnd t n pk fn => Sys2Proof.Machine.execFrameEnd t n pk fn s
  | .lineStartEnd t n pk isEnd line => Sys2Proof.Machine.execLineStartEnd t n pk isEnd line s
  | .longPacket t n pk dt payload crcOk => Sys2Proof.Machine.execLongPacket t n pk dt payload crcOk s
  | .genericShortPacket t n pk dt data => Sys2Proof.Machine.execGenericShortPacket t n pk dt data s
  | .otherShortPacket t n pk dt data => Sys2Proof.Machine.execOtherShortPacket t n pk dt data s
  | .ulpsEntry t n => Sys2Proof.Machine.execUlpsEntry t n s
  | .laneFault t n pos code => Sys2Proof.Machine.execLaneFault t n pos code s
  | .portRecover t n => Sys2Proof.Machine.execPortRecover t n s
  | .streamLoss t st => Sys2Proof.Machine.execStreamLoss t st s
  | .feRowDone t st => Sys2Proof.Machine.execFeRowDone t st s
  | .statsRecordWrite t st => Sys2Proof.Machine.execStatsRecordWrite t st s
  | .glintCheckLatch t st seen => Sys2Proof.Machine.execGlintCheckLatch t st seen s
  | .inlineWindowRead t ch => Sys2Proof.Machine.execInlineWindowRead t ch s
  | .inlineRingRoom t n => Sys2Proof.Machine.execInlineRingRoom t n s
  | .i3cWriteDone t n => Sys2Proof.Machine.execI3cWriteDone t n s
  | .i3cNack t n => Sys2Proof.Machine.execI3cNack t n s
  | .i3cBusStuck t n => Sys2Proof.Machine.execI3cBusStuck t n s
  | .i3cRecoveryTimeout t n => Sys2Proof.Machine.execI3cRecoveryTimeout t n s
  | .i3cIbi t n hotJoin => Sys2Proof.Machine.execI3cIbi t n hotJoin s
  | .dasaAssignment t n => Sys2Proof.Machine.execDasaAssignment t n s
  | .read t c r => Sys2Proof.Machine.execRead t c r s
  | .write t c r => Sys2Proof.Machine.execWrite t c r s
  | .begin t c r => Sys2Proof.Machine.execBegin t c r s
  | .commit t c r => Sys2Proof.Machine.execCommit t c r s
  | .admissionDone t => Sys2Proof.Machine.execAdmissionDone t s
  | .commitComplete t => Sys2Proof.Machine.execCommitComplete t s
  | .rollback t c r => Sys2Proof.Machine.execRollback t c r s
  | .txnQuery t c r => Sys2Proof.Machine.execTxnQuery t c r s
  | .txnIdleExpiry t id => Sys2Proof.Machine.execTxnIdleExpiry t id s
  | .journalMirrorCopy t => Sys2Proof.Machine.execJournalMirrorCopy t s
  | .planImage t c p r => Sys2Proof.Machine.execPlanImage t c p r s
  | .planStop t c p r => Sys2Proof.Machine.execPlanStop t c p r s
  | .clearOverrun t c p r => Sys2Proof.Machine.execClearOverrun t c p r s
  | .clearCounts t c r => Sys2Proof.Machine.execClearCounts t c r s
  | .hostIfVersion t c r => Sys2Proof.Machine.execHostIfVersion t c r s
  | .functionIfVersion t c r => Sys2Proof.Machine.execFunctionIfVersion t c r s
  | .ringEnable t c r => Sys2Proof.Machine.execRingEnable t c r s
  | .journalRead t c r => Sys2Proof.Machine.execJournalRead t c r s
  | .logRead t c r => Sys2Proof.Machine.execLogRead t c r s
  | .abort t c r => Sys2Proof.Machine.execAbort t c r s
  | .maintDesc t c r => Sys2Proof.Machine.execMaintDesc t c r s
  | .quota t c st r => Sys2Proof.Machine.execQuota t c st r s
  | .retrain t c r => Sys2Proof.Machine.execRetrain t c r s
  | .keyWrite t c slot r => Sys2Proof.Machine.execKeyWrite t c slot r s
  | .evEnable t c r => Sys2Proof.Machine.execEvEnable t c r s
  | .resEnable t c r => Sys2Proof.Machine.execResEnable t c r s
  | .loadImage t c r => Sys2Proof.Machine.execLoadImage t c r s
  | .start t c r => Sys2Proof.Machine.execStart t c r s
  | .updateImage t c r => Sys2Proof.Machine.execUpdateImage t c r s
  | .updateCommit t c r => Sys2Proof.Machine.execUpdateCommit t c r s
  | .svnRaise t c r => Sys2Proof.Machine.execSvnRaise t c r s
  | .dumpRelease t c r => Sys2Proof.Machine.execDumpRelease t c r s
  | .restart t c x r => Sys2Proof.Machine.execRestart t c x r s
  | .safeClear t c r => Sys2Proof.Machine.execSafeClear t c r s
  | .listErase t c r => Sys2Proof.Machine.execListErase t c r s
  | .serviceNow t c r => Sys2Proof.Machine.execServiceNow t c r s
  | .reqSeq t f value => Sys2Proof.Machine.execReqSeq t f value s
  | .ack t f value => Sys2Proof.Machine.execAck t f value s
  | .overrunClear t f value => Sys2Proof.Machine.execOverrunClear t f value s
  | .mailboxDone t f => Sys2Proof.Machine.execMailboxDone t f s
  | .sqTail t f q value => Sys2Proof.Machine.execSqTail t f q value s
  | .cqHead t f q value => Sys2Proof.Machine.execCqHead t f q value s
  | .evTail t f value => Sys2Proof.Machine.execEvTail t f value s
  | .resTail t f value => Sys2Proof.Machine.execResTail t f value s
  | .registerWindowRead t f off len => Sys2Proof.Machine.execRegisterWindowRead t f off len s
  | .registerWindowWrite t f off => Sys2Proof.Machine.execRegisterWindowWrite t f off s
  | .registerWrite t f off bytes => Sys2Proof.Machine.execRegisterWrite t f off bytes s
  | .lpddr5ApertureAccess t f addr a => Sys2Proof.Machine.execLpddr5ApertureAccess t f addr a s
  | .scratchpadApertureAccess t f addr a => Sys2Proof.Machine.execScratchpadApertureAccess t f addr a s
  | .configRequest t f r => Sys2Proof.Machine.execConfigRequest t f r s
  | .vfEnable t n => Sys2Proof.Machine.execVfEnable t n s
  | .d3hotEntry t f => Sys2Proof.Machine.execD3hotEntry t f s
  | .flrVf t v => Sys2Proof.Machine.execFlrVf t v s
  | .flrPf t => Sys2Proof.Machine.execFlrPf t s
  | .hotReset t dlDown => Sys2Proof.Machine.execHotReset t dlDown s
  | .ucieModuleTrained t m rate => Sys2Proof.Machine.execUcieModuleTrained t m rate s
  | .linkTrainingRetry t => Sys2Proof.Machine.execLinkTrainingRetry t s
  | .dlUp t => Sys2Proof.Machine.execDlUp t s
  | .linkRetrain t => Sys2Proof.Machine.execLinkRetrain t s
  | .linkRetrainDone t u0 u1 => Sys2Proof.Machine.execLinkRetrainDone t u0 u1 s
  | .ideKeyProgram t session set sub tx key => Sys2Proof.Machine.execIdeKeyProgram t session set sub tx key s
  | .kSetGo t session set => Sys2Proof.Machine.execKSetGo t session set s
  | .ideMacFailure t => Sys2Proof.Machine.execIdeMacFailure t s
  | .ideRekey t sub => Sys2Proof.Machine.execIdeRekey t sub s
  | .ideHardLimit t sub => Sys2Proof.Machine.execIdeHardLimit t sub s
  | .getVersion t => Sys2Proof.Machine.execGetVersion t s
  | .getCapabilities t => Sys2Proof.Machine.execGetCapabilities t s
  | .negotiateAlgorithms t ecdsaP256 sha256 secp256r1 aesGcm => Sys2Proof.Machine.execNegotiateAlgorithms t ecdsaP256 sha256 secp256r1 aesGcm s
  | .getDigests t => Sys2Proof.Machine.execGetDigests t s
  | .getCertificate t slot offset length => Sys2Proof.Machine.execGetCertificate t slot offset length s
  | .challenge t slot nonce => Sys2Proof.Machine.execChallenge t slot nonce s
  | .getMeasurements t index => Sys2Proof.Machine.execGetMeasurements t index s
  | .keyExchange t session => Sys2Proof.Machine.execKeyExchange t session s
  | .finish t session macOk => Sys2Proof.Machine.execFinish t session macOk s
  | .keyUpdate t session => Sys2Proof.Machine.execKeyUpdate t session s
  | .heartbeat t session => Sys2Proof.Machine.execHeartbeat t session s
  | .endSession t session => Sys2Proof.Machine.execEndSession t session s
  | .respondIfReady t => Sys2Proof.Machine.execRespondIfReady t s
  | .dictRequest t id ext frame => Sys2Proof.Machine.execDictRequest t id ext frame s
  | .keySwitch t id ext frame => Sys2Proof.Machine.execKeySwitch t id ext frame s
  | .canFrameIgnored t id ext => Sys2Proof.Machine.execCanFrameIgnored t id ext s
  | .aedsyPartialTimeout t => Sys2Proof.Machine.execAedsyPartialTimeout t s
  | .aedsyRekeyDue t => Sys2Proof.Machine.execAedsyRekeyDue t s
  | .aedsyFreshLimit t => Sys2Proof.Machine.execAedsyFreshLimit t s
  | .aedsyStatusFrame t => Sys2Proof.Machine.execAedsyStatusFrame t s
  | .canTxComplete t => Sys2Proof.Machine.execCanTxComplete t s
  | .canBusOff t tec => Sys2Proof.Machine.execCanBusOff t tec s
  | .busoffDelayExpiry t => Sys2Proof.Machine.execBusoffDelayExpiry t s
  | .canRecovered t => Sys2Proof.Machine.execCanRecovered t s
  | .msixCoalesceExpiry t f v => Sys2Proof.Machine.execMsixCoalesceExpiry t f v s
  | .tickVector t f => Sys2Proof.Machine.execTickVector t f s
  | .eventOverflowEntry t f => Sys2Proof.Machine.execEventOverflowEntry t f s
  | .pairJudge t p pair => Sys2Proof.Machine.execPairJudge t p pair s
  | .verdictDeadline t p => Sys2Proof.Machine.execVerdictDeadline t p s
  | .verdictPublish t => Sys2Proof.Machine.execVerdictPublish t s
  | .missingVerdict t => Sys2Proof.Machine.execMissingVerdict t s
  | .checkerFault t source => Sys2Proof.Machine.execCheckerFault t source s
  | .selftestLapse t c => Sys2Proof.Machine.execSelftestLapse t c s
  | .detectionCheckFail t site reader => Sys2Proof.Machine.execDetectionCheckFail t site reader s
  | .detectionRetryResult t passed => Sys2Proof.Machine.execDetectionRetryResult t passed s
  | .retirementListAppend t => Sys2Proof.Machine.execRetirementListAppend t s
  | .scrubFillDone t => Sys2Proof.Machine.execScrubFillDone t s
  | .serviceWindow t => Sys2Proof.Machine.execServiceWindow t s
  | .avsResponse t a => Sys2Proof.Machine.execAvsResponse t a s
  | .avsTimeout t => Sys2Proof.Machine.execAvsTimeout t s
  | .avsHoldExpiry t => Sys2Proof.Machine.execAvsHoldExpiry t s
  | .thermalTrip t sensor => Sys2Proof.Machine.execThermalTrip t sensor s
  | .pllLossOfLock t pll => Sys2Proof.Machine.execPllLossOfLock t pll s
  | .resetNAssert t => Sys2Proof.Machine.execResetNAssert t s
  | .resetNRelease t => Sys2Proof.Machine.execResetNRelease t s
  | .romRelease t => Sys2Proof.Machine.execRomRelease t s
  | .lpddr5TrainingDone t bytes channelsOk => Sys2Proof.Machine.execLpddr5TrainingDone t bytes channelsOk s
  | .watchdogExpiry t x => Sys2Proof.Machine.execWatchdogExpiry t x s
  | .firmwareFault t x => Sys2Proof.Machine.execFirmwareFault t x s
  | .crashDumpCaptured t x => Sys2Proof.Machine.execCrashDumpCaptured t x s
  | .processorRestartDone t x => Sys2Proof.Machine.execProcessorRestartDone t x s
  | .processorFailed t x => Sys2Proof.Machine.execProcessorFailed t x s
  | .dmaRequestIssue t u => Sys2Proof.Machine.execDmaRequestIssue t u s
  | .engineWindowStart t p e => Sys2Proof.Machine.execEngineWindowStart t p e s
  | .engineWindowEnd t p e => Sys2Proof.Machine.execEngineWindowEnd t p e s
  | .i3cSdaHigh t n => Sys2Proof.Machine.execI3cSdaHigh t n s
  | .canErrorPassive t e => Sys2Proof.Machine.execCanErrorPassive t e s
  | .schFirstRunsImage t => Sys2Proof.Machine.execSchFirstRunsImage t s
  | .railOutOfRange t rail => Sys2Proof.Machine.execRailOutOfRange t rail s
  | .jtagTapClock t tms tdi trstN => Sys2Proof.Machine.execJtagTapClock t tms tdi trstN s

end Sys2Proof.Machine
end

