-- ==== Sys2Proof/Safety.lean ====
section
/-! DEFINITION. What counts as a safe step, what every run keeps, and the vocabulary in which statements about commands are
made. -/

namespace Sys2Proof

/-- A step is safe when it answers a next state. -/
def StepsOn (s : Machine.State) : Prop := ∃ t, Machine.step s = .next t

/-- The memories that are held as addresses and bytes keep their canonical form. -/
def Memory.wf (s : Machine.State) : Bool :=
  Machine.kwf Machine.memDefault s.ddr && Machine.kwf Machine.memDefault s.fscratch

namespace Machine

/-- Is this command an edge of RESET_N? -/
def resetEdge : Instr → Bool
  | .resetNAssert _ => true
  | .resetNRelease _ => true
  | _ => false

/-- Is this command the release of RESET_N? -/
def releases : Instr → Bool
  | .resetNRelease _ => true
  | _ => false

/-- `s'` is `s` but for time, the level seen on TICK_IN, the queue, the TAP and draws of free values. -/
def Frozen (s s' : State) : Prop :=
  s' = { s with now := s'.now, tick := { s.tick with tickIn := s'.tick.tickIn }, pending := s'.pending, jtag := s'.jtag, free := s'.free }

/-- The die as RESET_N low holds it: every field at its reset value but for time, the level seen on TICK_IN, flash and fuses, the TAP,
and what lies outside the die; and no release of RESET_N waits. -/
def HeldInReset (s : State) : Prop :=
  s = { State.reset with now := s.now, tick := { tickReset with tickIn := s.tick.tickIn },
                         fw := { fwReset with flash := s.fw.flash, floors := s.fw.floors }, jtag := s.jtag, hostMem := s.hostMem,
                         free := s.free, railBad := s.railBad, pending := s.pending }
    ∧ s.pending.all (fun i => !releases i) = true

/-- `s'` is `s` but for what a report to hosts and to the machine controller writes: number objects, functions, host memory and the
writes that wait for the link, the field port's queue, trace entries of the log, draws of free values. -/
def ReportsOnly (s s' : State) : Prop :=
  s' = { s with dict := { s.dict with num := s'.dict.num }, fns := s'.fns, link := { s.link with waiting := s'.link.waiting, waitAt := s'.link.waitAt, waited := s'.link.waited },
                can := { s.can with queue := s'.can.queue }, hostMem := s'.hostMem, elog := s'.elog, free := s'.free }

/-- The die as R478 stops it: it does not run, SAFE_N and every FSYNC pin are low, and no reset is on its way. -/
def Stopped (s : State) : Prop :=
  s.stopped = true ∧ s.resetN = true ∧ s.umbra.safeN = false ∧ (∀ n, n < 16 → (s.port n).fsync = false)
    ∧ s.pending.all (fun i => !resetEdge i) = true

/-- The state in which the checks of a request of function `fn` run: the request is counted and traced. -/
def State.asked (s : State) (fn : Nat) : State := (s.bumpF 64 fn 0x1012 2 1).trace s.server (callerScope fn) 0

/-- Does a WRITE of object `o` pass steps 1 to 8 of R75? -/
def State.takes (s : State) (fn : Nat) (o : ObjRow) (r : Req) : Bool :=
  let idx := r.index.toNat
  let sub := r.sub.toNat
  decide (objRow idx sub = some o) && decide (s.serviceGate fn 2 idx sub = none) && decide (formCheck fn 2 r = stOk)
    && decide (firstFail [s.versionCheck fn 2 idx sub, addressCheck idx sub true,
        s.rightsCheck fn idx sub true (some (parseVal o.ty r.payload))] = stOk)
    && decide (firstFail [accessCheck o r.txn.toNat, s.txnCheck fn o r, s.valueStep fn o r] = stOk)
    && decide (s.busyStep fn o r = none)

/-- What an accepted WRITE of object `o` leaves before its response: the effect, the journal's entry, the object's last change, the
transaction's idle time (R67, R81, R84, R85). -/
def State.written (s : State) (fn : Nat) (o : ObjRow) (r : Req) : State :=
  let idx := r.index.toNat
  let sub := r.sub.toNat
  let x := s.takeWrite fn o r
  let s1 := if journaledWrite idx sub then x.1.journalAdd (s.writeEntry fn (some o) r x.2) else x.1
  let s2 := if x.2 = stOk && decide (r.txn.toNat = 0) && (decide (tySize o.ty ≠ 0) || reqLast r) then s1.changed (holdFn o fn) idx sub
    else s1
  s2.touchTxn fn r.txn.toNat

/-- A WRITE that comes at cycle `t` while the die runs, the dictionary is served and the caller's role is open (R351) passes every check of
R75. -/
def WritePasses (s : State) (t : Nat) (c : Caller) (r : Req) : Prop :=
  s.live = true ∧ s.reg 0x2050 1 ≠ 0 ∧ s.roleOpen (callerFn c) = true ∧ ∃ o, ((s.at t).asked (callerFn c)).takes (callerFn c) o r = true

/-- Transaction `id` is open and stages number `v` for object `idx`.`sub` as function `h` holds it. -/
def StagesNum (s : State) (id h idx sub v : Nat) : Prop :=
  ∃ x ∈ s.dict.txns, x.id = id ∧ stagedVal x h idx sub = some (.num v)

/-- The number in a request's payload, little-endian. -/
def reqNum (r : Req) : Nat := leNat r.payload

end Machine

end Sys2Proof
end

