-- ==== Sys2Proof/Certificates/Slice0/Obligations.lean ====
section
/-! DEFINITION. The statements for the provers, by family of commands and by kind of state. In each, `s.live` says that the die runs,
and `s.at t` is `s` with time moved on to the command's cycle `t`. -/

section

open Sys2Proof Sys2Proof.Machine

/-! ### The block: its queue, its reset, its stops -/

/-- One step runs the command at the front of the queue, with the queue's rest. -/
def Obligations.StepRunsTheFrontCommand : Prop :=
  ∀ (s : State) (c : Instr) (rest : List Instr), s.pending = c :: rest → step s = exec c { s with pending := rest }

/-- With nothing waiting one ACLK cycle passes and nothing else changes (the model's choice, log 2). -/
def Obligations.IdleStepLetsOneCyclePass : Prop :=
  ∀ s : State, s.pending = [] → step s = .next { s with now := s.now + 1 }

/-- What hardware reset leaves by the manual's own reset columns: link RESET (R349), tick off (R35), start state ROM (R387), no
active key (R375), SAFE_N low (R433), an empty journal whose first entry takes SEQ 1 (R89), ports OFF (R240), no transaction; the
memories list nothing out of their canonical form. -/
def Obligations.ResetLeavesTheDocumentedState : Prop :=
  State.reset.reg 0x1100 1 = 0 ∧ State.reset.tickOn = false ∧ State.reset.tickCount = 0 ∧ State.reset.reg 0x2000 1 = 0
    ∧ State.reset.reg 0x2000 2 = 60000 ∧ State.reset.reg 0x2050 1 = 0 ∧ State.reset.reg 0x1111 3 = 0xFF
    ∧ State.reset.umbra.safeN = false ∧ State.reset.dict.journal = [] ∧ State.reset.dict.nextSeq = 1 ∧ State.reset.dict.txns = []
    ∧ (∀ n, n < 16 → State.reset.portState n = 0) ∧ State.reset.pending = []
    ∧ Memory.wf State.reset = true

/-- Every command answers a next state, whatever the state: no row of the table faults and none is refused by the model. -/
def Obligations.EveryCommandAnswersANextState : Prop :=
  ∀ (i : Instr) (s : State), ∃ s', exec i s = .next s'

/-- A die held in reset, or stopped, takes no command but an edge of RESET_N: nothing but time, the level seen on TICK_IN, the TAP
and draws of free values moves (R478, R496; log 3). -/
def Obligations.DieThatDoesNotRunStandsStill : Prop :=
  ∀ (i : Instr) (s : State), s.live = false → resetEdge i = false → ∃ s', exec i s = .next s' ∧ Frozen s s'

/-- A stopped die stays stopped, its outputs low, through every step until RESET_N is driven (R478). -/
def Obligations.StoppedDieStaysStopped : Prop :=
  ∀ s s' : State, Stopped s → step s = .next s' → Stopped s'

/-- A die held by RESET_N keeps every register at its reset value through every step until RESET_N is released (R12, R475). -/
def Obligations.DieHeldInResetKeepsItsResetValues : Prop :=
  ∀ s s' : State, HeldInReset s → step s = .next s' → HeldInReset s'

/-- The state after reset is held in reset. -/
def Obligations.ResetIsHeldInReset : Prop := HeldInReset State.reset

/-- A sensor at the trip level, or loss of lock of the core or memory PLL, stops the die: SAFE_N, FSYNC low, the link down, LPDDR5 no
longer refreshed; loss of lock of the UCIe PLL is a retrain (R472, R478). -/
def Obligations.TripsAndLostClocksStopTheDie : Prop :=
  (∀ (t : Nat) (x : Fin 8) (s : State), s.live = true → ∃ s', exec (.thermalTrip t x) s = .next s' ∧ s'.stopped = true
      ∧ s'.umbra.safeN = false ∧ (∀ n, n < 16 → (s'.port n).fsync = false) ∧ s'.link.dlUp = false ∧ s'.ddr = []
      ∧ (s.railBad = false → s'.outPins = resetPins))
  ∧ (∀ (t : Nat) (p : Pll) (s : State), s.live = true → p ≠ .ucie → ∃ s', exec (.pllLossOfLock t p) s = .next s' ∧ s'.stopped = true
      ∧ s'.umbra.safeN = false ∧ (∀ n, n < 16 → (s'.port n).fsync = false) ∧ s'.link.dlUp = false ∧ s'.ddr = []
      ∧ (s.railBad = false → s'.outPins = resetPins))
  ∧ (∀ (t : Nat) (s : State), s.live = true → exec (.pllLossOfLock t .ucie) s = .next (s.at t).startRetrain)

/-- RESET_N falling leaves the reset state with time going on; flash, fuses, the TICK_IN level and what lies outside the die stay, and the TAP
unless a supply was lost; the outputs take their states, undefined while a rail is out of range. Of a directory update under way the second copy
is as before. Rising, the die runs and the link trains (R348, R383, R465, R466, R475, R476). -/
def Obligations.ResetPinResetsAndReleases : Prop :=
  (∀ (t : Nat) (s : State), ∃ s', exec (.resetNAssert t) s = .next s' ∧ s'.resetN = false ∧ s'.stopped = false ∧ s'.dict = dictReset
      ∧ s'.cores = [] ∧ s'.pads = [] ∧ s'.tasks = [] ∧ s'.ports = [] ∧ s'.umbra = umbraReset ∧ s'.sec = secReset ∧ s'.ddr = []
      ∧ s'.fscratch = [] ∧ (s.fw.dirWrite = none → s'.fw.flash = s.fw.flash) ∧ s'.fw.floors = s.fw.floors
      ∧ s'.jtag = (if s.railBad then State.reset.jtag else s.jtag) ∧ s'.hostMem = s.hostMem ∧ s'.pending = s.pending
      ∧ s'.outPins = (if s.railBad then undefinedPins else resetPins))
  ∧ (∀ (t c first : Nat) (old : List Byte) (s : State), s.fw.dirWrite = some (c, first, old) → max s.now t < c + Config.dirCycles →
    ∃ s' part, exec (.resetNAssert t) s = .next s' ∧ part.length = 64
      ∧ s'.fw.flash = ((s.flashWrite (0x1000 * first) part).flashWrite (0x1000 * (1 - first)) old).fw.flash)
  ∧ (∀ (t : Nat) (s : State), s.resetN = false → ∃ s', exec (.resetNRelease t) s = .next s' ∧ s'.resetN = true
      ∧ s'.reg 0x1100 1 = 1 ∧ s'.dict.blob = s.dict.blob ∧ s'.ddr = s.ddr ∧ s'.fw = s.fw)

/-- The TAP: JTAG_TRST_N low holds Test-Logic-Reset with IDCODE selected; else the controller takes its next state from TMS, and
nothing but the TAP moves outside Capture-DR (R496; the instruction codes are the model's, log 8). -/
def Obligations.TapClockMovesTheTapAlone : Prop :=
  (∀ (t : Nat) (tms tdi : Bool) (s : State), ∃ s', exec (.jtagTapClock t tms tdi false) s = .next s' ∧ s'.jtag.tap = 0 ∧ s'.jtag.ir = 1
      ∧ s' = { (s.at t) with jtag := s'.jtag })
  ∧ (∀ (t : Nat) (tms tdi : Bool) (s : State), s.jtag.tap ≠ 3 → ∃ s', exec (.jtagTapClock t tms tdi true) s = .next s'
      ∧ s'.jtag.tap = tapNext s.jtag.tap tms ∧ s' = { (s.at t) with jtag := s'.jtag })

/-! ### The dictionary (03) -/

/-- READ of a fixed-size object that passes its checks answers OK with the object's bytes, and changes nothing but the request's
count and trace, the transaction's idle time and the answer (R73, R75, R77). -/
def Obligations.ReadAnswersTheValue : Prop :=
  ∀ (t : Nat) (c : Caller) (r : Req) (s u : State) (o : ObjRow), u = (s.at t).asked (callerFn c) → s.live = true → s.reg 0x2050 1 ≠ 0 →
    s.roleOpen (callerFn c) = true → u.serviceGate (callerFn c) 1 r.index.toNat r.sub.toNat = none → formCheck (callerFn c) 1 r = stOk →
    firstFail [u.versionCheck (callerFn c) 1 r.index.toNat r.sub.toNat, addressCheck r.index.toNat r.sub.toNat false,
      u.rightsCheck (callerFn c) r.index.toNat r.sub.toNat false none] = stOk →
    (r.txn.toNat = 0 ∨ (u.findTxn (callerFn c) r.txn.toNat).isSome = true) → reqStagedRead r = false → r.index.toNat < 0xF000 →
    objRow r.index.toNat r.sub.toNat = some o → o.acc ≠ .wo → tySize o.ty ≠ 0 → r.offset.toNat = 0 →
    ∃ p : Resp, exec (.read t c r) s = .next ((u.touchTxn (callerFn c) r.txn.toNat).deliver (callerFn c) p) ∧ p.status = stOk
      ∧ p.payload = (valBytes o.ty (u.objValue (callerFn c) o r.index.toNat r.sub.toNat)).take r.length.toNat

/-- WRITE that passes every check is carried out, journaled and answered with the status of its effect (R67, R75, R85). -/
def Obligations.WriteTakesEffectAndIsJournaled : Prop :=
  ∀ (t : Nat) (c : Caller) (r : Req) (s u : State) (o : ObjRow), u = (s.at t).asked (callerFn c) → s.live = true → s.reg 0x2050 1 ≠ 0 →
    s.roleOpen (callerFn c) = true → u.takes (callerFn c) o r = true →
    ∃ p : Resp, p.opcode = 2 ∧ p.status = (u.takeWrite (callerFn c) o r).2 ∧ exec (.write t c r) s = .next ((u.written (callerFn c) o r).deliver (callerFn c) p)

/-- A WRITE that a check of R75 refuses leaves every object but the dictionary's own counters as it was, and every memory, core and
unit. -/
def Obligations.RefusedWriteChangesNoObject : Prop :=
  ∀ (t : Nat) (c : Caller) (r : Req) (s u : State) (o : ObjRow), u = (s.at t).asked (callerFn c) → s.live = true → s.reg 0x2050 1 ≠ 0 →
    s.roleOpen (callerFn c) = true → u.serviceGate (callerFn c) 2 r.index.toNat r.sub.toNat = none → formCheck (callerFn c) 2 r = stOk →
    objRow r.index.toNat r.sub.toNat = some o →
    firstFail [u.versionCheck (callerFn c) 2 r.index.toNat r.sub.toNat, addressCheck r.index.toNat r.sub.toNat true,
      u.rightsCheck (callerFn c) r.index.toNat r.sub.toNat true (some (parseVal o.ty r.payload)),
      accessCheck o r.txn.toNat, u.txnCheck (callerFn c) o r, u.valueStep (callerFn c) o r] ≠ stOk →
    ∃ s', exec (.write t c r) s = .next s' ∧ s'.ddr = s.ddr ∧ s'.fscratch = s.fscratch ∧ s'.pads = s.pads ∧ s'.cores = s.cores
      ∧ s'.umbra = s.umbra ∧ s'.sec = s.sec ∧ s'.plans = s.plans ∧ s'.dict.blob = s.dict.blob
      ∧ ∀ g idx sub, idx < 65536 → sub < 256 → idx ≠ 0x1012 → idx ≠ 0x1020 → idx ≠ 0x2054 → s'.regF g idx sub = s.regF g idx sub

/-- Before the ROM has released SEC no request is served, nor is one of a VF that is not enabled, whose role is not open: nothing changes
(R351, R386). -/
def Obligations.ClosedRolesAreNotServed : Prop :=
  ∀ (t : Nat) (c : Caller) (r : Req) (s u : State), u = s.at t → s.live = true →
    s.reg 0x2050 1 = 0 ∨ (roleOf (callerFn c) = 1 ∧ (s.fnSt (callerFn c)).enabled = false) →
    exec (.read t c r) s = .next u ∧ exec (.write t c r) s = .next u ∧ exec (.begin t c r) s = .next u ∧ exec (.commit t c r) s = .next u
      ∧ exec (.rollback t c r) s = .next u ∧ exec (.txnQuery t c r) s = .next u

/-- BEGIN opens a transaction of the caller's role and scope under a fresh identifier, with nothing staged; OD 1011.04 counts the open
ones. BEGIN while one is open in the role and scope is refused with TXN_OPEN and opens none (R79). TXN_QUERY names the open
transaction of the caller's role in a scope and how many writes it stages, or answers zeros; it restarts the idle time of the transaction
whose identifier it carries, and changes nothing more (R73, R84). -/
def Obligations.BeginOpensAndQueryNamesOneTransaction : Prop :=
  (∀ (t : Nat) (c : Caller) (r : Req) (s u : State), u = (s.at t).asked (callerFn c) → s.live = true → s.reg 0x2050 1 ≠ 0 →
    s.roleOpen (callerFn c) = true → u.serviceGate (callerFn c) 3 r.index.toNat r.sub.toNat = none → formCheck (callerFn c) 3 r = stOk → u.versionCheck (callerFn c) 3 0 0 = stOk →
    scopeAllowed (callerFn c) (reqScope r) = true → u.scopeTxn (roleOf (callerFn c)) (reqScope r) = none → u.journalFull = false →
    ∃ (x : Txn) (s' : State), exec (.begin t c r) s = .next s' ∧ s'.dict.txns = s.dict.txns ++ [x] ∧ x.id = s.dict.nextTxn
      ∧ x.role = roleOf (callerFn c) ∧ x.fn = callerFn c ∧ x.scope = reqScope r ∧ x.staged = [] ∧ x.lastCmd = max s.now t
      ∧ s'.dict.nextTxn = s.dict.nextTxn + 1 ∧ s'.reg 0x1011 4 = s.dict.txns.length + 1)
  ∧ (∀ (t : Nat) (c : Caller) (r : Req) (s u : State) (x : Txn), u = (s.at t).asked (callerFn c) → s.live = true → s.reg 0x2050 1 ≠ 0 →
    s.roleOpen (callerFn c) = true → u.serviceGate (callerFn c) 3 r.index.toNat r.sub.toNat = none → formCheck (callerFn c) 3 r = stOk → u.versionCheck (callerFn c) 3 0 0 = stOk →
    scopeAllowed (callerFn c) (reqScope r) = true → u.scopeTxn (roleOf (callerFn c)) (reqScope r) = some x →
    ∃ (p : Resp) (v : State), exec (.begin t c r) s = .next (v.deliver (callerFn c) p) ∧ p.status = stTxnOpen ∧ p.txn = x.id
      ∧ v.dict.txns = s.dict.txns)
  ∧ (∀ (t : Nat) (c : Caller) (r : Req) (s u v : State), u = (s.at t).asked (callerFn c) → v = u.touchTxn (callerFn c) r.txn.toNat →
    s.live = true → s.reg 0x2050 1 ≠ 0 → s.roleOpen (callerFn c) = true → u.serviceGate (callerFn c) 6 r.index.toNat r.sub.toNat = none → formCheck (callerFn c) 6 r = stOk → u.versionCheck (callerFn c) 6 0 0 = stOk →
    scopeAllowed (callerFn c) (reqScope r) = true →
    ∃ p : Resp, exec (.txnQuery t c r) s = .next (v.deliver (callerFn c) p) ∧ p.status = stOk
      ∧ (v.scopeTxn (roleOf (callerFn c)) (reqScope r) = none → p.txn = 0 ∧ p.payload = zeros 8)
      ∧ (∀ x, v.scopeTxn (roleOf (callerFn c)) (reqScope r) = some x →
          p.txn = x.id ∧ p.payload = leBytes 4 x.id ++ leBytes 2 x.staged.length ++ zeros 2))

/-- ROLLBACK discards what its transaction staged and its unfinished segments, and closes it; where the caller has no such open
transaction, as after the decision of its COMMIT, it answers TXN_UNKNOWN (R83). -/
def Obligations.RollbackClosesItsTransaction : Prop :=
  (∀ (t : Nat) (c : Caller) (r : Req) (s u : State) (x : Txn), u = (s.at t).asked (callerFn c) → s.live = true → s.reg 0x2050 1 ≠ 0 →
    s.roleOpen (callerFn c) = true → u.serviceGate (callerFn c) 5 r.index.toNat r.sub.toNat = none → formCheck (callerFn c) 5 r = stOk → u.versionCheck (callerFn c) 5 0 0 = stOk →
    u.findTxn (callerFn c) r.txn.toNat = some x → u.journalFull = false →
    ∃ s', exec (.rollback t c r) s = .next s' ∧ (∀ y ∈ s'.dict.txns, y.id ≠ r.txn.toNat) ∧ (∀ g ∈ s'.dict.segments, g.txn ≠ r.txn.toNat))
  ∧ (∀ (t : Nat) (c : Caller) (r : Req) (s u : State), u = (s.at t).asked (callerFn c) → s.live = true → s.reg 0x2050 1 ≠ 0 →
    s.roleOpen (callerFn c) = true → u.serviceGate (callerFn c) 5 r.index.toNat r.sub.toNat = none → formCheck (callerFn c) 5 r = stOk → u.versionCheck (callerFn c) 5 0 0 = stOk →
    u.findTxn (callerFn c) r.txn.toNat = none →
    ∃ (p : Resp) (v : State), exec (.rollback t c r) s = .next (v.deliver (callerFn c) p) ∧ p.status = stTxnUnknown ∧ v.dict.txns = s.dict.txns)
  ∧ (∀ (s : State) (run : CommitRun), s.tickOn = true → ∀ y ∈ (s.decideCommit run).1.dict.txns, y.id ≠ run.txn.id)

/-- COMMIT, the end of an admission and the completion of a decided COMMIT: step 2 and the decision run on the transaction; a
completed COMMIT's writes wait for the next edge while the tick runs, in the order of completion (R34, R48, R81, R82). -/
def Obligations.CommitDecidesAndCompletes : Prop :=
  (∀ (t : Nat) (c : Caller) (r : Req) (s u : State) (x : Txn) (p : Resp), u = (s.at t).asked (callerFn c) → s.live = true → s.reg 0x2050 1 ≠ 0 →
    s.roleOpen (callerFn c) = true → u.serviceGate (callerFn c) 4 r.index.toNat r.sub.toNat = none → formCheck (callerFn c) 4 r = stOk → u.versionCheck (callerFn c) 4 0 0 = stOk →
    u.findTxn (callerFn c) r.txn.toNat = some x → (commitProcs x.staged).findSome? (fun y => (u.touchTxn (callerFn c) r.txn.toNat).procGate y) = none →
    (u.touchTxn (callerFn c) r.txn.toNat).journalFull = false →
    x.staged.any (fun w => (u.touchTxn (callerFn c) r.txn.toNat).locked w.fn w.idx w.sub) = false →
    x.staged.find? ((u.touchTxn (callerFn c) r.txn.toNat).conflicts x) = none → needsAdmission x.staged = false →
    ((u.touchTxn (callerFn c) r.txn.toNat).runCommit { fn := callerFn c, req := r, txn := x, seq := 0, decided := none, tick := 0 }).2 = some p →
    exec (.commit t c r) s = .next (((u.touchTxn (callerFn c) r.txn.toNat).runCommit
      { fn := callerFn c, req := r, txn := x, seq := 0, decided := none, tick := 0 }).1.deliver (callerFn c) p))
  ∧ (∀ (t : Nat) (s u : State), u = (s.at t).trace 2 none 7 → s.live = true → s.proc 2 = 1 →
    s.dict.commits.any (fun c => c.decided.isNone) = true → exec (.admissionDone t) s = .next (State.answerCommit u.admissionEnd))
  ∧ (∀ (t : Nat) (s : State) (run : CommitRun), s.live = true → (s.at t).dict.commits.find? (s.at t).commitDue = some run →
    ∃ v : State, v.dict.commits = s.dict.commits.filter (fun c => decide (c.txn.id ≠ run.txn.id)) ∧ v.dict.num = s.dict.num
      ∧ exec (.commitComplete t) s = .next ((v.finishCommit run).1.deliver run.fn (v.finishCommit run).2))
  ∧ (∀ (s : State) (run : CommitRun), s.tickOn = true → ∃ seq, (s.finishCommit run).1.dict.effects
      = s.dict.effects ++ [{ seq := seq, fn := run.fn, writes := run.txn.staged }] ∧ (s.finishCommit run).2.status = stOk)

/-- A transaction idle for 2,000 ms, of which no COMMIT is under way, is abandoned while SCH runs: counted in OD 1011.05, closed with its kept
segments (R84). The mirror takes the next entry into its ring in LPDDR5, where nothing else changes; with no entry to copy, SCH not
running, or the ring off nothing changes (R86; which slot of the ring is the first is the model's free constant, log 66). -/
def Obligations.IdleTransactionsCloseAndTheMirrorFollows : Prop :=
  (∀ (t : Nat) (id : BitVec 32) (s : State) (x : Txn), s.live = true → s.dict.txns.find? (fun y => decide (y.id = id.toNat)) = some x →
    s.proc 2 = 1 → x.lastCmd + msCycles 2000 ≤ max s.now t → s.dict.commits.any (fun c => decide (c.txn.id = x.id)) = false →
    ∃ s', exec (.txnIdleExpiry t id) s = .next s' ∧ (∀ y ∈ s'.dict.txns, y.id ≠ x.id) ∧ (∀ g ∈ s'.dict.segments, g.txn ≠ x.id)
      ∧ s'.reg 0x1011 5 = satAdd 32 (s.reg 0x1011 5) 1)
  ∧ (∀ (t : Nat) (s : State) (e : JEntry), s.live = true → s.dict.journal.find? (fun x => decide (s.dict.mirrored < x.seq)) = some e →
    s.proc 2 = 1 → s.reg 0x1020 4 = 1 →
    ∃ s', exec (.journalMirrorCopy t) s = .next s' ∧ s'.dict.mirrored = e.seq ∧ s'.dict.journal = s.dict.journal
      ∧ s'.ddrRead (ringPlace e.seq) (entryBytes e).length = entryBytes e
      ∧ ∀ a, (a < ringPlace e.seq ∨ ringPlace e.seq + (entryBytes e).length ≤ a) → kget memDefault s'.ddr a = kget memDefault s.ddr a)
  ∧ (∀ (t : Nat) (s : State), s.live = true →
    s.dict.journal.find? (fun x => decide (s.dict.mirrored < x.seq)) = none ∨ s.proc 2 ≠ 1 ∨ s.reg 0x1020 4 ≠ 1 →
    exec (.journalMirrorCopy t) s = .next (s.at t))

/-! ### Rows that write one object -/

/-- Objects written inside a transaction are staged and take no effect yet: a plan, a stop, RING_ENABLE, a QUOTA; the plan's bytes lie in
the staging buffer. Their commit gives them their effect. A plan handed over waits as the partition's next plan. A stop is due at the next edge.
With the tick off, RING_ENABLE has its value at once and a change empties the ring, and a QUOTA has its value at once and a change frees every
live context of the stream's partition while no TRACK runs (R47, R49, R67, R80, R82, R86, R335). -/
def Obligations.TransactionalWritesAreStaged : Prop :=
  (∀ (t : Nat) (c : Caller) (p : Part) (r : Req) (s : State), WritePasses s t c (reqFor r (0x2100 + p.val) 1) → r.txn.toNat ≠ 0 →
    reqLast r = true → r.offset.toNat = 0 →
    ∃ s', exec (.planImage t c p r) s = .next s' ∧ (s'.planSt p.val).staging = r.payload ∧ (s'.planSt p.val).cur = (s.planSt p.val).cur
      ∧ s'.ddr = s.ddr ∧ (∃ x ∈ s'.dict.txns, x.id = r.txn.toNat ∧ stagedVal x 0 (0x2100 + p.val) 1 = some (.bytes r.payload))
      ∧ ((s'.admitted p.val r.payload).planSt p.val).waiting = some (parsePlan r.payload))
  ∧ (∀ (t : Nat) (c : Caller) (p : Part) (r : Req) (s : State), WritePasses s t c (reqFor r (0x2100 + p.val) 4) → r.txn.toNat ≠ 0 →
    ∃ s', exec (.planStop t c p r) s = .next s' ∧ StagesNum s' r.txn.toNat 0 (0x2100 + p.val) 4 (reqNum r)
      ∧ s'.reg (0x2100 + p.val) 4 = s.reg (0x2100 + p.val) 4
      ∧ ∀ run : CommitRun, run.txn.staged = [{ fn := 0, idx := 0x2100 + p.val, sub := 4, val := .num (reqNum r) }] → reqNum r = 1 →
        s'.tickOn = true → p.val ∈ (s'.finishCommit run).1.stopsDue)
  ∧ (∀ (t : Nat) (c : Caller) (r : Req) (s : State), WritePasses s t c (reqFor r 0x1020 4) → r.txn.toNat ≠ 0 →
    ∃ s', exec (.ringEnable t c r) s = .next s' ∧ StagesNum s' r.txn.toNat 0 0x1020 4 (reqNum r) ∧ s'.reg 0x1020 4 = s.reg 0x1020 4
      ∧ ∀ run : CommitRun, run.txn.staged = [{ fn := 0, idx := 0x1020, sub := 4, val := .num (reqNum r) }] → s'.tickOn = false →
        (s'.finishCommit run).1.reg 0x1020 4 = reqNum r
        ∧ (reqNum r ≠ s.reg 0x1020 4 → (s'.finishCommit run).1.dict.ring = [] ∧ (s'.finishCommit run).1.reg 0x1020 3 = 0
            ∧ (s'.finishCommit run).1.reg 0x1020 7 = 0))
  ∧ (∀ (t : Nat) (c : Caller) (x : StreamId) (r : Req) (s : State), WritePasses s t c (reqFor r (0x6040 + x.val) 1) → r.txn.toNat ≠ 0 →
    ∃ s', exec (.quota t c x r) s = .next s' ∧ StagesNum s' r.txn.toNat 0 (0x6040 + x.val) 1 (reqNum r)
      ∧ s'.reg (0x6040 + x.val) 1 = s.reg (0x6040 + x.val) 1
      ∧ ∀ run : CommitRun, run.txn.staged = [{ fn := 0, idx := 0x6040 + x.val, sub := 1, val := .num (reqNum r) }] → s'.tickOn = false →
        (s'.finishCommit run).1.reg (0x6040 + x.val) 1 = reqNum r
        ∧ ∀ p k, reqNum r ≠ s.reg (0x6040 + x.val) 1 → s'.streamPart x.val = some p → (s'.eng 14).run = none → s'.ctxIn p k = true →
          k ∉ s'.ctxUndef → (ctxOf (s'.ctxShown p k)).live = true → k ∈ (s'.finishCommit run).1.ctxFreed)

/-- Interface versions and ring enables take the written value at once; a matching major of OD 1010.01 gives OD 1010.03 the value 1,
another one 2; a ring enabled anew starts empty (R92, R367, R390). -/
def Obligations.VersionsAndRingsTakeTheirValue : Prop :=
  (∀ (t : Nat) (c : Caller) (r : Req) (s : State), WritePasses s t c (reqFor r 0x1010 1) → r.txn.toNat = 0 →
    ∃ s', exec (.hostIfVersion t c r) s = .next s' ∧ s'.reg 0x1010 1 = reqNum r ∧ s'.reg 0x1010 3 = if reqNum r / 65536 = 1 then 1 else 2)
  ∧ (∀ (t : Nat) (c : Caller) (r : Req) (s : State), WritePasses s t c (reqFor r 0x1010 4) → r.txn.toNat = 0 →
    ∃ s', exec (.functionIfVersion t c r) s = .next s' ∧ s'.regF (callerFn c) 0x1010 4 = reqNum r)
  ∧ (∀ (t : Nat) (c : Caller) (r : Req) (s : State), WritePasses s t c (reqFor r 0x1104 3) → r.txn.toNat = 0 →
    ∃ s', exec (.evEnable t c r) s = .next s' ∧ s'.regF (callerFn c) 0x1104 3 = reqNum r
      ∧ (reqNum r = 1 → s.regF (callerFn c) 0x1104 3 = 0 → (s'.fnSt (callerFn c)).evHead = 0 ∧ (s'.fnSt (callerFn c)).evTail = 0
          ∧ (s'.fnSt (callerFn c)).evSeq = 0))
  ∧ (∀ (t : Nat) (c : Caller) (r : Req) (s : State), WritePasses s t c (reqFor r 0x1105 3) → r.txn.toNat = 0 →
    ∃ s', exec (.resEnable t c r) s = .next s' ∧ s'.regF (callerFn c) 0x1105 3 = reqNum r
      ∧ (reqNum r = 1 → s.regF (callerFn c) 0x1105 3 = 0 → (s'.fnSt (callerFn c)).resHead = 0 ∧ (s'.fnSt (callerFn c)).resTail = 0))

/-- The reads that move a cursor. A read of the journal from a cursor above its head answers nothing. From a cursor that is held it answers
the visible entries from there on, in order, at most the lower of OD 1021.03 and floor(LENGTH ÷ 64) of them, and the cursor moves past the last
one examined. The log's answers its visible entries alike, and counts those that a cursor below the oldest has lost (R90, R397). -/
def Obligations.CursorReadsAnswerEntries : Prop :=
  (∀ (t fn oldest : Nat) (c : Caller) (r : Req) (s u : State), fn = callerFn c → u = (s.at t).asked fn → s.live = true →
    s.reg 0x2050 1 ≠ 0 → s.roleOpen fn = true → u.serviceGate fn 1 0x1021 2 = none → formCheck fn 1 (reqFor r 0x1021 2) = stOk →
    firstFail [u.versionCheck fn 1 0x1021 2, u.rightsCheck fn 0x1021 2 false none] = stOk → r.txn.toNat = 0 → r.offset.toNat = 0 →
    64 ≤ r.length.toNat → oldest = (u.heldEntries.head?.map (fun e => e.seq)).getD 1 →
    (u.dict.nextSeq ≤ u.regF fn 0x1021 1 →
      ∃ p : Resp, exec (.journalRead t c r) s = .next ((u.touchTxn fn 0).deliver fn p) ∧ p.status = stOk ∧ p.payload = [])
    ∧ (∀ x, u.regF fn 0x1021 1 < u.dict.nextSeq → oldest ≤ u.regF fn 0x1021 1 →
      x = jScan (u.jVisible fn u.heldEntries) u.heldEntries (min (u.regF fn 0x1021 3) (r.length.toNat / 64)) (u.regF fn 0x1021 1) [] →
      ∃ p : Resp, exec (.journalRead t c r) s = .next ((((u.keepCursor fn 0x1021 [1]).setRegF fn 0x1021 1 x.2).touchTxn fn 0).deliver fn p) ∧ p.status = stOk
        ∧ p.payload = x.1.flatMap entryBytes)
    ∧ (u.regF fn 0x1021 1 < u.dict.nextSeq → u.regF fn 0x1021 1 < oldest →
      ∃ p : Resp, exec (.journalRead t c r) s = .next ((u.touchTxn fn 0).deliver fn p) ∧ p.status = stJournalLost))
  ∧ (∀ (t fn cur oldest : Nat) (c : Caller) (r : Req) (s u w v : State) (x : List LogEntry × Nat), fn = callerFn c → u = (s.at t).asked fn →
    s.live = true → s.reg 0x2050 1 ≠ 0 → s.roleOpen fn = true → u.serviceGate fn 1 0x2054 2 = none →
    formCheck fn 1 (reqFor r 0x2054 2) = stOk →
    firstFail [u.versionCheck fn 1 0x2054 2, u.rightsCheck fn 0x2054 2 false none] = stOk → r.txn.toNat = 0 → r.offset.toNat = 0 →
    cur = u.regF fn 0x2054 1 → oldest = (u.elog.entries.head?.map (fun e => e.seq)).getD u.elog.nextLog →
    w = u.keepCursor fn 0x2054 [1, 6] → v = (if max cur 1 < oldest then w.bumpF 32 fn 0x2054 6 (oldest - max cur 1) else w) →
    x = logScan fn u.elog.entries (min 64 (r.length.toNat / 32)) (max cur oldest) [] →
    ∃ p : Resp, exec (.logRead t c r) s = .next (((v.setRegF fn 0x2054 1 x.2).touchTxn fn 0).deliver fn p) ∧ p.status = stOk
      ∧ p.payload = x.1.flatMap logBytes)

/-- Writes of 1 that clear: the overrun counters of a partition, the counters of a CLEAR object, SAFE_N's latch, the retirement list
(R63, R433, R453). -/
def Obligations.ClearingWritesClear : Prop :=
  (∀ (t : Nat) (c : Caller) (p : Part) (r : Req) (s : State), WritePasses s t c (reqFor r (0x2130 + p.val) 7) → r.txn.toNat = 0 → reqNum r = 1 →
    ∃ s', exec (.clearOverrun t c p r) s = .next s' ∧ ∀ k, 1 ≤ k → k ≤ (if roleOf (callerFn c) = 1 then 4 else 6) →
      s'.reg (0x2130 + p.val) k = 0)
  ∧ (∀ (t : Nat) (c : Caller) (r : Req) (s : State) (l : List Nat), WritePasses s t c r → r.txn.toNat = 0 → reqNum r = 1 →
    clearList (callerFn c) r.index.toNat r.sub.toNat = some l →
    ∃ s', exec (.clearCounts t c r) s = .next s' ∧ ∀ k ∈ l, s'.reg r.index.toNat k = 0)
  ∧ (∀ (t : Nat) (c : Caller) (r : Req) (s : State), WritePasses s t c (reqFor r 0x7000 4) → r.txn.toNat = 0 →
    ∃ s', exec (.safeClear t c r) s = .next s' ∧ s'.umbra = { s.umbra with cleared := true })
  ∧ (∀ (t : Nat) (c : Caller) (r : Req) (s : State), WritePasses s t c (reqFor r 0x8010 6) → r.txn.toNat = 0 → reqNum r = 1 →
    ∃ s', exec (.listErase t c r) s = .next s' ∧ s'.reg 0x8010 3 = 0 ∧ (∀ e ∈ s'.fw.flash, e.1 < 0x110000 ∨ 0x120000 ≤ e.1))

/-- A key written to a slot of Aedsy, with no slot active the active one from then on, both counters 0 (R374, R375); a retrain asked for
(R350); a service window asked for (R459); a maintenance request started (R224). -/
def Obligations.RequestWritesStartTheirWork : Prop :=
  (∀ (t : Nat) (c : Caller) (x : Fin 2) (r : Req) (s : State), WritePasses s t c (reqFor r 0x1111 (1 + x.val)) → r.txn.toNat = 0 →
    reqLast r = true → r.offset.toNat = 0 →
    ∃ s', exec (.keyWrite t c x r) s = .next s' ∧ (if x.val = 0 then s'.can.key0 else s'.can.key1) = some r.payload
      ∧ (s.reg 0x1111 3 = 0xFF → s'.reg 0x1111 3 = x.val ∧ s'.reg 0x1111 4 = 0 ∧ s'.reg 0x1111 5 = 0))
  ∧ (∀ (t : Nat) (c : Caller) (r : Req) (s : State), WritePasses s t c (reqFor r 0x1100 8) → r.txn.toNat = 0 → reqNum r = 1 → s.linkUp = true →
    ∃ s', exec (.retrain t c r) s = .next s' ∧ s'.reg 0x1100 1 = 5 ∧ s'.reg 0x1100 5 = satAdd 32 (s.reg 0x1100 5) 1)
  ∧ (∀ (t : Nat) (c : Caller) (r : Req) (s : State), WritePasses s t c (reqFor r 0x8030 2) → r.txn.toNat = 0 → reqNum r = 1 →
    ∃ s', exec (.serviceNow t c r) s = .next s' ∧ s'.avs.asked = some s.tickCount)
  ∧ (∀ (t : Nat) (c : Caller) (r : Req) (s : State), WritePasses s t c (reqFor r 0x5420 1) → r.txn.toNat = 0 → reqLast r = true →
    r.offset.toNat = 0 →
    ∃ s', exec (.maintDesc t c r) s = .next s' ∧ s'.regF (callerFn c) 0x5420 3 = 1
      ∧ ∃ k ∈ s'.tasks, k.maint = some (callerFn c) ∧ k.desc = r.payload ∧ k.stage = 1
          ∧ k.node.res = 0x30 + s.regF (callerFn c) 0x5420 2)
  ∧ (∀ (t : Nat) (c : Caller) (r : Req) (s u : State), u = ((s.at t).asked (callerFn c)).setSegment (callerFn c) 0x5210 1 0 none →
    WritePasses s t c (reqFor r 0x5210 1) → r.txn.toNat = 0 → reqLast r = true → r.offset.toNat = 0 →
    ∃ s', exec (.abort t c r) s = .next s' ∧ s'.tasks = (u.abortOp (leNat (r.payload.take 2)) (leNat (slice r.payload 2 2))).1.tasks
      ∧ s'.queues = (u.abortOp (leNat (r.payload.take 2)) (leNat (slice r.payload 2 2))).1.queues)

/-- Firmware commands by WRITE: an image that passes its checks is installed; START releases every loaded processor; an update that
passes its checks is staged, one that fails leaves flash as it was; a staged one is then named by both directory copies; SVN floors rise;
a dump slot is released; a running processor restarts with cause 3 (R389, R391, R392, R398). -/
def Obligations.FirmwareWritesActOnImagesAndProcessors : Prop :=
  (∀ (t : Nat) (c : Caller) (r : Req) (s u : State), u = ((s.at t).asked (callerFn c)).setSegment (callerFn c) 0x2051 1 0 none →
    WritePasses s t c (reqFor r 0x2051 1) → r.txn.toNat = 0 → reqLast r = true → r.offset.toNat = 0 →
    (u.loadCheck (r.payload.getD 0 0).toNat (wordAt r.payload 1)).2 = stOk →
    ∃ s', exec (.loadImage t c r) s = .next s' ∧ s'.reg 0x2051 3 = stOk ∧ (s'.reg 0x2051 2).testBit (r.payload.getD 0 0).toNat = true
      ∧ (klook s'.fw.images (r.payload.getD 0 0).toNat).isSome = true)
  ∧ (∀ (t : Nat) (c : Caller) (r : Req) (s : State), WritePasses s t c (reqFor r 0x2050 2) → r.txn.toNat = 0 → reqNum r = 1 →
    s.reg 0x2050 1 = 2 → s.reg 0x2051 2 / 4 % 128 = 127 →
    ∃ s', exec (.start t c r) s = .next s' ∧ ∀ x, 2 ≤ x → x ≤ 8 → s.proc x = 0 → s'.proc x = 1)
  ∧ (∀ (t : Nat) (c : Caller) (r : Req) (s u : State), u = ((s.at t).asked (callerFn c)).setSegment (callerFn c) 0x2053 1 0 none →
    WritePasses s t c (reqFor r 0x2053 1) → r.txn.toNat = 0 → reqLast r = true → r.offset.toNat = 0 →
    ∃ s', exec (.updateImage t c r) s = .next s'
      ∧ (u.updateCheck (r.payload.getD 0 0).toNat (wordAt r.payload 1) = stOk → (s'.reg 0x2053 3 = 1 ∨ s'.reg 0x2053 3 = 2)
        ∧ klook s'.fw.update (0x40 + (r.payload.getD 0 0).toNat) = some (u.updateParts (r.payload.getD 0 0).toNat (wordAt r.payload 1)).2)
      ∧ (u.updateCheck (r.payload.getD 0 0).toNat (wordAt r.payload 1) ≠ stOk → s'.reg 0x2053 3 = 4 ∧ s'.fw.flash = s.fw.flash))
  ∧ (∀ (t : Nat) (c : Caller) (r : Req) (s : State), WritePasses s t c (reqFor r 0x2053 2) → r.txn.toNat = 0 → reqNum r = 1 →
    (∀ k, k < 3 → (klook s.fw.update k).isSome = true) →
    ∃ s', exec (.updateCommit t c r) s = .next s' ∧ s'.reg 0x2053 3 = 3 ∧ ∃ gen first, (∀ e ∈ s.dirCopy 0, e.2 < gen)
      ∧ first < 2
      ∧ (∀ a b, s.dirCopy 0 = some a → s.dirCopy 1 = some b → (a.2 < b.2 → first = 0) ∧ (b.2 < a.2 → first = 1))
      ∧ s'.fw.dirWrite = some (max s.now t, first, s.flashRead (0x1000 * (1 - first)) 64)
      ∧ s'.fw.flash = ((s.flashWrite (0x1000 * first) (dirBytes (1 - s.reg 0x2050 5) gen)).flashWrite (0x1000 * (1 - first))
        (dirBytes (1 - s.reg 0x2050 5) gen)).fw.flash)
  ∧ (∀ (t : Nat) (c : Caller) (r : Req) (s : State), WritePasses s t c (reqFor r 0x2053 4) → r.txn.toNat = 0 → reqNum r = 1 →
    ∃ s', exec (.svnRaise t c r) s = .next s' ∧ ∀ x b, x < 9 → klook s.fw.running x = some b →
      kget 0 s'.fw.floors x = max (kget 0 s.fw.floors x) (imSvn b))
  ∧ (∀ (t : Nat) (c : Caller) (r : Req) (s : State), WritePasses s t c (reqFor r 0x2055 5) → r.txn.toNat = 0 → reqNum r = 1 →
    ∃ s', exec (.dumpRelease t c r) s = .next s' ∧ (kget dump0 s'.fw.dumps (s.reg 0x2055 1)).released = true)
  ∧ (∀ (t : Nat) (c : Caller) (x : ProcId) (r : Req) (s : State), WritePasses s t c (reqFor r (0x2060 + x.val) 6) → r.txn.toNat = 0 →
    reqNum r = 1 → s.proc x.val = 1 →
    ∃ s', exec (.restart t c x r) s = .next s' ∧ s'.proc x.val = 2 ∧ s'.reg (0x2060 + x.val) 3 = 3)

/-! ### The tick (02) -/

/-- The nominal period is floor(500,000,000,000 ÷ TICK_RATE) cycles; TICK_RATE is 15,000 to 240,000 mHz, and a write outside is refused
with OUT_OF_RANGE; at 60,000 mHz P_nom is 8,333,333 (R30). -/
def Obligations.NominalPeriodFollowsTheRate : Prop :=
  (∀ s : State, s.pNom = 500000000000 / s.reg 0x2000 2) ∧ pNomOf 60000 = 8333333
    ∧ ∃ o, objRow 0x2000 2 = some o ∧
      (∀ v, 15000 ≤ v → v ≤ 240000 → valueCheck o (.num v) = stOk) ∧ (∀ v, v < 15000 ∨ 240000 < v → valueCheck o (.num v) = stOutOfRange)

/-- The shortest tick is P_nom with the internal source and floor(P_nom × 99 ÷ 100) with TICK_IN or a host-written tick (R32); the limit is
L = floor(P_min × 96 ÷ 100) (R53). -/
def Obligations.ShortestTickAndItsLimit : Prop :=
  (∀ s : State, s.reg 0x2000 1 = 0 → s.pMin = s.pNom) ∧ (∀ s : State, s.reg 0x2000 1 = 1 ∨ s.reg 0x2000 1 = 2 → s.pMin = s.pNom * 99 / 100)
    ∧ (∀ s : State, s.limitL = s.pMin * 96 / 100)

/-- An edge at cycle `c` counts: OD 2001.01 rises, OD 2001.02 is its cycle, OD 2001.03 the length of the tick that ended, OD 2001.04 the
source, OD 2001.05 the flywheel edges; a run of flywheel edges grows or ends (R31, R35). -/
def Obligations.EdgeCountsInTheTickUnit : Prop :=
  ∀ (s : State) (c src : Nat) (fly : Bool),
    (s.countTick c src fly).tickCount = satAdd 64 s.tickCount 1 ∧ (s.countTick c src fly).reg 0x2001 2 = c
      ∧ (∀ e, s.tick.lastEdge = some e → (s.countTick c src fly).reg 0x2001 3 = min (c - e) (2 ^ 32 - 1))
      ∧ (s.countTick c src fly).reg 0x2001 4 = src
      ∧ (s.countTick c src fly).reg 0x2001 5 = (if fly then satAdd 32 (s.reg 0x2001 5) 1 else s.reg 0x2001 5)
      ∧ (s.countTick c src fly).tick.lastEdge = some c ∧ (s.countTick c src fly).tick.run = (if fly then s.tick.run + 1 else 0)
      ∧ (s.countTick c src fly).ddr = s.ddr ∧ (s.countTick c src fly).tasks = s.tasks

/-- Each source makes its edge: the internal generator P_nom after the last edge; TICK_IN 3 cycles after the selected transition, or it is
ignored and counted where that is before 99 % of P_nom; a host write 3 cycles after it is accepted, which it is where the source is the host's,
the tick runs, no such edge is on its way and it is not early; the flywheel at 101 % of P_nom where no host's edge is on its way
(R29, R31). -/
def Obligations.SourcesMakeEdges : Prop :=
  (∀ (t : Nat) (env : Readings) (s : State), s.live = true → s.tickOn = true → s.tick.hostDue = none → s.reg 0x2000 1 = 0 →
    s.innerDue ≤ max s.now t → exec (.tickEdge t env) s = .next ((s.at t).makeEdge s.innerDue 0 false env))
  ∧ (∀ (t k : Nat) (env : Readings) (s : State), s.live = true → s.tickOn = true → s.tick.hostDue = some k → k ≤ max s.now t →
    exec (.tickEdge t env) s = .next ((s.at t).makeEdge k 2 false env))
  ∧ (∀ (t : Nat) (level : Bool) (env : Readings) (s u : State), u = ({ s with tick := { s.tick with tickIn := level } } : State).at t →
    s.live = true → s.tickOn = true → level ≠ s.tick.tickIn → s.reg 0x2000 1 = 1 → level = decide (s.reg 0x2000 4 = 0) →
    exec (.tickInEdge t level env) s =
      .next (if s.tooEarly (max s.now (t + 3)) then (u.bump 32 0x2001 6 1).openUndue else u.makeEdge (max s.now (t + 3)) 1 false env))
  ∧ (∀ (t k : Nat) (c : Caller) (r : Req) (env : Readings) (s v : State), v = (s.at t).serve (callerFn c) 2 (reqFor r 0x2000 5) →
    s.live = true → s.tick.hostDue = none →
    (v.tick.hostDue = some k → exec (.hostTick t c r env) s = .next (v.makeEdge (max s.now (t + 3)) 2 false env))
    ∧ (v.tick.hostDue = none → exec (.hostTick t c r env) s = .next v.openUndue))
  ∧ (∀ s : State, s.tickOn = true → s.reg 0x2000 1 = 2 → s.tick.hostDue = none → s.tooEarly (s.now + 3) = false →
    s.hostTickOp.2 = stOk ∧ s.hostTickOp.1.tick.hostDue = some (s.now + 3))
  ∧ (∀ (t e : Nat) (env : Readings) (s : State), s.live = true → s.tickOn = true → s.tick.lastEdge = some e → s.reg 0x2000 1 ≠ 0 →
    s.tick.hostDue = none → e + s.pNom * 101 / 100 ≤ max s.now t →
    exec (.flywheelTick t env) s = .next ((s.at t).makeEdge (e + s.pNom * 101 / 100) 3 true env))

/-- Within the tick: the third flywheel edge of a run raises TICK_SOURCE_LOST once; the guard interval begins at L once, with the copies of
retired pages and PMC's step; FSYNC rises at its offset once in a tick and falls after its width, nothing else changing (R31, R36–R38). -/
def Obligations.TickUnitActsWithinTheTick : Prop :=
  (∀ (t : Nat) (s : State), s.live = true → 3 ≤ s.tick.run → s.tick.lost = false →
    exec (.tickSourceLost t) s = .next { ((s.at t).raiseEvent 0x10 none 0 (s.reg 0x2001 4) 0 0) with tick := { s.tick with lost := true } })
  ∧ (∀ (t e : Nat) (s u : State), u = s.at t → s.live = true → s.tick.lastEdge = some e → s.tick.guard = false → s.limitL ≤ u.sinceEdge →
    exec (.guardIntervalStart t) s = .next (State.replanStep (s.faults.toCopy.foldl State.copyPage { u with
      tick := { s.tick with guard := true }, faults := { s.faults with toCopy := [], copied := s.faults.copied ++ s.faults.toCopy } })))
  ∧ (∀ (t e : Nat) (n : PortId) (s : State), s.live = true → s.tick.lastEdge = some e → s.reg (0x2010 + n.val) 4 = 1 →
    (s.port n.val).fsyncUp = false → s.reg (0x2010 + n.val) 1 ≤ max s.now t - e →
    exec (.fsyncAssert t n) s = .next ((s.at t).setPort n.val { (s.port n.val) with
      fsync := decide (s.reg (0x2010 + n.val) 3 = 0), fsyncAt := e + s.reg (0x2010 + n.val) 1, fsyncUp := true }))
  ∧ (∀ (t : Nat) (n : PortId) (s : State), s.live = true → (s.port n.val).fsyncUp = true →
    (s.port n.val).fsyncAt + s.reg (0x2010 + n.val) 2 ≤ max s.now t →
    exec (.fsyncDeassert t n) s = .next ((s.at t).setPort n.val { (s.port n.val) with fsync := decide (s.reg (0x2010 + n.val) 3 = 1) }))

/-! ### Dispatch (07) -/

/-- A waiting entry whose conditions hold becomes eligible, at its node's release, at the last condition and at its window's start; its
resource's ready count follows, and nothing else changes (R187, R188, R402). -/
def Obligations.WaitingEntriesBecomeEligible : Prop :=
  (∀ (t : Nat) (p : Part) (node : Nat) (s u : State) (k : Task), u = s.at t → s.live = true →
    s.tasks.filter (fun x => decide (x.part = p.val) && decide (x.num = node) && decide (x.stage = 0) && x.maint.isNone && x.ring.isNone
      && decide (x.redo = 0)) = [k] → u.task? k.id = some k → u.eligible k = true →
    exec (.nodeRelease t p node) s = .next ((u.putTask { k with stage := 1, eligAt := u.now }).countReady k.node.res)
      ∧ exec (.nodeEligible t p node) s = .next ((u.putTask { k with stage := 1, eligAt := u.now }).countReady k.node.res))
  ∧ (∀ (t : Nat) (p : Part) (e : EngId) (s u : State) (k : Task), u = s.at t → s.live = true →
    s.tasks.filter (fun x => decide (x.part = p.val) && decide (x.node.res = 0x20 + e.val) && decide (x.stage = 0)) = [k] →
    u.task? k.id = some k → u.eligible k = true →
    exec (.engineWindowStart t p e) s = .next ((u.putTask { k with stage := 1, eligAt := u.now }).countReady k.node.res))
  ∧ (∀ (t a b c : Nat) (p : Part) (e : EngId) (s : State), s.live = true → s.window p.val e.val = some (a, b) → s.tick.lastEdge = some c →
    b ≠ 0xFFFFFFFF → b ≤ max s.now t - c → 16 * p.val + e.val ∉ s.winDone →
    exec (.engineWindowEnd t p e) s = .next { ((s.at t).countWindow p.val e.val) with winDone := s.winDone ++ [16 * p.val + e.val] })

/-- A resource that can take work takes the entry that its ready list puts first: a core that runs nothing, or whose budget node takes its next
host entry; an engine, whose second entry is taken with its first descriptor loaded; a DMA unit with a free channel, a maintenance request then
showing that it runs; an I3C controller. An engine or a controller that runs, a unit without a free channel and an empty list take nothing,
nor does a retired resource (R188, R190, R191, R200, R284, R451). -/
def Obligations.ResourcesTakeTheFirstReadyEntry : Prop :=
  (∀ (t : Nat) (r : Res) (s : State), s.live = true → (s.at t).resRetired r.val = true → exec (.taskSelect t r) s = .next (s.at t))
  ∧ (∀ (t : Nat) (r : Res) (s u : State) (k : Task), u = s.at t → s.live = true → u.resRetired r.val = false → r.val < 32 →
    (s.core r.val).task = none → (s.core r.val).budget = none → (s.core r.val).paused = none →
    firstTask ((u.readyList r.val).filter (fun x => !(x.selfTest && u.away (3 + r.val / 8)))) = some k → u.isBudget k = false →
    exec (.taskSelect t r) s = .next (u.coreStart r.val k))
  ∧ (∀ (t id : Nat) (r : Res) (s u : State) (k : Task), u = s.at t → s.live = true → u.resRetired r.val = false → r.val < 32 →
    (s.core r.val).task = none → (s.core r.val).budget = some id → u.task? id = some k → exec (.taskSelect t r) s = .next (u.hostSelect r.val k))
  ∧ (∀ (t : Nat) (r : Res) (s u : State) (k : Task), u = s.at t → s.live = true → u.resRetired r.val = false → isEngine r.val = true →
    firstTask (u.readyList r.val) = some k →
    ((s.eng (r.val - 0x20)).task = none → exec (.taskSelect t r) s = .next ((u.startTask k.id).setEng (r.val - 0x20)
      { (s.eng (r.val - 0x20)) with task := some k.id, next := none, seq := 0, run := none, pre := none, loaded := none }))
    ∧ ((s.eng (r.val - 0x20)).task ≠ none → (s.eng (r.val - 0x20)).next = none →
      exec (.taskSelect t r) s = .next (((u.countReady r.val).loadSecond (r.val - 0x20) k).countReady r.val))
    ∧ ((s.eng (r.val - 0x20)).task ≠ none → (s.eng (r.val - 0x20)).next ≠ none → exec (.taskSelect t r) s = .next u))
  ∧ (∀ (t : Nat) (r : Res) (s u : State) (k : Task), u = s.at t → s.live = true → u.resRetired r.val = false → isDma r.val = true →
    firstTask ((u.readyList r.val).filter (fun x => x.maint.isNone || decide (s.reg 0x2071 11 = 0))) = some k →
    (u.freeChan (r.val - 0x30) k.part k.owner.isNone = none → exec (.taskSelect t r) s = .next u)
    ∧ (∀ c v, u.freeChan (r.val - 0x30) k.part k.owner.isNone = some c →
      v = (match k.maint with
        | some f => if f = scrubFn then u.startTask k.id else (u.startTask k.id).setRegF f 0x5420 3 2
        | none => u.startTask k.id) →
      exec (.taskSelect t r) s = .next (v.setChan (r.val - 0x30) c { chan0 with
        task := some k.id, descAt := k.prog, rTok := (0, v.now), wTok := (0, v.now), entryAt := v.now,
        gens := if k.node.kind = 9 ∧ k.maint = none then v.reshardGens (v.reshardEntries k) else [] })))
  ∧ (∀ (t : Nat) (r : Res) (s u : State) (k : Task), u = s.at t → s.live = true → u.resRetired r.val = false → isI3c r.val = true →
    firstTask (u.readyList r.val) = some k →
    exec (.taskSelect t r) s = .next (if (s.i3c (r.val - 0x40)).task = none then (u.startTask k.id).i3cStart (r.val - 0x40) k.id else u))
  ∧ (∀ (t : Nat) (r : Res) (s u : State), u = s.at t → s.live = true → isEngine r.val = true ∨ isDma r.val = true ∨ isI3c r.val = true →
    u.readyList r.val = [] → exec (.taskSelect t r) s = .next u)

/-- The entry of a queue that is recorded is the one that ended first, of those whose record need not wait for a frame's glint check or for room in
its ring; with none of these nothing changes. The record of 16 bytes goes into the ring's next slot and no other byte of LPDDR5 changes; the
entry is recorded, Q_COMPLETED counts it, and no channel holds it any more (R25, R194, R195, R201). -/
def Obligations.EndedEntriesAreRecorded : Prop :=
  (∀ (t : Nat) (q : QueueId) (s : State), s.live = true → (s.at t).dueTask q.val = none → exec (.taskComplete t q) s = .next (s.at t))
  ∧ (∀ (t : Nat) (q : QueueId) (s : State) (k : Task), s.live = true → (s.at t).dueTask q.val = some k →
    exec (.taskComplete t q) s = .next ((s.at t).completeTask k))
  ∧ (∀ (t a : Nat) (q : QueueId) (s u : State) (k : Task) (g : Ring), u = s.at t → s.live = true → u.dueTask q.val = some k → k.redo ≠ 1 →
    (s.queue q.val).ringFor k.old = some g → a = u.rangeAddr g.part g.bind.cqAddr + 16 * (g.cqTail % g.bind.depth) →
    ∃ s', exec (.taskComplete t q) s = .next s' ∧ s'.ddrRead a 16 = completionBytes k
      ∧ (∀ b, b < a ∨ a + 16 ≤ b → kget memDefault s'.ddr b = kget memDefault s.ddr b)
      ∧ (s'.queue q.val).done = (s.queue q.val).done + 1 ∧ (∀ x ∈ s'.tasks, x.id = k.id → x.stage = 4)
      ∧ (∀ v c, (s'.chan v c).task ≠ some k.id))
  ∧ (∀ (s : State) (q : Nat) (k : Task), s.dueTask q = some k → k ∈ s.tasks ∧ k.stage = 3 ∧ k.node.queue = q ∧ k.maint = none
      ∧ s.outputHeld k = false ∧ s.ringWaits k = false
      ∧ ∀ x ∈ s.tasks, x.stage = 3 → x.node.queue = q → x.maint = none → s.outputHeld x = false → s.ringWaits x = false → k.endAt ≤ x.endAt)

/-! ### Tensor cores (04, 11) -/

/-- The sequencer fetches the next TOD of the running task while its queue has room and the program is not fetched whole; with the queue full
nothing changes. What enters is the 64 bytes at the program's next place with the outcome of their checks: a TOD whose block is poisoned, or whose
CRC-32 does not match, has TASK_ABORTED and counts in OD 8000.04 or OD 8000.02, one in a withdrawn page has RETIRED; no other one counts, and a
poisoned or withdrawn block marks the task's outputs corrupt. With the program fetched whole, where
OUTSTANDING is 2 or more, the next entry's TODs are fetched in the same way (R115, R190, R444, R445, R447, R452). -/
def Obligations.SequencerFetches : Prop :=
  (∀ (t a : Nat) (c : CoreId) (s u : State) (k : Task), u = s.at t → s.live = true → u.coreTask c.val = some k →
    (s.core c.val).fetchedAll = false → fetchOpen (s.core c.val).fetch = true → a = k.prog + 64 * (s.core c.val).fetched →
    ∃ (q : TodQ) (s' : State), exec (.todFetch t c) s = .next s'
      ∧ s'.core c.val = { (s.core c.val) with fetch := (s.core c.val).fetch ++ [q], fetched := (s.core c.val).fetched + 1 }
      ∧ q.bytes = s.ddrRead a 64
      ∧ (s.spanRetired a 64 = true → q.status = stRetired)
      ∧ (s.spanRetired a 64 = false → s.spanPoisoned a 64 = true →
          q.status = stTaskAborted ∧ s'.reg 0x8000 4 = satAdd 64 (s.reg 0x8000 4) 1)
      ∧ (s.spanRetired a 64 = false → s.spanPoisoned a 64 = false → crc32 (slice q.bytes 0 60) ≠ wordAt q.bytes 15 →
          q.status = stTaskAborted ∧ s'.reg 0x8000 2 = satAdd 64 (s.reg 0x8000 2) 1)
      ∧ (s.spanRetired a 64 = false → s.spanPoisoned a 64 = false → q.status = u.todCheck c.val k q.bytes (((s.core c.val).fetch.getLast?.map (fun x => x.bytes)).getD
          ((s.core c.val).run.getD (s.core c.val).lastTod)) (s.core c.val).fetched)
      ∧ (q.status ≠ stTaskAborted → s'.dict = s.dict)
      ∧ s'.tasks = (if s.fetchStatus a = stOk then s.tasks else (s.modTask k.id (fun x => { x with corrupt := true })).tasks)
      ∧ s'.ddr = s.ddr ∧ s'.pads = s.pads)
  ∧ (∀ (t : Nat) (c : CoreId) (s : State) (k : Task), s.live = true → (s.at t).coreTask c.val = some k → (s.core c.val).fetchedAll = false →
    fetchOpen (s.core c.val).fetch = false → exec (.todFetch t c) s = .next (s.at t))
  ∧ (∀ (t id : Nat) (c : CoreId) (s u : State) (k v : Task) (b : Binding), u = s.at t → s.live = true → u.coreTask c.val = some k →
    (s.core c.val).fetchedAll = true → (s.queue k.node.queue).bind = some b → 2 ≤ b.outstanding → (s.core c.val).next = some id →
    u.task? id = some v → fetchOpen (s.core c.val).nfetch = true →
    ∃ (q : TodQ) (s' : State), exec (.todFetch t c) s = .next s'
      ∧ s'.core c.val = { (s.core c.val) with next := some v.id, nfetch := (s.core c.val).nfetch ++ [q] }
      ∧ q.bytes = s.ddrRead (v.prog + 64 * (s.core c.val).nfetch.length) 64
      ∧ s'.tasks = (if s.fetchStatus (v.prog + 64 * (s.core c.val).nfetch.length) = stOk then s.tasks
          else (s.modTask v.id (fun x => { x with corrupt := true })).tasks)
      ∧ s'.ddr = s.ddr ∧ s'.pads = s.pads)

/-- The TOD at the head of the fetch queue starts when none runs: a FLAG_WAIT then waits, and a host task's cycles run from its first TOD. One
whose checks failed, at its fetch or at its start, is refused with its status. A task that is to stop stops instead, and a self-test slot that the
next slice would take over its limit ends, counted in OD 71cc.06. While a TOD runs, or with none fetched, nothing changes (R115, R116, R191,
R302, R437). -/
def Obligations.HeadTodStartsOrIsRefused : Prop :=
  (∀ (t : Nat) (c : CoreId) (s u : State) (k : Task) (q : TodQ) (rest : List TodQ), u = s.at t → s.live = true → u.coreTask c.val = some k →
    (s.core c.val).run = none → (s.core c.val).stop = 0 → (s.core c.val).fetch = q :: rest → q.status = 0 → u.startCheck c.val k.part q.bytes = 0 →
    (k.selfTest = false ∨ k.redo ≠ 0 ∨ max s.now t + todCycles q.bytes 0 0 false ≤ slotLimit k) →
    ∃ s', exec (.todStart t c) s = .next s' ∧ s'.core c.val = { (s.core c.val) with
        fetch := rest, run := some q.bytes, runAt := max s.now t, ran := 0, wait := if todType q.bytes = 0x20 then 1 else 0 }
      ∧ s'.coreTask c.val = some (if k.ring.isSome = true ∧ k.started = false then { k with started := true, startAt := max s.now t } else k)
      ∧ s'.dict = (if k.ring.isSome = true ∧ k.started = false then (s.countStart c.val (max s.now t - k.eligAt)).dict else s.dict)
      ∧ s'.ddr = s.ddr ∧ s'.pads = s.pads)
  ∧ (∀ (t : Nat) (c : CoreId) (s u : State) (k : Task) (q : TodQ) (rest : List TodQ), u = s.at t → s.live = true → u.coreTask c.val = some k →
    (s.core c.val).run = none → (s.core c.val).stop = 0 → (s.core c.val).fetch = q :: rest →
    (q.status ≠ 0 → exec (.todStart t c) s = .next (u.refuseTod c.val q.status))
    ∧ (q.status = 0 → u.startCheck c.val k.part q.bytes ≠ 0 → exec (.todStart t c) s = .next (u.refuseTod c.val (u.startCheck c.val k.part q.bytes)))
    ∧ (q.status = 0 → u.startCheck c.val k.part q.bytes = 0 → k.selfTest = true → k.redo = 0 →
      slotLimit k < max s.now t + todCycles q.bytes 0 0 false →
      exec (.todStart t c) s = .next ((u.bump 64 (0x7100 + c.val) 6 1).coreFinish c.val stOk)))
  ∧ (∀ (t : Nat) (c : CoreId) (s u : State) (k : Task), u = s.at t → s.live = true → u.coreTask c.val = some k → (s.core c.val).run = none →
    ((s.core c.val).stop ≠ 0 → exec (.todStart t c) s = .next (u.coreStop c.val))
    ∧ ((s.core c.val).stop = 0 → (s.core c.val).fetch = [] → exec (.todStart t c) s = .next u))
  ∧ (∀ (t : Nat) (c : CoreId) (s : State), s.live = true → (s.core c.val).run ≠ none → exec (.todStart t c) s = .next (s.at t))

/-- A TOD that completes leaves its outputs. It waits while the row-valid bits of a scratchpad that it reaches are cleared, and comes after the
cycles of their ports. A refusal at a remote core, or an access to a withdrawn row, ends the task instead; a FLAG_WAIT completes once it waits no
more, and a KNOWN_ANSWER with its own judgement. After a TOD that is not the LAST one of a task that is not a self-test slot, and is not to stop,
the sequencer is free for the next one; after the LAST one the task ends with OK (R116, R117, R144, R166, R196, R302, R436, R451). -/
def Obligations.TodCompletesWithItsOutputs : Prop :=
  (∀ (t k : Nat) (c : CoreId) (s u : State) (b : List Byte), u = s.at t → s.live = true → (s.core c.val).run = some b →
    (todReach b c.val).find? u.padClearing = some k → exec (.todComplete t c) s = .next (u.holdPad k (.tod c.val)))
  ∧ (∀ (t : Nat) (c : CoreId) (s u v w : State) (k : Task) (b : List Byte), u = s.at t → s.live = true → (s.core c.val).run = some b →
    (todReach b c.val).find? u.padClearing = none → v = (todReach b c.val).foldl State.padRun u → (v.core c.val).run = some b →
    v.coreTask c.val = some k → w = (v.remoteCheck c.val k.part b).1 →
    (todType b ≠ 0x20 → todType b ≠ 0x30 → (v.remoteCheck c.val k.part b).2 = 0 →
      ((w.todWork c.val b).spans.any (fun e => w.spanWithdrawn (todCore b c.val e.1) (todHandle b e.1) e.2.1 e.2.2)) = false →
      exec (.todComplete t c) s = .next (w.todOutputs c.val k b (w.todWork c.val b)))
    ∧ (todType b ≠ 0x20 → todType b ≠ 0x30 → (v.remoteCheck c.val k.part b).2 = 0 →
      ((w.todWork c.val b).spans.any (fun e => w.spanWithdrawn (todCore b c.val e.1) (todHandle b e.1) e.2.1 e.2.2)) = true →
      exec (.todComplete t c) s = .next (w.coreFinish c.val stRetired))
    ∧ (todType b ≠ 0x20 → todType b ≠ 0x30 → (v.remoteCheck c.val k.part b).2 ≠ 0 →
      exec (.todComplete t c) s = .next (w.coreFinish c.val (v.remoteCheck c.val k.part b).2))
    ∧ (todType b = 0x20 → (v.core c.val).wait = 1 ∨ (v.core c.val).wait = 2 → exec (.todComplete t c) s = .next v)
    ∧ (todType b = 0x20 → (v.core c.val).wait ≠ 1 → (v.core c.val).wait ≠ 2 →
      exec (.todComplete t c) s = .next ((v.countTod c.val work0).afterTod c.val b))
    ∧ (todType b = 0x30 → exec (.todComplete t c) s = .next (v.knownAnswerEnd c.val b)))
  ∧ (∀ (c : Nat) (s : State) (k : Task) (b : List Byte), s.coreTask c = some k → k.selfTest = false → (s.core c).stop = 0 →
    (todLast b = false → s.afterTod c b = s.setCore c { (s.core c) with run := none, lastTod := b, wait := 0, ran := 0 })
    ∧ (todLast b = true → s.afterTod c b = (s.setCore c { (s.core c) with run := none, lastTod := b, wait := 0, ran := 0 }).coreFinish c stOk))

/-- A host task that has used its MAX_CYCLES is stopped at the end of its TOD, at once where none runs; a stop that it has already keeps its cause;
before its MAX_CYCLES nothing changes (R191, R196). -/
def Obligations.HostTaskStopsAtItsLimit : Prop :=
  ∀ (t : Nat) (c : CoreId) (s u v : State) (k : Task), u = s.at t → s.live = true → u.coreTask c.val = some k → k.ring.isSome = true →
    k.started = true → v = (if (s.core c.val).stop = 0 then u.setCore c.val { (s.core c.val) with stop := 2 } else u) →
    (k.startAt + k.maxCyc ≤ max s.now t → (s.core c.val).run = none → exec (.hostTaskMaxCycles t c) s = .next (v.coreStop c.val))
    ∧ (k.startAt + k.maxCyc ≤ max s.now t → (s.core c.val).run ≠ none → exec (.hostTaskMaxCycles t c) s = .next v)
    ∧ (max s.now t < k.startAt + k.maxCyc → exec (.hostTaskMaxCycles t c) s = .next u)

/-- A flag wait ends when the flag shows the tick and DONE, or PROGRESS enough: ABSENT ends the task with OK and absent, CORRUPT and LATE mark its
inputs, and the copy follows where the TOD asks for one; before that nothing changes. A wait still open two edges on counts in OD 6010.07 and ends
the task. The copy lands in the local handle, and the wait is over; outside the partition's scratch range it is refused, a withdrawn row ends the
task, and a scratchpad whose row-valid bits are cleared makes it wait (R144, R299–R302, R451). -/
def Obligations.FlagWaitsEnd : Prop :=
  (∀ (t f : Nat) (c : CoreId) (s u : State) (k : Task) (b : List Byte) (ready : Bool), u = s.at t → s.live = true → u.coreTask c.val = some k →
    (s.core c.val).run = some b → (s.core c.val).wait = 1 → f = leNat (u.scrRead (flagAddr (df b 4 11 0)) 8) →
    ready = (decide (f % 2 ^ 44 = flagTick k b) && (f.testBit 58 || (decide (0 < df b 4 29 16) && decide (df b 4 29 16 ≤ fld f 57 44)))) →
    (ready = true → f.testBit 59 = false →
      exec (.flagWaitPoll t c) s = .next ((u.modTask k.id (fun x => { x with inCorrupt := x.inCorrupt || f.testBit 61, inLate := x.inLate || f.testBit 60 })).setCore
        c.val { (s.core c.val) with wait := if (wordAt b 4).testBit 30 then 2 else 0 }))
    ∧ (ready = true → f.testBit 59 = true →
      exec (.flagWaitPoll t c) s = .next ((u.modTask k.id (fun x => { x with absent := true })).coreFinish c.val stOk))
    ∧ (ready = false → exec (.flagWaitPoll t c) s = .next u))
  ∧ (∀ (t : Nat) (c : CoreId) (s u : State) (k : Task), u = s.at t → s.live = true → u.coreTask c.val = some k → (s.core c.val).wait = 1 →
    (k.tick + 2 ≤ s.tickCount → exec (.flagWaitExpired t c) s = .next ((u.bump 32 0x6010 7 1).coreFinish c.val stTaskAborted))
    ∧ (s.tickCount < k.tick + 2 → exec (.flagWaitExpired t c) s = .next u))
  ∧ (∀ (t k : Nat) (c : CoreId) (s u : State) (b : List Byte), u = s.at t → s.live = true → (s.core c.val).run = some b →
    (todReach b c.val).find? u.padClearing = some k → exec (.flagWaitCopyDone t c) s = .next (u.holdPad k (.tod c.val)))
  ∧ (∀ (t src dst n : Nat) (c : CoreId) (s u v w : State) (k : Task) (b : List Byte), u = s.at t → s.live = true → (s.core c.val).run = some b →
    (todReach b c.val).find? u.padClearing = none → v = (todReach b c.val).foldl State.padRun u → (v.core c.val).run = some b →
    v.coreTask c.val = some k → (v.core c.val).wait = 2 → src = df b 5 22 0 → dst = 8 * df b 7 19 0 → n = 8 * df b 6 23 0 →
    w = v.guardSpan c.val (todHandle b 0) dst n 5 →
    (v.scrOwned k.part src n = true → v.spanWithdrawn c.val (todHandle b 0) dst n = false →
      ∃ x, x = w.padPuts c.val (todHandle b 0) (writesAt dst (w.scrRead src n))
        ∧ exec (.flagWaitCopyDone t c) s = .next ((x.modTask k.id (fun y => { y with wrote := true })).setCore c.val { x.core c.val with wait := 3 }))
    ∧ (v.scrOwned k.part src n = true → v.spanWithdrawn c.val (todHandle b 0) dst n = true →
      exec (.flagWaitCopyDone t c) s = .next (v.coreFinish c.val stRetired))
    ∧ (v.scrOwned k.part src n = false → exec (.flagWaitCopyDone t c) s = .next ((v.firewallRefuse c.val k.part false 4 0).coreFinish c.val stAccessDenied)))


/-! ### Scratchpads (05) -/

/-- The ports of a scratchpad. While its row-valid bits are cleared, requests of its ports wait in their order, and they go on when the clear has
ended; else the cycles up to this one pass, the requests are presented and one cycle of the ports passes; a wide read that comes alone to
ports without a request is answered with the row's bytes. A narrow access over the network through a handle is served for the core's own
partition and for privileged initiators that have a narrow path, a raw one for privileged initiators and words of the scratchpad; one that the
firewall refuses, or without a narrow path, is answered ACCESS_DENIED (the latter the model's choice, log 65) and touches no scratchpad and no
LPDDR5; a refused one counts in OD 51cc.04 (R16, R133, R144, R147, R148). -/
def Obligations.ScratchpadsServeTheirPortsAndNarrowAccesses : Prop :=
  (∀ (t : Nat) (c : CoreId) (l : List PadReq) (s u : State), u = s.at t → s.live = true → u.padClearing c.val = true →
    exec (.scratchpadRequest t c l) s = .next (l.foldl (fun v r => v.holdPad c.val (.port r)) u))
  ∧ (∀ (t : Nat) (c : CoreId) (l : List PadReq) (s u : State), u = s.at t → s.live = true → u.padClearing c.val = false →
    exec (.scratchpadRequest t c l) s = .next ((l.foldl (fun v r => v.presentPad c.val r) (u.padRun c.val)).padCycle c.val))
  ∧ (∀ (t off : Nat) (c : CoreId) (r : PadReq) (s u : State) (h : HandleE), u = s.at t → s.live = true → u.padClearing c.val = false →
    (s.pad c.val).pend = [] → (s.pad c.val).cycle ≠ max s.now t → r.kind = .wideRead off → portAllows r.port.val r.kind = true →
    h = (s.pad c.val).handle r.handle.val → handleCheck h r.gen.toNat = stOk → off < h.count → u.rowWithdrawn c.val (h.base + off) = false →
    ∃ s', exec (.scratchpadRequest t c [r]) s = .next s'
      ∧ klook (s'.pad c.val).replies r.port.val
          = some { status := stOk, bytes := (s.pad c.val).readRow h.diag h.fill (h.base + off) }
      ∧ (s'.pad c.val).cells = (s.pad c.val).cells ∧ s'.ddr = s.ddr)
  ∧ (∀ (t e : Nat) (c : CoreId) (s u : State), u = s.at t → s.live = true → (s.pad c.val).clearAt = some e →
    (e ≤ max s.now t → exec (.rowValidClearDone t c) s = .next (((s.pad c.val).held.foldl (fun v x => v.serveHeld c.val x)
      (u.setPad c.val { s.pad c.val with clearAt := none, held := [] })).padCycle c.val))
    ∧ (max s.now t < e → exec (.rowValidClearDone t c) s = .next u))
  ∧ (∀ (t : Nat) (c : CoreId) (s : State), s.live = true → (s.pad c.val).clearAt = none → exec (.rowValidClearDone t c) s = .next (s.at t))
  ∧ (∀ (t : Nat) (i : BitVec 8) (tag : Part) (c : CoreId) (h : Fin 64) (gen : BitVec 12) (off : Nat) (a : Access) (s u : State),
    u = s.at t → s.live = true → hasNarrowPath i.toNat = true →
    privileged i.toNat = true ∨ (s.corePart c.val).isSome = true ∧ s.corePart c.val = s.tagOf i.toNat tag.val →
    exec (.remoteNarrowRequest t i tag c h gen off a) s = .next (u.padServe c.val [.narrow h.val gen.toNat off a]))
  ∧ (∀ (t : Nat) (i : BitVec 8) (tag : Part) (c : CoreId) (h : Fin 64) (gen : BitVec 12) (off : Nat) (a : Access) (s : State),
    s.live = true → hasNarrowPath i.toNat = true → privileged i.toNat = false →
    s.corePart c.val = none ∨ s.corePart c.val ≠ s.tagOf i.toNat tag.val →
    ∃ s', exec (.remoteNarrowRequest t i tag c h gen off a) s = .next s' ∧ s'.netReply = { status := stAccessDenied, bytes := zeros 8 }
      ∧ s'.reg (0x5100 + c.val) 4 = satAdd 64 (s.reg (0x5100 + c.val) 4) 1 ∧ s'.pads = s.pads ∧ s'.ddr = s.ddr)
  ∧ (∀ (t : Nat) (i : BitVec 8) (tag : Part) (c : CoreId) (h : Fin 64) (gen : BitVec 12) (off : Nat) (a : Access) (s : State),
    s.live = true → hasNarrowPath i.toNat = false →
    exec (.remoteNarrowRequest t i tag c h gen off a) s = .next { (s.at t) with netReply := { status := stAccessDenied, bytes := zeros 8 } })
  ∧ (∀ (t word : Nat) (i : BitVec 8) (c : CoreId) (a : Access) (s u : State), u = s.at t → s.live = true → privileged i.toNat = true →
    word < 327680 → exec (.rawNarrowAccess t i c word a) s = .next (u.padServe c.val [.raw word a]))
  ∧ (∀ (t word : Nat) (i : BitVec 8) (c : CoreId) (a : Access) (s : State), s.live = true →
    hasNarrowPath i.toNat = true → privileged i.toNat = false →
    ∃ s', exec (.rawNarrowAccess t i c word a) s = .next s' ∧ s'.netReply = { status := stAccessDenied, bytes := zeros 8 }
      ∧ s'.reg (0x5100 + c.val) 4 = satAdd 64 (s.reg (0x5100 + c.val) 4) 1 ∧ s'.pads = s.pads ∧ s'.ddr = s.ddr)
  ∧ (∀ (t word : Nat) (i : BitVec 8) (c : CoreId) (a : Access) (s : State), s.live = true → hasNarrowPath i.toNat = false →
    exec (.rawNarrowAccess t i c word a) s = .next { (s.at t) with netReply := { status := stAccessDenied, bytes := zeros 8 } })
  ∧ (∀ (i tag : Nat) (s : State), (i < 0x20 → s.tagOf i tag = s.corePart i) ∧ (0x71 ≤ i → i ≤ 0x78 → s.tagOf i tag = some (i - 0x71)))

/-! ### DMA (08) -/

/-- A DMA channel. The next descriptor of the chain enters the shadow set with the outcome of its checks and becomes active at once where none is
and it passed them; a channel whose shadow set is full, whose chain has ended, or that is halted or to stop, takes none. The shadow set becomes
active when the last read before it has been issued and no FENCE holds it, or when nothing is active. A unit's network slot, of which a cycle
has one, goes to the channel that the weighted round robin picks. An access to a scratchpad waits while its row-valid bits are cleared, and comes
after the cycles of its ports. Data for the oldest read enter the descriptor's buffer, or are a block of its index stream, and count in OD
541u.01; the oldest write lands and its bytes count in OD 541u.02; one that the target refuses is refused with that status, one from a poisoned
block counts in OD 8000.04, and both abort the task (R144, R200, R202, R203, R212, R217, R223). -/
def Obligations.DmaChannelsLoadIssueAndLand : Prop :=
  (∀ (t st addr : Nat) (u : DmaId) (ch : ChanId) (s v : State) (x y : Chan) (k : Task) (b : List Byte), v = s.at t → x = s.chan u.val ch.val →
    s.live = true → v.chanTask u.val ch.val = some k → k.stage = 2 → (k.node.kind ≠ 9 ∨ k.maint.isSome = true) → x.shadow = none → k.stop = false →
    x.halted = false → x.chainOpen = true → addr = x.descAt + 64 * x.seq → b = (if k.maint.isSome then k.desc else s.ddrRead addr 64) →
    st = firstFail [if k.maint.isNone then v.fetchStatus addr else stOk, v.dmaCheck u.val b x.seq k.maint.isSome] →
    y = { x with shadow := some (newDesc x.seq b), shadowSt := st, seq := x.seq + 1 } →
    (y.shadowReady = true → x.live = [] → exec (.dmaDescriptorLoad t u ch) s
      = .next ((((v.countLoad u.val k addr st).setChan u.val ch.val y).dmaActivate u.val ch.val).dmaAdvance u.val ch.val))
    ∧ (y.shadowReady = false ∨ x.live ≠ [] → exec (.dmaDescriptorLoad t u ch) s
      = .next (((v.countLoad u.val k addr st).setChan u.val ch.val y).dmaAdvance u.val ch.val)))
  ∧ (∀ (t : Nat) (u : DmaId) (ch : ChanId) (s v : State) (x : Chan) (k : Task), v = s.at t → x = s.chan u.val ch.val → s.live = true →
    v.chanTask u.val ch.val = some k → x.shadow.isSome = true ∨ k.stop = true ∨ x.halted = true ∨ x.chainOpen = false →
    exec (.dmaDescriptorLoad t u ch) s = .next v)
  ∧ (∀ (t : Nat) (u : DmaId) (ch : ChanId) (s v : State) (x : Chan) (k : Task) (b : Desc), v = s.at t → x = s.chan u.val ch.val →
    s.live = true → v.chanTask u.val ch.val = some k → x.shadow = some b → x.shadowReady = true → k.stop = false →
    (x.live = [] → exec (.dmaShadowActivate t u ch) s = .next ((v.dmaActivate u.val ch.val).dmaAdvance u.val ch.val))
    ∧ (∀ d, x.live.getLast? = some d → exec (.dmaShadowActivate t u ch) s = .next (if dFence b.bytes = false ∧ d.readsOut = true
      then (v.dmaActivate u.val ch.val).dmaAdvance u.val ch.val else v)))
  ∧ (∀ (t c : Nat) (u : DmaId) (s v w : State), v = s.at t → s.live = true → w = v.setDma u.val { s.dma u.val with slotAt := some (max s.now t) } →
    ((s.dma u.val).slotAt = some (max s.now t) → exec (.dmaRequestIssue t u) s = .next v)
    ∧ ((s.dma u.val).slotAt ≠ some (max s.now t) → v.slotPick u.val = some (true, c) →
      exec (.dmaRequestIssue t u) s = .next ((w.issueWrite u.val c).dmaAdvance u.val c))
    ∧ ((s.dma u.val).slotAt ≠ some (max s.now t) → v.slotPick u.val = some (false, c) →
      exec (.dmaRequestIssue t u) s = .next ((w.issueRead u.val c).dmaAdvance u.val c))
    ∧ (v.slotPick u.val = none → exec (.dmaRequestIssue t u) s = .next v))
  ∧ (∀ (t core : Nat) (u : DmaId) (ch : ChanId) (s v : State), v = s.at t → s.live = true → v.padClearing core = true →
    (∀ hd, v.dmaPad u.val ch.val false = some core → exec (.dmaReadData t u ch hd) s = .next (v.holdPad core (.dma u.val ch.val false)))
    ∧ (v.dmaPad u.val ch.val true = some core → exec (.dmaWriteLanded t u ch) s = .next (v.holdPad core (.dma u.val ch.val true))))
  ∧ (∀ (t : Nat) (u : DmaId) (ch : ChanId) (hd : List Byte) (s v w : State) (x : Chan) (k : Task) (r : DmaReq) (d : Desc) (bs : List Byte),
    s.live = true → ((s.at t).dmaPad u.val ch.val false = none ∧ v = s.at t
      ∨ ∃ c, (s.at t).dmaPad u.val ch.val false = some c ∧ (s.at t).padClearing c = false ∧ v = (s.at t).padRun c) →
    x = v.chan u.val ch.val → v.chanTask u.val ch.val = some k → x.oldest (fun q => !q.write) = some r → x.descOf r = some d →
    (v.answers k (reqSide d r) r = false → exec (.dmaReadData t u ch hd) s = .next v)
    ∧ (v.answers k (reqSide d r) r = true → v.dmaTarget k false (reqSide d r) r.addr r.len ≠ stOk →
      exec (.dmaReadData t u ch hd) s
        = .next (v.dmaRefuse u.val ch.val k false (reqSide d r) (v.dmaTarget k false (reqSide d r) r.addr r.len)))
    ∧ (v.answers k (reqSide d r) r = true → v.dmaTarget k false (reqSide d r) r.addr r.len = stOk → (reqSide d r).kind = 3 →
      v.spanPoisoned r.addr r.len = true →
      exec (.dmaReadData t u ch hd) s = .next ((v.countPoison r.addr r.len (some (0x30 + u.val))).dmaAbort u.val ch.val stTaskAborted))
    ∧ (v.answers k (reqSide d r) r = true → v.dmaTarget k false (reqSide d r) r.addr r.len = stOk →
      ((reqSide d r).kind ≠ 3 ∨ v.spanPoisoned r.addr r.len = false) → v.dmaFetch k (reqSide d r) r.addr r.len hd = (w, bs) →
      (r.index = true → exec (.dmaReadData t u ch hd) s = .next ((w.bump 64 (0x5410 + u.val) 1 r.len).indexIn u.val ch.val d r bs))
      ∧ (r.index = false →
        exec (.dmaReadData t u ch hd) s = .next (((w.bump 64 (0x5410 + u.val) 1 r.len).setChan u.val ch.val ((x.drop r).putDesc { d with
          rGot := d.rGot + r.len, buf := (List.range r.len).foldl (fun m i => kput m (r.pos + i) (bs.getD i 0)) d.buf })).dmaAdvance
            u.val ch.val))))
  ∧ (∀ (t : Nat) (u : DmaId) (ch : ChanId) (s v w : State) (x : Chan) (k : Task) (r : DmaReq) (d : Desc),
    s.live = true → ((s.at t).dmaPad u.val ch.val true = none ∧ v = s.at t
      ∨ ∃ c, (s.at t).dmaPad u.val ch.val true = some c ∧ (s.at t).padClearing c = false ∧ v = (s.at t).padRun c) →
    x = v.chan u.val ch.val → v.chanTask u.val ch.val = some k → x.oldest (fun q => q.write) = some r → x.descOf r = some d →
    (v.answers k (dstSide d.bytes) r = false → exec (.dmaWriteLanded t u ch) s = .next v)
    ∧ (v.answers k (dstSide d.bytes) r = true → v.dmaTarget k true (dstSide d.bytes) r.addr r.len ≠ stOk →
      exec (.dmaWriteLanded t u ch) s
        = .next (v.dmaRefuse u.val ch.val k true (dstSide d.bytes) (v.dmaTarget k true (dstSide d.bytes) r.addr r.len)))
    ∧ (v.answers k (dstSide d.bytes) r = true → v.dmaTarget k true (dstSide d.bytes) r.addr r.len = stOk →
      w = (if (dstSide d.bytes).kind = 3 then v.touchCtx (k.maint.isSome && decide (dType d.bytes = 5)) r.addr r.len else v) →
      ∀ z, z = ((((w.dmaStore k (dstSide d.bytes) r.addr r.data).bump 64 (0x5410 + u.val) 2
        (maskedBytes r.addr r.data).length).modTask k.id (fun a => { a with wrote := true })).setChan u.val ch.val
          ((x.drop r).putDesc { d with landed := d.landed + r.len })) →
      exec (.dmaWriteLanded t u ch) s = .next ((if k.maint = some scrubFn then z.countScrub else z).dmaAdvance u.val ch.val)))

/-- A bus error counts in OD 541u.05: while tries are left the request waits 256 × 2^n cycles, n the retries made, and is then issued anew; with
none left the channel halts and the task ends with BUS_ERROR. It befalls the oldest request of a channel that its cause fits; with none nothing
changes. No response for 131,072 cycles is one, for the requests of a channel, of a re-shard entry and of an engine's or a front-end's channel. A
maintenance request yields its channel where a plan entry finds none for it, and takes a free one again. A re-shard entry waits for its retries
and for the row-valid bits of the scratchpads that it reaches, then moves its region, or is passed over where its stream has no frame
(R144, R180, R221, R222, R225). -/
def Obligations.BusErrorsMaintenanceAndReshard : Prop :=
  (∀ (s : State) (u c kind cause : Nat) (r : DmaReq) (x : Chan), x = s.chan u c →
    (r.tries < s.reg 0x5400 6 → s.busError u c r kind cause = (s.bump 64 (0x5410 + u) 5 1).setChan u c { x with
      reqs := x.reqs.map (fun q => if q = r then { q with retryAt := some (s.now + 256 * 2 ^ r.tries) } else q) })
    ∧ (∀ k, s.reg 0x5400 6 ≤ r.tries → s.chanTask u c = some k → s.busError u c r kind cause
      = (s.bump 64 (0x5410 + u) 5 1).haltChan u c k.owner r kind cause (fun v => v.dmaAbort u c stBusError)))
  ∧ (∀ (t : Nat) (u : DmaId) (ch : ChanId) (cause : BitVec 8) (s v : State) (k : Task), v = s.at t → s.live = true →
    (∀ p, v.chanTask u.val ch.val = some k → (s.chan u.val ch.val).failing (fun y r => v.causeFits k y r cause.toNat) = some p →
      exec (.dmaBusError t u ch cause) s = .next (v.busError u.val ch.val p.1 p.2.kind cause.toNat))
    ∧ (v.chanTask u.val ch.val = none ∨ (v.chanTask u.val ch.val = some k
        ∧ (s.chan u.val ch.val).failing (fun y r => v.causeFits k y r cause.toNat) = none) → exec (.dmaBusError t u ch cause) s = .next v))
  ∧ (∀ (t : Nat) (u : DmaId) (ch : ChanId) (s v : State), v = s.at t → s.live = true → ch.val ∈ planChans u.val →
    v.reshardAt u.val ch.val = none →
    (∀ p, (s.chan u.val ch.val).failing v.timedOut = some p →
      exec (.dmaBusTimeout t u ch) s = .next (v.busError u.val ch.val p.1 p.2.kind 4))
    ∧ ((s.chan u.val ch.val).failing v.timedOut = none → exec (.dmaBusTimeout t u ch) s = .next v))
  ∧ (∀ (t : Nat) (u : DmaId) (ch : ChanId) (s v w : State) (x : Chan) (k : Task) (e : OwnerEntry) (n : Nat) (r : DmaReq), v = s.at t →
    x = s.chan u.val ch.val → s.live = true → ch.val ∈ planChans u.val → v.reshardAt u.val ch.val = some (k, e, n) → x.reqs = [] →
    v.sideReq u.val ch.val x.entry none = (r, w) →
    (x.entryAt + 131072 ≤ max s.now t → exec (.dmaBusTimeout t u ch) s = .next ((w.setChan u.val ch.val { x with reqs := [r] }).busError
      u.val ch.val r (if r.write then 1 else if e.srcKind = 0 then 1 else if e.srcKind = 1 then 3 else 4) 4))
    ∧ (max s.now t < x.entryAt + 131072 → exec (.dmaBusTimeout t u ch) s = .next v))
  ∧ (∀ (t : Nat) (u : DmaId) (ch : ChanId) (s v : State) (w : Nat × Nat), v = s.at t → s.live = true → ch.val ∉ planChans u.val →
    v.sideWork u.val ch.val = some w → (s.chan u.val ch.val).reqs = [] →
    (w.2 + 131072 ≤ max s.now t → exec (.dmaBusTimeout t u ch) s = .next (v.sideError u.val ch.val w.1))
    ∧ (max s.now t < w.2 + 131072 → exec (.dmaBusTimeout t u ch) s = .next v))
  ∧ (∀ (t : Nat) (u : DmaId) (ch : ChanId) (s v : State) (x : Chan), v = s.at t → x = s.chan u.val ch.val → s.live = true →
    (∀ r, x.reqs.find? (fun q => match q.retryAt with
      | some a => decide (a ≤ max s.now t)
      | none => false) = some r →
      (v.mayReissue u.val ch.val r = true → ∃ s', exec (.dmaRetryReissue t u ch) s = .next s'
        ∧ (s'.chan u.val ch.val).reqs = x.reqs.map (fun q => if q = r then
            { q with retryAt := none, issued := max s.now t, tries := q.tries + 1, waited := v.hostWaited } else q)
        ∧ (s'.chan u.val ch.val).live = x.live ∧ (s'.chan u.val ch.val).slots = x.slots
        ∧ (s'.dma u.val).slotAt = some (max s.now t) ∧ (r.write = true → (s'.dma u.val).lastW = ch.val ∧ (s'.dma u.val).lastR = (s.dma u.val).lastR)
        ∧ (r.write = false → (s'.dma u.val).lastR = ch.val ∧ (s'.dma u.val).lastW = (s.dma u.val).lastW)
        ∧ s'.dict = s.dict ∧ s'.tasks = s.tasks ∧ s'.ddr = s.ddr ∧ s'.pads = s.pads)
      ∧ ((s.dma u.val).slotAt = some (max s.now t) ∨ v.netSlot u.val (some (r.write, ch.val)) ≠ some (r.write, ch.val) →
        exec (.dmaRetryReissue t u ch) s = .next v))
    ∧ ((∀ q ∈ x.reqs, ∀ a, q.retryAt = some a → max s.now t < a) → exec (.dmaRetryReissue t u ch) s = .next v))
  ∧ (∀ (t : Nat) (u : DmaId) (ch : ChanId) (s v : State), v = s.at t → s.live = true →
    (v.maintChan u.val ch.val = true → v.yieldFor u.val ch.val = true →
      exec (.maintYield t u ch) s = .next (((v.setDma u.val { s.dma u.val with saved := (s.dma u.val).saved ++ [s.chan u.val ch.val] }).setChan
        u.val ch.val chan0).bump 32 (0x5410 + u.val) 12 1))
    ∧ (v.maintChan u.val ch.val = false ∨ v.yieldFor u.val ch.val = false → exec (.maintYield t u ch) s = .next v))
  ∧ (∀ (t : Nat) (u : DmaId) (ch : ChanId) (s v : State) (y : Chan) (ys : List Chan), v = s.at t → s.live = true → (s.dma u.val).saved = y :: ys →
    (s.chan u.val ch.val).task = none → (s.chan u.val ch.val).halted = false → ch.val ∈ planChans u.val → v.dmaWaiting u.val = false →
    ((∀ p, (y.task.bind (fun id => v.task? id)).bind Task.owner = some p → (v.freeChan u.val p false).isSome = true) →
      exec (.maintResume t u ch) s = .next ((v.setDma u.val { s.dma u.val with saved := ys }).setChan u.val ch.val
        { y with reqs := y.reqs.map (fun r => { r with issued := max s.now t, waited := v.hostWaited }) }))
    ∧ (∀ p, (y.task.bind (fun id => v.task? id)).bind Task.owner = some p → v.freeChan u.val p false = none →
      exec (.maintResume t u ch) s = .next v))
  ∧ (∀ (t : Nat) (u : DmaId) (ch : ChanId) (s v : State) (k : Task) (e : OwnerEntry) (n : Nat) (l : List Nat), v = s.at t → s.live = true →
    v.reshardAt u.val ch.val = some (k, e, n) → l = (if e.srcKind = 0 then [e.srcCore, e.dstCore] else [e.dstCore]) →
    ((s.chan u.val ch.val).reqs.any (fun r => r.retryAt.isSome) = true → exec (.reshardEntryEnd t u ch) s = .next v)
    ∧ ((s.chan u.val ch.val).reqs.any (fun r => r.retryAt.isSome) = false → e.bound = true → v.frameFor k.tick e.stream = none →
      exec (.reshardEntryEnd t u ch) s
        = .next ((v.bump 64 (0x5150 + k.part) 3 1).reshardNext u.val ch.val k (s.chan u.val ch.val).entry n false))
    ∧ (∀ c, (s.chan u.val ch.val).reqs.any (fun r => r.retryAt.isSome) = false → (e.bound = false ∨ v.frameFor k.tick e.stream ≠ none) →
      l.find? v.padClearing = some c → exec (.reshardEntryEnd t u ch) s = .next (v.holdPad c (.reshard u.val ch.val)))
    ∧ ((s.chan u.val ch.val).reqs.any (fun r => r.retryAt.isSome) = false → (e.bound = false ∨ v.frameFor k.tick e.stream ≠ none) →
      l.find? v.padClearing = none →
      exec (.reshardEntryEnd t u ch) s = .next ((l.foldl State.padRun v).reshardMove u.val ch.val k e (s.chan u.val ch.val) n)))


/-! ### Facet engines (11–13) -/

/-- A Facet engine takes the next descriptor of its entry's chain: the one loaded before, or the one read now, with the outcome of its load checks.
One that passes these and R288's step 5 becomes active, a refused one counts, shows DONE and CORRUPT on a flag of its own partition where it
could be read, and ends the task with its status; with a stop asked for the engine stops instead, and with a descriptor active, or one of
its requests to be made anew, nothing changes. The prediction of a match that is not good counts in PRED_LOST. At the next FLAG_EVERY multiple
the rows up to it have landed and the flag reports them. At its end the rest lands, and the engine goes on or ends the task; a fault ends it
with the fault's status, and a descriptor not ready changes nothing (R196, R284, R288, R300, R313, R322). -/
def Obligations.FacetDescriptorsRunToTheirEnd : Prop :=
  (∀ (t at' : Nat) (e : EngId) (s u v : State) (k : Task) (d : List Byte × Nat), u = s.at t → s.live = true → u.engTask e.val = some k →
    (s.eng e.val).run = none → u.engWaits e.val = false → k.stop = false → at' = k.prog + 64 * (s.eng e.val).seq →
    (((s.eng e.val).loaded = none ∧ d = (s.ddrRead at' 64, u.facetLoad e.val k (s.ddrRead at' 64) (s.eng e.val).seq) ∧ v = u.countFetch at' d.2 (some (0x20 + e.val)) k.id)
      ∨ ((s.eng e.val).loaded = some d ∧ v = u.setEng e.val { (s.eng e.val) with loaded := none })) →
    (firstFail [d.2, v.facetOpen k (v.pictured k d.1)] = stOk → exec (.facetDescriptorActivate t e) s = .next (v.facetBegin e.val k (v.pictured k d.1)))
    ∧ (∀ st, firstFail [d.2, v.facetOpen k (v.pictured k d.1)] = st → st ≠ stOk → exec (.facetDescriptorActivate t e) s
      = .next ((if v.fetchStatus (k.prog + 64 * (v.eng e.val).seq) = stOk ∧ fFlag (v.pictured k d.1) / 512 = k.part then
          (v.bump 32 (engIdx e.val) (refusedSub e.val) 1).descFlag k (v.pictured k d.1) 0 true true
        else v.bump 32 (engIdx e.val) (refusedSub e.val) 1).engFinish e.val st)))
  ∧ (∀ (t : Nat) (e : EngId) (s u : State) (k : Task), u = s.at t → s.live = true → u.engTask e.val = some k →
    ((s.eng e.val).run.isSome = true ∨ u.engWaits e.val = true → exec (.facetDescriptorActivate t e) s = .next u)
    ∧ ((s.eng e.val).run = none → u.engWaits e.val = false → k.stop = true →
      exec (.facetDescriptorActivate t e) s = .next (u.facetStop e.val)))
  ∧ (∀ (s : State) (e : Nat) (k : Task) (b : List Byte), isMatch b = true → mPred b ≠ 0 →
    (s.predGood k b = false →
      s.facetBegin e k b = ((s.bump 32 (engIdx e) 12 1).setRun e (newRun b s.now s.tickCount false)).stageUse b)
    ∧ (s.predGood k b = true → s.facetBegin e k b = (s.setRun e (newRun b s.now s.tickCount true)).stageUse b))
  ∧ (∀ (t n : Nat) (e : EngId) (s u : State) (k : Task) (r : FacetRun), u = s.at t → s.live = true → u.engTask e.val = some k →
    (s.eng e.val).run = some r → r.stage = 0 → fSetFlag r.bytes = true → fEvery r.bytes ≠ 0 → n = nextFlagRow r.bytes r.flagged →
    n ≤ facetRows r.bytes → u.engWaits e.val = false →
    (∀ q, k.stop = false ∨ isMatch r.bytes = false → u.facetFault e.val = stOk → ((u.landTo e.val n).eng e.val).run = some q →
      exec (.facetProgressFlag t e) s = .next (((u.landTo e.val n).descFlag k q.bytes q.progress false false).setRun e.val { q with flagged := n }))
    ∧ (k.stop = true → isMatch r.bytes = true → exec (.facetProgressFlag t e) s = .next (u.facetStop e.val))
    ∧ (k.stop = false ∨ isMatch r.bytes = false → u.facetFault e.val ≠ stOk →
      exec (.facetProgressFlag t e) s = .next (u.facetAbort e.val (u.facetFault e.val))))
  ∧ (∀ (t : Nat) (e : EngId) (s u : State) (k : Task) (r : FacetRun), u = s.at t → s.live = true → u.engTask e.val = some k →
    (s.eng e.val).run = some r →
    (fSetFlag r.bytes = false ∨ fEvery r.bytes = 0 ∨ r.stage ≠ 0 ∨ facetRows r.bytes < nextFlagRow r.bytes r.flagged ∨ u.engWaits e.val = true →
      exec (.facetProgressFlag t e) s = .next u)
    ∧ (u.engWaits e.val = true → exec (.facetDescriptorEnd t e) s = .next u)
    ∧ (u.engWaits e.val = false → u.facetFault e.val ≠ stOk →
      exec (.facetDescriptorEnd t e) s = .next ((u.facetAbort e.val (u.facetFault e.val)).quotaAfter k.part))
    ∧ (u.engWaits e.val = false → u.facetFault e.val = stOk → k.stop = true → isMatch r.bytes = true ∨ fType r.bytes = 0x21 →
      exec (.facetDescriptorEnd t e) s = .next ((u.facetStop e.val).quotaAfter k.part))
    ∧ (u.engWaits e.val = false → u.facetFault e.val = stOk → k.stop = false → u.facetReady k r = false ∨ u.stalling e.val r = true →
      exec (.facetDescriptorEnd t e) s = .next u)
    ∧ (∀ q, u.engWaits e.val = false → u.facetFault e.val = stOk → k.stop = false → u.facetReady k r = true → u.stalling e.val r = false →
      ((u.landRest e.val k).eng e.val).run = some q →
      exec (.facetDescriptorEnd t e) s = .next ((u.landRest e.val k).facetDone e.val k q)))

/-- The refine pass of a match: once its rows have landed the tiles are selected; the next selected tile is refined while the pass's cycles
last, its reads counted as a free number of bytes, and with the tick or the cycles over every tile left is cut, with the tick over counted once.
A fault ends the task, and with a stop asked for the engine stops. A TRACK opens once its requests are answered; each live context of its
stream and level is updated once, in order, up to UPDATE_MAX, beyond which TRUNCATED is set; then unclaimed features become tracks in the
lowest free contexts, with none free the features left count in ALLOC_FAILED, and a context that cannot be read aborts the task; while
updates are left, or with no feature left, nothing is allocated (R319–R322, R338–R341, R344). -/
def Obligations.RefineAndTrackGoInOrder : Prop :=
  (∀ (t : Nat) (e : EngId) (s u : State) (k : Task) (r : FacetRun), u = s.at t → s.live = true → u.engTask e.val = some k →
    (s.eng e.val).run = some r → isMatch r.bytes = true → r.stage = 0 →
    (∀ q, k.stop = false → u.facetFault e.val = stOk → ((u.landTo e.val (facetRows r.bytes)).eng e.val).run = some q →
      exec (.refinePassStart t e) s = .next ((u.landTo e.val (facetRows r.bytes)).refineSelect e.val q))
    ∧ (k.stop = false → u.facetFault e.val ≠ stOk →
      exec (.refinePassStart t e) s = .next (u.facetAbort e.val (u.facetFault e.val)))
    ∧ (k.stop = true → exec (.refinePassStart t e) s = .next (u.facetStop e.val)))
  ∧ (∀ (t i : Nat) (e : EngId) (s u v : State) (k : Task) (r : FacetRun) (rest : List Nat), u = s.at t → s.live = true →
    u.engTask e.val = some k → (s.eng e.val).run = some r → r.stage = 1 → r.todo = i :: rest →
    (k.stop = false → u.facetFault e.val = stOk → r.tickAt = s.tickCount →
      max s.now t - r.refineAt + matchTile r.bytes ≤ mRefineCycles r.bytes →
      v = u.draw.2.engGot (mImgA r.bytes).kind (Config.freeNat u.draw.1) →
      exec (.refineTileStart t e) s = .next (((v.facetPuts (mOutKind r.bytes) (refineTile v.facetRd r.bytes i)).bump 64 (engIdx e.val) 7 1).setRun
        e.val { r with stage := if rest.isEmpty then 2 else 1, todo := rest, tiles := kput r.tiles i 1 }))
    ∧ (k.stop = false → u.facetFault e.val = stOk → r.tickAt ≠ s.tickCount →
      exec (.refineTileStart t e) s = .next (((u.bump 32 (engIdx e.val) 13 1).cutTiles e.val r.bytes r.todo).setRun e.val
        { r with stage := 2, todo := [], tiles := putTiles r.tiles 2 r.todo }))
    ∧ (k.stop = false → u.facetFault e.val = stOk → r.tickAt = s.tickCount →
      mRefineCycles r.bytes < max s.now t - r.refineAt + matchTile r.bytes →
      exec (.refineTileStart t e) s = .next ((u.cutTiles e.val r.bytes r.todo).setRun e.val
        { r with stage := 2, todo := [], tiles := putTiles r.tiles 2 r.todo }))
    ∧ (k.stop = false → u.facetFault e.val ≠ stOk →
      exec (.refineTileStart t e) s = .next (u.facetAbort e.val (u.facetFault e.val)))
    ∧ (k.stop = true → exec (.refineTileStart t e) s = .next (u.facetStop e.val)))
  ∧ (∀ (t : Nat) (s u : State) (k : Task) (r : FacetRun), u = s.at t → s.live = true → u.engTask 14 = some k → (s.eng 14).run = some r →
    fType r.bytes = 0x21 → r.stage = 0 →
    exec (.trackActivate t) s = .next (if u.engWaits 14 = true then u else u.trackOpen k r))
  ∧ (∀ (t x : Nat) (s u : State) (k : Task) (r : FacetRun), u = s.at t → s.live = true → u.engTask 14 = some k → (s.eng 14).run = some r →
    fType r.bytes = 0x21 → r.stage = 1 → r.hold = false → k.stop = false → u.nextCtx k.part r.bytes r.cursor = some x →
    (tUpdateMax r.bytes ≤ r.updates → exec (.trackContextUpdate t) s = .next (u.setRun 14 { r with trunc := true }))
    ∧ (r.updates < tUpdateMax r.bytes → u.ctxStatus k.part x = stOk → exec (.trackContextUpdate t) s = .next (u.trackUpdate k r x))
    ∧ (r.updates < tUpdateMax r.bytes → u.ctxStatus k.part x ≠ stOk →
      exec (.trackContextUpdate t) s = .next ((u.facetAbort 14 (u.ctxStatus k.part x)).quotaAfter k.part)))
  ∧ (∀ (t i : Nat) (s u : State) (k : Task) (r : FacetRun) (free : Option Nat), u = s.at t → s.live = true → u.engTask 14 = some k →
    (s.eng 14).run = some r → fType r.bytes = 0x21 → r.stage = 1 → r.hold = false → k.stop = false →
    free = (u.ctxRange (tStream r.bytes)).find? (fun y =>
      !(ctxOf (u.ctxShown k.part y)).live && !decide (y ∈ r.freed) && !decide (y ∈ s.ctxFreed)) →
    (r.updates < tUpdateMax r.bytes → u.nextCtx k.part r.bytes r.cursor ≠ none → exec (.trackAllocate t) s = .next u)
    ∧ (u.nextCtx k.part r.bytes r.cursor = none → nextFeat r (u.featCount r.bytes) = none → exec (.trackAllocate t) s = .next u)
    ∧ (∀ x, u.nextCtx k.part r.bytes r.cursor = none → nextFeat r (u.featCount r.bytes) = some i → free = some x → u.ctxStatus k.part x = stOk →
      exec (.trackAllocate t) s = .next (u.trackNew k r i x))
    ∧ (∀ x, u.nextCtx k.part r.bytes r.cursor = none → nextFeat r (u.featCount r.bytes) = some i → free = some x → u.ctxStatus k.part x ≠ stOk →
      exec (.trackAllocate t) s = .next ((u.facetAbort 14 (u.ctxStatus k.part x)).quotaAfter k.part))
    ∧ (u.nextCtx k.part r.bytes r.cursor = none → nextFeat r (u.featCount r.bytes) = some i → free = none →
      exec (.trackAllocate t) s = .next ((u.bump 64 (0x6040 + tStream r.bytes) 6
        ((List.range (u.featCount r.bytes)).filter (fun j => decide (i ≤ j) && !decide (j ∈ r.claimed))).length).setRun 14
          { r with feature := u.featCount r.bytes })))


/-! ### Sensor ports, front-ends, I3C (09, 10) -/

/-- The lanes of a port. A high-speed request takes a DOWN port to ACQUIRING, and under MAP_LOCK on to LOCKED with the written map in force; entry to
ULPS takes a LOCKED port to DOWN; a fault on a used lane counts, takes its streams' link, puts the port in FAULT and is announced, one on
an unused lane, or of a port in FAULT already, only shows; the end of one lane's fault shows, and takes a faulted port to DOWN when every used
lane is clear; a recovery clears the fault codes of the used lanes and takes the port to
DOWN. In any other state of the port, and for a code that is no fault, nothing changes (R232, R235, R236, R240). -/
def Obligations.PortLanesFollowTheirStates : Prop :=
  (∀ (t : Nat) (n : PortId) (s u v w : State), u = s.at t → s.live = true → u.portState n.val = 1 →
    v = u.setReg (0x2030 + n.val) 8 (if laneUsed (u.phy n.val) 0 then setLane (s.reg (0x2030 + n.val) 8) 0 0 else s.reg (0x2030 + n.val) 8) →
    w = v.enterPort n.val 2 →
    (s.reg (0x2030 + n.val) 3 = 1 →
      exec (.portHsRequest t n) s = .next (((w.seeLanes n.val).setReg (0x2030 + n.val) 7 (s.reg (0x2030 + n.val) 4)).enterPort n.val 3))
    ∧ (s.reg (0x2030 + n.val) 3 ≠ 1 → exec (.portHsRequest t n) s = .next w))
  ∧ (∀ (t : Nat) (n : PortId) (s u : State), u = s.at t → s.live = true →
    (u.portState n.val ≠ 1 → exec (.portHsRequest t n) s = .next u)
    ∧ (u.portState n.val = 3 → exec (.ulpsEntry t n) s = .next (u.enterPort n.val 1))
    ∧ (u.portState n.val ≠ 3 → exec (.ulpsEntry t n) s = .next u)
    ∧ (u.portState n.val = 4 → exec (.portRecover t n) s = .next ((u.setReg (0x2030 + n.val) 8 ((List.range 5).foldl (fun w k =>
        if laneUsed (u.phy n.val) k ∧ 1 ≤ laneCode w k ∧ laneCode w k ≤ 4 then setLane w k 0 else w) (s.reg (0x2030 + n.val) 8))).enterPort n.val 1))
    ∧ (u.portState n.val ≠ 4 → exec (.portRecover t n) s = .next u))
  ∧ (∀ (t : Nat) (n : PortId) (pos : Fin 5) (code : Fin 8) (s u v : State), u = s.at t → s.live = true →
    v = u.setReg (0x2030 + n.val) 8 (setLane (s.reg (0x2030 + n.val) 8) pos.val code.val) →
    (1 ≤ code.val → code.val ≤ 4 → u.portState n.val ≠ 0 → laneUsed (v.phy n.val) pos.val = false ∨ u.portState n.val = 4 →
      exec (.laneFault t n pos code) s = .next v)
    ∧ (∀ w, 1 ≤ code.val → code.val ≤ 4 → u.portState n.val ≠ 0 → laneUsed (v.phy n.val) pos.val = true → u.portState n.val ≠ 4 →
      w = ((v.bump 32 (0x2030 + n.val) 12 1).linkLost n.val).enterPort n.val 4 →
      exec (.laneFault t n pos code) s = .next (w.raiseEvent 0x40 (w.portPart n.val) n.val (w.reg (0x2030 + n.val) 8) 0 0))
    ∧ (5 ≤ code.val ∨ u.portState n.val = 0 → exec (.laneFault t n pos code) s = .next u)
    ∧ (∀ w, code.val = 0 → u.portState n.val ≠ 0 → 1 ≤ laneCode (s.reg (0x2030 + n.val) 8) pos.val → laneCode (s.reg (0x2030 + n.val) 8) pos.val ≤ 4 →
      w = u.setReg (0x2030 + n.val) 8 (setLane (s.reg (0x2030 + n.val) 8) pos.val (if laneUsed (u.phy n.val) pos.val then 0 else 5)) →
      exec (.laneFault t n pos code) s = .next (if w.portState n.val = 4 ∧ w.lanesClear n.val = true then w.enterPort n.val 1 else w))
    ∧ (code.val = 0 → laneCode (s.reg (0x2030 + n.val) 8) pos.val = 0 ∨ 5 ≤ laneCode (s.reg (0x2030 + n.val) 8) pos.val →
      exec (.laneFault t n pos code) s = .next u))

/-- Packets of a LOCKED port, the sync losses of whose burst count in OD 203n.0B, act on the stream of their virtual channel. A frame start opens a
frame of an enabled stream that a plan takes in; one in the cycle of a tick edge waits for it. A frame end closes the open frame, and one
whose frame start the port did not receive counts; a long packet of the stream's data type is a line of the open frame, and one of another type
counts; line packets and generic short packets change nothing more; other short packets count. A packet with a bad header, or of a virtual
channel without a stream, does no more than packetFor counts. While the port acquires, every packet is for the acquisition; in any other state
nothing changes. A stream that misses its limit of frames goes to LOST, which is counted and announced (R18, R230, R232, R237–R239, R242). -/
def Obligations.PacketsActOnTheirStream : Prop :=
  (∀ (t st : Nat) (n : PortId) (pk : Packet) (s u v w : State) (taking : Option (Slot × BufRec)), u = (s.at t).bump 64 (0x2030 + n.val) 11 pk.sot.val →
    s.live = true → u.portState n.val = 3 → u.packetFor n.val pk = (v, some (st, taking)) → w = v.setStream st { v.stream st with fs := none } →
    (∀ fn slot buf, (s.at t).edgeDue = false → taking = some (slot, buf) → v.reg (0x4000 + 0x40 * st) 1 = 1 →
        exec (.frameStart t n pk fn) s
          = .next (State.openFrame (v.setStream st { v.stream st with fs := some fn.toNat }) st fn.toNat slot buf))
    ∧ (∀ fn, (s.at t).edgeDue = false → (taking = none ∨ v.reg (0x4000 + 0x40 * st) 1 ≠ 1) →
        exec (.frameStart t n pk fn) s = .next (v.setStream st { v.stream st with fs := some fn.toNat }))
    ∧ (∀ fn, ((v.stream st).fs = some fn.toNat ∨ (v.stream st).cur ≠ none) → exec (.frameEnd t n pk fn) s = .next (w.endFrame st .fe))
    ∧ (∀ fn, (v.stream st).fs ≠ some fn.toNat → (v.stream st).cur = none →
        exec (.frameEnd t n pk fn) s = .next ((w.endFrame st .fe).bump 64 (stIdx st 2) 2 1))
    ∧ (∀ isEnd line, exec (.lineStartEnd t n pk isEnd line) s = .next v)
    ∧ (∀ dt data, exec (.genericShortPacket t n pk dt data) s = .next v)
    ∧ (∀ dt data, exec (.otherShortPacket t n pk dt data) s = .next (v.bump 64 (stIdx st 2) 9 1))
    ∧ (∀ dt bs ok, typeFits taking dt.toNat = false → exec (.longPacket t n pk dt bs ok) s = .next (v.bump 64 (stIdx st 2) 9 1))
    ∧ (∀ dt bs ok f, typeFits taking dt.toNat = true → (v.stream st).cur = some f →
        exec (.longPacket t n pk dt bs ok) s = .next (v.takeLine st f bs ok))
    ∧ (∀ dt bs ok, typeFits taking dt.toNat = true → (v.stream st).cur = none → exec (.longPacket t n pk dt bs ok) s = .next v))
  ∧ (∀ (t : Nat) (n : PortId) (pk : Packet) (fn : BitVec 16) (s u : State), u = s.at t → s.live = true → u.edgeDue = true →
    exec (.frameStart t n pk fn) s = .next (u.setPort n.val { s.port n.val with early := (s.port n.val).early ++ [(pk, fn)] }))
  ∧ (∀ (t : Nat) (n : PortId) (pk : Packet) (s u v : State), u = (s.at t).bump 64 (0x2030 + n.val) 11 pk.sot.val → s.live = true →
    u.portState n.val = 3 → u.packetFor n.val pk = (v, none) →
    (∀ fn, (s.at t).edgeDue = false → exec (.frameStart t n pk fn) s = .next v) ∧ (∀ fn, exec (.frameEnd t n pk fn) s = .next v)
    ∧ (∀ isEnd line, exec (.lineStartEnd t n pk isEnd line) s = .next v) ∧ (∀ dt data, exec (.genericShortPacket t n pk dt data) s = .next v)
    ∧ (∀ dt data, exec (.otherShortPacket t n pk dt data) s = .next v) ∧ (∀ dt bs ok, exec (.longPacket t n pk dt bs ok) s = .next v))
  ∧ (∀ (t : Nat) (n : PortId) (pk : Packet) (s u v : State), u = s.at t → v = u.bump 64 (0x2030 + n.val) 11 pk.sot.val → s.live = true →
    u.portState n.val = 2 →
    (∀ fn, u.edgeDue = false → exec (.frameStart t n pk fn) s = .next (v.acquire n.val pk false true))
    ∧ (∀ fn, exec (.frameEnd t n pk fn) s = .next (v.acquire n.val pk false true))
    ∧ (∀ isEnd line, exec (.lineStartEnd t n pk isEnd line) s = .next (v.acquire n.val pk false true))
    ∧ (∀ dt data, exec (.genericShortPacket t n pk dt data) s = .next (v.acquire n.val pk false true))
    ∧ (∀ dt data, exec (.otherShortPacket t n pk dt data) s = .next (v.acquire n.val pk false true))
    ∧ (∀ dt bs ok, exec (.longPacket t n pk dt bs ok) s = .next (v.acquire n.val pk true ok)))
  ∧ (∀ (t : Nat) (n : PortId) (pk : Packet) (s u : State), u = s.at t → s.live = true → u.portState n.val ≠ 2 → u.portState n.val ≠ 3 →
    (∀ fn, u.edgeDue = false → exec (.frameStart t n pk fn) s = .next u) ∧ (∀ fn, exec (.frameEnd t n pk fn) s = .next u)
    ∧ (∀ isEnd line, exec (.lineStartEnd t n pk isEnd line) s = .next u) ∧ (∀ dt data, exec (.genericShortPacket t n pk dt data) s = .next u)
    ∧ (∀ dt data, exec (.otherShortPacket t n pk dt data) s = .next u) ∧ (∀ dt bs ok, exec (.longPacket t n pk dt bs ok) s = .next u))
  ∧ (∀ (t : Nat) (x : StreamId) (s u v : State), u = s.at t → s.live = true →
    v = (u.setStream x.val { s.stream x.val with missed := 0, fs := none }).setStreamState x.val 4 →
    (u.streamState x.val = 3 → s.reg (0x4000 + 0x40 * x.val) 5 ≤ (s.stream x.val).missed → exec (.streamLoss t x) s
      = .next ((v.bump 32 (stIdx x.val 2) 12 1).raiseEvent 0x42 (v.streamPart x.val) x.val (v.reg (stIdx x.val 1) 2) 0 0))
    ∧ (u.streamState x.val ≠ 3 ∨ (s.stream x.val).missed < s.reg (0x4000 + 0x40 * x.val) 5 → exec (.streamLoss t x) s = .next u))

/-- The front-end: the row at the head of its port's queue is taken; with the queue empty, with another stream's row at the head, while it is stalled, or
with its channel of DMA5 halted, nothing changes. A finished frame's statistics record goes to its buffer, where it has one, and to
its objects, and to no other byte of LPDDR5. A glint check that reads as expected closes; one that reads otherwise sets flag 11, counts, shows both
values and the tick, and is announced. A channel that waits on an in-line window issues its read in the cycle's one slot. A stall ends when
the ring has room, and its length counts (R249, R252, R259, R260, R265–R267). -/
def Obligations.FrontEndRowsRecordsAndGlints : Prop :=
  (∀ (t : Nat) (x : StreamId) (s u : State), u = s.at t → s.live = true →
    (∀ j l, (s.port (x.val / 4)).work = j :: l → j.stream = x.val → (s.port (x.val / 4)).stalled = none →
      (s.chan 5 (x.val / 4)).halted = false → exec (.feRowDone t x) s = .next (u.feTake (x.val / 4)))
    ∧ (∀ j l, (s.port (x.val / 4)).work = j :: l → j.stream ≠ x.val ∨ (s.port (x.val / 4)).stalled ≠ none ∨
      (s.chan 5 (x.val / 4)).halted = true → exec (.feRowDone t x) s = .next u)
    ∧ ((s.port (x.val / 4)).work = [] → exec (.feRowDone t x) s = .next u))
  ∧ (∀ (t : Nat) (x : StreamId) (s : State) (f : Frame), s.live = true →
    ((s.stream x.val).late ++ (s.stream x.val).cur.toList).find? (fun g => g.ended && decide (g.coef.h ≤ g.done) && !g.record) = some f →
    (s.chan 5 (x.val / 4)).halted = false →
    ∃ s', exec (.statsRecordWrite t x) s = .next s' ∧ s'.reg (stIdx x.val 0x0B) 4 = f.number ∧ s'.reg (stIdx x.val 9) 6 = f.defects
      ∧ s'.blob (stIdx x.val 0x0B) 5 = statsRecord x.val f
      ∧ s'.ddr = if f.statsAt = 0 then s.ddr else (s.ddrWrite f.statsAt (statsRecord x.val f)).ddr)
  ∧ (∀ (t : Nat) (x : StreamId) (s : State), s.live = true →
    ((s.stream x.val).late ++ (s.stream x.val).cur.toList).find? (fun g => g.ended && decide (g.coef.h ≤ g.done) && !g.record) = none
      ∨ (s.chan 5 (x.val / 4)).halted = true → exec (.statsRecordWrite t x) s = .next (s.at t))
  ∧ (∀ (t : Nat) (x : StreamId) (seen : BitVec 32) (s u : State) (f : Frame), u = s.at t → s.live = true →
    ((s.stream x.val).late ++ (s.stream x.val).cur.toList).find? (fun g => decide (g.glint = 2)) = some f →
    glintExpected f.coef x.val f.tick = seen.toNat →
    exec (.glintCheckLatch t x seen) s = .next ((u.putFrame x.val { f with glint := 3 }).dropOver x.val))
  ∧ (∀ (t : Nat) (x : StreamId) (seen : BitVec 32) (s u v : State) (f : Frame), u = s.at t → s.live = true →
    ((s.stream x.val).late ++ (s.stream x.val).cur.toList).find? (fun g => decide (g.glint = 2)) = some f →
    glintExpected f.coef x.val f.tick ≠ seen.toNat →
    v = (((((u.putFrame x.val { f with glint := 3, flags := putBit f.flags 11 true }).restatus x.val f (fun w => putBit w 11 true)).bump 64
      (stIdx x.val 3) 1 1).setReg (stIdx x.val 3) 2 (glintExpected f.coef x.val f.tick)).setReg (stIdx x.val 3) 3 seen.toNat).setReg
      (stIdx x.val 3) 4 f.tick →
    exec (.glintCheckLatch t x seen) s = .next ((v.raiseEvent 0x43 (v.streamPart x.val) x.val (glintExpected f.coef x.val f.tick) seen.toNat
      f.number).dropOver x.val))
  ∧ (∀ (t : Nat) (x : StreamId) (seen : BitVec 32) (s : State), s.live = true →
    ((s.stream x.val).late ++ (s.stream x.val).cur.toList).find? (fun g => decide (g.glint = 2)) = none →
    exec (.glintCheckLatch t x seen) s = .next (s.at t))
  ∧ (∀ (t a n : Nat) (ch : ChanId) (s u : State) (d : Desc), u = s.at t → s.live = true →
    u.readReady 5 ch.val = some (.data d false a n) → (srcSide d.bytes).kind = 6 →
    exec (.inlineWindowRead t ch) s = .next (if (s.dma 5).slotAt = some (max s.now t) then u
      else (u.setDma 5 { s.dma 5 with slotAt := some (max s.now t) }).issueRead 5 ch.val))
  ∧ (∀ (t : Nat) (ch : ChanId) (s u : State), u = s.at t → s.live = true → u.readReady 5 ch.val = none →
    exec (.inlineWindowRead t ch) s = .next u)
  ∧ (∀ (t e : Nat) (n : PortId) (s u v : State), u = (s.at t).trimRing n.val → s.live = true → (u.port n.val).stalled = some e →
    v = u.setPort n.val { u.port n.val with stalled := none } →
    (∀ x, (u.port n.val).ring.length < 32 → v.inlineOf n.val = some x →
        exec (.inlineRingRoom t n) s = .next (v.bump 64 (stIdx x.1 0x0C) 9 (v.now - e)))
    ∧ ((u.port n.val).ring.length < 32 → v.inlineOf n.val = none → exec (.inlineRingRoom t n) s = .next v)
    ∧ (32 ≤ (u.port n.val).ring.length → exec (.inlineRingRoom t n) s = .next u))

/-- The I3C controller of a port. A bus write of a running node that completes counts, and the controller goes on with the next; a first NACK is tried
again, a second counts, is announced and passed over; with no write under way, or the bus in recovery, nothing changes. A bus found
stuck while a write or an assignment is due counts and recovers; SDA high ends the recovery; 100 µs without it counts, ends the node with
TASK_ABORTED and is announced, and before that nothing changes. In-band interrupts and hot-joins count. Dynamic addresses
due are assigned from OD 204n.03 by CC5 while it runs and the bus is not in recovery (R274–R277, R279, R394). -/
def Obligations.I3cControllerEvents : Prop :=
  (∀ (t : Nat) (n : PortId) (s u v : State) (w : BusWrite) (l : List BusWrite) (x : LoopTurn), u = s.at t → s.live = true →
    (s.i3c n.val).writes = w :: l → (s.i3c n.val).turn = some x → v = u.draw.2.bump 64 (stIdx x.stream 0x0F) 5 1 →
    (u.i3cBusy n.val = true →
      exec (.i3cWriteDone t n) s = .next ((((u.drives w.bytes).2.bump 64 (stIdx x.stream 0x0F) 2 1).setI3c n.val
        { s.i3c n.val with last := some { w with bytes := (u.drives w.bytes).1 } }).i3cStep n.val))
    ∧ (u.i3cBusy n.val = true → (s.i3c n.val).nacked = false →
      exec (.i3cNack t n) s = .next (u.setI3c n.val { s.i3c n.val with nacked := true }))
    ∧ (u.i3cBusy n.val = true → (s.i3c n.val).nacked = true → exec (.i3cNack t n) s
      = .next ((v.raiseEvent 0x50 (v.streamPart x.stream) x.stream (Config.freeNat u.draw.1) w.entry 0).i3cStep n.val))
    ∧ (u.i3cBusy n.val = false → exec (.i3cWriteDone t n) s = .next u ∧ exec (.i3cNack t n) s = .next u))
  ∧ (∀ (t : Nat) (n : PortId) (s : State), s.live = true → (s.i3c n.val).writes = [] →
    exec (.i3cWriteDone t n) s = .next (s.at t) ∧ exec (.i3cNack t n) s = .next (s.at t))
  ∧ (∀ (t : Nat) (n : PortId) (s u : State), u = s.at t → s.live = true →
    ((s.i3c n.val).recover = none → (s.i3c n.val).writes ≠ [] ∨ (s.i3c n.val).dasa = true →
      exec (.i3cBusStuck t n) s = .next (((u.bump 32 (0x2040 + n.val) 5 1).setBus n.val 2).setI3c n.val
        { s.i3c n.val with recover := some (max s.now t), pattern := false }))
    ∧ ((s.i3c n.val).recover ≠ none ∨ ((s.i3c n.val).writes = [] ∧ (s.i3c n.val).dasa = false) → exec (.i3cBusStuck t n) s = .next u))
  ∧ (∀ (t e : Nat) (n : PortId) (s : State), s.live = true → (s.i3c n.val).recover = some e →
    ∃ s', exec (.i3cSdaHigh t n) s = .next s' ∧ (s'.i3c n.val).recover = none
      ∧ s'.reg (0x2040 + n.val) 4 = (if (s.i3c n.val).task.isSome then 1 else 0) ∧ s'.tasks = s.tasks ∧ s'.ddr = s.ddr)
  ∧ (∀ (t e : Nat) (n : PortId) (s : State), s.live = true → (s.i3c n.val).recover = some e → e + usCycles 100 ≤ max s.now t →
    ∃ s', exec (.i3cRecoveryTimeout t n) s = .next s' ∧ (s'.i3c n.val).recover = none ∧ (s'.i3c n.val).task = none
      ∧ (s'.i3c n.val).writes = [] ∧ s'.reg (0x2040 + n.val) 4 = 3)
  ∧ (∀ (t e : Nat) (n : PortId) (s : State), s.live = true → (s.i3c n.val).recover = some e → max s.now t < e + usCycles 100 →
    exec (.i3cRecoveryTimeout t n) s = .next (s.at t))
  ∧ (∀ (t : Nat) (n : PortId) (s : State), s.live = true → (s.i3c n.val).recover = none →
    exec (.i3cSdaHigh t n) s = .next (s.at t) ∧ exec (.i3cRecoveryTimeout t n) s = .next (s.at t))
  ∧ (∀ (t : Nat) (n : PortId) (hot : Bool) (s : State), s.live = true →
    exec (.i3cIbi t n hot) s = .next ((s.at t).bump 32 (0x2040 + n.val) 7 1))
  ∧ (∀ (t : Nat) (n : PortId) (s : State), s.live = true →
    ((s.i3c n.val).dasa = true → s.reg (0x2040 + n.val) 4 ≠ 2 → s.proc 8 = 1 →
      exec (.dasaAssignment t n) s = .next ((s.at t).setI3c n.val
        { s.i3c n.val with dasa := false, dyn := dasaPairs (s.blob (0x2040 + n.val) 3) }))
    ∧ ((s.i3c n.val).dasa = false ∨ s.reg (0x2040 + n.val) 4 = 2 ∨ s.proc 8 ≠ 1 → exec (.dasaAssignment t n) s = .next (s.at t)))

/-! ### The host interface (14) -/

/-- The mailbox and the doorbells of a function that the host reaches: REQ_SEQ makes an idle mailbox PENDING, and sets OVERRUN on another;
bit 0 of ACK takes DONE to IDLE, any other ACK changes nothing; bit 2 of OVERRUN_CLEAR clears OVERRUN, a write without it changes nothing. A pending
request is answered and the mailbox DONE: with the answer already there, or once the request is served; one whose COMMIT is under way is not yet.
SQ_TAIL submits entries up to the queue's depth and CQ_HEAD frees records; a refusal counts and is latched; the ring tails follow what is
written. A write to a function that the host does not reach is dropped. A ring with room again takes the overflow entry with how many were
dropped; a coalesced vector with something new fires when its period is over; vector 2 fires at every OD 1106.01-th tick, once for
an edge (R193, R359, R360, R362, R365, R367). -/
def Obligations.HostMailboxDoorbellsRingsAndVectors : Prop :=
  (∀ (t : Nat) (f : Fn) (v : BitVec 16) (s u : State), u = s.at t → s.live = true → u.reaches f.val = true →
    exec (.reqSeq t f v) s = .next (u.setFn f.val (if (s.fnSt f.val).mbState = 0 then
      { s.fnSt f.val with mbState := 1, reqSeq := v.toNat, answer := none } else { s.fnSt f.val with overrun := true })))
  ∧ (∀ (t : Nat) (f : Fn) (v : BitVec 32) (s u : State), u = s.at t → s.live = true → u.reaches f.val = true →
    exec (.ack t f v) s = .next (if (s.fnSt f.val).mbState = 2 ∧ v.getLsbD 0 = true then u.setFn f.val { s.fnSt f.val with mbState := 0 } else u))
  ∧ (∀ (t : Nat) (f : Fn) (v : BitVec 32) (s u : State), u = s.at t → s.live = true → u.reaches f.val = true →
    exec (.overrunClear t f v) s = .next (if v.getLsbD 2 = true then u.setFn f.val { s.fnSt f.val with overrun := false } else u))
  ∧ (∀ (t : Nat) (f : Fn) (s u : State), u = s.at t → s.live = true → s.reg 0x2050 1 = 3 → s.proc 2 = 1 → (s.fnSt f.val).mbState = 1 →
    s.dict.commits.any (fun c => decide (c.fn = f.val) && !c.silent) = false →
    (∀ a, (s.fnSt f.val).answer = some a → exec (.mailboxDone t f) s = .next (u.mailboxAnswer f.val a))
    ∧ (∀ v a, (s.fnSt f.val).answer = none → v = u.serve f.val (reqOfBytes (s.fnSt f.val).reqBuf).1 (reqOfBytes (s.fnSt f.val).reqBuf).2 →
      (v.fnSt f.val).answer = some a → exec (.mailboxDone t f) s = .next (v.mailboxAnswer f.val a)))
  ∧ (∀ (t : Nat) (f : Fn) (s u : State), u = s.at t → s.live = true →
    (s.fnSt f.val).mbState ≠ 1 ∨ s.dict.commits.any (fun c => decide (c.fn = f.val) && !c.silent) = true → exec (.mailboxDone t f) s = .next u)
  ∧ (∀ (s : State) (f : Nat) (a : Resp), ∃ u, u = s.setFn f { s.fnSt f with
      respBuf := respBytes a, respSeq := (s.fnSt f).reqSeq, mbState := 2, answer := none } ∧ s.mailboxAnswer f a = u.fire f 0)
  ∧ (∀ (t d n : Nat) (f : Fn) (q : QueueId) (v : BitVec 32) (s u : State), u = s.at t → s.live = true → u.reaches f.val = true →
    d = (((s.queue q.val).bind).map Binding.depth).getD 1 → n = aheadOf d (s.queue q.val).sqHead v.toNat →
    (u.doorbellCheck f.val q.val = stOk → n ≤ d → exec (.sqTail t f q v) s = .next (u.setQueue q.val { s.queue q.val with
      sqTail := (s.queue q.val).sqHead + n,
      sqTimes := (s.queue q.val).sqTimes.take n ++ List.replicate (n - ((s.queue q.val).sqTimes.take n).length) (max s.now t),
      aborted := (s.queue q.val).aborted.filter (fun i => decide (i < (s.queue q.val).sqHead + n)) }))
    ∧ (u.doorbellCheck f.val q.val = stOk → d < n → exec (.sqTail t f q v) s = .next (u.refuseDoorbell f.val q.val stQueueFull))
    ∧ (u.doorbellCheck f.val q.val ≠ stOk →
      exec (.sqTail t f q v) s = .next (u.refuseDoorbell f.val q.val (u.doorbellCheck f.val q.val))))
  ∧ (∀ (t d : Nat) (f : Fn) (q : QueueId) (v : BitVec 32) (s u : State), u = s.at t → s.live = true → u.reaches f.val = true →
    d = (((s.queue q.val).bind).map Binding.depth).getD 1 →
    (u.doorbellCheck f.val q.val = stOk → ∃ h l, exec (.cqHead t f q v) s = .next (u.setQueue q.val { s.queue q.val with cqTail := l, cqHead := h })
      ∧ l % (2 * d) = (s.queue q.val).cqTail % (2 * d) ∧ l = h + aheadOf d v.toNat (s.queue q.val).cqTail)
    ∧ (u.doorbellCheck f.val q.val ≠ stOk →
      exec (.cqHead t f q v) s = .next (u.refuseDoorbell f.val q.val (u.doorbellCheck f.val q.val))))
  ∧ (∀ (t : Nat) (f : Fn) (v : BitVec 32) (s u : State), u = s.at t → s.live = true → u.reaches f.val = true →
    exec (.evTail t f v) s = .next (u.setFn f.val { s.fnSt f.val with evTail := tailTaken (s.fnSt f.val).evHead v.toNat })
    ∧ exec (.resTail t f v) s = .next (u.setFn f.val { s.fnSt f.val with resTail := tailTaken (s.fnSt f.val).resHead v.toNat }))
  ∧ (∀ (t : Nat) (f : Fn) (q : QueueId) (v : BitVec 32) (x : BitVec 16) (s u : State), u = s.at t → s.live = true → u.reaches f.val = false →
    exec (.reqSeq t f x) s = .next u ∧ exec (.ack t f v) s = .next u ∧ exec (.overrunClear t f v) s = .next u
      ∧ exec (.sqTail t f q v) s = .next u ∧ exec (.cqHead t f q v) s = .next u ∧ exec (.evTail t f v) s = .next u
      ∧ exec (.resTail t f v) s = .next u)
  ∧ (∀ (t : Nat) (f : Fn) (s u : State), u = s.at t → s.live = true →
    exec (.eventOverflowEntry t f) s = .next (if (s.fnSt f.val).evLost ≠ 0 ∧ u.evRoom f.val = true then
      (u.setFn f.val { s.fnSt f.val with evLost := 0 }).evStore f.val
        (eventBytes 1 (if f.val = 0 then none else some (f.val - 1)) s.tickCount 0 (s.fnSt f.val).evLost 0 0) else u))
  ∧ (∀ (t : Nat) (f : Fn) (v : Vec) (s u : State), u = s.at t → s.live = true →
    exec (.msixCoalesceExpiry t f v) s = .next (if kget false (s.fnSt f.val).fresh v.val = true ∧ u.coalesceOver f.val v.val = true
      then u.fire f.val v.val else u))
  ∧ (∀ (t e : Nat) (f : Fn) (s u : State), u = s.at t → s.live = true → s.tick.lastEdge = some e →
    (s.regF f.val 0x1106 1 ≠ 0 → s.tickCount % s.regF f.val 0x1106 1 = 0 → (∀ l, klook (s.fnSt f.val).lastFire 2 = some l → l < e) →
      exec (.tickVector t f) s = .next (u.fire f.val 2))
    ∧ (s.regF f.val 0x1106 1 = 0 ∨ s.tickCount % s.regF f.val 0x1106 1 ≠ 0 ∨ (∃ l, klook (s.fnSt f.val).lastFire 2 = some l ∧ e ≤ l) →
      exec (.tickVector t f) s = .next u))

/-- BAR0 of a function that the host reaches: a read of a served slot of the register window answers the object's bytes; a refused one all
ones, latched in OD 1102.01 and counted in OD 1102.02; from offset 0x10000 on a read answers what the BAR holds there, its doorbells at the
BAR's start (the model's reading of the table, log 72). A write of the window is refused with READ_ONLY. The request buffer takes writes
unless a request is pending, the MSI-X table takes them, and any other write is dropped. A read that reaches no function is unsupported, and
a write that reaches none is dropped (R193, R354, R358, R359, R362). -/
def Obligations.RegisterWindowIsReadOnly : Prop :=
  (∀ (t off len idx sub : Nat) (x : Option Nat) (f : Fn) (s u : State) (o : ObjRow), u = s.at t → s.live = true → u.reaches f.val = true →
    off < 0x10000 → u.windowCheck f.val off len = stOk → windowSlot off = some (idx, sub, x) → objRow idx sub = some o →
    exec (.registerWindowRead t f off len) s
      = .next (u.complete (.data (slice (slice (valBytes o.ty (u.objValue f.val o idx sub)) 0 8) (off % 8) len))))
  ∧ (∀ (t off len : Nat) (f : Fn) (s u : State), u = s.at t → s.live = true → u.reaches f.val = true → off < 0x10000 →
    u.windowCheck f.val off len ≠ stOk →
    exec (.registerWindowRead t f off len) s
      = .next ((u.refuseWindow f.val off (u.windowCheck f.val off len)).complete (.data (List.replicate len 0xFF))))
  ∧ (∀ (t off len : Nat) (f : Fn) (s u : State), u = s.at t → s.live = true → u.reaches f.val = true → 0x10000 ≤ off →
    exec (.registerWindowRead t f off len) s = .next (u.complete (.data (u.bar0Read f.val ((off + 0x10000) % 0x40000) len))))
  ∧ (∀ (t off : Nat) (f : Fn) (s : State), s.live = true → (s.at t).reaches f.val = true →
    ∃ s', exec (.registerWindowWrite t f off) s = .next s' ∧ s'.regF f.val 0x1102 1 = stReadOnly + 65536 * (off / 8 % 8192)
      ∧ s'.regF f.val 0x1102 2 = satAdd 32 (s.regF f.val 0x1102 2) 1 ∧ s'.ddr = s.ddr ∧ s'.fns = s.fns)
  ∧ (∀ (t off : Nat) (f : Fn) (bs : List Byte) (s u : State), u = s.at t → s.live = true → u.reaches f.val = true →
    (0x20000 ≤ off → off < 0x21014 → exec (.registerWrite t f off bs) s
      = .next (if (s.fnSt f.val).mbState = 1 then u else u.setFn f.val { s.fnSt f.val with
        reqBuf := (overlay (slice (s.fnSt f.val).reqBuf 0 4116) (off - 0x20000) bs).take 4116 }))
    ∧ (0x30000 ≤ off → off < 0x30080 → exec (.registerWrite t f off bs) s = .next ((u.setFn f.val { s.fnSt f.val with
        msixTable := (overlay (s.fnSt f.val).msixTable (off - 0x30000) bs).take 128 }).sendPending f.val))
    ∧ (off < 0x20000 ∨ (0x21014 ≤ off ∧ off < 0x30000) ∨ 0x30080 ≤ off → exec (.registerWrite t f off bs) s = .next u))
  ∧ (∀ (t off len : Nat) (f : Fn) (bs : List Byte) (s u : State), u = s.at t → s.live = true → u.reaches f.val = false →
    exec (.registerWindowRead t f off len) s = .next (u.complete .unsupported) ∧ exec (.registerWindowWrite t f off) s = .next u
      ∧ exec (.registerWrite t f off bs) s = .next u)

/-- The apertures. In LPDDR5 a write within the caller's memory stores its enabled bytes there and leaves every other byte of LPDDR5, scratch and
scratchpads; a read of at most 4,096 bytes answers the bytes and changes nothing else. Refused, counted and storing nothing are an access outside the
function's partition, one beyond the capacity in use, one that meets a withdrawn page, a longer read, and a read of a poisoned block, which
also counts in OD 8000.04. A scratchpad access within one word goes to the core's port through its handle, or raw for the PF; outside the
function's partition, raw from a VF, or not within one word of a scratchpad, it is refused and counted. An access that reaches no function is
dropped, a read of it unsupported (R355, R356, R407, R444, R452). -/
def Obligations.AperturesReachTheirMemoryAlone : Prop :=
  (∀ (t addr : Nat) (f : Fn) (bs : List (Option Byte)) (s u : State), u = s.at t → s.live = true → u.reaches f.val = true →
    (f.val = 0 ∨ (u.granuleIn (f.val - 1) (addr / 67108864) = true ∧ u.granuleIn (f.val - 1) ((addr + bs.length - 1) / 67108864) = true)) →
    addr + bs.length ≤ u.capacityUsed → u.spanRetired addr bs.length = false →
    ∃ s', exec (.lpddr5ApertureAccess t f addr (.wr bs)) s = .next s'
      ∧ (∀ a, a < addr ∨ addr + bs.length ≤ a → s'.ddrRead a 1 = s.ddrRead a 1)
      ∧ (∀ i, i < bs.length → s'.ddrRead (addr + i) 1 = [((bs.getD i none).getD (kget memDefault s.ddr (addr + i)))])
      ∧ s'.fscratch = s.fscratch ∧ s'.pads = s.pads)
  ∧ (∀ (t addr n : Nat) (f : Fn) (s u : State), u = s.at t → s.live = true → u.reaches f.val = true →
    (f.val = 0 ∨ (u.granuleIn (f.val - 1) (addr / 67108864) = true ∧ u.granuleIn (f.val - 1) ((addr + n - 1) / 67108864) = true)) →
    addr + n ≤ u.capacityUsed → u.spanRetired addr n = false →
    (n ≤ 4096 → u.spanPoisoned addr n = false →
      exec (.lpddr5ApertureAccess t f addr (.rd n)) s = .next (u.complete (.data (s.ddrRead addr n))))
    ∧ (n ≤ 4096 → u.spanPoisoned addr n = true →
      exec (.lpddr5ApertureAccess t f addr (.rd n)) s
        = .next ((u.countPoison addr n (some (0x70 + f.val))).refuseAperture f.val (.rd n)))
    ∧ (4096 < n → exec (.lpddr5ApertureAccess t f addr (.rd n)) s = .next (u.refuseAperture f.val (.rd n))))
  ∧ (∀ (t addr : Nat) (f : Fn) (a : Access) (s u : State), u = s.at t → s.live = true → u.reaches f.val = true →
    (f.val = 0 ∨ (u.granuleIn (f.val - 1) (addr / 67108864) = true ∧ u.granuleIn (f.val - 1) ((addr + accessLen a - 1) / 67108864) = true)) →
    u.capacityUsed < addr + accessLen a ∨ u.spanRetired addr (accessLen a) = true →
    exec (.lpddr5ApertureAccess t f addr a) s = .next (u.refuseAperture f.val a))
  ∧ (∀ (t addr : Nat) (f : Fn) (a : Access) (s u : State), u = s.at t → s.live = true → u.reaches f.val = true → f.val ≠ 0 →
    (u.granuleIn (f.val - 1) (addr / 67108864) = false ∨ u.granuleIn (f.val - 1) ((addr + accessLen a - 1) / 67108864) = false) →
    ∃ s', exec (.lpddr5ApertureAccess t f addr a) s = .next s' ∧ s'.ddr = s.ddr ∧ s'.pads = s.pads
      ∧ s'.regF f.val 0x1102 3 = satAdd 32 (s.regF f.val 0x1102 3) 1)
  ∧ (∀ (t addr c o : Nat) (f : Fn) (a : Access) (s u : State), u = s.at t → s.live = true → u.reaches f.val = true → c = addr / 0x20000000 →
    o = addr % 0x20000000 → c < 32 → 1 ≤ accessLen a → o % 8 + accessLen a ≤ 8 →
    (o < 0x10000000 → f.val = 0 ∨ s.corePart c = some (f.val - 1) → exec (.scratchpadApertureAccess t f addr a) s
      = .next (u.padServe c [.host f.val false (o / 0x400000) (o % 0x400000 / 8) (o % 8) a]))
    ∧ (0x10000000 ≤ o → o < 0x10280000 → f.val = 0 → exec (.scratchpadApertureAccess t f addr a) s
      = .next (u.padServe c [.host f.val true (o / 0x400000) ((o - 0x10000000) / 8) (o % 8) a])))
  ∧ (∀ (t addr c o : Nat) (f : Fn) (a : Access) (s : State), s.live = true → (s.at t).reaches f.val = true → f.val ≠ 0 →
    c = addr / 0x20000000 → o = addr % 0x20000000 → c < 32 → o < 0x10280000 → 1 ≤ accessLen a → o % 8 + accessLen a ≤ 8 →
    0x10000000 ≤ o ∨ s.corePart c ≠ some (f.val - 1) →
    ∃ s', exec (.scratchpadApertureAccess t f addr a) s = .next s' ∧ s'.pads = s.pads ∧ s'.ddr = s.ddr
      ∧ s'.regF f.val 0x1102 3 = satAdd 32 (s.regF f.val 0x1102 3) 1)
  ∧ (∀ (t addr : Nat) (f : Fn) (a : Access) (s u : State), u = s.at t → s.live = true → u.reaches f.val = true →
    (32 ≤ addr / 0x20000000 ∨ 0x10280000 ≤ addr % 0x20000000 ∨ accessLen a = 0 ∨ 8 < addr % 0x20000000 % 8 + accessLen a) →
    exec (.scratchpadApertureAccess t f addr a) s = .next (u.refuseAperture f.val a))
  ∧ (∀ (t addr : Nat) (f : Fn) (a : Access) (s u : State), u = s.at t → s.live = true → u.reaches f.val = false →
    exec (.lpddr5ApertureAccess t f addr a) s = .next (if accessWrites a = true then u else u.complete .unsupported)
      ∧ exec (.scratchpadApertureAccess t f addr a) s = .next (if accessWrites a = true then u else u.complete .unsupported))

/-- Functions, once the data link layer is up: configuration requests of an enabled function are answered, with R351's identifiers and R352's
numbers and capabilities; VF Enable enables VF1 to VFn alone; D3hot stops memory requests of its function; an FLR of an enabled VF is an FLR of that
function alone, an FLR of the PF also clears VF Enable and ends the sessions. An FLR leaves the mailbox IDLE, the rings off, the window's
latch 0 and the function in D0. A hot reset or DL_Down erases the IDE keys, ends the sessions, turns IDE OFF and trains the link anew, which
after a hot reset is a retrain. With
the data link layer down, or of a VF that is not enabled, configuration is unsupported and the others change nothing (R348–R353, R415). -/
def Obligations.FunctionsResetAndConfigure : Prop :=
  (∀ (t : Nat) (f : Fn) (r : ConfigReq) (s u : State), u = s.at t → s.live = true →
    (s.link.dlUp = true → (s.fnSt f.val).enabled = true → exec (.configRequest t f r) s = .next (u.configOp f.val r))
    ∧ (s.link.dlUp = false ∨ (s.fnSt f.val).enabled = false → exec (.configRequest t f r) s = .next (u.complete .unsupported)))
  ∧ (∀ (s : State) (f : Nat), s.configOp f .deviceId = s.complete (.data (leBytes 2 (if f = 0 then 0x6432 else 0x6433)))
    ∧ s.configOp f .classCode = s.complete (.data (leBytes 3 0x120000)) ∧ s.configOp 0 .totalVfs = s.complete (.data (leBytes 2 8))
    ∧ s.configOp 0 .vfOffset = s.complete (.data (leBytes 2 1)) ∧ s.configOp 0 .vfStride = s.complete (.data (leBytes 2 1))
    ∧ s.configOp f .maxPayload = s.complete (.data (leBytes 2 256)) ∧ s.configOp f .msixVectors = s.complete (.data (leBytes 1 8))
    ∧ s.configOp f (.capability .msi) = s.complete (.data (leBytes 1 0)) ∧ s.configOp f (.capability .msiX) = s.complete (.data (leBytes 1 1)))
  ∧ (∀ (t : Nat) (n : Fin 9) (s : State), s.live = true → s.link.dlUp = true → n.val ≠ 0 →
    ∃ s', exec (.vfEnable t n) s = .next s' ∧ s'.link.numVfs = n.val ∧ ∀ v, v < 8 → (s'.fnSt (v + 1)).enabled = decide (v < n.val))
  ∧ (∀ (t : Nat) (s u : State), u = s.at t → s.live = true → s.link.dlUp = true →
    exec (.vfEnable t 0) s = .next (State.vfsOff { u with link := { s.link with numVfs := 0 } }))
  ∧ (∀ (t : Nat) (f : Fn) (s : State), s.live = true → s.link.dlUp = true → (s.fnSt f.val).enabled = true →
    ∃ s', exec (.d3hotEntry t f) s = .next s' ∧ s'.reaches f.val = false)
  ∧ (∀ (t : Nat) (v : Part) (s u : State), u = s.at t → s.live = true → s.link.dlUp = true → (s.fnSt (v.val + 1)).enabled = true →
    exec (.flrVf t v) s = .next (u.flr (v.val + 1)))
  ∧ (∀ (s : State) (f : Nat), f < 9 → ((s.flr f).fnSt f).mbState = 0 ∧ ((s.flr f).fnSt f).d3 = false ∧ (s.flr f).regF f 0x1104 3 = 0
      ∧ (s.flr f).regF f 0x1105 3 = 0 ∧ (s.flr f).regF f 0x1102 1 = 0)
  ∧ (∀ (t : Nat) (s u : State), u = s.at t → s.live = true → s.link.dlUp = true → exec (.flrPf t) s = .next ((u.flr 0).vfsOff.endSessions))
  ∧ (∀ (t : Nat) (d : Bool) (s : State), s.live = true → s.link.dlUp = true →
    ∃ s', exec (.hotReset t d) s = .next s' ∧ s'.sec.keys = [] ∧ s'.sec.sessions = [] ∧ s'.reg 0x9001 2 = 0 ∧ s'.reg 0x1100 1 = 1
      ∧ s'.link.dlUp = false ∧ s'.link.again = !d)
  ∧ (∀ (t : Nat) (n : Fin 9) (v : Part) (f : Fn) (s u : State), u = s.at t → s.live = true → s.link.dlUp = false →
    exec (.vfEnable t n) s = .next u ∧ exec (.d3hotEntry t f) s = .next u ∧ exec (.flrVf t v) s = .next u ∧ exec (.flrPf t) s = .next u
      ∧ (∀ d, d = false ∨ (s.reg 0x9001 2 ≠ 2 ∧ s.link.was0 = false ∧ s.link.was1 = false) → exec (.hotReset t d) s = .next u))


/-! ### The link, IDE and SPDM (14, 16) -/

/-- Host-bound requests wait in RESET, TRAINING and RETRAIN, are sent in the UP states unless IDE is required and not SECURE, and fail at once in
FAILED. A module that trains joins the width; 100 ms after both failed training starts again; the data link layer comes up on a link in
service, after a hot reset dropping a module that did not come back; a retrain stops host-bound requests and counts in OD 1100.05; at its
end the modules that failed are dropped, width and rate settle, and LINK_RETRAIN and for a module lost LINK_DEGRADED are raised, or with none left
the link is FAILED. In other states of the link nothing changes (R348–R350, R415). -/
def Obligations.LinkStatesDecideOnHostRequests : Prop :=
  (∀ s : State, (s.reg 0x1100 1 = 0 ∨ s.reg 0x1100 1 = 1 ∨ s.reg 0x1100 1 = 5 → s.hostPath = .waits)
    ∧ (s.reg 0x1100 1 = 2 ∨ s.reg 0x1100 1 = 3 ∨ s.reg 0x1100 1 = 4 → s.reg 0x9001 1 ≠ 1 ∨ s.reg 0x9001 2 = 1 → s.hostPath = .sent)
    ∧ (s.reg 0x1100 1 = 6 → s.hostPath = .fails))
  ∧ (∀ (t : Nat) (rate : Fin 3) (s u : State), u = s.at t → s.live = true →
    (s.reg 0x1100 1 = 1 ∨ ((s.reg 0x1100 1 = 3 ∨ s.reg 0x1100 1 = 4) ∧ s.link.dlUp = false)) → rate.val ≤ s.reg 0x1100 2 →
    (s.link.drop0 = false → s.link.u0 = none →
      exec (.ucieModuleTrained t 0 rate) s = .next (State.settleLink { u with link := { s.link with u0 := some rate.val } }))
    ∧ (s.link.drop1 = false → s.link.u1 = none →
      exec (.ucieModuleTrained t 1 rate) s = .next (State.settleLink { u with link := { s.link with u1 := some rate.val } })))
  ∧ (∀ (t : Nat) (m : Fin 2) (rate : Fin 3) (s : State), s.live = true →
    s.reg 0x1100 2 < rate.val ∨ s.modUp m.val = true ∨ (s.link.dlUp = true ∧ s.reg 0x1100 1 ≠ 1) → exec (.ucieModuleTrained t m rate) s = .next (s.at t))
  ∧ (∀ (s : State) (x : Nat), s.link.drop0 = false → s.link.u0 = some x → (s.link.drop1 = true ∨ s.link.u1 = none) →
    s.settleLink.reg 0x1100 1 = 3 ∧ s.settleLink.reg 0x1100 3 = x ∧ s.settleLink.reg 0x1100 4 = 64)
  ∧ (∀ (s : State) (x : Nat), s.link.drop1 = false → s.link.u1 = some x → (s.link.drop0 = true ∨ s.link.u0 = none) →
    s.settleLink.reg 0x1100 1 = 4 ∧ s.settleLink.reg 0x1100 3 = x ∧ s.settleLink.reg 0x1100 4 = 64)
  ∧ (∀ (s : State) (x y : Nat), s.link.drop0 = false → s.link.drop1 = false → s.link.u0 = some x → s.link.u1 = some y →
    s.settleLink.reg 0x1100 1 = 2 ∧ s.settleLink.reg 0x1100 3 = min x y ∧ s.settleLink.reg 0x1100 4 = 128)
  ∧ (∀ (t k : Nat) (s u : State), u = s.at t → s.live = true → s.link.failedAt = some k →
    (s.reg 0x1100 1 = 6 → k + msCycles 100 ≤ max s.now t → exec (.linkTrainingRetry t) s = .next u.startTraining)
    ∧ (s.reg 0x1100 1 ≠ 6 ∨ max s.now t < k + msCycles 100 → exec (.linkTrainingRetry t) s = .next u))
  ∧ (∀ (t : Nat) (s u : State), u = s.at t → s.live = true → s.link.failedAt = none → s.reg 0x1100 1 = 1 → s.modUp 0 = false →
    s.modUp 1 = false → exec (.linkTrainingRetry t) s = .next u.settleLink)
  ∧ (∀ (t : Nat) (s u v : State) (a b : Bool), u = s.at t → s.live = true → a = (s.link.was0 && !s.modUp 0) → b = (s.link.was1 && !s.modUp 1) →
    v = { u with link := { s.link with dlUp := true, again := false, was0 := false, was1 := false } } →
    (s.linkUp = true → s.link.dlUp = false → s.downDue = false → exec (.dlUp t) s = .next (if s.link.again = true then (v.dropModules a b).reportRetrain a b else v))
    ∧ (s.linkUp = false ∨ s.link.dlUp = true ∨ s.downDue = true → exec (.dlUp t) s = .next u))
  ∧ (∀ (t : Nat) (s : State), s.live = true → s.linkUp = true →
    ∃ s', exec (.linkRetrain t) s = .next s' ∧ s'.reg 0x1100 1 = 5 ∧ s'.reg 0x1100 5 = satAdd 32 (s.reg 0x1100 5) 1
      ∧ ∃ n, s'.reg 0x1100 6 = satAdd 64 (s.reg 0x1100 6) (1 + n))
  ∧ (∀ (t : Nat) (s : State), s.live = true → s.linkUp = false → exec (.linkRetrain t) s = .next (s.at t))
  ∧ (∀ (t : Nat) (x y a b : Bool) (s u : State), u = s.at t → s.live = true → a = (s.modUp 0 && !x) → b = (s.modUp 1 && !y) →
    (s.reg 0x1100 1 = 5 → (s.modUp 0 && x) = true ∨ (s.modUp 1 && y) = true →
      exec (.linkRetrainDone t x y) s = .next ((u.dropModules a b).settleLink.reportRetrain a b))
    ∧ (s.reg 0x1100 1 = 5 → (s.modUp 0 && x) = false → (s.modUp 1 && y) = false →
      exec (.linkRetrainDone t x y) s = .next (State.retrainEvent (State.settleLink
        { u with link := { s.link with u0 := none, u1 := none, was0 := s.modUp 0, was1 := s.modUp 1 } })))
    ∧ (s.reg 0x1100 1 ≠ 5 → exec (.linkRetrainDone t x y) s = .next u))
  ∧ (∀ (t : Nat) (s : State), s.live = true → s.reg 0x1100 1 = 5 → s.modUp 0 = true → s.modUp 1 = true →
    ∃ s', exec (.linkRetrainDone t true false) s = .next s' ∧ s'.link.drop1 = true ∧ s'.reg 0x1100 1 = 3 ∧ s'.reg 0x1100 4 = 64
      ∧ s'.reg 0x1100 7 = 1)

/-- IDE: a key of 32 bytes is taken through an established session while SEC runs; K_SET_GO on a whole set makes the stream SECURE under it, with the
counters anew; a MAC failure of a SECURE stream counts and leads to INSECURE; 2^48 TLPs ask once for a rekey, 2^52 end the stream. While SEC
restarts it answers ResponseNotReady and keeps the request. Without the session, with a set not whole, or of a stream that is not SECURE, nothing changes. Once its fill runs on a channel of
DMA4, a scrubbed place becomes zero and leaves the list, and no other byte of its memory changes; no fill, no change (R411, R414–R416). -/
def Obligations.IdeStreamAndScrubbing : Prop :=
  (∀ (t n : Nat) (set : Fin 2) (sub : Fin 3) (tx : Bool) (key : List Byte) (s u v : State), u = s.at t → s.live = true →
    v = { u with sec := { s.sec with deferred := none } } →
    (s.proc 0 = 1 → s.sessionUp n = true → key.length = 32 → exec (.ideKeyProgram t n set sub tx key) s
      = .next { v with sec := { v.sec with keys := kput s.sec.keys (ideKey set.val sub.val tx) key } })
    ∧ (s.proc 0 = 1 → s.sessionUp n = false ∨ key.length ≠ 32 → exec (.ideKeyProgram t n set sub tx key) s = .next v)
    ∧ (s.proc 0 = 1 → s.sessionUp n = false ∨ s.setWhole set.val = false → exec (.kSetGo t n set) s = .next v)
    ∧ (s.proc 0 = 2 → exec (.ideKeyProgram t n set sub tx key) s
        = .next { u with sec := { s.sec with resp := .notReady 18, deferred := some (.ideKeyProgram t n set sub tx key) } }
      ∧ exec (.kSetGo t n set) s = .next { u with sec := { s.sec with resp := .notReady 18, deferred := some (.kSetGo t n set) } })
    ∧ (s.proc 0 ≠ 1 → s.proc 0 ≠ 2 → exec (.ideKeyProgram t n set sub tx key) s = .next u ∧ exec (.kSetGo t n set) s = .next u))
  ∧ (∀ (t n : Nat) (set : Fin 2) (s : State), s.live = true → s.proc 0 = 1 → s.sessionUp n = true → s.setWhole set.val = true →
    ∃ s', exec (.kSetGo t n set) s = .next s' ∧ s'.reg 0x9001 2 = 1 ∧ s'.reg 0x9001 3 = set.val ∧ s'.reg 0x9001 4 = 0
      ∧ s'.reg 0x9001 7 = satAdd 32 (s.reg 0x9001 7) 1 ∧ s'.sec = { s.sec with deferred := none, keyAt := max s.now t } ∧ s'.ddr = s.ddr)
  ∧ (∀ (t : Nat) (s u : State), u = s.at t → s.live = true →
    (s.reg 0x9001 2 = 1 → exec (.ideMacFailure t) s = .next (u.bump 32 0x9001 8 1).insecure
      ∧ ∀ sub, exec (.ideHardLimit t sub) s = .next (u.setReg 0x9001 4 (2 ^ 52)).insecure)
    ∧ (s.reg 0x9001 2 ≠ 1 → exec (.ideMacFailure t) s = .next u ∧ ∀ sub, exec (.ideHardLimit t sub) s = .next u))
  ∧ (∀ s : State, s.insecure.sec.keys = [] ∧ s.insecure.reg 0x9001 2 = 2 ∧ s.insecure.link.dlUp = false)
  ∧ (∀ (t : Nat) (sub : Fin 3) (s u : State), u = s.at t → s.live = true →
    (s.reg 0x9001 2 = 1 → s.reg 0x9001 4 < 2 ^ 48 → exec (.ideRekey t sub) s
      = .next ((u.setReg 0x9001 4 (2 ^ 48)).raiseEvent 0xA0 none sub.val (s.reg 0x9001 3) (2 ^ 48 / 2 ^ 32) 0))
    ∧ (s.reg 0x9001 2 ≠ 1 ∨ 2 ^ 48 ≤ s.reg 0x9001 4 → exec (.ideRekey t sub) s = .next u))
  ∧ (∀ (t c : Nat) (x : Scrub) (l : List Scrub) (s : State), s.live = true → s.scrubs = x :: l → s.scrubChan = some c →
    ∃ s', exec (.scrubFillDone t) s = .next s' ∧ s'.scrubs = l
      ∧ (x.granule = true → (∀ a, 67108864 * x.index ≤ a → a < 67108864 * x.index + 67108864 → kget memDefault s'.ddr a = 0)
        ∧ (∀ a, a < 67108864 * x.index ∨ 67108864 * x.index + 67108864 ≤ a → kget memDefault s'.ddr a = kget memDefault s.ddr a)
        ∧ s'.fscratch = s.fscratch)
      ∧ (x.granule = false → (∀ a, 4096 * x.index ≤ a → a < 4096 * x.index + 4096 → kget memDefault s'.fscratch a = 0)
        ∧ (∀ a, a < 4096 * x.index ∨ 4096 * x.index + 4096 ≤ a → kget memDefault s'.fscratch a = kget memDefault s.fscratch a)
        ∧ s'.ddr = s.ddr))
  ∧ (∀ (t : Nat) (s : State), s.live = true → s.scrubs = [] ∨ s.scrubChan = none → exec (.scrubFillDone t) s = .next (s.at t))

/-- The SPDM responder in SEC answers each request: negotiation in order, and before it has ended an error to what needs it; the certificate chain by
parts; at most two sessions; a session is up from FINISH to END_SESSION. While SEC restarts it answers ResponseNotReady and keeps the
request, which RESPOND_IF_READY answers afterwards; without SEC nothing answers (R417–R419). -/
def Obligations.SpdmResponderAnswers : Prop :=
  (∀ (t : Nat) (s : State) (v : State), s.live = true → s.proc 0 = 1 → v = State.at { s with sec := { s.sec with deferred := none } } t →
    exec (.getVersion t) s = .next v.spdmVersion ∧ exec (.getCapabilities t) s = .next v.spdmCapabilities
    ∧ (∀ a b c d, exec (.negotiateAlgorithms t a b c d) s = .next (v.spdmAlgorithms a b c d)) ∧ exec (.getDigests t) s = .next v.spdmDigests
    ∧ (∀ k off len, exec (.getCertificate t k off len) s = .next (v.spdmCertificate k.val off len))
    ∧ (∀ k n, exec (.challenge t k n) s = .next (v.spdmChallenge k.val n))
    ∧ (∀ i, exec (.getMeasurements t i) s = .next (v.spdmMeasurements i.toNat)) ∧ (∀ n, exec (.keyExchange t n) s = .next (v.spdmKeyExchange n))
    ∧ (∀ n ok, exec (.finish t n ok) s = .next (v.spdmFinish n ok)) ∧ (∀ n, exec (.keyUpdate t n) s = .next (v.spdmKeyUpdate n))
    ∧ (∀ n, exec (.heartbeat t n) s = .next (v.spdmHeartbeat n)) ∧ (∀ n, exec (.endSession t n) s = .next (v.spdmEnd n)))
  ∧ (∀ s : State, (s.sec.phase = 0 → s.spdmCapabilities.sec.resp = .error spdmUnexpected) ∧ (1 ≤ s.sec.phase → s.spdmCapabilities.sec.phase = 2)
    ∧ (s.sec.phase < 2 → ∀ a b c d, (s.spdmAlgorithms a b c d).sec.resp = .error spdmUnexpected)
    ∧ (2 ≤ s.sec.phase → ∀ a b c d, (s.spdmAlgorithms a b c d).sec.phase = 3 ∧ (s.spdmAlgorithms a b c d).sec.resp = .algorithms a b c d)
    ∧ (s.sec.phase < 3 → s.spdmDigests.sec.resp = .error spdmUnexpected)
    ∧ (3 ≤ s.sec.phase → s.spdmDigests.sec.resp = .digests 1 (sha256 (Config.certChain s.fw.layers))))
  ∧ (∀ (s : State) (off len : Nat), 3 ≤ s.sec.phase → (s.spdmCertificate 0 off len).sec.resp =
    if (Config.certChain s.fw.layers).length ≤ off then .error spdmInvalid else .certificate 0 (((Config.certChain s.fw.layers).drop off).take len)
      ((Config.certChain s.fw.layers).length - off - (((Config.certChain s.fw.layers).drop off).take len).length))
  ∧ (∀ (s : State) (n : Nat), 3 ≤ s.sec.phase → 2 ≤ s.sec.sessions.length → (s.spdmKeyExchange n).sec.sessions = s.sec.sessions)
  ∧ (∀ (s : State) (n : Nat), 3 ≤ s.sec.phase → s.sec.sessions.length < 2 → (∀ e ∈ s.sec.sessions, e.1 ≠ n) →
    (s.spdmKeyExchange n).sec.sessions = s.sec.sessions ++ [(n, false, 0)])
  ∧ (∀ (s : State) (n : Nat), s.sec.sessions.find? (fun e => decide (e.1 = n)) = some (n, false, 0) → (s.spdmFinish n true).sessionUp n = true)
  ∧ (∀ (s : State) (n : Nat), s.sessionUp n = true → (s.spdmEnd n).sessionUp n = false)
  ∧ (∀ (t : Nat) (i : Instr) (s u : State), u = s.at t → s.live = true → s.proc 0 = 2 →
    ((i = .getVersion t) ∨ (i = .getCapabilities t) ∨ (∃ a b c d, i = .negotiateAlgorithms t a b c d) ∨ (i = .getDigests t)
      ∨ (∃ k off len, i = .getCertificate t k off len) ∨ (∃ k n, i = .challenge t k n) ∨ (∃ x, i = .getMeasurements t x)
      ∨ (∃ n, i = .keyExchange t n) ∨ (∃ n ok, i = .finish t n ok) ∨ (∃ n, i = .keyUpdate t n) ∨ (∃ n, i = .heartbeat t n)
      ∨ (∃ n, i = .endSession t n)) →
    exec i s = .next { u with sec := { s.sec with resp := .notReady 18, deferred := some i } })
  ∧ (∀ (t : Nat) (s u : State), u = s.at t → s.live = true →
    (s.proc 0 = 2 → exec (.respondIfReady t) s = .next { u with sec := { s.sec with resp := .notReady 18 } })
    ∧ (∀ i, s.proc 0 = 1 → s.sec.deferred = some i →
      exec (.respondIfReady t) s = .next (State.spdmDeferred { u with sec := { s.sec with deferred := none } } i))
    ∧ (s.proc 0 = 1 → s.sec.deferred = none →
      exec (.respondIfReady t) s = .next { u with sec := { s.sec with resp := .error spdmUnexpected } })
    ∧ (s.proc 0 ≠ 1 → s.proc 0 ≠ 2 → exec (.getVersion t) s = .next u ∧ exec (.respondIfReady t) s = .next u))

/-! ### The field port (14) -/

/-- Aedsy. A request with a good MAC and fresh moves the receive counter, counts and gives its segment; with a bad MAC, or not fresh, it is refused and
counted; a KEY_SWITCH makes the inactive slot active and erases the other key. A frame that fails step 1, or names another slot, is dropped and counted,
and so is every one while no key is active. A frame on another identifier is received and nothing more; off the bus none is. A partial
message 100 ms old goes; a rekey due is announced once; frames that may not be sent leave the queues; a STATUS frame comes every OD 1111.08-th
tick; a frame sent counts and moves FRESH. Bus-off counts; after OD 1110.08 the recovery starts; then the controller is error active again; bus
errors set the counters (R369, R371, R373–R377). -/
def Obligations.FieldPortTakesAuthenticFramesAndKeepsItsTimers : Prop :=
  (∀ (t : Nat) (id : BitVec 29) (ext : Bool) (b key : List Byte) (s v : State), s.live = true → s.canOn = true → v = (s.at t).canReceived →
    v.aedsyId id ext = some 2 → v.canKeyed = true → aedsyForm 2 b = true → byteOf b 1 % 2 = v.reg 0x1111 3 → v.canKey (byteOf b 1 % 2) = some key →
    (frameMac key id.toNat ext b = slice b 56 8 → v.reg 0x1111 4 < frameFresh b → frameFresh b ≤ v.reg 0x1111 4 + 1048576 →
      exec (.dictRequest t id ext b) s = .next (((v.setReg 0x1111 4 (frameFresh b)).bump 64 0x1110 13 1).fieldSegment b))
    ∧ (frameMac key id.toNat ext b ≠ slice b 56 8 → exec (.dictRequest t id ext b) s = .next (v.aedsyRefuse stAuthFailed (frameFresh b)))
    ∧ (frameMac key id.toNat ext b = slice b 56 8 → (frameFresh b ≤ v.reg 0x1111 4 ∨ v.reg 0x1111 4 + 1048576 < frameFresh b) →
      exec (.dictRequest t id ext b) s = .next (v.aedsyRefuse stFreshness (frameFresh b))))
  ∧ (∀ (t : Nat) (id : BitVec 29) (ext : Bool) (b key : List Byte) (s v : State), s.live = true → s.canOn = true → v = (s.at t).canReceived →
    v.aedsyId id ext = some 3 → v.canKeyed = true → aedsyForm 3 b = true → byteOf b 1 % 2 ≠ v.reg 0x1111 3 → v.canKey (byteOf b 1 % 2) = some key →
    (frameMac key id.toNat ext b = slice b 56 8 → frameFresh b = 1 →
      ∃ s', exec (.keySwitch t id ext b) s = .next s' ∧ s'.reg 0x1111 3 = byteOf b 1 % 2 ∧ s'.reg 0x1111 4 = 1
        ∧ s'.canKey (byteOf b 1 % 2) = some key ∧ s'.canKey (1 - byteOf b 1 % 2) = none)
    ∧ (frameMac key id.toNat ext b ≠ slice b 56 8 → exec (.keySwitch t id ext b) s = .next (v.aedsyRefuse stAuthFailed (frameFresh b)))
    ∧ (frameMac key id.toNat ext b = slice b 56 8 → frameFresh b ≠ 1 →
      exec (.keySwitch t id ext b) s = .next (v.aedsyRefuse stFreshness (frameFresh b))))
  ∧ (∀ (t : Nat) (id : BitVec 29) (ext : Bool) (b : List Byte) (s v : State), s.live = true → s.canOn = true → v = (s.at t).canReceived →
    (v.aedsyId id ext = some 2 → v.canKeyed = false ∨ aedsyForm 2 b = false ∨ byteOf b 1 % 2 ≠ v.reg 0x1111 3 →
      exec (.dictRequest t id ext b) s = .next (v.bump 32 0x1111 11 1))
    ∧ (v.aedsyId id ext = some 3 → v.canKeyed = false ∨ aedsyForm 3 b = false ∨ byteOf b 1 % 2 = v.reg 0x1111 3 →
      exec (.keySwitch t id ext b) s = .next (v.bump 32 0x1111 11 1))
    ∧ (v.aedsyId id ext = none → exec (.dictRequest t id ext b) s = .next v ∧ exec (.keySwitch t id ext b) s = .next v))
  ∧ (∀ (t : Nat) (id : BitVec 29) (ext : Bool) (b : List Byte) (s u : State), u = s.at t → s.live = true →
    (s.canOn = true → u.aedsyId id ext = none → exec (.canFrameIgnored t id ext) s = .next u.canReceived)
    ∧ (s.canOn = false → exec (.canFrameIgnored t id ext) s = .next u ∧ exec (.dictRequest t id ext b) s = .next u
      ∧ exec (.keySwitch t id ext b) s = .next u))
  ∧ (∀ (t : Nat) (m : CanPartial) (s u : State), u = s.at t → s.live = true → s.can.msg = some m →
    exec (.aedsyPartialTimeout t) s = .next (if m.lastAt + msCycles 100 ≤ max s.now t then { u with can := { s.can with msg := none } } else u))
  ∧ (∀ (t : Nat) (s u : State), u = s.at t → s.live = true →
    (s.canKeyed = true → s.rekeyDue = true → s.can.dueRaised = false →
      exec (.aedsyRekeyDue t) s = .next (State.raiseEvent { u with can := { s.can with dueRaised := true } } 0x63 none 0
        (s.reg 0x1111 4) (s.reg 0x1111 5) 0))
    ∧ (s.canKeyed = false ∨ s.rekeyDue = false ∨ s.can.dueRaised = true → exec (.aedsyRekeyDue t) s = .next u)
    ∧ exec (.aedsyFreshLimit t) s = .next (State.canSend { u with can := { s.can with
      queue := s.can.queue.filter (canMaySend (s.reg 0x1111 5)), waiting := s.can.waiting.filter (canMaySend (s.reg 0x1111 5)) } } [])
    ∧ exec (.aedsyStatusFrame t) s = .next (if s.reg 0x1111 8 ≠ 0 ∧ s.tickCount % s.reg 0x1111 8 = 0 ∧ s.can.statusAt < s.tickCount
      then State.canStatus { u with can := { s.can with statusAt := s.tickCount } } else u))
  ∧ (∀ (t : Nat) (f : CanTx) (l : List CanTx) (s : State), s.live = true → s.can.queue = f :: l → s.canOn = true → s.canKeyed = true →
    canMaySend (s.reg 0x1111 5) f = true →
    ∃ s', exec (.canTxComplete t) s = .next s' ∧ s'.reg 0x1111 5 = s.reg 0x1111 5 + 1 ∧ s'.reg 0x1110 14 = satAdd 64 (s.reg 0x1110 14) 1
      ∧ s'.reg 0x1110 10 = s.reg 0x1110 10 - 1)
  ∧ (∀ (t : Nat) (s : State), s.live = true → s.can.queue = [] ∨ s.canOn = false ∨ s.canKeyed = false →
    exec (.canTxComplete t) s = .next (s.at t))
  ∧ (∀ (t tec : Nat) (s : State), s.live = true → s.canOn = true →
    ∃ s', exec (.canBusOff t tec) s = .next s' ∧ s'.reg 0x1110 9 = 3 ∧ s'.reg 0x1110 12 = satAdd 32 (s.reg 0x1110 12) 1
      ∧ s'.can.busOffAt = some (max s.now t))
  ∧ (∀ (t k : Nat) (s : State), s.live = true → s.can.busOffAt = some k → s.reg 0x1110 9 = 3 → k + msCycles (s.reg 0x1110 8) ≤ max s.now t →
    ∃ s', exec (.busoffDelayExpiry t) s = .next s' ∧ s'.reg 0x1110 9 = 4 ∧ s'.can.recovering = true)
  ∧ (∀ (t : Nat) (s : State), s.live = true → s.reg 0x1110 9 = 4 →
    ∃ s', exec (.canRecovered t) s = .next s' ∧ s'.reg 0x1110 9 = 1 ∧ s'.reg 0x1110 10 = 0 ∧ s'.reg 0x1110 11 = 0 ∧ s'.can.busOffAt = none)
  ∧ (∀ (t tec : Nat) (s u : State), u = s.at t → s.live = true → (s.canOn = false → exec (.canBusOff t tec) s = .next u)
    ∧ (s.reg 0x1110 9 ≠ 3 → exec (.busoffDelayExpiry t) s = .next u) ∧ (s.reg 0x1110 9 ≠ 4 → exec (.canRecovered t) s = .next u))
  ∧ (∀ (t : Nat) (e : CanErrors) (s : State), s.live = true → s.canOn = true → e.tecCount ≤ 255 → e.recCount ≤ 255 →
    ∃ s', exec (.canErrorPassive t e) s = .next s' ∧ s'.reg 0x1110 10 = e.tecCount ∧ s'.reg 0x1110 11 = e.recCount
      ∧ s'.reg 0x1110 9 = (if 127 < e.tecCount ∨ 127 < e.recCount then 2 else 1))


/-- Frame number a is newer than b when the 32-bit difference a - b lies in 1 to 0x7FFFFFFF; 0 and 0x80000000 or more is not newer
(R262). -/
def Obligations.NewerFrameNumbersAreSerial : Prop :=
  (∀ a b : BitVec 32, newerFn a.toNat b.toNat = true ↔ 1 ≤ (a - b).toNat ∧ (a - b).toNat ≤ 0x7FFFFFFF)

/-! ### The Umbra checker, faults (17, 18) -/

/-- The checker. A pair is judged once both its nodes have ended and the glint checks of its frames are in, and not before; at the deadline every pair
is; with the last one judged the verdict is published once. A tick that ended without its verdict counts, drives SAFE_N low, is announced, and
its records leave the hold; a fault halts the checker with SAFE_N low; a core of a marked plan 100 ticks without a completed pass counts and is
announced. While the checker is off, or after the verdict, nothing is judged or published (R25, R429–R434, R438, R439). -/
def Obligations.CheckerJudgesPublishesAndHalts : Prop :=
  (∀ (t pair : Nat) (p : Part) (s u : State) (pl : Plan) (old : Bool) (sec : List Byte), u = s.at t → s.live = true →
    u.judging p.val = some (pl, old, sec) →
    (∀ a b, u.checkerOn = true → s.umbra.published = false → u.judgeTask p.val old (outPair sec pair).primary = some a → a.ended = true →
      u.judgeTask p.val old (outPair sec pair).copy = some b → b.ended = true → u.dependsOpen (outPair sec pair).depends = false →
      exec (.pairJudge t p pair) s = .next (u.judgePair p.val pair).judgeEnd)
    ∧ (∀ a, u.judgeTask p.val old (outPair sec pair).primary = some a → a.ended = false → exec (.pairJudge t p pair) s = .next u)
    ∧ (∀ b, u.judgeTask p.val old (outPair sec pair).copy = some b → b.ended = false → exec (.pairJudge t p pair) s = .next u)
    ∧ (u.checkerOn = false ∨ s.umbra.published = true ∨ u.dependsOpen (outPair sec pair).depends = true →
      exec (.pairJudge t p pair) s = .next u)
    ∧ (u.checkerOn = true → s.umbra.published = false → u.edgeAt + markDeadline sec ≤ max s.now t →
      exec (.verdictDeadline t p) s = .next ((List.range (markCounts sec).1).foldl (fun v i => v.judgePair p.val i) u).judgeEnd)
    ∧ (u.checkerOn = false ∨ s.umbra.published = true ∨ max s.now t < u.edgeAt + markDeadline sec →
      exec (.verdictDeadline t p) s = .next u))
  ∧ (∀ (t : Nat) (s u : State), u = s.at t → s.live = true →
    (u.checkerOn = true → s.umbra.ready = true → s.umbra.published = false → exec (.verdictPublish t) s = .next u.publishVerdict)
    ∧ (u.checkerOn = false ∨ s.umbra.ready = false ∨ s.umbra.published = true → exec (.verdictPublish t) s = .next u))
  ∧ (∀ (t k : Nat) (s : State), s.live = true → s.umbra.missing = some k →
    ∃ s', exec (.missingVerdict t) s = .next s' ∧ s'.umbra.missing = none ∧ s'.umbra.safeN = false ∧ s'.reg 0x7000 5 = 0
      ∧ s'.reg 0x7001 4 = satAdd 32 (s.reg 0x7001 4) 1 ∧ (∀ h ∈ s'.umbra.held, k < h.tick))
  ∧ (∀ (t : Nat) (s : State), s.live = true → s.umbra.missing = none → exec (.missingVerdict t) s = .next (s.at t))
  ∧ (∀ (t : Nat) (x : Fin 3) (s : State), s.live = true → s.umbra.halted = false →
    ∃ s', exec (.checkerFault t x) s = .next s' ∧ s'.umbra.halted = true ∧ s'.umbra.safeN = false ∧ s'.reg 0x7000 5 = 0)
  ∧ (∀ (t : Nat) (x : Fin 3) (s : State), s.live = true → s.umbra.halted = true → exec (.checkerFault t x) s = .next (s.at t))
  ∧ (∀ (t p : Nat) (c : CoreId) (s : State) (pl : Plan), s.live = true → s.corePart c.val = some p → (s.planSt p).cur = some pl → pl.marked = true →
    s.planState p ≠ 0 → s.reg (0x5000 + c.val) 1 ≤ 1 → max (s.core c.val).passAt (s.core c.val).lapseAt + 100 ≤ s.tickCount →
    ∃ s', exec (.selftestLapse t c) s = .next s' ∧ s'.umbra.selftest = true ∧ (s'.core c.val).lapseAt = s.tickCount
      ∧ s'.reg (0x7100 + c.val) 4 = satAdd 32 (s.reg (0x7100 + c.val) 4) 1)
  ∧ (∀ (t : Nat) (c : CoreId) (s : State), s.live = true →
    s.corePart c.val = none ∨ s.tickCount < max (s.core c.val).passAt (s.core c.val).lapseAt + 100 ∨ 1 < s.reg (0x5000 + c.val) 1 →
    exec (.selftestLapse t c) s = .next (s.at t))

/-- A read that fails its check waits for its retry; one of a poisoned block is not retried: it counts in OD 8000.04, reaches its reader and is
recorded. A retry that passes makes a transient of the oldest one that waits, one that fails a lasting error. A running SEC writes the oldest
retirement record that is due to the list in flash, where the OD 8010.03 count rises. With nothing that waits, nothing changes
(R444–R447, R453, R461). -/
def Obligations.DetectionErrorsAreRetriedAndCharged : Prop :=
  (∀ (t : Nat) (x : ErrSite) (r : ErrReader) (s u : State), u = s.at t → s.live = true →
    (u.sitePoisoned x = false → exec (.detectionCheckFail t x r) s
      = .next { u with faults := { s.faults with failing := s.faults.failing ++ [{ site := x, reader := r }] } })
    ∧ (u.sitePoisoned x = true → exec (.detectionCheckFail t x r) s
      = .next (((u.bump 64 0x8000 4 1).hitReader { site := x, reader := r } none).1.addRecord x (u.readerId r) 2 2)))
  ∧ (∀ (t : Nat) (s v : State) (f : Failing) (l : List Failing), s.live = true → s.faults.failing = f :: l →
    v = State.at { s with faults := { s.faults with failing := l } } t →
    exec (.detectionRetryResult t true) s = .next (v.transient f) ∧ exec (.detectionRetryResult t false) s = .next (v.lastingError f))
  ∧ (∀ (t : Nat) (b : Bool) (s : State), s.live = true → s.faults.failing = [] → exec (.detectionRetryResult t b) s = .next (s.at t))
  ∧ (∀ (t : Nat) (s : State) (b : List Byte) (l : List (List Byte)), s.live = true → s.faults.toList = b :: l → s.proc 0 = 1 →
    ∃ s', exec (.retirementListAppend t) s = .next s' ∧ s'.faults.toList = l
      ∧ s'.reg 0x8010 3 = s.reg 0x8010 3 + 1
      ∧ s'.fw.flash = (s.flashWrite (0x110000 + 8 * s.listRecords) b).fw.flash)
  ∧ (∀ (t : Nat) (s : State), s.live = true → s.faults.toList = [] ∨ s.proc 0 ≠ 1 → exec (.retirementListAppend t) s = .next (s.at t))

/-! ### Power and firmware (15, 19) -/

/-- AVSBus and the service window. A read-back with a good CRC is taken; within 10 mV of the request it puts the request in force and the next request
follows; any other answer, and none, is tried once more, then counts and holds requests for 100 ticks. With no request under way, or PMC not
running, nothing changes. PMC re-plans at the window that is asked for, or due by OD 8030.01; otherwise nothing changes. A rail out of
range leaves the die running with its outputs undefined (R458, R459, R466, R467, R469). -/
def Obligations.VoltageRequestsAreConfirmed : Prop :=
  (∀ (t v : Nat) (a : AvsReply) (s u : State), u = s.at t → s.live = true → s.avs.flight = some v → s.proc 1 = 1 →
    s.avs.status = false → max s.now t < s.avs.sentAt + 10000 →
    (a.crcOk = true → a.alert = false → a.readback ≤ v + 10 → v ≤ a.readback + 10 →
      exec (.avsResponse t a) s = .next ((u.setReg 0x2070 1 a.readback).setReg 0x8030 6 v).avsNext)
    ∧ (a.crcOk = true → a.alert = true → a.readback ≤ v + 10 → v ≤ a.readback + 10 →
      ∃ s', exec (.avsResponse t a) s = .next s' ∧ s'.reg 0x2070 1 = a.readback ∧ s'.reg 0x8030 6 = v ∧ s'.avs.flight = none
        ∧ s'.avs.status = true ∧ s'.avs.sentAt = max s.now t)
    ∧ (a.crcOk = false → exec (.avsResponse t a) s = .next u.avsFail)
    ∧ (a.crcOk = true → a.alert = false → v + 10 < a.readback ∨ a.readback + 10 < v →
        exec (.avsResponse t a) s = .next (u.setReg 0x2070 1 a.readback).avsFail)
    ∧ (a.crcOk = true → a.alert = true → v + 10 < a.readback ∨ a.readback + 10 < v →
        exec (.avsResponse t a) s = .next ((u.setReg 0x2070 1 a.readback).avsFail.avsStatus true))
    ∧ exec (.avsTimeout t) s = .next u)
  ∧ (∀ (t v : Nat) (a : AvsReply) (s u : State), u = s.at t → s.live = true → s.avs.flight = some v → s.proc 1 = 1 →
    s.avs.status = false → s.avs.sentAt + 10000 ≤ max s.now t →
    exec (.avsResponse t a) s = .next u.avsFail ∧ exec (.avsTimeout t) s = .next u.avsFail)
  ∧ (∀ (t : Nat) (a : AvsReply) (s u : State), u = s.at t → s.live = true → s.proc 1 = 1 → s.avs.status = true →
    (max s.now t < s.avs.sentAt + 10000 → exec (.avsTimeout t) s = .next u
      ∧ exec (.avsResponse t a) s = .next (u.avsStatus (a.crcOk && a.alert)))
    ∧ (s.avs.sentAt + 10000 ≤ max s.now t → exec (.avsTimeout t) s = .next (u.avsStatus false)
      ∧ exec (.avsResponse t a) s = .next (u.avsStatus false)))
  ∧ (∀ (t : Nat) (a : AvsReply) (s u : State), u = s.at t → s.live = true →
    (s.avs.flight = none ∧ s.avs.status = false) ∨ s.proc 1 ≠ 1 →
    exec (.avsResponse t a) s = .next u ∧ exec (.avsTimeout t) s = .next u)
  ∧ (∀ s : State, s.avs.second = false →
    s.avsFail = State.bump { s with avs := { s.avs with second := true, sentAt := s.now } } 64 0x2070 7 1)
  ∧ (∀ s : State, s.avs.second = true → s.avsFail.avs.hold = some s.tickCount
      ∧ s.avsFail.avs.flight = ((s.avs.queue.filter (fun v => v.2)).head?.map (fun v => v.1))
      ∧ s.avsFail.reg 0x2070 6 = satAdd 32 (s.reg 0x2070 6) 1)
  ∧ (∀ (t k : Nat) (s u : State), u = s.at t → s.live = true → s.avs.hold = some k →
    exec (.avsHoldExpiry t) s = .next (if k + 100 ≤ s.tickCount then { u with avs := { s.avs with hold := none } } else u))
  ∧ (∀ (t : Nat) (s : State), s.live = true → s.proc 1 = 1 → s.tick.lastEdge.isSome = true →
    ((∃ k, s.avs.asked = some k ∧ k < s.tickCount)
      ∨ (s.reg 0x8030 1 ≠ 0 ∧ 0 < s.tickCount ∧ s.tickCount % s.reg 0x8030 1 = 0 ∧ s.reg 0x8030 7 ≠ s.tickCount)) →
    ∃ s', exec (.serviceWindow t) s = .next s' ∧ s'.reg 0x8030 7 = s.tickCount ∧ s'.avs.asked = none ∧ s'.avs.proj = []
      ∧ (s.avs.goal = none → s'.avs.goal = some ((s.avs.proj.map s.needOf).foldl max 650) ∧ s'.avs.next = none)
      ∧ (∀ g, s.avs.goal = some g → s.avsTarget < g → (s.avs.proj.map s.needOf).foldl max 650 < g →
        s'.avs.goal = some g ∧ s'.avs.next = some ((s.avs.proj.map s.needOf).foldl max 650))
      ∧ (∀ g, s.avs.goal = some g → g ≤ s.avsTarget ∨ g ≤ (s.avs.proj.map s.needOf).foldl max 650 →
        s'.avs.goal = some ((s.avs.proj.map s.needOf).foldl max 650) ∧ s'.avs.next = none))
  ∧ (∀ (t : Nat) (s : State), s.live = true → s.proc 1 ≠ 1 ∨ s.tick.lastEdge = none ∨ (s.avs.asked = none ∧ s.reg 0x8030 1 = 0) →
    exec (.serviceWindow t) s = .next (s.at t))
  ∧ (∀ (t : Nat) (r : Rail) (s u : State), u = s.at t → s.live = true → exec (.railOutOfRange t r) s = .next { u with railBad := true })

/-- The start sequence and the processors. The ROM boots once; with SEC and PMC up and every channel trained the capacity found is shown,
memory reads zero and OD 2050.01 is LOADING; with a channel that failed, LOADING is not reached until hardware reset; SCH's first run of its
image makes it RUNNING. A watchdog that expires and a firmware fault restart a running processor with their cause, and one that does not run
takes no cause; the third restart within 60 s makes it FAILED; a restart that is done, its dump taken, serves the image again, SEC and PMC that
of the slot that booted; a due crash dump is captured, and signed by a SEC that serves (R385, R386, R390, R392, R393, R398, R489). -/
def Obligations.ProcessorsBootRestartAndFail : Prop :=
  (∀ (t : Nat) (s u : State), u = s.at t → s.live = true →
    exec (.romRelease t) s = .next (if s.reg 0x2050 1 = 0 then u.romBoot else u)
      ∧ exec (.schFirstRunsImage t) s = .next (if s.reg 0x2050 1 = 2 ∧ s.proc 2 = 1 then u.setReg 0x2050 1 3 else u))
  ∧ (∀ (t n : Nat) (s : State), s.live = true → s.reg 0x2050 1 = 1 → s.proc 1 = 1 → s.fw.noDdr = false →
    ∃ s', exec (.lpddr5TrainingDone t n true) s = .next s' ∧ s'.ddr = [] ∧ s'.fscratch = [] ∧ s'.reg 0x1002 7 = n ∧ s'.reg 0x2050 1 = 2)
  ∧ (∀ (t n : Nat) (s u : State), u = s.at t → s.live = true → s.reg 0x2050 1 = 1 → s.proc 1 = 1 → s.fw.noDdr = false →
    exec (.lpddr5TrainingDone t n false) s = .next { u with fw := { s.fw with noDdr := true } })
  ∧ (∀ (t n : Nat) (b : Bool) (s u : State), u = s.at t → s.live = true → s.reg 0x2050 1 ≠ 1 ∨ s.proc 1 ≠ 1 ∨ s.fw.noDdr = true →
    exec (.lpddr5TrainingDone t n b) s = .next u)
  ∧ (∀ (t w : Nat) (x : ProcId) (s : State), s.live = true → s.proc x.val = 1 → klook s.fw.watchdog x.val = some w →
    w + msCycles (wdtMs x.val) ≤ max s.now t →
    ∃ s', exec (.watchdogExpiry t x) s = .next s' ∧ s'.proc x.val = 2 ∧ s'.reg (0x2060 + x.val) 3 = 1
      ∧ s'.reg (0x2060 + x.val) 2 = satAdd 32 (s.reg (0x2060 + x.val) 2) 1 ∧ s'.ddr = s.ddr)
  ∧ (∀ (t w : Nat) (x : ProcId) (s : State), s.live = true → klook s.fw.watchdog x.val = some w → max s.now t < w + msCycles (wdtMs x.val) →
    exec (.watchdogExpiry t x) s = .next (s.at t))
  ∧ (∀ (t : Nat) (x : ProcId) (s : State), s.live = true → s.proc x.val = 1 →
    ∃ s', exec (.firmwareFault t x) s = .next s' ∧ s'.proc x.val = 2 ∧ s'.reg (0x2060 + x.val) 3 = 2
      ∧ s'.reg (0x2060 + x.val) 2 = satAdd 32 (s.reg (0x2060 + x.val) 2) 1 ∧ klook s'.fw.dumpDue x.val = some 2)
  ∧ (∀ (t : Nat) (x : ProcId) (s : State), s.live = true → s.proc x.val ≠ 1 →
    exec (.firmwareFault t x) s = .next (s.at t) ∧ exec (.watchdogExpiry t x) s = .next (s.at t))
  ∧ (∀ (t : Nat) (x : ProcId) (s u : State), u = s.at t → s.live = true →
    exec (.processorFailed t x) s = .next (if s.proc x.val = 2 ∧ 3 ≤ s.recentRestarts x.val then u.setReg (0x2060 + x.val) 1 3 else u))
  ∧ (∀ (t : Nat) (x : ProcId) (s : State), s.live = true → s.proc x.val = 2 → s.recentRestarts x.val < 3 →
    klook s.fw.dumpDue x.val = none → (x.val ≤ 1 → s.romSlot (s.reg 0x2050 5) = none) →
    (1 < x.val → s.proc 0 = 1 ∧ s.copyGood x.val = true) →
    ∃ s', exec (.processorRestartDone t x) s = .next s' ∧ s'.proc x.val = 1
      ∧ klook s'.fw.running x.val = some (if x.val ≤ 1 then s.slotImage (s.reg 0x2050 5) (if x.val = 0 then 0x10000 else 0x40000)
        else kget [] s.fw.images x.val))
  ∧ (∀ (t : Nat) (x : ProcId) (s : State), s.live = true →
    s.proc x.val ≠ 2 ∨ 3 ≤ s.recentRestarts x.val ∨ (klook s.fw.dumpDue x.val).isSome = true
      ∨ (x.val ≤ 1 ∧ (s.romSlot (s.reg 0x2050 5)).isSome = true) ∨ (1 < x.val ∧ (s.proc 0 ≠ 1 ∨ s.copyGood x.val = false)) →
    exec (.processorRestartDone t x) s = .next (s.at t))
  ∧ (∀ (t k i : Nat) (x : ProcId) (s u : State), u = s.at t → s.live = true → klook s.fw.dumpDue x.val = some k → i = u.dumpSlot →
    exec (.crashDumpCaptured t x) s = .next (if s.proc 0 = 1 then (u.captureDump x.val k).signDump i else u.captureDump x.val k)
      ∧ klook (u.captureDump x.val k).fw.dumpDue x.val = none ∧ (kget dump0 (u.captureDump x.val k).fw.dumps i).done = false)
end
end

