-- ==== Sys2Proof/Laws/KMap.lean ====
section
/-! SUPPORT. Laws of sparse maps: a read after a write, and the canonical form that every write keeps. -/

namespace Sys2Proof.Machine

variable {α : Type}

/-- A lookup under the key just put. -/
@[simp] theorem klook_kput_same (m : KMap α) (k : Nat) (v : α) : klook (kput m k v) k = some v := by
  induction m with
  | nil => simp [kput, klook]
  | cons e m ih =>
    unfold kput
    split
    · simp [klook]
    · split
      · simp [klook]
      · rename_i _ h
        simp [klook, h, ih]

/-- A lookup under another key does not see a put. -/
theorem klook_kput_other {m : KMap α} {k j : Nat} {v : α} (h : j ≠ k) : klook (kput m k v) j = klook m j := by
  induction m with
  | nil => simp [kput, klook, h]
  | cons e m ih =>
    unfold kput
    split
    · simp [klook, h]
    · split
      · rename_i _ hk
        subst hk
        simp [klook, h]
      · simp [klook, ih]

/-- The value under the key just put. -/
@[simp] theorem kget_kput_same (d : α) (m : KMap α) (k : Nat) (v : α) : kget d (kput m k v) k = v := by simp [kget]

/-- The value under another key stays. -/
theorem kget_kput_other {d : α} {m : KMap α} {k j : Nat} {v : α} (h : j ≠ k) : kget d (kput m k v) j = kget d m j := by
  simp [kget, klook_kput_other h]

/-- Nothing is found under a deleted key. -/
@[simp] theorem klook_kdel_same (m : KMap α) (k : Nat) : klook (kdel m k) k = none := by
  induction m with
  | nil => simp [kdel, klook]
  | cons e m ih =>
    by_cases h : e.1 = k
    · simpa [kdel, h] using ih
    · have h' : k ≠ e.1 := fun x => h x.symm
      simpa [kdel, klook, h, h'] using ih

/-- Other keys do not see a deletion. -/
theorem klook_kdel_other {m : KMap α} {k j : Nat} (h : j ≠ k) : klook (kdel m k) j = klook m j := by
  induction m with
  | nil => simp [kdel, klook]
  | cons e m ih =>
    by_cases hk : e.1 = k
    · have hj : j ≠ e.1 := by omega
      simpa [kdel, klook, hk, hj, h] using ih
    · by_cases hj : j = e.1
      · subst hj
        simp [kdel, klook, hk]
      · simpa [kdel, klook, hk, hj] using ih

/-- A read of the key just set. -/
@[simp] theorem kget_kset_same [DecidableEq α] (d : α) (m : KMap α) (k : Nat) (v : α) : kget d (kset d m k v) k = v := by
  unfold kset
  split
  · rename_i h
    simp [kget, h]
  · simp

/-- A read of another key stays. -/
theorem kget_kset_other [DecidableEq α] {d : α} {m : KMap α} {k j : Nat} {v : α} (h : j ≠ k) : kget d (kset d m k v) j = kget d m j := by
  unfold kset
  split
  · simp [kget, klook_kdel_other h]
  · simp [kget, klook_kput_other h]

/-- A read outside the keys that a list was stored under. -/
theorem kget_ksets_outside [DecidableEq α] (d : α) (vs : List α) : ∀ (m : KMap α) (k j : Nat), (j < k ∨ k + vs.length ≤ j) →
    kget d (ksets d m k vs) j = kget d m j := by
  induction vs with
  | nil => intro m k j _; rfl
  | cons v vs ih =>
    intro m k j h
    simp only [List.length_cons] at h
    rw [ksets, ih _ _ _ (by omega), kget_kset_other (by omega)]

/-- A read of the values just stored. -/
theorem kgets_ksets [DecidableEq α] (d : α) (vs : List α) : ∀ (m : KMap α) (k : Nat), kgets d (ksets d m k vs) k vs.length = vs := by
  induction vs with
  | nil => intro m k; rfl
  | cons v vs ih =>
    intro m k
    rw [List.length_cons, kgets, ksets, ih, kget_ksets_outside _ _ _ _ _ (by omega), kget_kset_same]

/-! ### The canonical form -/

/-- The keys of a map whose keys rise from above `lo` are above `lo`. -/
theorem ksorted_key_gt {m : KMap α} {lo : Nat} (h : ksorted (some lo) m = true) : ∀ e ∈ m, lo < e.1 := by
  induction m generalizing lo with
  | nil => simp
  | cons e m ih =>
    simp only [ksorted, Bool.and_eq_true, decide_eq_true_eq] at h
    intro x hx
    rcases List.mem_cons.mp hx with rfl | hx
    · exact h.1
    · exact Nat.lt_trans h.1 (ih h.2 x hx)

/-- A map whose keys rise from above a bound has rising keys. -/
theorem ksorted_none_of_some {m : KMap α} {lo : Nat} (h : ksorted (some lo) m = true) : ksorted none m = true := by
  cases m with
  | nil => rfl
  | cons e m => simp only [ksorted, Bool.and_eq_true] at h; exact h.2

/-- A lower bound below still bounds. -/
theorem ksorted_mono {m : KMap α} {lo lo' : Nat} (hl : lo' ≤ lo) (h : ksorted (some lo) m = true) : ksorted (some lo') m = true := by
  cases m with
  | nil => rfl
  | cons e m =>
    simp only [ksorted, Bool.and_eq_true, decide_eq_true_eq] at h ⊢
    exact ⟨by omega, h.2⟩

/-- A put above the bound keeps the keys rising from above it. -/
theorem ksorted_kput_some {m : KMap α} {k : Nat} {v : α} {lo : Nat} (h : ksorted (some lo) m = true) (hk : lo < k) :
    ksorted (some lo) (kput m k v) = true := by
  induction m generalizing lo with
  | nil => simp [kput, ksorted, hk]
  | cons e m ih =>
    simp only [ksorted, Bool.and_eq_true, decide_eq_true_eq] at h
    unfold kput
    split
    · simp_all [ksorted]
    · split
      · simp_all [ksorted]
      · simp only [ksorted, Bool.and_eq_true, decide_eq_true_eq]
        exact ⟨h.1, ih h.2 (by omega)⟩

/-- A put keeps the keys rising. -/
theorem ksorted_kput {m : KMap α} {k : Nat} {v : α} (h : ksorted none m = true) : ksorted none (kput m k v) = true := by
  cases m with
  | nil => simp [kput, ksorted]
  | cons e m =>
    simp only [ksorted] at h
    unfold kput
    split
    · simp_all [ksorted]
    · split
      · simp_all [ksorted]
      · simp only [ksorted]
        exact ksorted_kput_some h (by omega)

/-- Taking entries away keeps the keys rising from above a bound. -/
theorem ksorted_filter_some {m : KMap α} (f : Nat × α → Bool) {lo : Nat} (h : ksorted (some lo) m = true) :
    ksorted (some lo) (m.filter f) = true := by
  induction m generalizing lo with
  | nil => rfl
  | cons e m ih =>
    simp only [ksorted, Bool.and_eq_true, decide_eq_true_eq] at h
    rw [List.filter_cons]
    split
    · simp only [ksorted, Bool.and_eq_true, decide_eq_true_eq]
      exact ⟨h.1, ih h.2⟩
    · exact ksorted_mono (Nat.le_of_lt h.1) (ih h.2)

/-- Taking entries away keeps the keys rising. -/
theorem ksorted_filter {m : KMap α} (f : Nat × α → Bool) (h : ksorted none m = true) : ksorted none (m.filter f) = true := by
  cases m with
  | nil => rfl
  | cons e m =>
    simp only [ksorted] at h
    rw [List.filter_cons]
    split
    · simp only [ksorted]
      exact ksorted_filter_some f h
    · exact ksorted_none_of_some (ksorted_filter_some f h)

/-- The entries after a put: the new one and old ones. -/
theorem mem_kput {m : KMap α} {k : Nat} {v : α} {e : Nat × α} (h : e ∈ kput m k v) : e = (k, v) ∨ e ∈ m := by
  induction m with
  | nil => simpa [kput] using h
  | cons a m ih =>
    unfold kput at h
    split at h
    · simpa using h
    · split at h
      · rcases List.mem_cons.mp h with h | h
        · exact .inl h
        · exact .inr (List.mem_cons_of_mem _ h)
      · rcases List.mem_cons.mp h with h | h
        · exact .inr (h ▸ List.mem_cons_self ..)
        · rcases ih h with h | h
          · exact .inl h
          · exact .inr (List.mem_cons_of_mem _ h)

/-- A write of one value keeps the canonical form. -/
theorem kwf_kset [DecidableEq α] {d : α} {m : KMap α} {k : Nat} {v : α} (h : kwf d m = true) : kwf d (kset d m k v) = true := by
  simp only [kwf, Bool.and_eq_true, List.all_eq_true, decide_eq_true_eq] at h ⊢
  unfold kset
  split
  · exact ⟨ksorted_filter _ h.1, fun e he => h.2 e (List.mem_filter.mp he).1⟩
  · rename_i hv
    refine ⟨ksorted_kput h.1, fun e he => ?_⟩
    rcases mem_kput he with rfl | he
    · exact hv
    · exact h.2 e he

/-- A write of several values keeps the canonical form. -/
theorem kwf_ksets [DecidableEq α] {d : α} (vs : List α) : ∀ {m : KMap α} {k : Nat}, kwf d m = true → kwf d (ksets d m k vs) = true := by
  induction vs with
  | nil => intro m k h; exact h
  | cons v vs ih => intro m k h; exact ih (kwf_kset h)

/-- The empty map is in canonical form. -/
@[simp] theorem kwf_nil [DecidableEq α] (d : α) : kwf d ([] : KMap α) = true := rfl

end Sys2Proof.Machine
end

