-- ==== Sys2Proof/Laws/State.lean ====
section
/-! SUPPORT. What each update of the state leaves alone: one lemma for each field and update, true by `rfl`; and a register or a
table entry read back after it is written. -/

namespace Sys2Proof.Machine

variable (s : State)

/-! ### `at` -/

@[simp] theorem State.at_resetN (t : Nat) : (s.at t).resetN = s.resetN := rfl
@[simp] theorem State.at_stopped (t : Nat) : (s.at t).stopped = s.stopped := rfl
@[simp] theorem State.at_tick (t : Nat) : (s.at t).tick = s.tick := rfl
@[simp] theorem State.at_dict (t : Nat) : (s.at t).dict = s.dict := rfl
@[simp] theorem State.at_plans (t : Nat) : (s.at t).plans = s.plans := rfl
@[simp] theorem State.at_fns (t : Nat) : (s.at t).fns = s.fns := rfl
@[simp] theorem State.at_link (t : Nat) : (s.at t).link = s.link := rfl
@[simp] theorem State.at_seen (t : Nat) : (s.at t).seen = s.seen := rfl
@[simp] theorem State.at_can (t : Nat) : (s.at t).can = s.can := rfl
@[simp] theorem State.at_fw (t : Nat) : (s.at t).fw = s.fw := rfl
@[simp] theorem State.at_elog (t : Nat) : (s.at t).elog = s.elog := rfl
@[simp] theorem State.at_pads (t : Nat) : (s.at t).pads = s.pads := rfl
@[simp] theorem State.at_cores (t : Nat) : (s.at t).cores = s.cores := rfl
@[simp] theorem State.at_tasks (t : Nat) : (s.at t).tasks = s.tasks := rfl
@[simp] theorem State.at_nextId (t : Nat) : (s.at t).nextId = s.nextId := rfl
@[simp] theorem State.at_idleAt (t : Nat) : (s.at t).idleAt = s.idleAt := rfl
@[simp] theorem State.at_quotaWait (t : Nat) : (s.at t).quotaWait = s.quotaWait := rfl
@[simp] theorem State.at_winDone (t : Nat) : (s.at t).winDone = s.winDone := rfl
@[simp] theorem State.at_queues (t : Nat) : (s.at t).queues = s.queues := rfl
@[simp] theorem State.at_chans (t : Nat) : (s.at t).chans = s.chans := rfl
@[simp] theorem State.at_dmas (t : Nat) : (s.at t).dmas = s.dmas := rfl
@[simp] theorem State.at_ports (t : Nat) : (s.at t).ports = s.ports := rfl
@[simp] theorem State.at_streams (t : Nat) : (s.at t).streams = s.streams := rfl
@[simp] theorem State.at_i3cs (t : Nat) : (s.at t).i3cs = s.i3cs := rfl
@[simp] theorem State.at_engines (t : Nat) : (s.at t).engines = s.engines := rfl
@[simp] theorem State.at_ctxCache (t : Nat) : (s.at t).ctxCache = s.ctxCache := rfl
@[simp] theorem State.at_ctxFreed (t : Nat) : (s.at t).ctxFreed = s.ctxFreed := rfl
@[simp] theorem State.at_ctxUndef (t : Nat) : (s.at t).ctxUndef = s.ctxUndef := rfl
@[simp] theorem State.at_netReply (t : Nat) : (s.at t).netReply = s.netReply := rfl
@[simp] theorem State.at_umbra (t : Nat) : (s.at t).umbra = s.umbra := rfl
@[simp] theorem State.at_faults (t : Nat) : (s.at t).faults = s.faults := rfl
@[simp] theorem State.at_scrubs (t : Nat) : (s.at t).scrubs = s.scrubs := rfl
@[simp] theorem State.at_sec (t : Nat) : (s.at t).sec = s.sec := rfl
@[simp] theorem State.at_avs (t : Nat) : (s.at t).avs = s.avs := rfl
@[simp] theorem State.at_jtag (t : Nat) : (s.at t).jtag = s.jtag := rfl
@[simp] theorem State.at_env (t : Nat) : (s.at t).env = s.env := rfl
@[simp] theorem State.at_railBad (t : Nat) : (s.at t).railBad = s.railBad := rfl
@[simp] theorem State.at_frames (t : Nat) : (s.at t).frames = s.frames := rfl
@[simp] theorem State.at_frames2 (t : Nat) : (s.at t).frames2 = s.frames2 := rfl
@[simp] theorem State.at_ddr (t : Nat) : (s.at t).ddr = s.ddr := rfl
@[simp] theorem State.at_fscratch (t : Nat) : (s.at t).fscratch = s.fscratch := rfl
@[simp] theorem State.at_scrPrev (t : Nat) : (s.at t).scrPrev = s.scrPrev := rfl
@[simp] theorem State.at_hostMem (t : Nat) : (s.at t).hostMem = s.hostMem := rfl
@[simp] theorem State.at_free (t : Nat) : (s.at t).free = s.free := rfl
@[simp] theorem State.at_pending (t : Nat) : (s.at t).pending = s.pending := rfl

/-! ### `setRegF` -/

@[simp] theorem State.setRegF_now (fn idx sub v : Nat) : (s.setRegF fn idx sub v).now = s.now := rfl
@[simp] theorem State.setRegF_resetN (fn idx sub v : Nat) : (s.setRegF fn idx sub v).resetN = s.resetN := rfl
@[simp] theorem State.setRegF_stopped (fn idx sub v : Nat) : (s.setRegF fn idx sub v).stopped = s.stopped := rfl
@[simp] theorem State.setRegF_tick (fn idx sub v : Nat) : (s.setRegF fn idx sub v).tick = s.tick := rfl
@[simp] theorem State.setRegF_plans (fn idx sub v : Nat) : (s.setRegF fn idx sub v).plans = s.plans := rfl
@[simp] theorem State.setRegF_fns (fn idx sub v : Nat) : (s.setRegF fn idx sub v).fns = s.fns := rfl
@[simp] theorem State.setRegF_link (fn idx sub v : Nat) : (s.setRegF fn idx sub v).link = s.link := rfl
@[simp] theorem State.setRegF_seen (fn idx sub v : Nat) : (s.setRegF fn idx sub v).seen = s.seen := rfl
@[simp] theorem State.setRegF_can (fn idx sub v : Nat) : (s.setRegF fn idx sub v).can = s.can := rfl
@[simp] theorem State.setRegF_fw (fn idx sub v : Nat) : (s.setRegF fn idx sub v).fw = s.fw := rfl
@[simp] theorem State.setRegF_elog (fn idx sub v : Nat) : (s.setRegF fn idx sub v).elog = s.elog := rfl
@[simp] theorem State.setRegF_pads (fn idx sub v : Nat) : (s.setRegF fn idx sub v).pads = s.pads := rfl
@[simp] theorem State.setRegF_cores (fn idx sub v : Nat) : (s.setRegF fn idx sub v).cores = s.cores := rfl
@[simp] theorem State.setRegF_tasks (fn idx sub v : Nat) : (s.setRegF fn idx sub v).tasks = s.tasks := rfl
@[simp] theorem State.setRegF_nextId (fn idx sub v : Nat) : (s.setRegF fn idx sub v).nextId = s.nextId := rfl
@[simp] theorem State.setRegF_idleAt (fn idx sub v : Nat) : (s.setRegF fn idx sub v).idleAt = s.idleAt := rfl
@[simp] theorem State.setRegF_quotaWait (fn idx sub v : Nat) : (s.setRegF fn idx sub v).quotaWait = s.quotaWait := rfl
@[simp] theorem State.setRegF_winDone (fn idx sub v : Nat) : (s.setRegF fn idx sub v).winDone = s.winDone := rfl
@[simp] theorem State.setRegF_queues (fn idx sub v : Nat) : (s.setRegF fn idx sub v).queues = s.queues := rfl
@[simp] theorem State.setRegF_chans (fn idx sub v : Nat) : (s.setRegF fn idx sub v).chans = s.chans := rfl
@[simp] theorem State.setRegF_dmas (fn idx sub v : Nat) : (s.setRegF fn idx sub v).dmas = s.dmas := rfl
@[simp] theorem State.setRegF_ports (fn idx sub v : Nat) : (s.setRegF fn idx sub v).ports = s.ports := rfl
@[simp] theorem State.setRegF_streams (fn idx sub v : Nat) : (s.setRegF fn idx sub v).streams = s.streams := rfl
@[simp] theorem State.setRegF_i3cs (fn idx sub v : Nat) : (s.setRegF fn idx sub v).i3cs = s.i3cs := rfl
@[simp] theorem State.setRegF_engines (fn idx sub v : Nat) : (s.setRegF fn idx sub v).engines = s.engines := rfl
@[simp] theorem State.setRegF_ctxCache (fn idx sub v : Nat) : (s.setRegF fn idx sub v).ctxCache = s.ctxCache := rfl
@[simp] theorem State.setRegF_ctxFreed (fn idx sub v : Nat) : (s.setRegF fn idx sub v).ctxFreed = s.ctxFreed := rfl
@[simp] theorem State.setRegF_ctxUndef (fn idx sub v : Nat) : (s.setRegF fn idx sub v).ctxUndef = s.ctxUndef := rfl
@[simp] theorem State.setRegF_netReply (fn idx sub v : Nat) : (s.setRegF fn idx sub v).netReply = s.netReply := rfl
@[simp] theorem State.setRegF_umbra (fn idx sub v : Nat) : (s.setRegF fn idx sub v).umbra = s.umbra := rfl
@[simp] theorem State.setRegF_faults (fn idx sub v : Nat) : (s.setRegF fn idx sub v).faults = s.faults := rfl
@[simp] theorem State.setRegF_scrubs (fn idx sub v : Nat) : (s.setRegF fn idx sub v).scrubs = s.scrubs := rfl
@[simp] theorem State.setRegF_sec (fn idx sub v : Nat) : (s.setRegF fn idx sub v).sec = s.sec := rfl
@[simp] theorem State.setRegF_avs (fn idx sub v : Nat) : (s.setRegF fn idx sub v).avs = s.avs := rfl
@[simp] theorem State.setRegF_jtag (fn idx sub v : Nat) : (s.setRegF fn idx sub v).jtag = s.jtag := rfl
@[simp] theorem State.setRegF_env (fn idx sub v : Nat) : (s.setRegF fn idx sub v).env = s.env := rfl
@[simp] theorem State.setRegF_railBad (fn idx sub v : Nat) : (s.setRegF fn idx sub v).railBad = s.railBad := rfl
@[simp] theorem State.setRegF_frames (fn idx sub v : Nat) : (s.setRegF fn idx sub v).frames = s.frames := rfl
@[simp] theorem State.setRegF_frames2 (fn idx sub v : Nat) : (s.setRegF fn idx sub v).frames2 = s.frames2 := rfl
@[simp] theorem State.setRegF_ddr (fn idx sub v : Nat) : (s.setRegF fn idx sub v).ddr = s.ddr := rfl
@[simp] theorem State.setRegF_fscratch (fn idx sub v : Nat) : (s.setRegF fn idx sub v).fscratch = s.fscratch := rfl
@[simp] theorem State.setRegF_scrPrev (fn idx sub v : Nat) : (s.setRegF fn idx sub v).scrPrev = s.scrPrev := rfl
@[simp] theorem State.setRegF_hostMem (fn idx sub v : Nat) : (s.setRegF fn idx sub v).hostMem = s.hostMem := rfl
@[simp] theorem State.setRegF_free (fn idx sub v : Nat) : (s.setRegF fn idx sub v).free = s.free := rfl
@[simp] theorem State.setRegF_pending (fn idx sub v : Nat) : (s.setRegF fn idx sub v).pending = s.pending := rfl

/-! ### `setReg` -/

@[simp] theorem State.setReg_now (idx sub v : Nat) : (s.setReg idx sub v).now = s.now := rfl
@[simp] theorem State.setReg_resetN (idx sub v : Nat) : (s.setReg idx sub v).resetN = s.resetN := rfl
@[simp] theorem State.setReg_stopped (idx sub v : Nat) : (s.setReg idx sub v).stopped = s.stopped := rfl
@[simp] theorem State.setReg_tick (idx sub v : Nat) : (s.setReg idx sub v).tick = s.tick := rfl
@[simp] theorem State.setReg_plans (idx sub v : Nat) : (s.setReg idx sub v).plans = s.plans := rfl
@[simp] theorem State.setReg_fns (idx sub v : Nat) : (s.setReg idx sub v).fns = s.fns := rfl
@[simp] theorem State.setReg_link (idx sub v : Nat) : (s.setReg idx sub v).link = s.link := rfl
@[simp] theorem State.setReg_seen (idx sub v : Nat) : (s.setReg idx sub v).seen = s.seen := rfl
@[simp] theorem State.setReg_can (idx sub v : Nat) : (s.setReg idx sub v).can = s.can := rfl
@[simp] theorem State.setReg_fw (idx sub v : Nat) : (s.setReg idx sub v).fw = s.fw := rfl
@[simp] theorem State.setReg_elog (idx sub v : Nat) : (s.setReg idx sub v).elog = s.elog := rfl
@[simp] theorem State.setReg_pads (idx sub v : Nat) : (s.setReg idx sub v).pads = s.pads := rfl
@[simp] theorem State.setReg_cores (idx sub v : Nat) : (s.setReg idx sub v).cores = s.cores := rfl
@[simp] theorem State.setReg_tasks (idx sub v : Nat) : (s.setReg idx sub v).tasks = s.tasks := rfl
@[simp] theorem State.setReg_nextId (idx sub v : Nat) : (s.setReg idx sub v).nextId = s.nextId := rfl
@[simp] theorem State.setReg_idleAt (idx sub v : Nat) : (s.setReg idx sub v).idleAt = s.idleAt := rfl
@[simp] theorem State.setReg_quotaWait (idx sub v : Nat) : (s.setReg idx sub v).quotaWait = s.quotaWait := rfl
@[simp] theorem State.setReg_winDone (idx sub v : Nat) : (s.setReg idx sub v).winDone = s.winDone := rfl
@[simp] theorem State.setReg_queues (idx sub v : Nat) : (s.setReg idx sub v).queues = s.queues := rfl
@[simp] theorem State.setReg_chans (idx sub v : Nat) : (s.setReg idx sub v).chans = s.chans := rfl
@[simp] theorem State.setReg_dmas (idx sub v : Nat) : (s.setReg idx sub v).dmas = s.dmas := rfl
@[simp] theorem State.setReg_ports (idx sub v : Nat) : (s.setReg idx sub v).ports = s.ports := rfl
@[simp] theorem State.setReg_streams (idx sub v : Nat) : (s.setReg idx sub v).streams = s.streams := rfl
@[simp] theorem State.setReg_i3cs (idx sub v : Nat) : (s.setReg idx sub v).i3cs = s.i3cs := rfl
@[simp] theorem State.setReg_engines (idx sub v : Nat) : (s.setReg idx sub v).engines = s.engines := rfl
@[simp] theorem State.setReg_ctxCache (idx sub v : Nat) : (s.setReg idx sub v).ctxCache = s.ctxCache := rfl
@[simp] theorem State.setReg_ctxFreed (idx sub v : Nat) : (s.setReg idx sub v).ctxFreed = s.ctxFreed := rfl
@[simp] theorem State.setReg_ctxUndef (idx sub v : Nat) : (s.setReg idx sub v).ctxUndef = s.ctxUndef := rfl
@[simp] theorem State.setReg_netReply (idx sub v : Nat) : (s.setReg idx sub v).netReply = s.netReply := rfl
@[simp] theorem State.setReg_umbra (idx sub v : Nat) : (s.setReg idx sub v).umbra = s.umbra := rfl
@[simp] theorem State.setReg_faults (idx sub v : Nat) : (s.setReg idx sub v).faults = s.faults := rfl
@[simp] theorem State.setReg_scrubs (idx sub v : Nat) : (s.setReg idx sub v).scrubs = s.scrubs := rfl
@[simp] theorem State.setReg_sec (idx sub v : Nat) : (s.setReg idx sub v).sec = s.sec := rfl
@[simp] theorem State.setReg_avs (idx sub v : Nat) : (s.setReg idx sub v).avs = s.avs := rfl
@[simp] theorem State.setReg_jtag (idx sub v : Nat) : (s.setReg idx sub v).jtag = s.jtag := rfl
@[simp] theorem State.setReg_env (idx sub v : Nat) : (s.setReg idx sub v).env = s.env := rfl
@[simp] theorem State.setReg_railBad (idx sub v : Nat) : (s.setReg idx sub v).railBad = s.railBad := rfl
@[simp] theorem State.setReg_frames (idx sub v : Nat) : (s.setReg idx sub v).frames = s.frames := rfl
@[simp] theorem State.setReg_frames2 (idx sub v : Nat) : (s.setReg idx sub v).frames2 = s.frames2 := rfl
@[simp] theorem State.setReg_ddr (idx sub v : Nat) : (s.setReg idx sub v).ddr = s.ddr := rfl
@[simp] theorem State.setReg_fscratch (idx sub v : Nat) : (s.setReg idx sub v).fscratch = s.fscratch := rfl
@[simp] theorem State.setReg_scrPrev (idx sub v : Nat) : (s.setReg idx sub v).scrPrev = s.scrPrev := rfl
@[simp] theorem State.setReg_hostMem (idx sub v : Nat) : (s.setReg idx sub v).hostMem = s.hostMem := rfl
@[simp] theorem State.setReg_free (idx sub v : Nat) : (s.setReg idx sub v).free = s.free := rfl
@[simp] theorem State.setReg_pending (idx sub v : Nat) : (s.setReg idx sub v).pending = s.pending := rfl

/-! ### `setBlobF` -/

@[simp] theorem State.setBlobF_now (fn idx sub : Nat) (b : List Byte) : (s.setBlobF fn idx sub b).now = s.now := rfl
@[simp] theorem State.setBlobF_resetN (fn idx sub : Nat) (b : List Byte) : (s.setBlobF fn idx sub b).resetN = s.resetN := rfl
@[simp] theorem State.setBlobF_stopped (fn idx sub : Nat) (b : List Byte) : (s.setBlobF fn idx sub b).stopped = s.stopped := rfl
@[simp] theorem State.setBlobF_tick (fn idx sub : Nat) (b : List Byte) : (s.setBlobF fn idx sub b).tick = s.tick := rfl
@[simp] theorem State.setBlobF_plans (fn idx sub : Nat) (b : List Byte) : (s.setBlobF fn idx sub b).plans = s.plans := rfl
@[simp] theorem State.setBlobF_fns (fn idx sub : Nat) (b : List Byte) : (s.setBlobF fn idx sub b).fns = s.fns := rfl
@[simp] theorem State.setBlobF_link (fn idx sub : Nat) (b : List Byte) : (s.setBlobF fn idx sub b).link = s.link := rfl
@[simp] theorem State.setBlobF_seen (fn idx sub : Nat) (b : List Byte) : (s.setBlobF fn idx sub b).seen = s.seen := rfl
@[simp] theorem State.setBlobF_can (fn idx sub : Nat) (b : List Byte) : (s.setBlobF fn idx sub b).can = s.can := rfl
@[simp] theorem State.setBlobF_fw (fn idx sub : Nat) (b : List Byte) : (s.setBlobF fn idx sub b).fw = s.fw := rfl
@[simp] theorem State.setBlobF_elog (fn idx sub : Nat) (b : List Byte) : (s.setBlobF fn idx sub b).elog = s.elog := rfl
@[simp] theorem State.setBlobF_pads (fn idx sub : Nat) (b : List Byte) : (s.setBlobF fn idx sub b).pads = s.pads := rfl
@[simp] theorem State.setBlobF_cores (fn idx sub : Nat) (b : List Byte) : (s.setBlobF fn idx sub b).cores = s.cores := rfl
@[simp] theorem State.setBlobF_tasks (fn idx sub : Nat) (b : List Byte) : (s.setBlobF fn idx sub b).tasks = s.tasks := rfl
@[simp] theorem State.setBlobF_nextId (fn idx sub : Nat) (b : List Byte) : (s.setBlobF fn idx sub b).nextId = s.nextId := rfl
@[simp] theorem State.setBlobF_idleAt (fn idx sub : Nat) (b : List Byte) : (s.setBlobF fn idx sub b).idleAt = s.idleAt := rfl
@[simp] theorem State.setBlobF_quotaWait (fn idx sub : Nat) (b : List Byte) : (s.setBlobF fn idx sub b).quotaWait = s.quotaWait := rfl
@[simp] theorem State.setBlobF_winDone (fn idx sub : Nat) (b : List Byte) : (s.setBlobF fn idx sub b).winDone = s.winDone := rfl
@[simp] theorem State.setBlobF_queues (fn idx sub : Nat) (b : List Byte) : (s.setBlobF fn idx sub b).queues = s.queues := rfl
@[simp] theorem State.setBlobF_chans (fn idx sub : Nat) (b : List Byte) : (s.setBlobF fn idx sub b).chans = s.chans := rfl
@[simp] theorem State.setBlobF_dmas (fn idx sub : Nat) (b : List Byte) : (s.setBlobF fn idx sub b).dmas = s.dmas := rfl
@[simp] theorem State.setBlobF_ports (fn idx sub : Nat) (b : List Byte) : (s.setBlobF fn idx sub b).ports = s.ports := rfl
@[simp] theorem State.setBlobF_streams (fn idx sub : Nat) (b : List Byte) : (s.setBlobF fn idx sub b).streams = s.streams := rfl
@[simp] theorem State.setBlobF_i3cs (fn idx sub : Nat) (b : List Byte) : (s.setBlobF fn idx sub b).i3cs = s.i3cs := rfl
@[simp] theorem State.setBlobF_engines (fn idx sub : Nat) (b : List Byte) : (s.setBlobF fn idx sub b).engines = s.engines := rfl
@[simp] theorem State.setBlobF_ctxCache (fn idx sub : Nat) (b : List Byte) : (s.setBlobF fn idx sub b).ctxCache = s.ctxCache := rfl
@[simp] theorem State.setBlobF_ctxFreed (fn idx sub : Nat) (b : List Byte) : (s.setBlobF fn idx sub b).ctxFreed = s.ctxFreed := rfl
@[simp] theorem State.setBlobF_ctxUndef (fn idx sub : Nat) (b : List Byte) : (s.setBlobF fn idx sub b).ctxUndef = s.ctxUndef := rfl
@[simp] theorem State.setBlobF_netReply (fn idx sub : Nat) (b : List Byte) : (s.setBlobF fn idx sub b).netReply = s.netReply := rfl
@[simp] theorem State.setBlobF_umbra (fn idx sub : Nat) (b : List Byte) : (s.setBlobF fn idx sub b).umbra = s.umbra := rfl
@[simp] theorem State.setBlobF_faults (fn idx sub : Nat) (b : List Byte) : (s.setBlobF fn idx sub b).faults = s.faults := rfl
@[simp] theorem State.setBlobF_scrubs (fn idx sub : Nat) (b : List Byte) : (s.setBlobF fn idx sub b).scrubs = s.scrubs := rfl
@[simp] theorem State.setBlobF_sec (fn idx sub : Nat) (b : List Byte) : (s.setBlobF fn idx sub b).sec = s.sec := rfl
@[simp] theorem State.setBlobF_avs (fn idx sub : Nat) (b : List Byte) : (s.setBlobF fn idx sub b).avs = s.avs := rfl
@[simp] theorem State.setBlobF_jtag (fn idx sub : Nat) (b : List Byte) : (s.setBlobF fn idx sub b).jtag = s.jtag := rfl
@[simp] theorem State.setBlobF_env (fn idx sub : Nat) (b : List Byte) : (s.setBlobF fn idx sub b).env = s.env := rfl
@[simp] theorem State.setBlobF_railBad (fn idx sub : Nat) (b : List Byte) : (s.setBlobF fn idx sub b).railBad = s.railBad := rfl
@[simp] theorem State.setBlobF_frames (fn idx sub : Nat) (b : List Byte) : (s.setBlobF fn idx sub b).frames = s.frames := rfl
@[simp] theorem State.setBlobF_frames2 (fn idx sub : Nat) (b : List Byte) : (s.setBlobF fn idx sub b).frames2 = s.frames2 := rfl
@[simp] theorem State.setBlobF_ddr (fn idx sub : Nat) (b : List Byte) : (s.setBlobF fn idx sub b).ddr = s.ddr := rfl
@[simp] theorem State.setBlobF_fscratch (fn idx sub : Nat) (b : List Byte) : (s.setBlobF fn idx sub b).fscratch = s.fscratch := rfl
@[simp] theorem State.setBlobF_scrPrev (fn idx sub : Nat) (b : List Byte) : (s.setBlobF fn idx sub b).scrPrev = s.scrPrev := rfl
@[simp] theorem State.setBlobF_hostMem (fn idx sub : Nat) (b : List Byte) : (s.setBlobF fn idx sub b).hostMem = s.hostMem := rfl
@[simp] theorem State.setBlobF_free (fn idx sub : Nat) (b : List Byte) : (s.setBlobF fn idx sub b).free = s.free := rfl
@[simp] theorem State.setBlobF_pending (fn idx sub : Nat) (b : List Byte) : (s.setBlobF fn idx sub b).pending = s.pending := rfl

/-! ### `setBlob` -/

@[simp] theorem State.setBlob_now (idx sub : Nat) (b : List Byte) : (s.setBlob idx sub b).now = s.now := rfl
@[simp] theorem State.setBlob_resetN (idx sub : Nat) (b : List Byte) : (s.setBlob idx sub b).resetN = s.resetN := rfl
@[simp] theorem State.setBlob_stopped (idx sub : Nat) (b : List Byte) : (s.setBlob idx sub b).stopped = s.stopped := rfl
@[simp] theorem State.setBlob_tick (idx sub : Nat) (b : List Byte) : (s.setBlob idx sub b).tick = s.tick := rfl
@[simp] theorem State.setBlob_plans (idx sub : Nat) (b : List Byte) : (s.setBlob idx sub b).plans = s.plans := rfl
@[simp] theorem State.setBlob_fns (idx sub : Nat) (b : List Byte) : (s.setBlob idx sub b).fns = s.fns := rfl
@[simp] theorem State.setBlob_link (idx sub : Nat) (b : List Byte) : (s.setBlob idx sub b).link = s.link := rfl
@[simp] theorem State.setBlob_seen (idx sub : Nat) (b : List Byte) : (s.setBlob idx sub b).seen = s.seen := rfl
@[simp] theorem State.setBlob_can (idx sub : Nat) (b : List Byte) : (s.setBlob idx sub b).can = s.can := rfl
@[simp] theorem State.setBlob_fw (idx sub : Nat) (b : List Byte) : (s.setBlob idx sub b).fw = s.fw := rfl
@[simp] theorem State.setBlob_elog (idx sub : Nat) (b : List Byte) : (s.setBlob idx sub b).elog = s.elog := rfl
@[simp] theorem State.setBlob_pads (idx sub : Nat) (b : List Byte) : (s.setBlob idx sub b).pads = s.pads := rfl
@[simp] theorem State.setBlob_cores (idx sub : Nat) (b : List Byte) : (s.setBlob idx sub b).cores = s.cores := rfl
@[simp] theorem State.setBlob_tasks (idx sub : Nat) (b : List Byte) : (s.setBlob idx sub b).tasks = s.tasks := rfl
@[simp] theorem State.setBlob_nextId (idx sub : Nat) (b : List Byte) : (s.setBlob idx sub b).nextId = s.nextId := rfl
@[simp] theorem State.setBlob_idleAt (idx sub : Nat) (b : List Byte) : (s.setBlob idx sub b).idleAt = s.idleAt := rfl
@[simp] theorem State.setBlob_quotaWait (idx sub : Nat) (b : List Byte) : (s.setBlob idx sub b).quotaWait = s.quotaWait := rfl
@[simp] theorem State.setBlob_winDone (idx sub : Nat) (b : List Byte) : (s.setBlob idx sub b).winDone = s.winDone := rfl
@[simp] theorem State.setBlob_queues (idx sub : Nat) (b : List Byte) : (s.setBlob idx sub b).queues = s.queues := rfl
@[simp] theorem State.setBlob_chans (idx sub : Nat) (b : List Byte) : (s.setBlob idx sub b).chans = s.chans := rfl
@[simp] theorem State.setBlob_dmas (idx sub : Nat) (b : List Byte) : (s.setBlob idx sub b).dmas = s.dmas := rfl
@[simp] theorem State.setBlob_ports (idx sub : Nat) (b : List Byte) : (s.setBlob idx sub b).ports = s.ports := rfl
@[simp] theorem State.setBlob_streams (idx sub : Nat) (b : List Byte) : (s.setBlob idx sub b).streams = s.streams := rfl
@[simp] theorem State.setBlob_i3cs (idx sub : Nat) (b : List Byte) : (s.setBlob idx sub b).i3cs = s.i3cs := rfl
@[simp] theorem State.setBlob_engines (idx sub : Nat) (b : List Byte) : (s.setBlob idx sub b).engines = s.engines := rfl
@[simp] theorem State.setBlob_ctxCache (idx sub : Nat) (b : List Byte) : (s.setBlob idx sub b).ctxCache = s.ctxCache := rfl
@[simp] theorem State.setBlob_ctxFreed (idx sub : Nat) (b : List Byte) : (s.setBlob idx sub b).ctxFreed = s.ctxFreed := rfl
@[simp] theorem State.setBlob_ctxUndef (idx sub : Nat) (b : List Byte) : (s.setBlob idx sub b).ctxUndef = s.ctxUndef := rfl
@[simp] theorem State.setBlob_netReply (idx sub : Nat) (b : List Byte) : (s.setBlob idx sub b).netReply = s.netReply := rfl
@[simp] theorem State.setBlob_umbra (idx sub : Nat) (b : List Byte) : (s.setBlob idx sub b).umbra = s.umbra := rfl
@[simp] theorem State.setBlob_faults (idx sub : Nat) (b : List Byte) : (s.setBlob idx sub b).faults = s.faults := rfl
@[simp] theorem State.setBlob_scrubs (idx sub : Nat) (b : List Byte) : (s.setBlob idx sub b).scrubs = s.scrubs := rfl
@[simp] theorem State.setBlob_sec (idx sub : Nat) (b : List Byte) : (s.setBlob idx sub b).sec = s.sec := rfl
@[simp] theorem State.setBlob_avs (idx sub : Nat) (b : List Byte) : (s.setBlob idx sub b).avs = s.avs := rfl
@[simp] theorem State.setBlob_jtag (idx sub : Nat) (b : List Byte) : (s.setBlob idx sub b).jtag = s.jtag := rfl
@[simp] theorem State.setBlob_env (idx sub : Nat) (b : List Byte) : (s.setBlob idx sub b).env = s.env := rfl
@[simp] theorem State.setBlob_railBad (idx sub : Nat) (b : List Byte) : (s.setBlob idx sub b).railBad = s.railBad := rfl
@[simp] theorem State.setBlob_frames (idx sub : Nat) (b : List Byte) : (s.setBlob idx sub b).frames = s.frames := rfl
@[simp] theorem State.setBlob_frames2 (idx sub : Nat) (b : List Byte) : (s.setBlob idx sub b).frames2 = s.frames2 := rfl
@[simp] theorem State.setBlob_ddr (idx sub : Nat) (b : List Byte) : (s.setBlob idx sub b).ddr = s.ddr := rfl
@[simp] theorem State.setBlob_fscratch (idx sub : Nat) (b : List Byte) : (s.setBlob idx sub b).fscratch = s.fscratch := rfl
@[simp] theorem State.setBlob_scrPrev (idx sub : Nat) (b : List Byte) : (s.setBlob idx sub b).scrPrev = s.scrPrev := rfl
@[simp] theorem State.setBlob_hostMem (idx sub : Nat) (b : List Byte) : (s.setBlob idx sub b).hostMem = s.hostMem := rfl
@[simp] theorem State.setBlob_free (idx sub : Nat) (b : List Byte) : (s.setBlob idx sub b).free = s.free := rfl
@[simp] theorem State.setBlob_pending (idx sub : Nat) (b : List Byte) : (s.setBlob idx sub b).pending = s.pending := rfl

/-! ### `bumpF` -/

@[simp] theorem State.bumpF_now (w fn idx sub n : Nat) : (s.bumpF w fn idx sub n).now = s.now := rfl
@[simp] theorem State.bumpF_resetN (w fn idx sub n : Nat) : (s.bumpF w fn idx sub n).resetN = s.resetN := rfl
@[simp] theorem State.bumpF_stopped (w fn idx sub n : Nat) : (s.bumpF w fn idx sub n).stopped = s.stopped := rfl
@[simp] theorem State.bumpF_tick (w fn idx sub n : Nat) : (s.bumpF w fn idx sub n).tick = s.tick := rfl
@[simp] theorem State.bumpF_plans (w fn idx sub n : Nat) : (s.bumpF w fn idx sub n).plans = s.plans := rfl
@[simp] theorem State.bumpF_fns (w fn idx sub n : Nat) : (s.bumpF w fn idx sub n).fns = s.fns := rfl
@[simp] theorem State.bumpF_link (w fn idx sub n : Nat) : (s.bumpF w fn idx sub n).link = s.link := rfl
@[simp] theorem State.bumpF_seen (w fn idx sub n : Nat) : (s.bumpF w fn idx sub n).seen = s.seen := rfl
@[simp] theorem State.bumpF_can (w fn idx sub n : Nat) : (s.bumpF w fn idx sub n).can = s.can := rfl
@[simp] theorem State.bumpF_fw (w fn idx sub n : Nat) : (s.bumpF w fn idx sub n).fw = s.fw := rfl
@[simp] theorem State.bumpF_elog (w fn idx sub n : Nat) : (s.bumpF w fn idx sub n).elog = s.elog := rfl
@[simp] theorem State.bumpF_pads (w fn idx sub n : Nat) : (s.bumpF w fn idx sub n).pads = s.pads := rfl
@[simp] theorem State.bumpF_cores (w fn idx sub n : Nat) : (s.bumpF w fn idx sub n).cores = s.cores := rfl
@[simp] theorem State.bumpF_tasks (w fn idx sub n : Nat) : (s.bumpF w fn idx sub n).tasks = s.tasks := rfl
@[simp] theorem State.bumpF_nextId (w fn idx sub n : Nat) : (s.bumpF w fn idx sub n).nextId = s.nextId := rfl
@[simp] theorem State.bumpF_idleAt (w fn idx sub n : Nat) : (s.bumpF w fn idx sub n).idleAt = s.idleAt := rfl
@[simp] theorem State.bumpF_quotaWait (w fn idx sub n : Nat) : (s.bumpF w fn idx sub n).quotaWait = s.quotaWait := rfl
@[simp] theorem State.bumpF_winDone (w fn idx sub n : Nat) : (s.bumpF w fn idx sub n).winDone = s.winDone := rfl
@[simp] theorem State.bumpF_queues (w fn idx sub n : Nat) : (s.bumpF w fn idx sub n).queues = s.queues := rfl
@[simp] theorem State.bumpF_chans (w fn idx sub n : Nat) : (s.bumpF w fn idx sub n).chans = s.chans := rfl
@[simp] theorem State.bumpF_dmas (w fn idx sub n : Nat) : (s.bumpF w fn idx sub n).dmas = s.dmas := rfl
@[simp] theorem State.bumpF_ports (w fn idx sub n : Nat) : (s.bumpF w fn idx sub n).ports = s.ports := rfl
@[simp] theorem State.bumpF_streams (w fn idx sub n : Nat) : (s.bumpF w fn idx sub n).streams = s.streams := rfl
@[simp] theorem State.bumpF_i3cs (w fn idx sub n : Nat) : (s.bumpF w fn idx sub n).i3cs = s.i3cs := rfl
@[simp] theorem State.bumpF_engines (w fn idx sub n : Nat) : (s.bumpF w fn idx sub n).engines = s.engines := rfl
@[simp] theorem State.bumpF_ctxCache (w fn idx sub n : Nat) : (s.bumpF w fn idx sub n).ctxCache = s.ctxCache := rfl
@[simp] theorem State.bumpF_ctxFreed (w fn idx sub n : Nat) : (s.bumpF w fn idx sub n).ctxFreed = s.ctxFreed := rfl
@[simp] theorem State.bumpF_ctxUndef (w fn idx sub n : Nat) : (s.bumpF w fn idx sub n).ctxUndef = s.ctxUndef := rfl
@[simp] theorem State.bumpF_netReply (w fn idx sub n : Nat) : (s.bumpF w fn idx sub n).netReply = s.netReply := rfl
@[simp] theorem State.bumpF_umbra (w fn idx sub n : Nat) : (s.bumpF w fn idx sub n).umbra = s.umbra := rfl
@[simp] theorem State.bumpF_faults (w fn idx sub n : Nat) : (s.bumpF w fn idx sub n).faults = s.faults := rfl
@[simp] theorem State.bumpF_scrubs (w fn idx sub n : Nat) : (s.bumpF w fn idx sub n).scrubs = s.scrubs := rfl
@[simp] theorem State.bumpF_sec (w fn idx sub n : Nat) : (s.bumpF w fn idx sub n).sec = s.sec := rfl
@[simp] theorem State.bumpF_avs (w fn idx sub n : Nat) : (s.bumpF w fn idx sub n).avs = s.avs := rfl
@[simp] theorem State.bumpF_jtag (w fn idx sub n : Nat) : (s.bumpF w fn idx sub n).jtag = s.jtag := rfl
@[simp] theorem State.bumpF_env (w fn idx sub n : Nat) : (s.bumpF w fn idx sub n).env = s.env := rfl
@[simp] theorem State.bumpF_railBad (w fn idx sub n : Nat) : (s.bumpF w fn idx sub n).railBad = s.railBad := rfl
@[simp] theorem State.bumpF_frames (w fn idx sub n : Nat) : (s.bumpF w fn idx sub n).frames = s.frames := rfl
@[simp] theorem State.bumpF_frames2 (w fn idx sub n : Nat) : (s.bumpF w fn idx sub n).frames2 = s.frames2 := rfl
@[simp] theorem State.bumpF_ddr (w fn idx sub n : Nat) : (s.bumpF w fn idx sub n).ddr = s.ddr := rfl
@[simp] theorem State.bumpF_fscratch (w fn idx sub n : Nat) : (s.bumpF w fn idx sub n).fscratch = s.fscratch := rfl
@[simp] theorem State.bumpF_scrPrev (w fn idx sub n : Nat) : (s.bumpF w fn idx sub n).scrPrev = s.scrPrev := rfl
@[simp] theorem State.bumpF_hostMem (w fn idx sub n : Nat) : (s.bumpF w fn idx sub n).hostMem = s.hostMem := rfl
@[simp] theorem State.bumpF_free (w fn idx sub n : Nat) : (s.bumpF w fn idx sub n).free = s.free := rfl
@[simp] theorem State.bumpF_pending (w fn idx sub n : Nat) : (s.bumpF w fn idx sub n).pending = s.pending := rfl

/-! ### `bump` -/

@[simp] theorem State.bump_now (w idx sub n : Nat) : (s.bump w idx sub n).now = s.now := rfl
@[simp] theorem State.bump_resetN (w idx sub n : Nat) : (s.bump w idx sub n).resetN = s.resetN := rfl
@[simp] theorem State.bump_stopped (w idx sub n : Nat) : (s.bump w idx sub n).stopped = s.stopped := rfl
@[simp] theorem State.bump_tick (w idx sub n : Nat) : (s.bump w idx sub n).tick = s.tick := rfl
@[simp] theorem State.bump_plans (w idx sub n : Nat) : (s.bump w idx sub n).plans = s.plans := rfl
@[simp] theorem State.bump_fns (w idx sub n : Nat) : (s.bump w idx sub n).fns = s.fns := rfl
@[simp] theorem State.bump_link (w idx sub n : Nat) : (s.bump w idx sub n).link = s.link := rfl
@[simp] theorem State.bump_seen (w idx sub n : Nat) : (s.bump w idx sub n).seen = s.seen := rfl
@[simp] theorem State.bump_can (w idx sub n : Nat) : (s.bump w idx sub n).can = s.can := rfl
@[simp] theorem State.bump_fw (w idx sub n : Nat) : (s.bump w idx sub n).fw = s.fw := rfl
@[simp] theorem State.bump_elog (w idx sub n : Nat) : (s.bump w idx sub n).elog = s.elog := rfl
@[simp] theorem State.bump_pads (w idx sub n : Nat) : (s.bump w idx sub n).pads = s.pads := rfl
@[simp] theorem State.bump_cores (w idx sub n : Nat) : (s.bump w idx sub n).cores = s.cores := rfl
@[simp] theorem State.bump_tasks (w idx sub n : Nat) : (s.bump w idx sub n).tasks = s.tasks := rfl
@[simp] theorem State.bump_nextId (w idx sub n : Nat) : (s.bump w idx sub n).nextId = s.nextId := rfl
@[simp] theorem State.bump_idleAt (w idx sub n : Nat) : (s.bump w idx sub n).idleAt = s.idleAt := rfl
@[simp] theorem State.bump_quotaWait (w idx sub n : Nat) : (s.bump w idx sub n).quotaWait = s.quotaWait := rfl
@[simp] theorem State.bump_winDone (w idx sub n : Nat) : (s.bump w idx sub n).winDone = s.winDone := rfl
@[simp] theorem State.bump_queues (w idx sub n : Nat) : (s.bump w idx sub n).queues = s.queues := rfl
@[simp] theorem State.bump_chans (w idx sub n : Nat) : (s.bump w idx sub n).chans = s.chans := rfl
@[simp] theorem State.bump_dmas (w idx sub n : Nat) : (s.bump w idx sub n).dmas = s.dmas := rfl
@[simp] theorem State.bump_ports (w idx sub n : Nat) : (s.bump w idx sub n).ports = s.ports := rfl
@[simp] theorem State.bump_streams (w idx sub n : Nat) : (s.bump w idx sub n).streams = s.streams := rfl
@[simp] theorem State.bump_i3cs (w idx sub n : Nat) : (s.bump w idx sub n).i3cs = s.i3cs := rfl
@[simp] theorem State.bump_engines (w idx sub n : Nat) : (s.bump w idx sub n).engines = s.engines := rfl
@[simp] theorem State.bump_ctxCache (w idx sub n : Nat) : (s.bump w idx sub n).ctxCache = s.ctxCache := rfl
@[simp] theorem State.bump_ctxFreed (w idx sub n : Nat) : (s.bump w idx sub n).ctxFreed = s.ctxFreed := rfl
@[simp] theorem State.bump_ctxUndef (w idx sub n : Nat) : (s.bump w idx sub n).ctxUndef = s.ctxUndef := rfl
@[simp] theorem State.bump_netReply (w idx sub n : Nat) : (s.bump w idx sub n).netReply = s.netReply := rfl
@[simp] theorem State.bump_umbra (w idx sub n : Nat) : (s.bump w idx sub n).umbra = s.umbra := rfl
@[simp] theorem State.bump_faults (w idx sub n : Nat) : (s.bump w idx sub n).faults = s.faults := rfl
@[simp] theorem State.bump_scrubs (w idx sub n : Nat) : (s.bump w idx sub n).scrubs = s.scrubs := rfl
@[simp] theorem State.bump_sec (w idx sub n : Nat) : (s.bump w idx sub n).sec = s.sec := rfl
@[simp] theorem State.bump_avs (w idx sub n : Nat) : (s.bump w idx sub n).avs = s.avs := rfl
@[simp] theorem State.bump_jtag (w idx sub n : Nat) : (s.bump w idx sub n).jtag = s.jtag := rfl
@[simp] theorem State.bump_env (w idx sub n : Nat) : (s.bump w idx sub n).env = s.env := rfl
@[simp] theorem State.bump_railBad (w idx sub n : Nat) : (s.bump w idx sub n).railBad = s.railBad := rfl
@[simp] theorem State.bump_frames (w idx sub n : Nat) : (s.bump w idx sub n).frames = s.frames := rfl
@[simp] theorem State.bump_frames2 (w idx sub n : Nat) : (s.bump w idx sub n).frames2 = s.frames2 := rfl
@[simp] theorem State.bump_ddr (w idx sub n : Nat) : (s.bump w idx sub n).ddr = s.ddr := rfl
@[simp] theorem State.bump_fscratch (w idx sub n : Nat) : (s.bump w idx sub n).fscratch = s.fscratch := rfl
@[simp] theorem State.bump_scrPrev (w idx sub n : Nat) : (s.bump w idx sub n).scrPrev = s.scrPrev := rfl
@[simp] theorem State.bump_hostMem (w idx sub n : Nat) : (s.bump w idx sub n).hostMem = s.hostMem := rfl
@[simp] theorem State.bump_free (w idx sub n : Nat) : (s.bump w idx sub n).free = s.free := rfl
@[simp] theorem State.bump_pending (w idx sub n : Nat) : (s.bump w idx sub n).pending = s.pending := rfl

/-! ### `changed` -/

@[simp] theorem State.changed_now (fn idx sub : Nat) : (s.changed fn idx sub).now = s.now := rfl
@[simp] theorem State.changed_resetN (fn idx sub : Nat) : (s.changed fn idx sub).resetN = s.resetN := rfl
@[simp] theorem State.changed_stopped (fn idx sub : Nat) : (s.changed fn idx sub).stopped = s.stopped := rfl
@[simp] theorem State.changed_tick (fn idx sub : Nat) : (s.changed fn idx sub).tick = s.tick := rfl
@[simp] theorem State.changed_plans (fn idx sub : Nat) : (s.changed fn idx sub).plans = s.plans := rfl
@[simp] theorem State.changed_fns (fn idx sub : Nat) : (s.changed fn idx sub).fns = s.fns := rfl
@[simp] theorem State.changed_link (fn idx sub : Nat) : (s.changed fn idx sub).link = s.link := rfl
@[simp] theorem State.changed_seen (fn idx sub : Nat) : (s.changed fn idx sub).seen = s.seen := rfl
@[simp] theorem State.changed_can (fn idx sub : Nat) : (s.changed fn idx sub).can = s.can := rfl
@[simp] theorem State.changed_fw (fn idx sub : Nat) : (s.changed fn idx sub).fw = s.fw := rfl
@[simp] theorem State.changed_elog (fn idx sub : Nat) : (s.changed fn idx sub).elog = s.elog := rfl
@[simp] theorem State.changed_pads (fn idx sub : Nat) : (s.changed fn idx sub).pads = s.pads := rfl
@[simp] theorem State.changed_cores (fn idx sub : Nat) : (s.changed fn idx sub).cores = s.cores := rfl
@[simp] theorem State.changed_tasks (fn idx sub : Nat) : (s.changed fn idx sub).tasks = s.tasks := rfl
@[simp] theorem State.changed_nextId (fn idx sub : Nat) : (s.changed fn idx sub).nextId = s.nextId := rfl
@[simp] theorem State.changed_idleAt (fn idx sub : Nat) : (s.changed fn idx sub).idleAt = s.idleAt := rfl
@[simp] theorem State.changed_quotaWait (fn idx sub : Nat) : (s.changed fn idx sub).quotaWait = s.quotaWait := rfl
@[simp] theorem State.changed_winDone (fn idx sub : Nat) : (s.changed fn idx sub).winDone = s.winDone := rfl
@[simp] theorem State.changed_queues (fn idx sub : Nat) : (s.changed fn idx sub).queues = s.queues := rfl
@[simp] theorem State.changed_chans (fn idx sub : Nat) : (s.changed fn idx sub).chans = s.chans := rfl
@[simp] theorem State.changed_dmas (fn idx sub : Nat) : (s.changed fn idx sub).dmas = s.dmas := rfl
@[simp] theorem State.changed_ports (fn idx sub : Nat) : (s.changed fn idx sub).ports = s.ports := rfl
@[simp] theorem State.changed_streams (fn idx sub : Nat) : (s.changed fn idx sub).streams = s.streams := rfl
@[simp] theorem State.changed_i3cs (fn idx sub : Nat) : (s.changed fn idx sub).i3cs = s.i3cs := rfl
@[simp] theorem State.changed_engines (fn idx sub : Nat) : (s.changed fn idx sub).engines = s.engines := rfl
@[simp] theorem State.changed_ctxCache (fn idx sub : Nat) : (s.changed fn idx sub).ctxCache = s.ctxCache := rfl
@[simp] theorem State.changed_ctxFreed (fn idx sub : Nat) : (s.changed fn idx sub).ctxFreed = s.ctxFreed := rfl
@[simp] theorem State.changed_ctxUndef (fn idx sub : Nat) : (s.changed fn idx sub).ctxUndef = s.ctxUndef := rfl
@[simp] theorem State.changed_netReply (fn idx sub : Nat) : (s.changed fn idx sub).netReply = s.netReply := rfl
@[simp] theorem State.changed_umbra (fn idx sub : Nat) : (s.changed fn idx sub).umbra = s.umbra := rfl
@[simp] theorem State.changed_faults (fn idx sub : Nat) : (s.changed fn idx sub).faults = s.faults := rfl
@[simp] theorem State.changed_scrubs (fn idx sub : Nat) : (s.changed fn idx sub).scrubs = s.scrubs := rfl
@[simp] theorem State.changed_sec (fn idx sub : Nat) : (s.changed fn idx sub).sec = s.sec := rfl
@[simp] theorem State.changed_avs (fn idx sub : Nat) : (s.changed fn idx sub).avs = s.avs := rfl
@[simp] theorem State.changed_jtag (fn idx sub : Nat) : (s.changed fn idx sub).jtag = s.jtag := rfl
@[simp] theorem State.changed_env (fn idx sub : Nat) : (s.changed fn idx sub).env = s.env := rfl
@[simp] theorem State.changed_railBad (fn idx sub : Nat) : (s.changed fn idx sub).railBad = s.railBad := rfl
@[simp] theorem State.changed_frames (fn idx sub : Nat) : (s.changed fn idx sub).frames = s.frames := rfl
@[simp] theorem State.changed_frames2 (fn idx sub : Nat) : (s.changed fn idx sub).frames2 = s.frames2 := rfl
@[simp] theorem State.changed_ddr (fn idx sub : Nat) : (s.changed fn idx sub).ddr = s.ddr := rfl
@[simp] theorem State.changed_fscratch (fn idx sub : Nat) : (s.changed fn idx sub).fscratch = s.fscratch := rfl
@[simp] theorem State.changed_scrPrev (fn idx sub : Nat) : (s.changed fn idx sub).scrPrev = s.scrPrev := rfl
@[simp] theorem State.changed_hostMem (fn idx sub : Nat) : (s.changed fn idx sub).hostMem = s.hostMem := rfl
@[simp] theorem State.changed_free (fn idx sub : Nat) : (s.changed fn idx sub).free = s.free := rfl
@[simp] theorem State.changed_pending (fn idx sub : Nat) : (s.changed fn idx sub).pending = s.pending := rfl

/-! ### `setFn` -/

@[simp] theorem State.setFn_now (f : Nat) (x : FnSt) : (s.setFn f x).now = s.now := rfl
@[simp] theorem State.setFn_resetN (f : Nat) (x : FnSt) : (s.setFn f x).resetN = s.resetN := rfl
@[simp] theorem State.setFn_stopped (f : Nat) (x : FnSt) : (s.setFn f x).stopped = s.stopped := rfl
@[simp] theorem State.setFn_tick (f : Nat) (x : FnSt) : (s.setFn f x).tick = s.tick := rfl
@[simp] theorem State.setFn_dict (f : Nat) (x : FnSt) : (s.setFn f x).dict = s.dict := rfl
@[simp] theorem State.setFn_plans (f : Nat) (x : FnSt) : (s.setFn f x).plans = s.plans := rfl
@[simp] theorem State.setFn_link (f : Nat) (x : FnSt) : (s.setFn f x).link = s.link := rfl
@[simp] theorem State.setFn_seen (f : Nat) (x : FnSt) : (s.setFn f x).seen = s.seen := rfl
@[simp] theorem State.setFn_can (f : Nat) (x : FnSt) : (s.setFn f x).can = s.can := rfl
@[simp] theorem State.setFn_fw (f : Nat) (x : FnSt) : (s.setFn f x).fw = s.fw := rfl
@[simp] theorem State.setFn_elog (f : Nat) (x : FnSt) : (s.setFn f x).elog = s.elog := rfl
@[simp] theorem State.setFn_pads (f : Nat) (x : FnSt) : (s.setFn f x).pads = s.pads := rfl
@[simp] theorem State.setFn_cores (f : Nat) (x : FnSt) : (s.setFn f x).cores = s.cores := rfl
@[simp] theorem State.setFn_tasks (f : Nat) (x : FnSt) : (s.setFn f x).tasks = s.tasks := rfl
@[simp] theorem State.setFn_nextId (f : Nat) (x : FnSt) : (s.setFn f x).nextId = s.nextId := rfl
@[simp] theorem State.setFn_idleAt (f : Nat) (x : FnSt) : (s.setFn f x).idleAt = s.idleAt := rfl
@[simp] theorem State.setFn_quotaWait (f : Nat) (x : FnSt) : (s.setFn f x).quotaWait = s.quotaWait := rfl
@[simp] theorem State.setFn_winDone (f : Nat) (x : FnSt) : (s.setFn f x).winDone = s.winDone := rfl
@[simp] theorem State.setFn_queues (f : Nat) (x : FnSt) : (s.setFn f x).queues = s.queues := rfl
@[simp] theorem State.setFn_chans (f : Nat) (x : FnSt) : (s.setFn f x).chans = s.chans := rfl
@[simp] theorem State.setFn_dmas (f : Nat) (x : FnSt) : (s.setFn f x).dmas = s.dmas := rfl
@[simp] theorem State.setFn_ports (f : Nat) (x : FnSt) : (s.setFn f x).ports = s.ports := rfl
@[simp] theorem State.setFn_streams (f : Nat) (x : FnSt) : (s.setFn f x).streams = s.streams := rfl
@[simp] theorem State.setFn_i3cs (f : Nat) (x : FnSt) : (s.setFn f x).i3cs = s.i3cs := rfl
@[simp] theorem State.setFn_engines (f : Nat) (x : FnSt) : (s.setFn f x).engines = s.engines := rfl
@[simp] theorem State.setFn_ctxCache (f : Nat) (x : FnSt) : (s.setFn f x).ctxCache = s.ctxCache := rfl
@[simp] theorem State.setFn_ctxFreed (f : Nat) (x : FnSt) : (s.setFn f x).ctxFreed = s.ctxFreed := rfl
@[simp] theorem State.setFn_ctxUndef (f : Nat) (x : FnSt) : (s.setFn f x).ctxUndef = s.ctxUndef := rfl
@[simp] theorem State.setFn_netReply (f : Nat) (x : FnSt) : (s.setFn f x).netReply = s.netReply := rfl
@[simp] theorem State.setFn_umbra (f : Nat) (x : FnSt) : (s.setFn f x).umbra = s.umbra := rfl
@[simp] theorem State.setFn_faults (f : Nat) (x : FnSt) : (s.setFn f x).faults = s.faults := rfl
@[simp] theorem State.setFn_scrubs (f : Nat) (x : FnSt) : (s.setFn f x).scrubs = s.scrubs := rfl
@[simp] theorem State.setFn_sec (f : Nat) (x : FnSt) : (s.setFn f x).sec = s.sec := rfl
@[simp] theorem State.setFn_avs (f : Nat) (x : FnSt) : (s.setFn f x).avs = s.avs := rfl
@[simp] theorem State.setFn_jtag (f : Nat) (x : FnSt) : (s.setFn f x).jtag = s.jtag := rfl
@[simp] theorem State.setFn_env (f : Nat) (x : FnSt) : (s.setFn f x).env = s.env := rfl
@[simp] theorem State.setFn_railBad (f : Nat) (x : FnSt) : (s.setFn f x).railBad = s.railBad := rfl
@[simp] theorem State.setFn_frames (f : Nat) (x : FnSt) : (s.setFn f x).frames = s.frames := rfl
@[simp] theorem State.setFn_frames2 (f : Nat) (x : FnSt) : (s.setFn f x).frames2 = s.frames2 := rfl
@[simp] theorem State.setFn_ddr (f : Nat) (x : FnSt) : (s.setFn f x).ddr = s.ddr := rfl
@[simp] theorem State.setFn_fscratch (f : Nat) (x : FnSt) : (s.setFn f x).fscratch = s.fscratch := rfl
@[simp] theorem State.setFn_scrPrev (f : Nat) (x : FnSt) : (s.setFn f x).scrPrev = s.scrPrev := rfl
@[simp] theorem State.setFn_hostMem (f : Nat) (x : FnSt) : (s.setFn f x).hostMem = s.hostMem := rfl
@[simp] theorem State.setFn_free (f : Nat) (x : FnSt) : (s.setFn f x).free = s.free := rfl
@[simp] theorem State.setFn_pending (f : Nat) (x : FnSt) : (s.setFn f x).pending = s.pending := rfl

/-! ### `setPlanSt` -/

@[simp] theorem State.setPlanSt_now (p : Nat) (x : PlanSt) : (s.setPlanSt p x).now = s.now := rfl
@[simp] theorem State.setPlanSt_resetN (p : Nat) (x : PlanSt) : (s.setPlanSt p x).resetN = s.resetN := rfl
@[simp] theorem State.setPlanSt_stopped (p : Nat) (x : PlanSt) : (s.setPlanSt p x).stopped = s.stopped := rfl
@[simp] theorem State.setPlanSt_tick (p : Nat) (x : PlanSt) : (s.setPlanSt p x).tick = s.tick := rfl
@[simp] theorem State.setPlanSt_dict (p : Nat) (x : PlanSt) : (s.setPlanSt p x).dict = s.dict := rfl
@[simp] theorem State.setPlanSt_fns (p : Nat) (x : PlanSt) : (s.setPlanSt p x).fns = s.fns := rfl
@[simp] theorem State.setPlanSt_link (p : Nat) (x : PlanSt) : (s.setPlanSt p x).link = s.link := rfl
@[simp] theorem State.setPlanSt_seen (p : Nat) (x : PlanSt) : (s.setPlanSt p x).seen = s.seen := rfl
@[simp] theorem State.setPlanSt_can (p : Nat) (x : PlanSt) : (s.setPlanSt p x).can = s.can := rfl
@[simp] theorem State.setPlanSt_fw (p : Nat) (x : PlanSt) : (s.setPlanSt p x).fw = s.fw := rfl
@[simp] theorem State.setPlanSt_elog (p : Nat) (x : PlanSt) : (s.setPlanSt p x).elog = s.elog := rfl
@[simp] theorem State.setPlanSt_pads (p : Nat) (x : PlanSt) : (s.setPlanSt p x).pads = s.pads := rfl
@[simp] theorem State.setPlanSt_cores (p : Nat) (x : PlanSt) : (s.setPlanSt p x).cores = s.cores := rfl
@[simp] theorem State.setPlanSt_tasks (p : Nat) (x : PlanSt) : (s.setPlanSt p x).tasks = s.tasks := rfl
@[simp] theorem State.setPlanSt_nextId (p : Nat) (x : PlanSt) : (s.setPlanSt p x).nextId = s.nextId := rfl
@[simp] theorem State.setPlanSt_idleAt (p : Nat) (x : PlanSt) : (s.setPlanSt p x).idleAt = s.idleAt := rfl
@[simp] theorem State.setPlanSt_quotaWait (p : Nat) (x : PlanSt) : (s.setPlanSt p x).quotaWait = s.quotaWait := rfl
@[simp] theorem State.setPlanSt_winDone (p : Nat) (x : PlanSt) : (s.setPlanSt p x).winDone = s.winDone := rfl
@[simp] theorem State.setPlanSt_queues (p : Nat) (x : PlanSt) : (s.setPlanSt p x).queues = s.queues := rfl
@[simp] theorem State.setPlanSt_chans (p : Nat) (x : PlanSt) : (s.setPlanSt p x).chans = s.chans := rfl
@[simp] theorem State.setPlanSt_dmas (p : Nat) (x : PlanSt) : (s.setPlanSt p x).dmas = s.dmas := rfl
@[simp] theorem State.setPlanSt_ports (p : Nat) (x : PlanSt) : (s.setPlanSt p x).ports = s.ports := rfl
@[simp] theorem State.setPlanSt_streams (p : Nat) (x : PlanSt) : (s.setPlanSt p x).streams = s.streams := rfl
@[simp] theorem State.setPlanSt_i3cs (p : Nat) (x : PlanSt) : (s.setPlanSt p x).i3cs = s.i3cs := rfl
@[simp] theorem State.setPlanSt_engines (p : Nat) (x : PlanSt) : (s.setPlanSt p x).engines = s.engines := rfl
@[simp] theorem State.setPlanSt_ctxCache (p : Nat) (x : PlanSt) : (s.setPlanSt p x).ctxCache = s.ctxCache := rfl
@[simp] theorem State.setPlanSt_ctxFreed (p : Nat) (x : PlanSt) : (s.setPlanSt p x).ctxFreed = s.ctxFreed := rfl
@[simp] theorem State.setPlanSt_ctxUndef (p : Nat) (x : PlanSt) : (s.setPlanSt p x).ctxUndef = s.ctxUndef := rfl
@[simp] theorem State.setPlanSt_netReply (p : Nat) (x : PlanSt) : (s.setPlanSt p x).netReply = s.netReply := rfl
@[simp] theorem State.setPlanSt_umbra (p : Nat) (x : PlanSt) : (s.setPlanSt p x).umbra = s.umbra := rfl
@[simp] theorem State.setPlanSt_faults (p : Nat) (x : PlanSt) : (s.setPlanSt p x).faults = s.faults := rfl
@[simp] theorem State.setPlanSt_scrubs (p : Nat) (x : PlanSt) : (s.setPlanSt p x).scrubs = s.scrubs := rfl
@[simp] theorem State.setPlanSt_sec (p : Nat) (x : PlanSt) : (s.setPlanSt p x).sec = s.sec := rfl
@[simp] theorem State.setPlanSt_avs (p : Nat) (x : PlanSt) : (s.setPlanSt p x).avs = s.avs := rfl
@[simp] theorem State.setPlanSt_jtag (p : Nat) (x : PlanSt) : (s.setPlanSt p x).jtag = s.jtag := rfl
@[simp] theorem State.setPlanSt_env (p : Nat) (x : PlanSt) : (s.setPlanSt p x).env = s.env := rfl
@[simp] theorem State.setPlanSt_railBad (p : Nat) (x : PlanSt) : (s.setPlanSt p x).railBad = s.railBad := rfl
@[simp] theorem State.setPlanSt_frames (p : Nat) (x : PlanSt) : (s.setPlanSt p x).frames = s.frames := rfl
@[simp] theorem State.setPlanSt_frames2 (p : Nat) (x : PlanSt) : (s.setPlanSt p x).frames2 = s.frames2 := rfl
@[simp] theorem State.setPlanSt_ddr (p : Nat) (x : PlanSt) : (s.setPlanSt p x).ddr = s.ddr := rfl
@[simp] theorem State.setPlanSt_fscratch (p : Nat) (x : PlanSt) : (s.setPlanSt p x).fscratch = s.fscratch := rfl
@[simp] theorem State.setPlanSt_scrPrev (p : Nat) (x : PlanSt) : (s.setPlanSt p x).scrPrev = s.scrPrev := rfl
@[simp] theorem State.setPlanSt_hostMem (p : Nat) (x : PlanSt) : (s.setPlanSt p x).hostMem = s.hostMem := rfl
@[simp] theorem State.setPlanSt_free (p : Nat) (x : PlanSt) : (s.setPlanSt p x).free = s.free := rfl
@[simp] theorem State.setPlanSt_pending (p : Nat) (x : PlanSt) : (s.setPlanSt p x).pending = s.pending := rfl

/-! ### `setPad` -/

@[simp] theorem State.setPad_now (c : Nat) (x : PadSt) : (s.setPad c x).now = s.now := rfl
@[simp] theorem State.setPad_resetN (c : Nat) (x : PadSt) : (s.setPad c x).resetN = s.resetN := rfl
@[simp] theorem State.setPad_stopped (c : Nat) (x : PadSt) : (s.setPad c x).stopped = s.stopped := rfl
@[simp] theorem State.setPad_tick (c : Nat) (x : PadSt) : (s.setPad c x).tick = s.tick := rfl
@[simp] theorem State.setPad_dict (c : Nat) (x : PadSt) : (s.setPad c x).dict = s.dict := rfl
@[simp] theorem State.setPad_plans (c : Nat) (x : PadSt) : (s.setPad c x).plans = s.plans := rfl
@[simp] theorem State.setPad_fns (c : Nat) (x : PadSt) : (s.setPad c x).fns = s.fns := rfl
@[simp] theorem State.setPad_link (c : Nat) (x : PadSt) : (s.setPad c x).link = s.link := rfl
@[simp] theorem State.setPad_seen (c : Nat) (x : PadSt) : (s.setPad c x).seen = s.seen := rfl
@[simp] theorem State.setPad_can (c : Nat) (x : PadSt) : (s.setPad c x).can = s.can := rfl
@[simp] theorem State.setPad_fw (c : Nat) (x : PadSt) : (s.setPad c x).fw = s.fw := rfl
@[simp] theorem State.setPad_elog (c : Nat) (x : PadSt) : (s.setPad c x).elog = s.elog := rfl
@[simp] theorem State.setPad_cores (c : Nat) (x : PadSt) : (s.setPad c x).cores = s.cores := rfl
@[simp] theorem State.setPad_tasks (c : Nat) (x : PadSt) : (s.setPad c x).tasks = s.tasks := rfl
@[simp] theorem State.setPad_nextId (c : Nat) (x : PadSt) : (s.setPad c x).nextId = s.nextId := rfl
@[simp] theorem State.setPad_idleAt (c : Nat) (x : PadSt) : (s.setPad c x).idleAt = s.idleAt := rfl
@[simp] theorem State.setPad_quotaWait (c : Nat) (x : PadSt) : (s.setPad c x).quotaWait = s.quotaWait := rfl
@[simp] theorem State.setPad_winDone (c : Nat) (x : PadSt) : (s.setPad c x).winDone = s.winDone := rfl
@[simp] theorem State.setPad_queues (c : Nat) (x : PadSt) : (s.setPad c x).queues = s.queues := rfl
@[simp] theorem State.setPad_chans (c : Nat) (x : PadSt) : (s.setPad c x).chans = s.chans := rfl
@[simp] theorem State.setPad_dmas (c : Nat) (x : PadSt) : (s.setPad c x).dmas = s.dmas := rfl
@[simp] theorem State.setPad_ports (c : Nat) (x : PadSt) : (s.setPad c x).ports = s.ports := rfl
@[simp] theorem State.setPad_streams (c : Nat) (x : PadSt) : (s.setPad c x).streams = s.streams := rfl
@[simp] theorem State.setPad_i3cs (c : Nat) (x : PadSt) : (s.setPad c x).i3cs = s.i3cs := rfl
@[simp] theorem State.setPad_engines (c : Nat) (x : PadSt) : (s.setPad c x).engines = s.engines := rfl
@[simp] theorem State.setPad_ctxCache (c : Nat) (x : PadSt) : (s.setPad c x).ctxCache = s.ctxCache := rfl
@[simp] theorem State.setPad_ctxFreed (c : Nat) (x : PadSt) : (s.setPad c x).ctxFreed = s.ctxFreed := rfl
@[simp] theorem State.setPad_ctxUndef (c : Nat) (x : PadSt) : (s.setPad c x).ctxUndef = s.ctxUndef := rfl
@[simp] theorem State.setPad_netReply (c : Nat) (x : PadSt) : (s.setPad c x).netReply = s.netReply := rfl
@[simp] theorem State.setPad_umbra (c : Nat) (x : PadSt) : (s.setPad c x).umbra = s.umbra := rfl
@[simp] theorem State.setPad_faults (c : Nat) (x : PadSt) : (s.setPad c x).faults = s.faults := rfl
@[simp] theorem State.setPad_scrubs (c : Nat) (x : PadSt) : (s.setPad c x).scrubs = s.scrubs := rfl
@[simp] theorem State.setPad_sec (c : Nat) (x : PadSt) : (s.setPad c x).sec = s.sec := rfl
@[simp] theorem State.setPad_avs (c : Nat) (x : PadSt) : (s.setPad c x).avs = s.avs := rfl
@[simp] theorem State.setPad_jtag (c : Nat) (x : PadSt) : (s.setPad c x).jtag = s.jtag := rfl
@[simp] theorem State.setPad_env (c : Nat) (x : PadSt) : (s.setPad c x).env = s.env := rfl
@[simp] theorem State.setPad_railBad (c : Nat) (x : PadSt) : (s.setPad c x).railBad = s.railBad := rfl
@[simp] theorem State.setPad_frames (c : Nat) (x : PadSt) : (s.setPad c x).frames = s.frames := rfl
@[simp] theorem State.setPad_frames2 (c : Nat) (x : PadSt) : (s.setPad c x).frames2 = s.frames2 := rfl
@[simp] theorem State.setPad_ddr (c : Nat) (x : PadSt) : (s.setPad c x).ddr = s.ddr := rfl
@[simp] theorem State.setPad_fscratch (c : Nat) (x : PadSt) : (s.setPad c x).fscratch = s.fscratch := rfl
@[simp] theorem State.setPad_scrPrev (c : Nat) (x : PadSt) : (s.setPad c x).scrPrev = s.scrPrev := rfl
@[simp] theorem State.setPad_hostMem (c : Nat) (x : PadSt) : (s.setPad c x).hostMem = s.hostMem := rfl
@[simp] theorem State.setPad_free (c : Nat) (x : PadSt) : (s.setPad c x).free = s.free := rfl
@[simp] theorem State.setPad_pending (c : Nat) (x : PadSt) : (s.setPad c x).pending = s.pending := rfl

/-! ### `setCore` -/

@[simp] theorem State.setCore_now (c : Nat) (x : CoreSt) : (s.setCore c x).now = s.now := rfl
@[simp] theorem State.setCore_resetN (c : Nat) (x : CoreSt) : (s.setCore c x).resetN = s.resetN := rfl
@[simp] theorem State.setCore_stopped (c : Nat) (x : CoreSt) : (s.setCore c x).stopped = s.stopped := rfl
@[simp] theorem State.setCore_tick (c : Nat) (x : CoreSt) : (s.setCore c x).tick = s.tick := rfl
@[simp] theorem State.setCore_dict (c : Nat) (x : CoreSt) : (s.setCore c x).dict = s.dict := rfl
@[simp] theorem State.setCore_plans (c : Nat) (x : CoreSt) : (s.setCore c x).plans = s.plans := rfl
@[simp] theorem State.setCore_fns (c : Nat) (x : CoreSt) : (s.setCore c x).fns = s.fns := rfl
@[simp] theorem State.setCore_link (c : Nat) (x : CoreSt) : (s.setCore c x).link = s.link := rfl
@[simp] theorem State.setCore_seen (c : Nat) (x : CoreSt) : (s.setCore c x).seen = s.seen := rfl
@[simp] theorem State.setCore_can (c : Nat) (x : CoreSt) : (s.setCore c x).can = s.can := rfl
@[simp] theorem State.setCore_fw (c : Nat) (x : CoreSt) : (s.setCore c x).fw = s.fw := rfl
@[simp] theorem State.setCore_elog (c : Nat) (x : CoreSt) : (s.setCore c x).elog = s.elog := rfl
@[simp] theorem State.setCore_pads (c : Nat) (x : CoreSt) : (s.setCore c x).pads = s.pads := rfl
@[simp] theorem State.setCore_tasks (c : Nat) (x : CoreSt) : (s.setCore c x).tasks = s.tasks := rfl
@[simp] theorem State.setCore_nextId (c : Nat) (x : CoreSt) : (s.setCore c x).nextId = s.nextId := rfl
@[simp] theorem State.setCore_idleAt (c : Nat) (x : CoreSt) : (s.setCore c x).idleAt = s.idleAt := rfl
@[simp] theorem State.setCore_quotaWait (c : Nat) (x : CoreSt) : (s.setCore c x).quotaWait = s.quotaWait := rfl
@[simp] theorem State.setCore_winDone (c : Nat) (x : CoreSt) : (s.setCore c x).winDone = s.winDone := rfl
@[simp] theorem State.setCore_queues (c : Nat) (x : CoreSt) : (s.setCore c x).queues = s.queues := rfl
@[simp] theorem State.setCore_chans (c : Nat) (x : CoreSt) : (s.setCore c x).chans = s.chans := rfl
@[simp] theorem State.setCore_dmas (c : Nat) (x : CoreSt) : (s.setCore c x).dmas = s.dmas := rfl
@[simp] theorem State.setCore_ports (c : Nat) (x : CoreSt) : (s.setCore c x).ports = s.ports := rfl
@[simp] theorem State.setCore_streams (c : Nat) (x : CoreSt) : (s.setCore c x).streams = s.streams := rfl
@[simp] theorem State.setCore_i3cs (c : Nat) (x : CoreSt) : (s.setCore c x).i3cs = s.i3cs := rfl
@[simp] theorem State.setCore_engines (c : Nat) (x : CoreSt) : (s.setCore c x).engines = s.engines := rfl
@[simp] theorem State.setCore_ctxCache (c : Nat) (x : CoreSt) : (s.setCore c x).ctxCache = s.ctxCache := rfl
@[simp] theorem State.setCore_ctxFreed (c : Nat) (x : CoreSt) : (s.setCore c x).ctxFreed = s.ctxFreed := rfl
@[simp] theorem State.setCore_ctxUndef (c : Nat) (x : CoreSt) : (s.setCore c x).ctxUndef = s.ctxUndef := rfl
@[simp] theorem State.setCore_netReply (c : Nat) (x : CoreSt) : (s.setCore c x).netReply = s.netReply := rfl
@[simp] theorem State.setCore_umbra (c : Nat) (x : CoreSt) : (s.setCore c x).umbra = s.umbra := rfl
@[simp] theorem State.setCore_faults (c : Nat) (x : CoreSt) : (s.setCore c x).faults = s.faults := rfl
@[simp] theorem State.setCore_scrubs (c : Nat) (x : CoreSt) : (s.setCore c x).scrubs = s.scrubs := rfl
@[simp] theorem State.setCore_sec (c : Nat) (x : CoreSt) : (s.setCore c x).sec = s.sec := rfl
@[simp] theorem State.setCore_avs (c : Nat) (x : CoreSt) : (s.setCore c x).avs = s.avs := rfl
@[simp] theorem State.setCore_jtag (c : Nat) (x : CoreSt) : (s.setCore c x).jtag = s.jtag := rfl
@[simp] theorem State.setCore_env (c : Nat) (x : CoreSt) : (s.setCore c x).env = s.env := rfl
@[simp] theorem State.setCore_railBad (c : Nat) (x : CoreSt) : (s.setCore c x).railBad = s.railBad := rfl
@[simp] theorem State.setCore_frames (c : Nat) (x : CoreSt) : (s.setCore c x).frames = s.frames := rfl
@[simp] theorem State.setCore_frames2 (c : Nat) (x : CoreSt) : (s.setCore c x).frames2 = s.frames2 := rfl
@[simp] theorem State.setCore_ddr (c : Nat) (x : CoreSt) : (s.setCore c x).ddr = s.ddr := rfl
@[simp] theorem State.setCore_fscratch (c : Nat) (x : CoreSt) : (s.setCore c x).fscratch = s.fscratch := rfl
@[simp] theorem State.setCore_scrPrev (c : Nat) (x : CoreSt) : (s.setCore c x).scrPrev = s.scrPrev := rfl
@[simp] theorem State.setCore_hostMem (c : Nat) (x : CoreSt) : (s.setCore c x).hostMem = s.hostMem := rfl
@[simp] theorem State.setCore_free (c : Nat) (x : CoreSt) : (s.setCore c x).free = s.free := rfl
@[simp] theorem State.setCore_pending (c : Nat) (x : CoreSt) : (s.setCore c x).pending = s.pending := rfl

/-! ### `setQueue` -/

@[simp] theorem State.setQueue_now (q : Nat) (x : QueueSt) : (s.setQueue q x).now = s.now := rfl
@[simp] theorem State.setQueue_resetN (q : Nat) (x : QueueSt) : (s.setQueue q x).resetN = s.resetN := rfl
@[simp] theorem State.setQueue_stopped (q : Nat) (x : QueueSt) : (s.setQueue q x).stopped = s.stopped := rfl
@[simp] theorem State.setQueue_tick (q : Nat) (x : QueueSt) : (s.setQueue q x).tick = s.tick := rfl
@[simp] theorem State.setQueue_dict (q : Nat) (x : QueueSt) : (s.setQueue q x).dict = s.dict := rfl
@[simp] theorem State.setQueue_plans (q : Nat) (x : QueueSt) : (s.setQueue q x).plans = s.plans := rfl
@[simp] theorem State.setQueue_fns (q : Nat) (x : QueueSt) : (s.setQueue q x).fns = s.fns := rfl
@[simp] theorem State.setQueue_link (q : Nat) (x : QueueSt) : (s.setQueue q x).link = s.link := rfl
@[simp] theorem State.setQueue_seen (q : Nat) (x : QueueSt) : (s.setQueue q x).seen = s.seen := rfl
@[simp] theorem State.setQueue_can (q : Nat) (x : QueueSt) : (s.setQueue q x).can = s.can := rfl
@[simp] theorem State.setQueue_fw (q : Nat) (x : QueueSt) : (s.setQueue q x).fw = s.fw := rfl
@[simp] theorem State.setQueue_elog (q : Nat) (x : QueueSt) : (s.setQueue q x).elog = s.elog := rfl
@[simp] theorem State.setQueue_pads (q : Nat) (x : QueueSt) : (s.setQueue q x).pads = s.pads := rfl
@[simp] theorem State.setQueue_cores (q : Nat) (x : QueueSt) : (s.setQueue q x).cores = s.cores := rfl
@[simp] theorem State.setQueue_tasks (q : Nat) (x : QueueSt) : (s.setQueue q x).tasks = s.tasks := rfl
@[simp] theorem State.setQueue_nextId (q : Nat) (x : QueueSt) : (s.setQueue q x).nextId = s.nextId := rfl
@[simp] theorem State.setQueue_idleAt (q : Nat) (x : QueueSt) : (s.setQueue q x).idleAt = s.idleAt := rfl
@[simp] theorem State.setQueue_quotaWait (q : Nat) (x : QueueSt) : (s.setQueue q x).quotaWait = s.quotaWait := rfl
@[simp] theorem State.setQueue_winDone (q : Nat) (x : QueueSt) : (s.setQueue q x).winDone = s.winDone := rfl
@[simp] theorem State.setQueue_chans (q : Nat) (x : QueueSt) : (s.setQueue q x).chans = s.chans := rfl
@[simp] theorem State.setQueue_dmas (q : Nat) (x : QueueSt) : (s.setQueue q x).dmas = s.dmas := rfl
@[simp] theorem State.setQueue_ports (q : Nat) (x : QueueSt) : (s.setQueue q x).ports = s.ports := rfl
@[simp] theorem State.setQueue_streams (q : Nat) (x : QueueSt) : (s.setQueue q x).streams = s.streams := rfl
@[simp] theorem State.setQueue_i3cs (q : Nat) (x : QueueSt) : (s.setQueue q x).i3cs = s.i3cs := rfl
@[simp] theorem State.setQueue_engines (q : Nat) (x : QueueSt) : (s.setQueue q x).engines = s.engines := rfl
@[simp] theorem State.setQueue_ctxCache (q : Nat) (x : QueueSt) : (s.setQueue q x).ctxCache = s.ctxCache := rfl
@[simp] theorem State.setQueue_ctxFreed (q : Nat) (x : QueueSt) : (s.setQueue q x).ctxFreed = s.ctxFreed := rfl
@[simp] theorem State.setQueue_ctxUndef (q : Nat) (x : QueueSt) : (s.setQueue q x).ctxUndef = s.ctxUndef := rfl
@[simp] theorem State.setQueue_netReply (q : Nat) (x : QueueSt) : (s.setQueue q x).netReply = s.netReply := rfl
@[simp] theorem State.setQueue_umbra (q : Nat) (x : QueueSt) : (s.setQueue q x).umbra = s.umbra := rfl
@[simp] theorem State.setQueue_faults (q : Nat) (x : QueueSt) : (s.setQueue q x).faults = s.faults := rfl
@[simp] theorem State.setQueue_scrubs (q : Nat) (x : QueueSt) : (s.setQueue q x).scrubs = s.scrubs := rfl
@[simp] theorem State.setQueue_sec (q : Nat) (x : QueueSt) : (s.setQueue q x).sec = s.sec := rfl
@[simp] theorem State.setQueue_avs (q : Nat) (x : QueueSt) : (s.setQueue q x).avs = s.avs := rfl
@[simp] theorem State.setQueue_jtag (q : Nat) (x : QueueSt) : (s.setQueue q x).jtag = s.jtag := rfl
@[simp] theorem State.setQueue_env (q : Nat) (x : QueueSt) : (s.setQueue q x).env = s.env := rfl
@[simp] theorem State.setQueue_railBad (q : Nat) (x : QueueSt) : (s.setQueue q x).railBad = s.railBad := rfl
@[simp] theorem State.setQueue_frames (q : Nat) (x : QueueSt) : (s.setQueue q x).frames = s.frames := rfl
@[simp] theorem State.setQueue_frames2 (q : Nat) (x : QueueSt) : (s.setQueue q x).frames2 = s.frames2 := rfl
@[simp] theorem State.setQueue_ddr (q : Nat) (x : QueueSt) : (s.setQueue q x).ddr = s.ddr := rfl
@[simp] theorem State.setQueue_fscratch (q : Nat) (x : QueueSt) : (s.setQueue q x).fscratch = s.fscratch := rfl
@[simp] theorem State.setQueue_scrPrev (q : Nat) (x : QueueSt) : (s.setQueue q x).scrPrev = s.scrPrev := rfl
@[simp] theorem State.setQueue_hostMem (q : Nat) (x : QueueSt) : (s.setQueue q x).hostMem = s.hostMem := rfl
@[simp] theorem State.setQueue_free (q : Nat) (x : QueueSt) : (s.setQueue q x).free = s.free := rfl
@[simp] theorem State.setQueue_pending (q : Nat) (x : QueueSt) : (s.setQueue q x).pending = s.pending := rfl

/-! ### `putTask` -/

@[simp] theorem State.putTask_now (k : Task) : (s.putTask k).now = s.now := rfl
@[simp] theorem State.putTask_resetN (k : Task) : (s.putTask k).resetN = s.resetN := rfl
@[simp] theorem State.putTask_stopped (k : Task) : (s.putTask k).stopped = s.stopped := rfl
@[simp] theorem State.putTask_tick (k : Task) : (s.putTask k).tick = s.tick := rfl
@[simp] theorem State.putTask_dict (k : Task) : (s.putTask k).dict = s.dict := rfl
@[simp] theorem State.putTask_plans (k : Task) : (s.putTask k).plans = s.plans := rfl
@[simp] theorem State.putTask_fns (k : Task) : (s.putTask k).fns = s.fns := rfl
@[simp] theorem State.putTask_link (k : Task) : (s.putTask k).link = s.link := rfl
@[simp] theorem State.putTask_seen (k : Task) : (s.putTask k).seen = s.seen := rfl
@[simp] theorem State.putTask_can (k : Task) : (s.putTask k).can = s.can := rfl
@[simp] theorem State.putTask_fw (k : Task) : (s.putTask k).fw = s.fw := rfl
@[simp] theorem State.putTask_elog (k : Task) : (s.putTask k).elog = s.elog := rfl
@[simp] theorem State.putTask_pads (k : Task) : (s.putTask k).pads = s.pads := rfl
@[simp] theorem State.putTask_cores (k : Task) : (s.putTask k).cores = s.cores := rfl
@[simp] theorem State.putTask_nextId (k : Task) : (s.putTask k).nextId = s.nextId := rfl
@[simp] theorem State.putTask_idleAt (k : Task) : (s.putTask k).idleAt = s.idleAt := rfl
@[simp] theorem State.putTask_quotaWait (k : Task) : (s.putTask k).quotaWait = s.quotaWait := rfl
@[simp] theorem State.putTask_winDone (k : Task) : (s.putTask k).winDone = s.winDone := rfl
@[simp] theorem State.putTask_queues (k : Task) : (s.putTask k).queues = s.queues := rfl
@[simp] theorem State.putTask_chans (k : Task) : (s.putTask k).chans = s.chans := rfl
@[simp] theorem State.putTask_dmas (k : Task) : (s.putTask k).dmas = s.dmas := rfl
@[simp] theorem State.putTask_ports (k : Task) : (s.putTask k).ports = s.ports := rfl
@[simp] theorem State.putTask_streams (k : Task) : (s.putTask k).streams = s.streams := rfl
@[simp] theorem State.putTask_i3cs (k : Task) : (s.putTask k).i3cs = s.i3cs := rfl
@[simp] theorem State.putTask_engines (k : Task) : (s.putTask k).engines = s.engines := rfl
@[simp] theorem State.putTask_ctxCache (k : Task) : (s.putTask k).ctxCache = s.ctxCache := rfl
@[simp] theorem State.putTask_ctxFreed (k : Task) : (s.putTask k).ctxFreed = s.ctxFreed := rfl
@[simp] theorem State.putTask_ctxUndef (k : Task) : (s.putTask k).ctxUndef = s.ctxUndef := rfl
@[simp] theorem State.putTask_netReply (k : Task) : (s.putTask k).netReply = s.netReply := rfl
@[simp] theorem State.putTask_umbra (k : Task) : (s.putTask k).umbra = s.umbra := rfl
@[simp] theorem State.putTask_faults (k : Task) : (s.putTask k).faults = s.faults := rfl
@[simp] theorem State.putTask_scrubs (k : Task) : (s.putTask k).scrubs = s.scrubs := rfl
@[simp] theorem State.putTask_sec (k : Task) : (s.putTask k).sec = s.sec := rfl
@[simp] theorem State.putTask_avs (k : Task) : (s.putTask k).avs = s.avs := rfl
@[simp] theorem State.putTask_jtag (k : Task) : (s.putTask k).jtag = s.jtag := rfl
@[simp] theorem State.putTask_env (k : Task) : (s.putTask k).env = s.env := rfl
@[simp] theorem State.putTask_railBad (k : Task) : (s.putTask k).railBad = s.railBad := rfl
@[simp] theorem State.putTask_frames (k : Task) : (s.putTask k).frames = s.frames := rfl
@[simp] theorem State.putTask_frames2 (k : Task) : (s.putTask k).frames2 = s.frames2 := rfl
@[simp] theorem State.putTask_ddr (k : Task) : (s.putTask k).ddr = s.ddr := rfl
@[simp] theorem State.putTask_fscratch (k : Task) : (s.putTask k).fscratch = s.fscratch := rfl
@[simp] theorem State.putTask_scrPrev (k : Task) : (s.putTask k).scrPrev = s.scrPrev := rfl
@[simp] theorem State.putTask_hostMem (k : Task) : (s.putTask k).hostMem = s.hostMem := rfl
@[simp] theorem State.putTask_free (k : Task) : (s.putTask k).free = s.free := rfl
@[simp] theorem State.putTask_pending (k : Task) : (s.putTask k).pending = s.pending := rfl

/-! ### `setChan` -/

@[simp] theorem State.setChan_now (u c : Nat) (x : Chan) : (s.setChan u c x).now = s.now := rfl
@[simp] theorem State.setChan_resetN (u c : Nat) (x : Chan) : (s.setChan u c x).resetN = s.resetN := rfl
@[simp] theorem State.setChan_stopped (u c : Nat) (x : Chan) : (s.setChan u c x).stopped = s.stopped := rfl
@[simp] theorem State.setChan_tick (u c : Nat) (x : Chan) : (s.setChan u c x).tick = s.tick := rfl
@[simp] theorem State.setChan_dict (u c : Nat) (x : Chan) : (s.setChan u c x).dict = s.dict := rfl
@[simp] theorem State.setChan_plans (u c : Nat) (x : Chan) : (s.setChan u c x).plans = s.plans := rfl
@[simp] theorem State.setChan_fns (u c : Nat) (x : Chan) : (s.setChan u c x).fns = s.fns := rfl
@[simp] theorem State.setChan_link (u c : Nat) (x : Chan) : (s.setChan u c x).link = s.link := rfl
@[simp] theorem State.setChan_seen (u c : Nat) (x : Chan) : (s.setChan u c x).seen = s.seen := rfl
@[simp] theorem State.setChan_can (u c : Nat) (x : Chan) : (s.setChan u c x).can = s.can := rfl
@[simp] theorem State.setChan_fw (u c : Nat) (x : Chan) : (s.setChan u c x).fw = s.fw := rfl
@[simp] theorem State.setChan_elog (u c : Nat) (x : Chan) : (s.setChan u c x).elog = s.elog := rfl
@[simp] theorem State.setChan_pads (u c : Nat) (x : Chan) : (s.setChan u c x).pads = s.pads := rfl
@[simp] theorem State.setChan_cores (u c : Nat) (x : Chan) : (s.setChan u c x).cores = s.cores := rfl
@[simp] theorem State.setChan_tasks (u c : Nat) (x : Chan) : (s.setChan u c x).tasks = s.tasks := rfl
@[simp] theorem State.setChan_nextId (u c : Nat) (x : Chan) : (s.setChan u c x).nextId = s.nextId := rfl
@[simp] theorem State.setChan_idleAt (u c : Nat) (x : Chan) : (s.setChan u c x).idleAt = s.idleAt := rfl
@[simp] theorem State.setChan_quotaWait (u c : Nat) (x : Chan) : (s.setChan u c x).quotaWait = s.quotaWait := rfl
@[simp] theorem State.setChan_winDone (u c : Nat) (x : Chan) : (s.setChan u c x).winDone = s.winDone := rfl
@[simp] theorem State.setChan_queues (u c : Nat) (x : Chan) : (s.setChan u c x).queues = s.queues := rfl
@[simp] theorem State.setChan_dmas (u c : Nat) (x : Chan) : (s.setChan u c x).dmas = s.dmas := rfl
@[simp] theorem State.setChan_ports (u c : Nat) (x : Chan) : (s.setChan u c x).ports = s.ports := rfl
@[simp] theorem State.setChan_streams (u c : Nat) (x : Chan) : (s.setChan u c x).streams = s.streams := rfl
@[simp] theorem State.setChan_i3cs (u c : Nat) (x : Chan) : (s.setChan u c x).i3cs = s.i3cs := rfl
@[simp] theorem State.setChan_engines (u c : Nat) (x : Chan) : (s.setChan u c x).engines = s.engines := rfl
@[simp] theorem State.setChan_ctxCache (u c : Nat) (x : Chan) : (s.setChan u c x).ctxCache = s.ctxCache := rfl
@[simp] theorem State.setChan_ctxFreed (u c : Nat) (x : Chan) : (s.setChan u c x).ctxFreed = s.ctxFreed := rfl
@[simp] theorem State.setChan_ctxUndef (u c : Nat) (x : Chan) : (s.setChan u c x).ctxUndef = s.ctxUndef := rfl
@[simp] theorem State.setChan_netReply (u c : Nat) (x : Chan) : (s.setChan u c x).netReply = s.netReply := rfl
@[simp] theorem State.setChan_umbra (u c : Nat) (x : Chan) : (s.setChan u c x).umbra = s.umbra := rfl
@[simp] theorem State.setChan_faults (u c : Nat) (x : Chan) : (s.setChan u c x).faults = s.faults := rfl
@[simp] theorem State.setChan_scrubs (u c : Nat) (x : Chan) : (s.setChan u c x).scrubs = s.scrubs := rfl
@[simp] theorem State.setChan_sec (u c : Nat) (x : Chan) : (s.setChan u c x).sec = s.sec := rfl
@[simp] theorem State.setChan_avs (u c : Nat) (x : Chan) : (s.setChan u c x).avs = s.avs := rfl
@[simp] theorem State.setChan_jtag (u c : Nat) (x : Chan) : (s.setChan u c x).jtag = s.jtag := rfl
@[simp] theorem State.setChan_env (u c : Nat) (x : Chan) : (s.setChan u c x).env = s.env := rfl
@[simp] theorem State.setChan_railBad (u c : Nat) (x : Chan) : (s.setChan u c x).railBad = s.railBad := rfl
@[simp] theorem State.setChan_frames (u c : Nat) (x : Chan) : (s.setChan u c x).frames = s.frames := rfl
@[simp] theorem State.setChan_frames2 (u c : Nat) (x : Chan) : (s.setChan u c x).frames2 = s.frames2 := rfl
@[simp] theorem State.setChan_ddr (u c : Nat) (x : Chan) : (s.setChan u c x).ddr = s.ddr := rfl
@[simp] theorem State.setChan_fscratch (u c : Nat) (x : Chan) : (s.setChan u c x).fscratch = s.fscratch := rfl
@[simp] theorem State.setChan_scrPrev (u c : Nat) (x : Chan) : (s.setChan u c x).scrPrev = s.scrPrev := rfl
@[simp] theorem State.setChan_hostMem (u c : Nat) (x : Chan) : (s.setChan u c x).hostMem = s.hostMem := rfl
@[simp] theorem State.setChan_free (u c : Nat) (x : Chan) : (s.setChan u c x).free = s.free := rfl
@[simp] theorem State.setChan_pending (u c : Nat) (x : Chan) : (s.setChan u c x).pending = s.pending := rfl

/-! ### `setDma` -/

@[simp] theorem State.setDma_now (u : Nat) (x : DmaSt) : (s.setDma u x).now = s.now := rfl
@[simp] theorem State.setDma_resetN (u : Nat) (x : DmaSt) : (s.setDma u x).resetN = s.resetN := rfl
@[simp] theorem State.setDma_stopped (u : Nat) (x : DmaSt) : (s.setDma u x).stopped = s.stopped := rfl
@[simp] theorem State.setDma_tick (u : Nat) (x : DmaSt) : (s.setDma u x).tick = s.tick := rfl
@[simp] theorem State.setDma_dict (u : Nat) (x : DmaSt) : (s.setDma u x).dict = s.dict := rfl
@[simp] theorem State.setDma_plans (u : Nat) (x : DmaSt) : (s.setDma u x).plans = s.plans := rfl
@[simp] theorem State.setDma_fns (u : Nat) (x : DmaSt) : (s.setDma u x).fns = s.fns := rfl
@[simp] theorem State.setDma_link (u : Nat) (x : DmaSt) : (s.setDma u x).link = s.link := rfl
@[simp] theorem State.setDma_seen (u : Nat) (x : DmaSt) : (s.setDma u x).seen = s.seen := rfl
@[simp] theorem State.setDma_can (u : Nat) (x : DmaSt) : (s.setDma u x).can = s.can := rfl
@[simp] theorem State.setDma_fw (u : Nat) (x : DmaSt) : (s.setDma u x).fw = s.fw := rfl
@[simp] theorem State.setDma_elog (u : Nat) (x : DmaSt) : (s.setDma u x).elog = s.elog := rfl
@[simp] theorem State.setDma_pads (u : Nat) (x : DmaSt) : (s.setDma u x).pads = s.pads := rfl
@[simp] theorem State.setDma_cores (u : Nat) (x : DmaSt) : (s.setDma u x).cores = s.cores := rfl
@[simp] theorem State.setDma_tasks (u : Nat) (x : DmaSt) : (s.setDma u x).tasks = s.tasks := rfl
@[simp] theorem State.setDma_nextId (u : Nat) (x : DmaSt) : (s.setDma u x).nextId = s.nextId := rfl
@[simp] theorem State.setDma_idleAt (u : Nat) (x : DmaSt) : (s.setDma u x).idleAt = s.idleAt := rfl
@[simp] theorem State.setDma_quotaWait (u : Nat) (x : DmaSt) : (s.setDma u x).quotaWait = s.quotaWait := rfl
@[simp] theorem State.setDma_winDone (u : Nat) (x : DmaSt) : (s.setDma u x).winDone = s.winDone := rfl
@[simp] theorem State.setDma_queues (u : Nat) (x : DmaSt) : (s.setDma u x).queues = s.queues := rfl
@[simp] theorem State.setDma_chans (u : Nat) (x : DmaSt) : (s.setDma u x).chans = s.chans := rfl
@[simp] theorem State.setDma_ports (u : Nat) (x : DmaSt) : (s.setDma u x).ports = s.ports := rfl
@[simp] theorem State.setDma_streams (u : Nat) (x : DmaSt) : (s.setDma u x).streams = s.streams := rfl
@[simp] theorem State.setDma_i3cs (u : Nat) (x : DmaSt) : (s.setDma u x).i3cs = s.i3cs := rfl
@[simp] theorem State.setDma_engines (u : Nat) (x : DmaSt) : (s.setDma u x).engines = s.engines := rfl
@[simp] theorem State.setDma_ctxCache (u : Nat) (x : DmaSt) : (s.setDma u x).ctxCache = s.ctxCache := rfl
@[simp] theorem State.setDma_ctxFreed (u : Nat) (x : DmaSt) : (s.setDma u x).ctxFreed = s.ctxFreed := rfl
@[simp] theorem State.setDma_ctxUndef (u : Nat) (x : DmaSt) : (s.setDma u x).ctxUndef = s.ctxUndef := rfl
@[simp] theorem State.setDma_netReply (u : Nat) (x : DmaSt) : (s.setDma u x).netReply = s.netReply := rfl
@[simp] theorem State.setDma_umbra (u : Nat) (x : DmaSt) : (s.setDma u x).umbra = s.umbra := rfl
@[simp] theorem State.setDma_faults (u : Nat) (x : DmaSt) : (s.setDma u x).faults = s.faults := rfl
@[simp] theorem State.setDma_scrubs (u : Nat) (x : DmaSt) : (s.setDma u x).scrubs = s.scrubs := rfl
@[simp] theorem State.setDma_sec (u : Nat) (x : DmaSt) : (s.setDma u x).sec = s.sec := rfl
@[simp] theorem State.setDma_avs (u : Nat) (x : DmaSt) : (s.setDma u x).avs = s.avs := rfl
@[simp] theorem State.setDma_jtag (u : Nat) (x : DmaSt) : (s.setDma u x).jtag = s.jtag := rfl
@[simp] theorem State.setDma_env (u : Nat) (x : DmaSt) : (s.setDma u x).env = s.env := rfl
@[simp] theorem State.setDma_railBad (u : Nat) (x : DmaSt) : (s.setDma u x).railBad = s.railBad := rfl
@[simp] theorem State.setDma_frames (u : Nat) (x : DmaSt) : (s.setDma u x).frames = s.frames := rfl
@[simp] theorem State.setDma_frames2 (u : Nat) (x : DmaSt) : (s.setDma u x).frames2 = s.frames2 := rfl
@[simp] theorem State.setDma_ddr (u : Nat) (x : DmaSt) : (s.setDma u x).ddr = s.ddr := rfl
@[simp] theorem State.setDma_fscratch (u : Nat) (x : DmaSt) : (s.setDma u x).fscratch = s.fscratch := rfl
@[simp] theorem State.setDma_scrPrev (u : Nat) (x : DmaSt) : (s.setDma u x).scrPrev = s.scrPrev := rfl
@[simp] theorem State.setDma_hostMem (u : Nat) (x : DmaSt) : (s.setDma u x).hostMem = s.hostMem := rfl
@[simp] theorem State.setDma_free (u : Nat) (x : DmaSt) : (s.setDma u x).free = s.free := rfl
@[simp] theorem State.setDma_pending (u : Nat) (x : DmaSt) : (s.setDma u x).pending = s.pending := rfl

/-! ### `setPort` -/

@[simp] theorem State.setPort_now (n : Nat) (x : PortSt) : (s.setPort n x).now = s.now := rfl
@[simp] theorem State.setPort_resetN (n : Nat) (x : PortSt) : (s.setPort n x).resetN = s.resetN := rfl
@[simp] theorem State.setPort_stopped (n : Nat) (x : PortSt) : (s.setPort n x).stopped = s.stopped := rfl
@[simp] theorem State.setPort_tick (n : Nat) (x : PortSt) : (s.setPort n x).tick = s.tick := rfl
@[simp] theorem State.setPort_dict (n : Nat) (x : PortSt) : (s.setPort n x).dict = s.dict := rfl
@[simp] theorem State.setPort_plans (n : Nat) (x : PortSt) : (s.setPort n x).plans = s.plans := rfl
@[simp] theorem State.setPort_fns (n : Nat) (x : PortSt) : (s.setPort n x).fns = s.fns := rfl
@[simp] theorem State.setPort_link (n : Nat) (x : PortSt) : (s.setPort n x).link = s.link := rfl
@[simp] theorem State.setPort_seen (n : Nat) (x : PortSt) : (s.setPort n x).seen = s.seen := rfl
@[simp] theorem State.setPort_can (n : Nat) (x : PortSt) : (s.setPort n x).can = s.can := rfl
@[simp] theorem State.setPort_fw (n : Nat) (x : PortSt) : (s.setPort n x).fw = s.fw := rfl
@[simp] theorem State.setPort_elog (n : Nat) (x : PortSt) : (s.setPort n x).elog = s.elog := rfl
@[simp] theorem State.setPort_pads (n : Nat) (x : PortSt) : (s.setPort n x).pads = s.pads := rfl
@[simp] theorem State.setPort_cores (n : Nat) (x : PortSt) : (s.setPort n x).cores = s.cores := rfl
@[simp] theorem State.setPort_tasks (n : Nat) (x : PortSt) : (s.setPort n x).tasks = s.tasks := rfl
@[simp] theorem State.setPort_nextId (n : Nat) (x : PortSt) : (s.setPort n x).nextId = s.nextId := rfl
@[simp] theorem State.setPort_idleAt (n : Nat) (x : PortSt) : (s.setPort n x).idleAt = s.idleAt := rfl
@[simp] theorem State.setPort_quotaWait (n : Nat) (x : PortSt) : (s.setPort n x).quotaWait = s.quotaWait := rfl
@[simp] theorem State.setPort_winDone (n : Nat) (x : PortSt) : (s.setPort n x).winDone = s.winDone := rfl
@[simp] theorem State.setPort_queues (n : Nat) (x : PortSt) : (s.setPort n x).queues = s.queues := rfl
@[simp] theorem State.setPort_chans (n : Nat) (x : PortSt) : (s.setPort n x).chans = s.chans := rfl
@[simp] theorem State.setPort_dmas (n : Nat) (x : PortSt) : (s.setPort n x).dmas = s.dmas := rfl
@[simp] theorem State.setPort_streams (n : Nat) (x : PortSt) : (s.setPort n x).streams = s.streams := rfl
@[simp] theorem State.setPort_i3cs (n : Nat) (x : PortSt) : (s.setPort n x).i3cs = s.i3cs := rfl
@[simp] theorem State.setPort_engines (n : Nat) (x : PortSt) : (s.setPort n x).engines = s.engines := rfl
@[simp] theorem State.setPort_ctxCache (n : Nat) (x : PortSt) : (s.setPort n x).ctxCache = s.ctxCache := rfl
@[simp] theorem State.setPort_ctxFreed (n : Nat) (x : PortSt) : (s.setPort n x).ctxFreed = s.ctxFreed := rfl
@[simp] theorem State.setPort_ctxUndef (n : Nat) (x : PortSt) : (s.setPort n x).ctxUndef = s.ctxUndef := rfl
@[simp] theorem State.setPort_netReply (n : Nat) (x : PortSt) : (s.setPort n x).netReply = s.netReply := rfl
@[simp] theorem State.setPort_umbra (n : Nat) (x : PortSt) : (s.setPort n x).umbra = s.umbra := rfl
@[simp] theorem State.setPort_faults (n : Nat) (x : PortSt) : (s.setPort n x).faults = s.faults := rfl
@[simp] theorem State.setPort_scrubs (n : Nat) (x : PortSt) : (s.setPort n x).scrubs = s.scrubs := rfl
@[simp] theorem State.setPort_sec (n : Nat) (x : PortSt) : (s.setPort n x).sec = s.sec := rfl
@[simp] theorem State.setPort_avs (n : Nat) (x : PortSt) : (s.setPort n x).avs = s.avs := rfl
@[simp] theorem State.setPort_jtag (n : Nat) (x : PortSt) : (s.setPort n x).jtag = s.jtag := rfl
@[simp] theorem State.setPort_env (n : Nat) (x : PortSt) : (s.setPort n x).env = s.env := rfl
@[simp] theorem State.setPort_railBad (n : Nat) (x : PortSt) : (s.setPort n x).railBad = s.railBad := rfl
@[simp] theorem State.setPort_frames (n : Nat) (x : PortSt) : (s.setPort n x).frames = s.frames := rfl
@[simp] theorem State.setPort_frames2 (n : Nat) (x : PortSt) : (s.setPort n x).frames2 = s.frames2 := rfl
@[simp] theorem State.setPort_ddr (n : Nat) (x : PortSt) : (s.setPort n x).ddr = s.ddr := rfl
@[simp] theorem State.setPort_fscratch (n : Nat) (x : PortSt) : (s.setPort n x).fscratch = s.fscratch := rfl
@[simp] theorem State.setPort_scrPrev (n : Nat) (x : PortSt) : (s.setPort n x).scrPrev = s.scrPrev := rfl
@[simp] theorem State.setPort_hostMem (n : Nat) (x : PortSt) : (s.setPort n x).hostMem = s.hostMem := rfl
@[simp] theorem State.setPort_free (n : Nat) (x : PortSt) : (s.setPort n x).free = s.free := rfl
@[simp] theorem State.setPort_pending (n : Nat) (x : PortSt) : (s.setPort n x).pending = s.pending := rfl

/-! ### `setStream` -/

@[simp] theorem State.setStream_now (n : Nat) (x : StreamSt) : (s.setStream n x).now = s.now := rfl
@[simp] theorem State.setStream_resetN (n : Nat) (x : StreamSt) : (s.setStream n x).resetN = s.resetN := rfl
@[simp] theorem State.setStream_stopped (n : Nat) (x : StreamSt) : (s.setStream n x).stopped = s.stopped := rfl
@[simp] theorem State.setStream_tick (n : Nat) (x : StreamSt) : (s.setStream n x).tick = s.tick := rfl
@[simp] theorem State.setStream_dict (n : Nat) (x : StreamSt) : (s.setStream n x).dict = s.dict := rfl
@[simp] theorem State.setStream_plans (n : Nat) (x : StreamSt) : (s.setStream n x).plans = s.plans := rfl
@[simp] theorem State.setStream_fns (n : Nat) (x : StreamSt) : (s.setStream n x).fns = s.fns := rfl
@[simp] theorem State.setStream_link (n : Nat) (x : StreamSt) : (s.setStream n x).link = s.link := rfl
@[simp] theorem State.setStream_seen (n : Nat) (x : StreamSt) : (s.setStream n x).seen = s.seen := rfl
@[simp] theorem State.setStream_can (n : Nat) (x : StreamSt) : (s.setStream n x).can = s.can := rfl
@[simp] theorem State.setStream_fw (n : Nat) (x : StreamSt) : (s.setStream n x).fw = s.fw := rfl
@[simp] theorem State.setStream_elog (n : Nat) (x : StreamSt) : (s.setStream n x).elog = s.elog := rfl
@[simp] theorem State.setStream_pads (n : Nat) (x : StreamSt) : (s.setStream n x).pads = s.pads := rfl
@[simp] theorem State.setStream_cores (n : Nat) (x : StreamSt) : (s.setStream n x).cores = s.cores := rfl
@[simp] theorem State.setStream_tasks (n : Nat) (x : StreamSt) : (s.setStream n x).tasks = s.tasks := rfl
@[simp] theorem State.setStream_nextId (n : Nat) (x : StreamSt) : (s.setStream n x).nextId = s.nextId := rfl
@[simp] theorem State.setStream_idleAt (n : Nat) (x : StreamSt) : (s.setStream n x).idleAt = s.idleAt := rfl
@[simp] theorem State.setStream_quotaWait (n : Nat) (x : StreamSt) : (s.setStream n x).quotaWait = s.quotaWait := rfl
@[simp] theorem State.setStream_winDone (n : Nat) (x : StreamSt) : (s.setStream n x).winDone = s.winDone := rfl
@[simp] theorem State.setStream_queues (n : Nat) (x : StreamSt) : (s.setStream n x).queues = s.queues := rfl
@[simp] theorem State.setStream_chans (n : Nat) (x : StreamSt) : (s.setStream n x).chans = s.chans := rfl
@[simp] theorem State.setStream_dmas (n : Nat) (x : StreamSt) : (s.setStream n x).dmas = s.dmas := rfl
@[simp] theorem State.setStream_ports (n : Nat) (x : StreamSt) : (s.setStream n x).ports = s.ports := rfl
@[simp] theorem State.setStream_i3cs (n : Nat) (x : StreamSt) : (s.setStream n x).i3cs = s.i3cs := rfl
@[simp] theorem State.setStream_engines (n : Nat) (x : StreamSt) : (s.setStream n x).engines = s.engines := rfl
@[simp] theorem State.setStream_ctxCache (n : Nat) (x : StreamSt) : (s.setStream n x).ctxCache = s.ctxCache := rfl
@[simp] theorem State.setStream_ctxFreed (n : Nat) (x : StreamSt) : (s.setStream n x).ctxFreed = s.ctxFreed := rfl
@[simp] theorem State.setStream_ctxUndef (n : Nat) (x : StreamSt) : (s.setStream n x).ctxUndef = s.ctxUndef := rfl
@[simp] theorem State.setStream_netReply (n : Nat) (x : StreamSt) : (s.setStream n x).netReply = s.netReply := rfl
@[simp] theorem State.setStream_umbra (n : Nat) (x : StreamSt) : (s.setStream n x).umbra = s.umbra := rfl
@[simp] theorem State.setStream_faults (n : Nat) (x : StreamSt) : (s.setStream n x).faults = s.faults := rfl
@[simp] theorem State.setStream_scrubs (n : Nat) (x : StreamSt) : (s.setStream n x).scrubs = s.scrubs := rfl
@[simp] theorem State.setStream_sec (n : Nat) (x : StreamSt) : (s.setStream n x).sec = s.sec := rfl
@[simp] theorem State.setStream_avs (n : Nat) (x : StreamSt) : (s.setStream n x).avs = s.avs := rfl
@[simp] theorem State.setStream_jtag (n : Nat) (x : StreamSt) : (s.setStream n x).jtag = s.jtag := rfl
@[simp] theorem State.setStream_env (n : Nat) (x : StreamSt) : (s.setStream n x).env = s.env := rfl
@[simp] theorem State.setStream_railBad (n : Nat) (x : StreamSt) : (s.setStream n x).railBad = s.railBad := rfl
@[simp] theorem State.setStream_frames (n : Nat) (x : StreamSt) : (s.setStream n x).frames = s.frames := rfl
@[simp] theorem State.setStream_frames2 (n : Nat) (x : StreamSt) : (s.setStream n x).frames2 = s.frames2 := rfl
@[simp] theorem State.setStream_ddr (n : Nat) (x : StreamSt) : (s.setStream n x).ddr = s.ddr := rfl
@[simp] theorem State.setStream_fscratch (n : Nat) (x : StreamSt) : (s.setStream n x).fscratch = s.fscratch := rfl
@[simp] theorem State.setStream_scrPrev (n : Nat) (x : StreamSt) : (s.setStream n x).scrPrev = s.scrPrev := rfl
@[simp] theorem State.setStream_hostMem (n : Nat) (x : StreamSt) : (s.setStream n x).hostMem = s.hostMem := rfl
@[simp] theorem State.setStream_free (n : Nat) (x : StreamSt) : (s.setStream n x).free = s.free := rfl
@[simp] theorem State.setStream_pending (n : Nat) (x : StreamSt) : (s.setStream n x).pending = s.pending := rfl

/-! ### `setI3c` -/

@[simp] theorem State.setI3c_now (n : Nat) (x : I3cSt) : (s.setI3c n x).now = s.now := rfl
@[simp] theorem State.setI3c_resetN (n : Nat) (x : I3cSt) : (s.setI3c n x).resetN = s.resetN := rfl
@[simp] theorem State.setI3c_stopped (n : Nat) (x : I3cSt) : (s.setI3c n x).stopped = s.stopped := rfl
@[simp] theorem State.setI3c_tick (n : Nat) (x : I3cSt) : (s.setI3c n x).tick = s.tick := rfl
@[simp] theorem State.setI3c_dict (n : Nat) (x : I3cSt) : (s.setI3c n x).dict = s.dict := rfl
@[simp] theorem State.setI3c_plans (n : Nat) (x : I3cSt) : (s.setI3c n x).plans = s.plans := rfl
@[simp] theorem State.setI3c_fns (n : Nat) (x : I3cSt) : (s.setI3c n x).fns = s.fns := rfl
@[simp] theorem State.setI3c_link (n : Nat) (x : I3cSt) : (s.setI3c n x).link = s.link := rfl
@[simp] theorem State.setI3c_seen (n : Nat) (x : I3cSt) : (s.setI3c n x).seen = s.seen := rfl
@[simp] theorem State.setI3c_can (n : Nat) (x : I3cSt) : (s.setI3c n x).can = s.can := rfl
@[simp] theorem State.setI3c_fw (n : Nat) (x : I3cSt) : (s.setI3c n x).fw = s.fw := rfl
@[simp] theorem State.setI3c_elog (n : Nat) (x : I3cSt) : (s.setI3c n x).elog = s.elog := rfl
@[simp] theorem State.setI3c_pads (n : Nat) (x : I3cSt) : (s.setI3c n x).pads = s.pads := rfl
@[simp] theorem State.setI3c_cores (n : Nat) (x : I3cSt) : (s.setI3c n x).cores = s.cores := rfl
@[simp] theorem State.setI3c_tasks (n : Nat) (x : I3cSt) : (s.setI3c n x).tasks = s.tasks := rfl
@[simp] theorem State.setI3c_nextId (n : Nat) (x : I3cSt) : (s.setI3c n x).nextId = s.nextId := rfl
@[simp] theorem State.setI3c_idleAt (n : Nat) (x : I3cSt) : (s.setI3c n x).idleAt = s.idleAt := rfl
@[simp] theorem State.setI3c_quotaWait (n : Nat) (x : I3cSt) : (s.setI3c n x).quotaWait = s.quotaWait := rfl
@[simp] theorem State.setI3c_winDone (n : Nat) (x : I3cSt) : (s.setI3c n x).winDone = s.winDone := rfl
@[simp] theorem State.setI3c_queues (n : Nat) (x : I3cSt) : (s.setI3c n x).queues = s.queues := rfl
@[simp] theorem State.setI3c_chans (n : Nat) (x : I3cSt) : (s.setI3c n x).chans = s.chans := rfl
@[simp] theorem State.setI3c_dmas (n : Nat) (x : I3cSt) : (s.setI3c n x).dmas = s.dmas := rfl
@[simp] theorem State.setI3c_ports (n : Nat) (x : I3cSt) : (s.setI3c n x).ports = s.ports := rfl
@[simp] theorem State.setI3c_streams (n : Nat) (x : I3cSt) : (s.setI3c n x).streams = s.streams := rfl
@[simp] theorem State.setI3c_engines (n : Nat) (x : I3cSt) : (s.setI3c n x).engines = s.engines := rfl
@[simp] theorem State.setI3c_ctxCache (n : Nat) (x : I3cSt) : (s.setI3c n x).ctxCache = s.ctxCache := rfl
@[simp] theorem State.setI3c_ctxFreed (n : Nat) (x : I3cSt) : (s.setI3c n x).ctxFreed = s.ctxFreed := rfl
@[simp] theorem State.setI3c_ctxUndef (n : Nat) (x : I3cSt) : (s.setI3c n x).ctxUndef = s.ctxUndef := rfl
@[simp] theorem State.setI3c_netReply (n : Nat) (x : I3cSt) : (s.setI3c n x).netReply = s.netReply := rfl
@[simp] theorem State.setI3c_umbra (n : Nat) (x : I3cSt) : (s.setI3c n x).umbra = s.umbra := rfl
@[simp] theorem State.setI3c_faults (n : Nat) (x : I3cSt) : (s.setI3c n x).faults = s.faults := rfl
@[simp] theorem State.setI3c_scrubs (n : Nat) (x : I3cSt) : (s.setI3c n x).scrubs = s.scrubs := rfl
@[simp] theorem State.setI3c_sec (n : Nat) (x : I3cSt) : (s.setI3c n x).sec = s.sec := rfl
@[simp] theorem State.setI3c_avs (n : Nat) (x : I3cSt) : (s.setI3c n x).avs = s.avs := rfl
@[simp] theorem State.setI3c_jtag (n : Nat) (x : I3cSt) : (s.setI3c n x).jtag = s.jtag := rfl
@[simp] theorem State.setI3c_env (n : Nat) (x : I3cSt) : (s.setI3c n x).env = s.env := rfl
@[simp] theorem State.setI3c_railBad (n : Nat) (x : I3cSt) : (s.setI3c n x).railBad = s.railBad := rfl
@[simp] theorem State.setI3c_frames (n : Nat) (x : I3cSt) : (s.setI3c n x).frames = s.frames := rfl
@[simp] theorem State.setI3c_frames2 (n : Nat) (x : I3cSt) : (s.setI3c n x).frames2 = s.frames2 := rfl
@[simp] theorem State.setI3c_ddr (n : Nat) (x : I3cSt) : (s.setI3c n x).ddr = s.ddr := rfl
@[simp] theorem State.setI3c_fscratch (n : Nat) (x : I3cSt) : (s.setI3c n x).fscratch = s.fscratch := rfl
@[simp] theorem State.setI3c_scrPrev (n : Nat) (x : I3cSt) : (s.setI3c n x).scrPrev = s.scrPrev := rfl
@[simp] theorem State.setI3c_hostMem (n : Nat) (x : I3cSt) : (s.setI3c n x).hostMem = s.hostMem := rfl
@[simp] theorem State.setI3c_free (n : Nat) (x : I3cSt) : (s.setI3c n x).free = s.free := rfl
@[simp] theorem State.setI3c_pending (n : Nat) (x : I3cSt) : (s.setI3c n x).pending = s.pending := rfl

/-! ### `setEng` -/

@[simp] theorem State.setEng_now (e : Nat) (x : EngSt) : (s.setEng e x).now = s.now := rfl
@[simp] theorem State.setEng_resetN (e : Nat) (x : EngSt) : (s.setEng e x).resetN = s.resetN := rfl
@[simp] theorem State.setEng_stopped (e : Nat) (x : EngSt) : (s.setEng e x).stopped = s.stopped := rfl
@[simp] theorem State.setEng_tick (e : Nat) (x : EngSt) : (s.setEng e x).tick = s.tick := rfl
@[simp] theorem State.setEng_dict (e : Nat) (x : EngSt) : (s.setEng e x).dict = s.dict := rfl
@[simp] theorem State.setEng_plans (e : Nat) (x : EngSt) : (s.setEng e x).plans = s.plans := rfl
@[simp] theorem State.setEng_fns (e : Nat) (x : EngSt) : (s.setEng e x).fns = s.fns := rfl
@[simp] theorem State.setEng_link (e : Nat) (x : EngSt) : (s.setEng e x).link = s.link := rfl
@[simp] theorem State.setEng_seen (e : Nat) (x : EngSt) : (s.setEng e x).seen = s.seen := rfl
@[simp] theorem State.setEng_can (e : Nat) (x : EngSt) : (s.setEng e x).can = s.can := rfl
@[simp] theorem State.setEng_fw (e : Nat) (x : EngSt) : (s.setEng e x).fw = s.fw := rfl
@[simp] theorem State.setEng_elog (e : Nat) (x : EngSt) : (s.setEng e x).elog = s.elog := rfl
@[simp] theorem State.setEng_pads (e : Nat) (x : EngSt) : (s.setEng e x).pads = s.pads := rfl
@[simp] theorem State.setEng_cores (e : Nat) (x : EngSt) : (s.setEng e x).cores = s.cores := rfl
@[simp] theorem State.setEng_tasks (e : Nat) (x : EngSt) : (s.setEng e x).tasks = s.tasks := rfl
@[simp] theorem State.setEng_nextId (e : Nat) (x : EngSt) : (s.setEng e x).nextId = s.nextId := rfl
@[simp] theorem State.setEng_idleAt (e : Nat) (x : EngSt) : (s.setEng e x).idleAt = s.idleAt := rfl
@[simp] theorem State.setEng_quotaWait (e : Nat) (x : EngSt) : (s.setEng e x).quotaWait = s.quotaWait := rfl
@[simp] theorem State.setEng_winDone (e : Nat) (x : EngSt) : (s.setEng e x).winDone = s.winDone := rfl
@[simp] theorem State.setEng_queues (e : Nat) (x : EngSt) : (s.setEng e x).queues = s.queues := rfl
@[simp] theorem State.setEng_chans (e : Nat) (x : EngSt) : (s.setEng e x).chans = s.chans := rfl
@[simp] theorem State.setEng_dmas (e : Nat) (x : EngSt) : (s.setEng e x).dmas = s.dmas := rfl
@[simp] theorem State.setEng_ports (e : Nat) (x : EngSt) : (s.setEng e x).ports = s.ports := rfl
@[simp] theorem State.setEng_streams (e : Nat) (x : EngSt) : (s.setEng e x).streams = s.streams := rfl
@[simp] theorem State.setEng_i3cs (e : Nat) (x : EngSt) : (s.setEng e x).i3cs = s.i3cs := rfl
@[simp] theorem State.setEng_ctxCache (e : Nat) (x : EngSt) : (s.setEng e x).ctxCache = s.ctxCache := rfl
@[simp] theorem State.setEng_ctxFreed (e : Nat) (x : EngSt) : (s.setEng e x).ctxFreed = s.ctxFreed := rfl
@[simp] theorem State.setEng_ctxUndef (e : Nat) (x : EngSt) : (s.setEng e x).ctxUndef = s.ctxUndef := rfl
@[simp] theorem State.setEng_netReply (e : Nat) (x : EngSt) : (s.setEng e x).netReply = s.netReply := rfl
@[simp] theorem State.setEng_umbra (e : Nat) (x : EngSt) : (s.setEng e x).umbra = s.umbra := rfl
@[simp] theorem State.setEng_faults (e : Nat) (x : EngSt) : (s.setEng e x).faults = s.faults := rfl
@[simp] theorem State.setEng_scrubs (e : Nat) (x : EngSt) : (s.setEng e x).scrubs = s.scrubs := rfl
@[simp] theorem State.setEng_sec (e : Nat) (x : EngSt) : (s.setEng e x).sec = s.sec := rfl
@[simp] theorem State.setEng_avs (e : Nat) (x : EngSt) : (s.setEng e x).avs = s.avs := rfl
@[simp] theorem State.setEng_jtag (e : Nat) (x : EngSt) : (s.setEng e x).jtag = s.jtag := rfl
@[simp] theorem State.setEng_env (e : Nat) (x : EngSt) : (s.setEng e x).env = s.env := rfl
@[simp] theorem State.setEng_railBad (e : Nat) (x : EngSt) : (s.setEng e x).railBad = s.railBad := rfl
@[simp] theorem State.setEng_frames (e : Nat) (x : EngSt) : (s.setEng e x).frames = s.frames := rfl
@[simp] theorem State.setEng_frames2 (e : Nat) (x : EngSt) : (s.setEng e x).frames2 = s.frames2 := rfl
@[simp] theorem State.setEng_ddr (e : Nat) (x : EngSt) : (s.setEng e x).ddr = s.ddr := rfl
@[simp] theorem State.setEng_fscratch (e : Nat) (x : EngSt) : (s.setEng e x).fscratch = s.fscratch := rfl
@[simp] theorem State.setEng_scrPrev (e : Nat) (x : EngSt) : (s.setEng e x).scrPrev = s.scrPrev := rfl
@[simp] theorem State.setEng_hostMem (e : Nat) (x : EngSt) : (s.setEng e x).hostMem = s.hostMem := rfl
@[simp] theorem State.setEng_free (e : Nat) (x : EngSt) : (s.setEng e x).free = s.free := rfl
@[simp] theorem State.setEng_pending (e : Nat) (x : EngSt) : (s.setEng e x).pending = s.pending := rfl

/-! ### `scrWrite` -/

@[simp] theorem State.scrWrite_now (a : Nat) (b : List Byte) : (s.scrWrite a b).now = s.now := rfl
@[simp] theorem State.scrWrite_resetN (a : Nat) (b : List Byte) : (s.scrWrite a b).resetN = s.resetN := rfl
@[simp] theorem State.scrWrite_stopped (a : Nat) (b : List Byte) : (s.scrWrite a b).stopped = s.stopped := rfl
@[simp] theorem State.scrWrite_tick (a : Nat) (b : List Byte) : (s.scrWrite a b).tick = s.tick := rfl
@[simp] theorem State.scrWrite_dict (a : Nat) (b : List Byte) : (s.scrWrite a b).dict = s.dict := rfl
@[simp] theorem State.scrWrite_plans (a : Nat) (b : List Byte) : (s.scrWrite a b).plans = s.plans := rfl
@[simp] theorem State.scrWrite_fns (a : Nat) (b : List Byte) : (s.scrWrite a b).fns = s.fns := rfl
@[simp] theorem State.scrWrite_link (a : Nat) (b : List Byte) : (s.scrWrite a b).link = s.link := rfl
@[simp] theorem State.scrWrite_seen (a : Nat) (b : List Byte) : (s.scrWrite a b).seen = s.seen := rfl
@[simp] theorem State.scrWrite_can (a : Nat) (b : List Byte) : (s.scrWrite a b).can = s.can := rfl
@[simp] theorem State.scrWrite_fw (a : Nat) (b : List Byte) : (s.scrWrite a b).fw = s.fw := rfl
@[simp] theorem State.scrWrite_elog (a : Nat) (b : List Byte) : (s.scrWrite a b).elog = s.elog := rfl
@[simp] theorem State.scrWrite_pads (a : Nat) (b : List Byte) : (s.scrWrite a b).pads = s.pads := rfl
@[simp] theorem State.scrWrite_cores (a : Nat) (b : List Byte) : (s.scrWrite a b).cores = s.cores := rfl
@[simp] theorem State.scrWrite_tasks (a : Nat) (b : List Byte) : (s.scrWrite a b).tasks = s.tasks := rfl
@[simp] theorem State.scrWrite_nextId (a : Nat) (b : List Byte) : (s.scrWrite a b).nextId = s.nextId := rfl
@[simp] theorem State.scrWrite_idleAt (a : Nat) (b : List Byte) : (s.scrWrite a b).idleAt = s.idleAt := rfl
@[simp] theorem State.scrWrite_quotaWait (a : Nat) (b : List Byte) : (s.scrWrite a b).quotaWait = s.quotaWait := rfl
@[simp] theorem State.scrWrite_winDone (a : Nat) (b : List Byte) : (s.scrWrite a b).winDone = s.winDone := rfl
@[simp] theorem State.scrWrite_queues (a : Nat) (b : List Byte) : (s.scrWrite a b).queues = s.queues := rfl
@[simp] theorem State.scrWrite_chans (a : Nat) (b : List Byte) : (s.scrWrite a b).chans = s.chans := rfl
@[simp] theorem State.scrWrite_dmas (a : Nat) (b : List Byte) : (s.scrWrite a b).dmas = s.dmas := rfl
@[simp] theorem State.scrWrite_ports (a : Nat) (b : List Byte) : (s.scrWrite a b).ports = s.ports := rfl
@[simp] theorem State.scrWrite_streams (a : Nat) (b : List Byte) : (s.scrWrite a b).streams = s.streams := rfl
@[simp] theorem State.scrWrite_i3cs (a : Nat) (b : List Byte) : (s.scrWrite a b).i3cs = s.i3cs := rfl
@[simp] theorem State.scrWrite_engines (a : Nat) (b : List Byte) : (s.scrWrite a b).engines = s.engines := rfl
@[simp] theorem State.scrWrite_ctxCache (a : Nat) (b : List Byte) : (s.scrWrite a b).ctxCache = s.ctxCache := rfl
@[simp] theorem State.scrWrite_ctxFreed (a : Nat) (b : List Byte) : (s.scrWrite a b).ctxFreed = s.ctxFreed := rfl
@[simp] theorem State.scrWrite_ctxUndef (a : Nat) (b : List Byte) : (s.scrWrite a b).ctxUndef = s.ctxUndef := rfl
@[simp] theorem State.scrWrite_netReply (a : Nat) (b : List Byte) : (s.scrWrite a b).netReply = s.netReply := rfl
@[simp] theorem State.scrWrite_umbra (a : Nat) (b : List Byte) : (s.scrWrite a b).umbra = s.umbra := rfl
@[simp] theorem State.scrWrite_faults (a : Nat) (b : List Byte) : (s.scrWrite a b).faults = s.faults := rfl
@[simp] theorem State.scrWrite_scrubs (a : Nat) (b : List Byte) : (s.scrWrite a b).scrubs = s.scrubs := rfl
@[simp] theorem State.scrWrite_sec (a : Nat) (b : List Byte) : (s.scrWrite a b).sec = s.sec := rfl
@[simp] theorem State.scrWrite_avs (a : Nat) (b : List Byte) : (s.scrWrite a b).avs = s.avs := rfl
@[simp] theorem State.scrWrite_jtag (a : Nat) (b : List Byte) : (s.scrWrite a b).jtag = s.jtag := rfl
@[simp] theorem State.scrWrite_env (a : Nat) (b : List Byte) : (s.scrWrite a b).env = s.env := rfl
@[simp] theorem State.scrWrite_railBad (a : Nat) (b : List Byte) : (s.scrWrite a b).railBad = s.railBad := rfl
@[simp] theorem State.scrWrite_frames (a : Nat) (b : List Byte) : (s.scrWrite a b).frames = s.frames := rfl
@[simp] theorem State.scrWrite_frames2 (a : Nat) (b : List Byte) : (s.scrWrite a b).frames2 = s.frames2 := rfl
@[simp] theorem State.scrWrite_ddr (a : Nat) (b : List Byte) : (s.scrWrite a b).ddr = s.ddr := rfl
@[simp] theorem State.scrWrite_hostMem (a : Nat) (b : List Byte) : (s.scrWrite a b).hostMem = s.hostMem := rfl
@[simp] theorem State.scrWrite_free (a : Nat) (b : List Byte) : (s.scrWrite a b).free = s.free := rfl
@[simp] theorem State.scrWrite_pending (a : Nat) (b : List Byte) : (s.scrWrite a b).pending = s.pending := rfl

/-! ### Reading back -/

@[simp] theorem State.at_now (t : Nat) : (s.at t).now = max s.now t := rfl
@[simp] theorem State.at_at (t u : Nat) : (s.at t).at u = s.at (max t u) := by
  simp [State.at, Nat.max_assoc]
@[simp] theorem State.at_live (t : Nat) : (s.at t).live = s.live := rfl
@[simp] theorem State.at_reg (t idx sub : Nat) : (s.at t).reg idx sub = s.reg idx sub := rfl
@[simp] theorem State.at_regF (t fn idx sub : Nat) : (s.at t).regF fn idx sub = s.regF fn idx sub := rfl
@[simp] theorem State.at_blob (t idx sub : Nat) : (s.at t).blob idx sub = s.blob idx sub := rfl

/-- A register reads what was last written to it. -/
@[simp] theorem State.regF_setRegF_same (fn idx sub v : Nat) : (s.setRegF fn idx sub v).regF fn idx sub = v := by
  simp [State.regF, State.setRegF]

/-- A write of one register leaves the others. -/
theorem State.regF_setRegF_other {fn idx sub fn' idx' sub' v : Nat} (h : okey fn' idx' sub' ≠ okey fn idx sub) :
    (s.setRegF fn idx sub v).regF fn' idx' sub' = s.regF fn' idx' sub' := by
  simp [State.regF, State.setRegF, kget_kput_other h]

/-- An object reads what was last written to it. -/
@[simp] theorem State.reg_setReg_same (idx sub v : Nat) : (s.setReg idx sub v).reg idx sub = v := by
  simp [State.reg, State.setReg]

/-- A write of one object leaves the others. -/
theorem State.reg_setReg_other {idx sub idx' sub' v : Nat} (h : okey 0 idx' sub' ≠ okey 0 idx sub) :
    (s.setReg idx sub v).reg idx' sub' = s.reg idx' sub' := State.regF_setRegF_other s h

/-- A byte-string object reads what was last written to it. -/
@[simp] theorem State.blob_setBlob_same (idx sub : Nat) (b : List Byte) : (s.setBlob idx sub b).blob idx sub = b := by
  simp [State.blob, State.setBlob, State.blobF, State.setBlobF]

@[simp] theorem State.reg_setBlob (idx sub idx' sub' : Nat) (b : List Byte) : (s.setBlob idx sub b).reg idx' sub' = s.reg idx' sub' := rfl
@[simp] theorem State.blob_setReg (idx sub v idx' sub' : Nat) : (s.setReg idx sub v).blob idx' sub' = s.blob idx' sub' := rfl

/-- A counter after it is raised. -/
theorem State.reg_bump_same (w idx sub n : Nat) : (s.bump w idx sub n).reg idx sub = satAdd w (s.reg idx sub) n := by
  simp [State.bump, State.bumpF, State.reg]

/-- A counter raised leaves the other registers. -/
theorem State.reg_bump_other {w idx sub n idx' sub' : Nat} (h : okey 0 idx' sub' ≠ okey 0 idx sub) :
    (s.bump w idx sub n).reg idx' sub' = s.reg idx' sub' := State.regF_setRegF_other s h

@[simp] theorem State.fnSt_setFn_same (f : Nat) (x : FnSt) : (s.setFn f x).fnSt f = x := by simp [State.fnSt, State.setFn]
@[simp] theorem State.planSt_setPlanSt_same (p : Nat) (x : PlanSt) : (s.setPlanSt p x).planSt p = x := by simp [State.planSt, State.setPlanSt]
@[simp] theorem State.pad_setPad_same (c : Nat) (x : PadSt) : (s.setPad c x).pad c = x := by simp [State.pad, State.setPad]
@[simp] theorem State.core_setCore_same (c : Nat) (x : CoreSt) : (s.setCore c x).core c = x := by simp [State.core, State.setCore]
@[simp] theorem State.queue_setQueue_same (q : Nat) (x : QueueSt) : (s.setQueue q x).queue q = x := by simp [State.queue, State.setQueue]
@[simp] theorem State.chan_setChan_same (u c : Nat) (x : Chan) : (s.setChan u c x).chan u c = x := by simp [State.chan, State.setChan]
@[simp] theorem State.dma_setDma_same (u : Nat) (x : DmaSt) : (s.setDma u x).dma u = x := by simp [State.dma, State.setDma]
@[simp] theorem State.port_setPort_same (n : Nat) (x : PortSt) : (s.setPort n x).port n = x := by simp [State.port, State.setPort]
@[simp] theorem State.stream_setStream_same (n : Nat) (x : StreamSt) : (s.setStream n x).stream n = x := by simp [State.stream, State.setStream]
@[simp] theorem State.i3c_setI3c_same (n : Nat) (x : I3cSt) : (s.setI3c n x).i3c n = x := by simp [State.i3c, State.setI3c]
@[simp] theorem State.eng_setEng_same (e : Nat) (x : EngSt) : (s.setEng e x).eng e = x := by simp [State.eng, State.setEng]

/-- One entry of a table written leaves the others: ports, cores, functions. -/
theorem State.port_setPort_other {n m : Nat} {x : PortSt} (h : m ≠ n) : (s.setPort n x).port m = s.port m := by
  simp [State.port, State.setPort, kget_kput_other h]
theorem State.core_setCore_other {c d : Nat} {x : CoreSt} (h : d ≠ c) : (s.setCore c x).core d = s.core d := by
  simp [State.core, State.setCore, kget_kput_other h]
theorem State.fnSt_setFn_other {f g : Nat} {x : FnSt} (h : g ≠ f) : (s.setFn f x).fnSt g = s.fnSt g := by
  simp [State.fnSt, State.setFn, kget_kput_other h]

end Sys2Proof.Machine
end

