-- ==== Sys2Proof/Laws/Serve.lean ====
section
/-! SUPPORT. A request served: what an accepted WRITE leaves, and what its count, its journal entry and its response leave alone. -/

namespace Sys2Proof.Machine

variable (s : State)

/-- A WRITE that passes every check is carried out, journaled and answered with the status of its effect. -/
theorem State.serve_write {fn : Nat} {o : ObjRow} {r : Req} (h0 : s.reg 0x2050 1 ≠ 0) (hx : s.roleOpen fn = true)
    (h : (s.asked fn).takes fn o r = true) :
    ∃ p : Resp, p.opcode = 2 ∧ p.status = ((s.asked fn).takeWrite fn o r).2 ∧
      s.serve fn 2 r = ((s.asked fn).written fn o r).deliver fn p := by
  simp only [State.takes, Bool.and_eq_true, decide_eq_true_eq] at h
  obtain ⟨⟨⟨⟨⟨ho, hg⟩, hf⟩, he⟩, hr⟩, hb⟩ := h
  have hw : ∃ p : Resp, p.opcode = 2 ∧ p.status = ((s.asked fn).takeWrite fn o r).2 ∧
      (s.asked fn).doWrite fn r = ((s.asked fn).written fn o r, p) := by
    have hall : firstFail [firstFail [(s.asked fn).versionCheck fn 2 r.index.toNat r.sub.toNat, addressCheck r.index.toNat r.sub.toNat true,
        (s.asked fn).rightsCheck fn r.index.toNat r.sub.toNat true (some (parseVal o.ty r.payload))],
        firstFail [accessCheck o r.txn.toNat, (s.asked fn).txnCheck fn o r, (s.asked fn).valueStep fn o r]] = stOk := by
      rw [he, hr]; rfl
    refine ⟨((s.asked fn).doWrite fn r).2, ?_, ?_, ?_⟩ <;>
    simp only [State.doWrite, ho, Option.map_some, hall, hb, ne_eq, not_true_eq_false, if_false, mkResp, State.written]
  obtain ⟨p, h1, h2, hp⟩ := hw
  have hs : s.serve fn 2 r = ((s.asked fn).written fn o r).deliver fn
      { p with seq := if (s.asked fn).dict.nextSeq < ((s.asked fn).written fn o r).dict.nextSeq then ((s.asked fn).written fn o r).dict.nextSeq - 1 else 0 } := by
    unfold State.serve
    rw [if_neg (by simp [h0, hx])]
    show (match ((s.asked fn).answerTo fn 2 r).2 with
      | some p => ((s.asked fn).answerTo fn 2 r).1.deliver fn p
      | none => ((s.asked fn).answerTo fn 2 r).1) = _
    have ha : (s.asked fn).answerTo fn 2 r = (s.asked fn).operate fn 2 r := by
      unfold State.answerTo
      rw [hg]
      simp only [hf, ne_eq, not_true_eq_false, if_false]
    rw [ha]
    simp [State.operate, hp]
  refine ⟨_, ?_, ?_, hs⟩
  exacts [h1, h2]

/-- Objects of different indices have different keys. -/
theorem okey_ne_of_idx {f g i j a b : Nat} (h : i ≠ j) (hi : i < 65536) (hj : j < 65536) (ha : a < 256) (hb : b < 256) :
    okey f i a ≠ okey g j b := by
  unfold okey; omega

/-- Sub-indices of one index have different keys. -/
theorem okey_ne_of_sub {f g i a b : Nat} (h : a ≠ b) (ha : a < 256) (hb : b < 256) : okey f i a ≠ okey g i b := by
  unfold okey; omega

/-! ### A log or trace entry writes the log, its objects 2054 and draws -/

/-! ### An entry pushed -/

@[simp] theorem State.logPush_now (e : LogEntry) : (s.logPush e).now = s.now := rfl
@[simp] theorem State.logPush_resetN (e : LogEntry) : (s.logPush e).resetN = s.resetN := rfl
@[simp] theorem State.logPush_stopped (e : LogEntry) : (s.logPush e).stopped = s.stopped := rfl
@[simp] theorem State.logPush_tick (e : LogEntry) : (s.logPush e).tick = s.tick := rfl
@[simp] theorem State.logPush_dict (e : LogEntry) : (s.logPush e).dict = s.dict := rfl
@[simp] theorem State.logPush_plans (e : LogEntry) : (s.logPush e).plans = s.plans := rfl
@[simp] theorem State.logPush_fns (e : LogEntry) : (s.logPush e).fns = s.fns := rfl
@[simp] theorem State.logPush_link (e : LogEntry) : (s.logPush e).link = s.link := rfl
@[simp] theorem State.logPush_seen (e : LogEntry) : (s.logPush e).seen = s.seen := rfl
@[simp] theorem State.logPush_can (e : LogEntry) : (s.logPush e).can = s.can := rfl
@[simp] theorem State.logPush_pads (e : LogEntry) : (s.logPush e).pads = s.pads := rfl
@[simp] theorem State.logPush_cores (e : LogEntry) : (s.logPush e).cores = s.cores := rfl
@[simp] theorem State.logPush_tasks (e : LogEntry) : (s.logPush e).tasks = s.tasks := rfl
@[simp] theorem State.logPush_nextId (e : LogEntry) : (s.logPush e).nextId = s.nextId := rfl
@[simp] theorem State.logPush_idleAt (e : LogEntry) : (s.logPush e).idleAt = s.idleAt := rfl
@[simp] theorem State.logPush_quotaWait (e : LogEntry) : (s.logPush e).quotaWait = s.quotaWait := rfl
@[simp] theorem State.logPush_winDone (e : LogEntry) : (s.logPush e).winDone = s.winDone := rfl
@[simp] theorem State.logPush_queues (e : LogEntry) : (s.logPush e).queues = s.queues := rfl
@[simp] theorem State.logPush_chans (e : LogEntry) : (s.logPush e).chans = s.chans := rfl
@[simp] theorem State.logPush_dmas (e : LogEntry) : (s.logPush e).dmas = s.dmas := rfl
@[simp] theorem State.logPush_ports (e : LogEntry) : (s.logPush e).ports = s.ports := rfl
@[simp] theorem State.logPush_streams (e : LogEntry) : (s.logPush e).streams = s.streams := rfl
@[simp] theorem State.logPush_i3cs (e : LogEntry) : (s.logPush e).i3cs = s.i3cs := rfl
@[simp] theorem State.logPush_engines (e : LogEntry) : (s.logPush e).engines = s.engines := rfl
@[simp] theorem State.logPush_ctxCache (e : LogEntry) : (s.logPush e).ctxCache = s.ctxCache := rfl
@[simp] theorem State.logPush_ctxFreed (e : LogEntry) : (s.logPush e).ctxFreed = s.ctxFreed := rfl
@[simp] theorem State.logPush_ctxUndef (e : LogEntry) : (s.logPush e).ctxUndef = s.ctxUndef := rfl
@[simp] theorem State.logPush_netReply (e : LogEntry) : (s.logPush e).netReply = s.netReply := rfl
@[simp] theorem State.logPush_umbra (e : LogEntry) : (s.logPush e).umbra = s.umbra := rfl
@[simp] theorem State.logPush_faults (e : LogEntry) : (s.logPush e).faults = s.faults := rfl
@[simp] theorem State.logPush_scrubs (e : LogEntry) : (s.logPush e).scrubs = s.scrubs := rfl
@[simp] theorem State.logPush_sec (e : LogEntry) : (s.logPush e).sec = s.sec := rfl
@[simp] theorem State.logPush_avs (e : LogEntry) : (s.logPush e).avs = s.avs := rfl
@[simp] theorem State.logPush_jtag (e : LogEntry) : (s.logPush e).jtag = s.jtag := rfl
@[simp] theorem State.logPush_env (e : LogEntry) : (s.logPush e).env = s.env := rfl
@[simp] theorem State.logPush_railBad (e : LogEntry) : (s.logPush e).railBad = s.railBad := rfl
@[simp] theorem State.logPush_frames (e : LogEntry) : (s.logPush e).frames = s.frames := rfl
@[simp] theorem State.logPush_frames2 (e : LogEntry) : (s.logPush e).frames2 = s.frames2 := rfl
@[simp] theorem State.logPush_ddr (e : LogEntry) : (s.logPush e).ddr = s.ddr := rfl
@[simp] theorem State.logPush_fscratch (e : LogEntry) : (s.logPush e).fscratch = s.fscratch := rfl
@[simp] theorem State.logPush_scrPrev (e : LogEntry) : (s.logPush e).scrPrev = s.scrPrev := rfl
@[simp] theorem State.logPush_hostMem (e : LogEntry) : (s.logPush e).hostMem = s.hostMem := rfl
@[simp] theorem State.logPush_free (e : LogEntry) : (s.logPush e).free = s.free := rfl
@[simp] theorem State.logPush_pending (e : LogEntry) : (s.logPush e).pending = s.pending := rfl

@[simp] theorem State.journalPush_now (e : JEntry) : (s.journalPush e).now = s.now := rfl
@[simp] theorem State.journalPush_resetN (e : JEntry) : (s.journalPush e).resetN = s.resetN := rfl
@[simp] theorem State.journalPush_stopped (e : JEntry) : (s.journalPush e).stopped = s.stopped := rfl
@[simp] theorem State.journalPush_tick (e : JEntry) : (s.journalPush e).tick = s.tick := rfl
@[simp] theorem State.journalPush_plans (e : JEntry) : (s.journalPush e).plans = s.plans := rfl
@[simp] theorem State.journalPush_fns (e : JEntry) : (s.journalPush e).fns = s.fns := rfl
@[simp] theorem State.journalPush_link (e : JEntry) : (s.journalPush e).link = s.link := rfl
@[simp] theorem State.journalPush_seen (e : JEntry) : (s.journalPush e).seen = s.seen := rfl
@[simp] theorem State.journalPush_can (e : JEntry) : (s.journalPush e).can = s.can := rfl
@[simp] theorem State.journalPush_fw (e : JEntry) : (s.journalPush e).fw = s.fw := rfl
@[simp] theorem State.journalPush_elog (e : JEntry) : (s.journalPush e).elog = s.elog := rfl
@[simp] theorem State.journalPush_pads (e : JEntry) : (s.journalPush e).pads = s.pads := rfl
@[simp] theorem State.journalPush_cores (e : JEntry) : (s.journalPush e).cores = s.cores := rfl
@[simp] theorem State.journalPush_tasks (e : JEntry) : (s.journalPush e).tasks = s.tasks := rfl
@[simp] theorem State.journalPush_nextId (e : JEntry) : (s.journalPush e).nextId = s.nextId := rfl
@[simp] theorem State.journalPush_idleAt (e : JEntry) : (s.journalPush e).idleAt = s.idleAt := rfl
@[simp] theorem State.journalPush_quotaWait (e : JEntry) : (s.journalPush e).quotaWait = s.quotaWait := rfl
@[simp] theorem State.journalPush_winDone (e : JEntry) : (s.journalPush e).winDone = s.winDone := rfl
@[simp] theorem State.journalPush_queues (e : JEntry) : (s.journalPush e).queues = s.queues := rfl
@[simp] theorem State.journalPush_chans (e : JEntry) : (s.journalPush e).chans = s.chans := rfl
@[simp] theorem State.journalPush_dmas (e : JEntry) : (s.journalPush e).dmas = s.dmas := rfl
@[simp] theorem State.journalPush_ports (e : JEntry) : (s.journalPush e).ports = s.ports := rfl
@[simp] theorem State.journalPush_streams (e : JEntry) : (s.journalPush e).streams = s.streams := rfl
@[simp] theorem State.journalPush_i3cs (e : JEntry) : (s.journalPush e).i3cs = s.i3cs := rfl
@[simp] theorem State.journalPush_engines (e : JEntry) : (s.journalPush e).engines = s.engines := rfl
@[simp] theorem State.journalPush_ctxCache (e : JEntry) : (s.journalPush e).ctxCache = s.ctxCache := rfl
@[simp] theorem State.journalPush_ctxFreed (e : JEntry) : (s.journalPush e).ctxFreed = s.ctxFreed := rfl
@[simp] theorem State.journalPush_ctxUndef (e : JEntry) : (s.journalPush e).ctxUndef = s.ctxUndef := rfl
@[simp] theorem State.journalPush_netReply (e : JEntry) : (s.journalPush e).netReply = s.netReply := rfl
@[simp] theorem State.journalPush_umbra (e : JEntry) : (s.journalPush e).umbra = s.umbra := rfl
@[simp] theorem State.journalPush_faults (e : JEntry) : (s.journalPush e).faults = s.faults := rfl
@[simp] theorem State.journalPush_scrubs (e : JEntry) : (s.journalPush e).scrubs = s.scrubs := rfl
@[simp] theorem State.journalPush_sec (e : JEntry) : (s.journalPush e).sec = s.sec := rfl
@[simp] theorem State.journalPush_avs (e : JEntry) : (s.journalPush e).avs = s.avs := rfl
@[simp] theorem State.journalPush_jtag (e : JEntry) : (s.journalPush e).jtag = s.jtag := rfl
@[simp] theorem State.journalPush_env (e : JEntry) : (s.journalPush e).env = s.env := rfl
@[simp] theorem State.journalPush_railBad (e : JEntry) : (s.journalPush e).railBad = s.railBad := rfl
@[simp] theorem State.journalPush_frames (e : JEntry) : (s.journalPush e).frames = s.frames := rfl
@[simp] theorem State.journalPush_frames2 (e : JEntry) : (s.journalPush e).frames2 = s.frames2 := rfl
@[simp] theorem State.journalPush_ddr (e : JEntry) : (s.journalPush e).ddr = s.ddr := rfl
@[simp] theorem State.journalPush_fscratch (e : JEntry) : (s.journalPush e).fscratch = s.fscratch := rfl
@[simp] theorem State.journalPush_scrPrev (e : JEntry) : (s.journalPush e).scrPrev = s.scrPrev := rfl
@[simp] theorem State.journalPush_hostMem (e : JEntry) : (s.journalPush e).hostMem = s.hostMem := rfl
@[simp] theorem State.journalPush_free (e : JEntry) : (s.journalPush e).free = s.free := rfl
@[simp] theorem State.journalPush_pending (e : JEntry) : (s.journalPush e).pending = s.pending := rfl

@[simp] theorem State.journalPush_num (e : JEntry) : (s.journalPush e).dict.num = s.dict.num := rfl

/-! ### `logAdd` -/

@[simp] theorem State.logAdd_now (proc level : Nat) (part : Option Nat) (code : Nat) (args : List Nat) : (s.logAdd proc level part code args).now = s.now := by unfold State.logAdd; split <;> simp
@[simp] theorem State.logAdd_resetN (proc level : Nat) (part : Option Nat) (code : Nat) (args : List Nat) : (s.logAdd proc level part code args).resetN = s.resetN := by unfold State.logAdd; split <;> simp
@[simp] theorem State.logAdd_stopped (proc level : Nat) (part : Option Nat) (code : Nat) (args : List Nat) : (s.logAdd proc level part code args).stopped = s.stopped := by unfold State.logAdd; split <;> simp
@[simp] theorem State.logAdd_tick (proc level : Nat) (part : Option Nat) (code : Nat) (args : List Nat) : (s.logAdd proc level part code args).tick = s.tick := by unfold State.logAdd; split <;> simp
@[simp] theorem State.logAdd_plans (proc level : Nat) (part : Option Nat) (code : Nat) (args : List Nat) : (s.logAdd proc level part code args).plans = s.plans := by unfold State.logAdd; split <;> simp
@[simp] theorem State.logAdd_fns (proc level : Nat) (part : Option Nat) (code : Nat) (args : List Nat) : (s.logAdd proc level part code args).fns = s.fns := by unfold State.logAdd; split <;> simp
@[simp] theorem State.logAdd_link (proc level : Nat) (part : Option Nat) (code : Nat) (args : List Nat) : (s.logAdd proc level part code args).link = s.link := by unfold State.logAdd; split <;> simp
@[simp] theorem State.logAdd_seen (proc level : Nat) (part : Option Nat) (code : Nat) (args : List Nat) : (s.logAdd proc level part code args).seen = s.seen := by unfold State.logAdd; split <;> simp
@[simp] theorem State.logAdd_can (proc level : Nat) (part : Option Nat) (code : Nat) (args : List Nat) : (s.logAdd proc level part code args).can = s.can := by unfold State.logAdd; split <;> simp
@[simp] theorem State.logAdd_pads (proc level : Nat) (part : Option Nat) (code : Nat) (args : List Nat) : (s.logAdd proc level part code args).pads = s.pads := by unfold State.logAdd; split <;> simp
@[simp] theorem State.logAdd_cores (proc level : Nat) (part : Option Nat) (code : Nat) (args : List Nat) : (s.logAdd proc level part code args).cores = s.cores := by unfold State.logAdd; split <;> simp
@[simp] theorem State.logAdd_tasks (proc level : Nat) (part : Option Nat) (code : Nat) (args : List Nat) : (s.logAdd proc level part code args).tasks = s.tasks := by unfold State.logAdd; split <;> simp
@[simp] theorem State.logAdd_nextId (proc level : Nat) (part : Option Nat) (code : Nat) (args : List Nat) : (s.logAdd proc level part code args).nextId = s.nextId := by unfold State.logAdd; split <;> simp
@[simp] theorem State.logAdd_idleAt (proc level : Nat) (part : Option Nat) (code : Nat) (args : List Nat) : (s.logAdd proc level part code args).idleAt = s.idleAt := by unfold State.logAdd; split <;> simp
@[simp] theorem State.logAdd_quotaWait (proc level : Nat) (part : Option Nat) (code : Nat) (args : List Nat) : (s.logAdd proc level part code args).quotaWait = s.quotaWait := by unfold State.logAdd; split <;> simp
@[simp] theorem State.logAdd_winDone (proc level : Nat) (part : Option Nat) (code : Nat) (args : List Nat) : (s.logAdd proc level part code args).winDone = s.winDone := by unfold State.logAdd; split <;> simp
@[simp] theorem State.logAdd_queues (proc level : Nat) (part : Option Nat) (code : Nat) (args : List Nat) : (s.logAdd proc level part code args).queues = s.queues := by unfold State.logAdd; split <;> simp
@[simp] theorem State.logAdd_chans (proc level : Nat) (part : Option Nat) (code : Nat) (args : List Nat) : (s.logAdd proc level part code args).chans = s.chans := by unfold State.logAdd; split <;> simp
@[simp] theorem State.logAdd_dmas (proc level : Nat) (part : Option Nat) (code : Nat) (args : List Nat) : (s.logAdd proc level part code args).dmas = s.dmas := by unfold State.logAdd; split <;> simp
@[simp] theorem State.logAdd_ports (proc level : Nat) (part : Option Nat) (code : Nat) (args : List Nat) : (s.logAdd proc level part code args).ports = s.ports := by unfold State.logAdd; split <;> simp
@[simp] theorem State.logAdd_streams (proc level : Nat) (part : Option Nat) (code : Nat) (args : List Nat) : (s.logAdd proc level part code args).streams = s.streams := by unfold State.logAdd; split <;> simp
@[simp] theorem State.logAdd_i3cs (proc level : Nat) (part : Option Nat) (code : Nat) (args : List Nat) : (s.logAdd proc level part code args).i3cs = s.i3cs := by unfold State.logAdd; split <;> simp
@[simp] theorem State.logAdd_engines (proc level : Nat) (part : Option Nat) (code : Nat) (args : List Nat) : (s.logAdd proc level part code args).engines = s.engines := by unfold State.logAdd; split <;> simp
@[simp] theorem State.logAdd_ctxCache (proc level : Nat) (part : Option Nat) (code : Nat) (args : List Nat) : (s.logAdd proc level part code args).ctxCache = s.ctxCache := by unfold State.logAdd; split <;> simp
@[simp] theorem State.logAdd_ctxFreed (proc level : Nat) (part : Option Nat) (code : Nat) (args : List Nat) : (s.logAdd proc level part code args).ctxFreed = s.ctxFreed := by unfold State.logAdd; split <;> simp
@[simp] theorem State.logAdd_ctxUndef (proc level : Nat) (part : Option Nat) (code : Nat) (args : List Nat) : (s.logAdd proc level part code args).ctxUndef = s.ctxUndef := by unfold State.logAdd; split <;> simp
@[simp] theorem State.logAdd_netReply (proc level : Nat) (part : Option Nat) (code : Nat) (args : List Nat) : (s.logAdd proc level part code args).netReply = s.netReply := by unfold State.logAdd; split <;> simp
@[simp] theorem State.logAdd_umbra (proc level : Nat) (part : Option Nat) (code : Nat) (args : List Nat) : (s.logAdd proc level part code args).umbra = s.umbra := by unfold State.logAdd; split <;> simp
@[simp] theorem State.logAdd_faults (proc level : Nat) (part : Option Nat) (code : Nat) (args : List Nat) : (s.logAdd proc level part code args).faults = s.faults := by unfold State.logAdd; split <;> simp
@[simp] theorem State.logAdd_scrubs (proc level : Nat) (part : Option Nat) (code : Nat) (args : List Nat) : (s.logAdd proc level part code args).scrubs = s.scrubs := by unfold State.logAdd; split <;> simp
@[simp] theorem State.logAdd_sec (proc level : Nat) (part : Option Nat) (code : Nat) (args : List Nat) : (s.logAdd proc level part code args).sec = s.sec := by unfold State.logAdd; split <;> simp
@[simp] theorem State.logAdd_avs (proc level : Nat) (part : Option Nat) (code : Nat) (args : List Nat) : (s.logAdd proc level part code args).avs = s.avs := by unfold State.logAdd; split <;> simp
@[simp] theorem State.logAdd_jtag (proc level : Nat) (part : Option Nat) (code : Nat) (args : List Nat) : (s.logAdd proc level part code args).jtag = s.jtag := by unfold State.logAdd; split <;> simp
@[simp] theorem State.logAdd_env (proc level : Nat) (part : Option Nat) (code : Nat) (args : List Nat) : (s.logAdd proc level part code args).env = s.env := by unfold State.logAdd; split <;> simp
@[simp] theorem State.logAdd_railBad (proc level : Nat) (part : Option Nat) (code : Nat) (args : List Nat) : (s.logAdd proc level part code args).railBad = s.railBad := by unfold State.logAdd; split <;> simp
@[simp] theorem State.logAdd_frames (proc level : Nat) (part : Option Nat) (code : Nat) (args : List Nat) : (s.logAdd proc level part code args).frames = s.frames := by unfold State.logAdd; split <;> simp
@[simp] theorem State.logAdd_frames2 (proc level : Nat) (part : Option Nat) (code : Nat) (args : List Nat) : (s.logAdd proc level part code args).frames2 = s.frames2 := by unfold State.logAdd; split <;> simp
@[simp] theorem State.logAdd_ddr (proc level : Nat) (part : Option Nat) (code : Nat) (args : List Nat) : (s.logAdd proc level part code args).ddr = s.ddr := by unfold State.logAdd; split <;> simp
@[simp] theorem State.logAdd_fscratch (proc level : Nat) (part : Option Nat) (code : Nat) (args : List Nat) : (s.logAdd proc level part code args).fscratch = s.fscratch := by unfold State.logAdd; split <;> simp
@[simp] theorem State.logAdd_scrPrev (proc level : Nat) (part : Option Nat) (code : Nat) (args : List Nat) : (s.logAdd proc level part code args).scrPrev = s.scrPrev := by unfold State.logAdd; split <;> simp
@[simp] theorem State.logAdd_hostMem (proc level : Nat) (part : Option Nat) (code : Nat) (args : List Nat) : (s.logAdd proc level part code args).hostMem = s.hostMem := by unfold State.logAdd; split <;> simp
@[simp] theorem State.logAdd_free (proc level : Nat) (part : Option Nat) (code : Nat) (args : List Nat) : (s.logAdd proc level part code args).free = s.free := by unfold State.logAdd; split <;> simp
@[simp] theorem State.logAdd_pending (proc level : Nat) (part : Option Nat) (code : Nat) (args : List Nat) : (s.logAdd proc level part code args).pending = s.pending := by unfold State.logAdd; split <;> simp

/-! ### `trace` -/

@[simp] theorem State.trace_now (proc : Nat) (part : Option Nat) (point : Nat) : (s.trace proc part point).now = s.now := by unfold State.trace; split <;> [rfl; (split <;> [rfl; (simp [State.draw])])]
@[simp] theorem State.trace_resetN (proc : Nat) (part : Option Nat) (point : Nat) : (s.trace proc part point).resetN = s.resetN := by unfold State.trace; split <;> [rfl; (split <;> [rfl; (simp [State.draw])])]
@[simp] theorem State.trace_stopped (proc : Nat) (part : Option Nat) (point : Nat) : (s.trace proc part point).stopped = s.stopped := by unfold State.trace; split <;> [rfl; (split <;> [rfl; (simp [State.draw])])]
@[simp] theorem State.trace_tick (proc : Nat) (part : Option Nat) (point : Nat) : (s.trace proc part point).tick = s.tick := by unfold State.trace; split <;> [rfl; (split <;> [rfl; (simp [State.draw])])]
@[simp] theorem State.trace_plans (proc : Nat) (part : Option Nat) (point : Nat) : (s.trace proc part point).plans = s.plans := by unfold State.trace; split <;> [rfl; (split <;> [rfl; (simp [State.draw])])]
@[simp] theorem State.trace_fns (proc : Nat) (part : Option Nat) (point : Nat) : (s.trace proc part point).fns = s.fns := by unfold State.trace; split <;> [rfl; (split <;> [rfl; (simp [State.draw])])]
@[simp] theorem State.trace_link (proc : Nat) (part : Option Nat) (point : Nat) : (s.trace proc part point).link = s.link := by unfold State.trace; split <;> [rfl; (split <;> [rfl; (simp [State.draw])])]
@[simp] theorem State.trace_seen (proc : Nat) (part : Option Nat) (point : Nat) : (s.trace proc part point).seen = s.seen := by unfold State.trace; split <;> [rfl; (split <;> [rfl; (simp [State.draw])])]
@[simp] theorem State.trace_can (proc : Nat) (part : Option Nat) (point : Nat) : (s.trace proc part point).can = s.can := by unfold State.trace; split <;> [rfl; (split <;> [rfl; (simp [State.draw])])]
@[simp] theorem State.trace_pads (proc : Nat) (part : Option Nat) (point : Nat) : (s.trace proc part point).pads = s.pads := by unfold State.trace; split <;> [rfl; (split <;> [rfl; (simp [State.draw])])]
@[simp] theorem State.trace_cores (proc : Nat) (part : Option Nat) (point : Nat) : (s.trace proc part point).cores = s.cores := by unfold State.trace; split <;> [rfl; (split <;> [rfl; (simp [State.draw])])]
@[simp] theorem State.trace_tasks (proc : Nat) (part : Option Nat) (point : Nat) : (s.trace proc part point).tasks = s.tasks := by unfold State.trace; split <;> [rfl; (split <;> [rfl; (simp [State.draw])])]
@[simp] theorem State.trace_nextId (proc : Nat) (part : Option Nat) (point : Nat) : (s.trace proc part point).nextId = s.nextId := by unfold State.trace; split <;> [rfl; (split <;> [rfl; (simp [State.draw])])]
@[simp] theorem State.trace_idleAt (proc : Nat) (part : Option Nat) (point : Nat) : (s.trace proc part point).idleAt = s.idleAt := by unfold State.trace; split <;> [rfl; (split <;> [rfl; (simp [State.draw])])]
@[simp] theorem State.trace_quotaWait (proc : Nat) (part : Option Nat) (point : Nat) : (s.trace proc part point).quotaWait = s.quotaWait := by unfold State.trace; split <;> [rfl; (split <;> [rfl; (simp [State.draw])])]
@[simp] theorem State.trace_winDone (proc : Nat) (part : Option Nat) (point : Nat) : (s.trace proc part point).winDone = s.winDone := by unfold State.trace; split <;> [rfl; (split <;> [rfl; (simp [State.draw])])]
@[simp] theorem State.trace_queues (proc : Nat) (part : Option Nat) (point : Nat) : (s.trace proc part point).queues = s.queues := by unfold State.trace; split <;> [rfl; (split <;> [rfl; (simp [State.draw])])]
@[simp] theorem State.trace_chans (proc : Nat) (part : Option Nat) (point : Nat) : (s.trace proc part point).chans = s.chans := by unfold State.trace; split <;> [rfl; (split <;> [rfl; (simp [State.draw])])]
@[simp] theorem State.trace_dmas (proc : Nat) (part : Option Nat) (point : Nat) : (s.trace proc part point).dmas = s.dmas := by unfold State.trace; split <;> [rfl; (split <;> [rfl; (simp [State.draw])])]
@[simp] theorem State.trace_ports (proc : Nat) (part : Option Nat) (point : Nat) : (s.trace proc part point).ports = s.ports := by unfold State.trace; split <;> [rfl; (split <;> [rfl; (simp [State.draw])])]
@[simp] theorem State.trace_streams (proc : Nat) (part : Option Nat) (point : Nat) : (s.trace proc part point).streams = s.streams := by unfold State.trace; split <;> [rfl; (split <;> [rfl; (simp [State.draw])])]
@[simp] theorem State.trace_i3cs (proc : Nat) (part : Option Nat) (point : Nat) : (s.trace proc part point).i3cs = s.i3cs := by unfold State.trace; split <;> [rfl; (split <;> [rfl; (simp [State.draw])])]
@[simp] theorem State.trace_engines (proc : Nat) (part : Option Nat) (point : Nat) : (s.trace proc part point).engines = s.engines := by unfold State.trace; split <;> [rfl; (split <;> [rfl; (simp [State.draw])])]
@[simp] theorem State.trace_ctxCache (proc : Nat) (part : Option Nat) (point : Nat) : (s.trace proc part point).ctxCache = s.ctxCache := by unfold State.trace; split <;> [rfl; (split <;> [rfl; (simp [State.draw])])]
@[simp] theorem State.trace_ctxFreed (proc : Nat) (part : Option Nat) (point : Nat) : (s.trace proc part point).ctxFreed = s.ctxFreed := by unfold State.trace; split <;> [rfl; (split <;> [rfl; (simp [State.draw])])]
@[simp] theorem State.trace_ctxUndef (proc : Nat) (part : Option Nat) (point : Nat) : (s.trace proc part point).ctxUndef = s.ctxUndef := by unfold State.trace; split <;> [rfl; (split <;> [rfl; (simp [State.draw])])]
@[simp] theorem State.trace_netReply (proc : Nat) (part : Option Nat) (point : Nat) : (s.trace proc part point).netReply = s.netReply := by unfold State.trace; split <;> [rfl; (split <;> [rfl; (simp [State.draw])])]
@[simp] theorem State.trace_umbra (proc : Nat) (part : Option Nat) (point : Nat) : (s.trace proc part point).umbra = s.umbra := by unfold State.trace; split <;> [rfl; (split <;> [rfl; (simp [State.draw])])]
@[simp] theorem State.trace_faults (proc : Nat) (part : Option Nat) (point : Nat) : (s.trace proc part point).faults = s.faults := by unfold State.trace; split <;> [rfl; (split <;> [rfl; (simp [State.draw])])]
@[simp] theorem State.trace_scrubs (proc : Nat) (part : Option Nat) (point : Nat) : (s.trace proc part point).scrubs = s.scrubs := by unfold State.trace; split <;> [rfl; (split <;> [rfl; (simp [State.draw])])]
@[simp] theorem State.trace_sec (proc : Nat) (part : Option Nat) (point : Nat) : (s.trace proc part point).sec = s.sec := by unfold State.trace; split <;> [rfl; (split <;> [rfl; (simp [State.draw])])]
@[simp] theorem State.trace_avs (proc : Nat) (part : Option Nat) (point : Nat) : (s.trace proc part point).avs = s.avs := by unfold State.trace; split <;> [rfl; (split <;> [rfl; (simp [State.draw])])]
@[simp] theorem State.trace_jtag (proc : Nat) (part : Option Nat) (point : Nat) : (s.trace proc part point).jtag = s.jtag := by unfold State.trace; split <;> [rfl; (split <;> [rfl; (simp [State.draw])])]
@[simp] theorem State.trace_env (proc : Nat) (part : Option Nat) (point : Nat) : (s.trace proc part point).env = s.env := by unfold State.trace; split <;> [rfl; (split <;> [rfl; (simp [State.draw])])]
@[simp] theorem State.trace_railBad (proc : Nat) (part : Option Nat) (point : Nat) : (s.trace proc part point).railBad = s.railBad := by unfold State.trace; split <;> [rfl; (split <;> [rfl; (simp [State.draw])])]
@[simp] theorem State.trace_frames (proc : Nat) (part : Option Nat) (point : Nat) : (s.trace proc part point).frames = s.frames := by unfold State.trace; split <;> [rfl; (split <;> [rfl; (simp [State.draw])])]
@[simp] theorem State.trace_frames2 (proc : Nat) (part : Option Nat) (point : Nat) : (s.trace proc part point).frames2 = s.frames2 := by unfold State.trace; split <;> [rfl; (split <;> [rfl; (simp [State.draw])])]
@[simp] theorem State.trace_ddr (proc : Nat) (part : Option Nat) (point : Nat) : (s.trace proc part point).ddr = s.ddr := by unfold State.trace; split <;> [rfl; (split <;> [rfl; (simp [State.draw])])]
@[simp] theorem State.trace_fscratch (proc : Nat) (part : Option Nat) (point : Nat) : (s.trace proc part point).fscratch = s.fscratch := by unfold State.trace; split <;> [rfl; (split <;> [rfl; (simp [State.draw])])]
@[simp] theorem State.trace_scrPrev (proc : Nat) (part : Option Nat) (point : Nat) : (s.trace proc part point).scrPrev = s.scrPrev := by unfold State.trace; split <;> [rfl; (split <;> [rfl; (simp [State.draw])])]
@[simp] theorem State.trace_hostMem (proc : Nat) (part : Option Nat) (point : Nat) : (s.trace proc part point).hostMem = s.hostMem := by unfold State.trace; split <;> [rfl; (split <;> [rfl; (simp [State.draw])])]
@[simp] theorem State.trace_pending (proc : Nat) (part : Option Nat) (point : Nat) : (s.trace proc part point).pending = s.pending := by unfold State.trace; split <;> [rfl; (split <;> [rfl; (simp [State.draw])])]

/-! ### `asked` -/

@[simp] theorem State.asked_now (fn : Nat) : (s.asked fn).now = s.now := by simp [State.asked]
@[simp] theorem State.asked_resetN (fn : Nat) : (s.asked fn).resetN = s.resetN := by simp [State.asked]
@[simp] theorem State.asked_stopped (fn : Nat) : (s.asked fn).stopped = s.stopped := by simp [State.asked]
@[simp] theorem State.asked_tick (fn : Nat) : (s.asked fn).tick = s.tick := by simp [State.asked]
@[simp] theorem State.asked_plans (fn : Nat) : (s.asked fn).plans = s.plans := by simp [State.asked]
@[simp] theorem State.asked_fns (fn : Nat) : (s.asked fn).fns = s.fns := by simp [State.asked]
@[simp] theorem State.asked_link (fn : Nat) : (s.asked fn).link = s.link := by simp [State.asked]
@[simp] theorem State.asked_seen (fn : Nat) : (s.asked fn).seen = s.seen := by simp [State.asked]
@[simp] theorem State.asked_can (fn : Nat) : (s.asked fn).can = s.can := by simp [State.asked]
@[simp] theorem State.asked_pads (fn : Nat) : (s.asked fn).pads = s.pads := by simp [State.asked]
@[simp] theorem State.asked_cores (fn : Nat) : (s.asked fn).cores = s.cores := by simp [State.asked]
@[simp] theorem State.asked_tasks (fn : Nat) : (s.asked fn).tasks = s.tasks := by simp [State.asked]
@[simp] theorem State.asked_nextId (fn : Nat) : (s.asked fn).nextId = s.nextId := by simp [State.asked]
@[simp] theorem State.asked_idleAt (fn : Nat) : (s.asked fn).idleAt = s.idleAt := by simp [State.asked]
@[simp] theorem State.asked_quotaWait (fn : Nat) : (s.asked fn).quotaWait = s.quotaWait := by simp [State.asked]
@[simp] theorem State.asked_winDone (fn : Nat) : (s.asked fn).winDone = s.winDone := by simp [State.asked]
@[simp] theorem State.asked_queues (fn : Nat) : (s.asked fn).queues = s.queues := by simp [State.asked]
@[simp] theorem State.asked_chans (fn : Nat) : (s.asked fn).chans = s.chans := by simp [State.asked]
@[simp] theorem State.asked_dmas (fn : Nat) : (s.asked fn).dmas = s.dmas := by simp [State.asked]
@[simp] theorem State.asked_ports (fn : Nat) : (s.asked fn).ports = s.ports := by simp [State.asked]
@[simp] theorem State.asked_streams (fn : Nat) : (s.asked fn).streams = s.streams := by simp [State.asked]
@[simp] theorem State.asked_i3cs (fn : Nat) : (s.asked fn).i3cs = s.i3cs := by simp [State.asked]
@[simp] theorem State.asked_engines (fn : Nat) : (s.asked fn).engines = s.engines := by simp [State.asked]
@[simp] theorem State.asked_ctxCache (fn : Nat) : (s.asked fn).ctxCache = s.ctxCache := by simp [State.asked]
@[simp] theorem State.asked_ctxFreed (fn : Nat) : (s.asked fn).ctxFreed = s.ctxFreed := by simp [State.asked]
@[simp] theorem State.asked_ctxUndef (fn : Nat) : (s.asked fn).ctxUndef = s.ctxUndef := by simp [State.asked]
@[simp] theorem State.asked_netReply (fn : Nat) : (s.asked fn).netReply = s.netReply := by simp [State.asked]
@[simp] theorem State.asked_umbra (fn : Nat) : (s.asked fn).umbra = s.umbra := by simp [State.asked]
@[simp] theorem State.asked_faults (fn : Nat) : (s.asked fn).faults = s.faults := by simp [State.asked]
@[simp] theorem State.asked_scrubs (fn : Nat) : (s.asked fn).scrubs = s.scrubs := by simp [State.asked]
@[simp] theorem State.asked_sec (fn : Nat) : (s.asked fn).sec = s.sec := by simp [State.asked]
@[simp] theorem State.asked_avs (fn : Nat) : (s.asked fn).avs = s.avs := by simp [State.asked]
@[simp] theorem State.asked_jtag (fn : Nat) : (s.asked fn).jtag = s.jtag := by simp [State.asked]
@[simp] theorem State.asked_env (fn : Nat) : (s.asked fn).env = s.env := by simp [State.asked]
@[simp] theorem State.asked_railBad (fn : Nat) : (s.asked fn).railBad = s.railBad := by simp [State.asked]
@[simp] theorem State.asked_frames (fn : Nat) : (s.asked fn).frames = s.frames := by simp [State.asked]
@[simp] theorem State.asked_frames2 (fn : Nat) : (s.asked fn).frames2 = s.frames2 := by simp [State.asked]
@[simp] theorem State.asked_ddr (fn : Nat) : (s.asked fn).ddr = s.ddr := by simp [State.asked]
@[simp] theorem State.asked_fscratch (fn : Nat) : (s.asked fn).fscratch = s.fscratch := by simp [State.asked]
@[simp] theorem State.asked_scrPrev (fn : Nat) : (s.asked fn).scrPrev = s.scrPrev := by simp [State.asked]
@[simp] theorem State.asked_hostMem (fn : Nat) : (s.asked fn).hostMem = s.hostMem := by simp [State.asked]
@[simp] theorem State.asked_pending (fn : Nat) : (s.asked fn).pending = s.pending := by simp [State.asked]

/-! ### `journalAdd` -/

@[simp] theorem State.journalAdd_now (e : JEntry) : (s.journalAdd e).now = s.now := by unfold State.journalAdd; simp
@[simp] theorem State.journalAdd_resetN (e : JEntry) : (s.journalAdd e).resetN = s.resetN := by unfold State.journalAdd; simp
@[simp] theorem State.journalAdd_stopped (e : JEntry) : (s.journalAdd e).stopped = s.stopped := by unfold State.journalAdd; simp
@[simp] theorem State.journalAdd_tick (e : JEntry) : (s.journalAdd e).tick = s.tick := by unfold State.journalAdd; simp
@[simp] theorem State.journalAdd_plans (e : JEntry) : (s.journalAdd e).plans = s.plans := by unfold State.journalAdd; simp
@[simp] theorem State.journalAdd_fns (e : JEntry) : (s.journalAdd e).fns = s.fns := by unfold State.journalAdd; simp
@[simp] theorem State.journalAdd_link (e : JEntry) : (s.journalAdd e).link = s.link := by unfold State.journalAdd; simp
@[simp] theorem State.journalAdd_seen (e : JEntry) : (s.journalAdd e).seen = s.seen := by unfold State.journalAdd; simp
@[simp] theorem State.journalAdd_can (e : JEntry) : (s.journalAdd e).can = s.can := by unfold State.journalAdd; simp
@[simp] theorem State.journalAdd_fw (e : JEntry) : (s.journalAdd e).fw = s.fw := by unfold State.journalAdd; simp
@[simp] theorem State.journalAdd_pads (e : JEntry) : (s.journalAdd e).pads = s.pads := by unfold State.journalAdd; simp
@[simp] theorem State.journalAdd_cores (e : JEntry) : (s.journalAdd e).cores = s.cores := by unfold State.journalAdd; simp
@[simp] theorem State.journalAdd_tasks (e : JEntry) : (s.journalAdd e).tasks = s.tasks := by unfold State.journalAdd; simp
@[simp] theorem State.journalAdd_nextId (e : JEntry) : (s.journalAdd e).nextId = s.nextId := by unfold State.journalAdd; simp
@[simp] theorem State.journalAdd_idleAt (e : JEntry) : (s.journalAdd e).idleAt = s.idleAt := by unfold State.journalAdd; simp
@[simp] theorem State.journalAdd_quotaWait (e : JEntry) : (s.journalAdd e).quotaWait = s.quotaWait := by unfold State.journalAdd; simp
@[simp] theorem State.journalAdd_winDone (e : JEntry) : (s.journalAdd e).winDone = s.winDone := by unfold State.journalAdd; simp
@[simp] theorem State.journalAdd_queues (e : JEntry) : (s.journalAdd e).queues = s.queues := by unfold State.journalAdd; simp
@[simp] theorem State.journalAdd_chans (e : JEntry) : (s.journalAdd e).chans = s.chans := by unfold State.journalAdd; simp
@[simp] theorem State.journalAdd_dmas (e : JEntry) : (s.journalAdd e).dmas = s.dmas := by unfold State.journalAdd; simp
@[simp] theorem State.journalAdd_ports (e : JEntry) : (s.journalAdd e).ports = s.ports := by unfold State.journalAdd; simp
@[simp] theorem State.journalAdd_streams (e : JEntry) : (s.journalAdd e).streams = s.streams := by unfold State.journalAdd; simp
@[simp] theorem State.journalAdd_i3cs (e : JEntry) : (s.journalAdd e).i3cs = s.i3cs := by unfold State.journalAdd; simp
@[simp] theorem State.journalAdd_engines (e : JEntry) : (s.journalAdd e).engines = s.engines := by unfold State.journalAdd; simp
@[simp] theorem State.journalAdd_ctxCache (e : JEntry) : (s.journalAdd e).ctxCache = s.ctxCache := by unfold State.journalAdd; simp
@[simp] theorem State.journalAdd_ctxFreed (e : JEntry) : (s.journalAdd e).ctxFreed = s.ctxFreed := by unfold State.journalAdd; simp
@[simp] theorem State.journalAdd_ctxUndef (e : JEntry) : (s.journalAdd e).ctxUndef = s.ctxUndef := by unfold State.journalAdd; simp
@[simp] theorem State.journalAdd_netReply (e : JEntry) : (s.journalAdd e).netReply = s.netReply := by unfold State.journalAdd; simp
@[simp] theorem State.journalAdd_umbra (e : JEntry) : (s.journalAdd e).umbra = s.umbra := by unfold State.journalAdd; simp
@[simp] theorem State.journalAdd_faults (e : JEntry) : (s.journalAdd e).faults = s.faults := by unfold State.journalAdd; simp
@[simp] theorem State.journalAdd_scrubs (e : JEntry) : (s.journalAdd e).scrubs = s.scrubs := by unfold State.journalAdd; simp
@[simp] theorem State.journalAdd_sec (e : JEntry) : (s.journalAdd e).sec = s.sec := by unfold State.journalAdd; simp
@[simp] theorem State.journalAdd_avs (e : JEntry) : (s.journalAdd e).avs = s.avs := by unfold State.journalAdd; simp
@[simp] theorem State.journalAdd_jtag (e : JEntry) : (s.journalAdd e).jtag = s.jtag := by unfold State.journalAdd; simp
@[simp] theorem State.journalAdd_env (e : JEntry) : (s.journalAdd e).env = s.env := by unfold State.journalAdd; simp
@[simp] theorem State.journalAdd_railBad (e : JEntry) : (s.journalAdd e).railBad = s.railBad := by unfold State.journalAdd; simp
@[simp] theorem State.journalAdd_frames (e : JEntry) : (s.journalAdd e).frames = s.frames := by unfold State.journalAdd; simp
@[simp] theorem State.journalAdd_frames2 (e : JEntry) : (s.journalAdd e).frames2 = s.frames2 := by unfold State.journalAdd; simp
@[simp] theorem State.journalAdd_ddr (e : JEntry) : (s.journalAdd e).ddr = s.ddr := by unfold State.journalAdd; simp
@[simp] theorem State.journalAdd_fscratch (e : JEntry) : (s.journalAdd e).fscratch = s.fscratch := by unfold State.journalAdd; simp
@[simp] theorem State.journalAdd_scrPrev (e : JEntry) : (s.journalAdd e).scrPrev = s.scrPrev := by unfold State.journalAdd; simp
@[simp] theorem State.journalAdd_hostMem (e : JEntry) : (s.journalAdd e).hostMem = s.hostMem := by unfold State.journalAdd; simp
@[simp] theorem State.journalAdd_free (e : JEntry) : (s.journalAdd e).free = s.free := by unfold State.journalAdd; simp
@[simp] theorem State.journalAdd_pending (e : JEntry) : (s.journalAdd e).pending = s.pending := by unfold State.journalAdd; simp

/-! ### `touchTxn` -/

@[simp] theorem State.touchTxn_now (fn id : Nat) : (s.touchTxn fn id).now = s.now := by unfold State.touchTxn State.putTxn; split <;> rfl
@[simp] theorem State.touchTxn_resetN (fn id : Nat) : (s.touchTxn fn id).resetN = s.resetN := by unfold State.touchTxn State.putTxn; split <;> rfl
@[simp] theorem State.touchTxn_stopped (fn id : Nat) : (s.touchTxn fn id).stopped = s.stopped := by unfold State.touchTxn State.putTxn; split <;> rfl
@[simp] theorem State.touchTxn_tick (fn id : Nat) : (s.touchTxn fn id).tick = s.tick := by unfold State.touchTxn State.putTxn; split <;> rfl
@[simp] theorem State.touchTxn_plans (fn id : Nat) : (s.touchTxn fn id).plans = s.plans := by unfold State.touchTxn State.putTxn; split <;> rfl
@[simp] theorem State.touchTxn_fns (fn id : Nat) : (s.touchTxn fn id).fns = s.fns := by unfold State.touchTxn State.putTxn; split <;> rfl
@[simp] theorem State.touchTxn_link (fn id : Nat) : (s.touchTxn fn id).link = s.link := by unfold State.touchTxn State.putTxn; split <;> rfl
@[simp] theorem State.touchTxn_seen (fn id : Nat) : (s.touchTxn fn id).seen = s.seen := by unfold State.touchTxn State.putTxn; split <;> rfl
@[simp] theorem State.touchTxn_can (fn id : Nat) : (s.touchTxn fn id).can = s.can := by unfold State.touchTxn State.putTxn; split <;> rfl
@[simp] theorem State.touchTxn_fw (fn id : Nat) : (s.touchTxn fn id).fw = s.fw := by unfold State.touchTxn State.putTxn; split <;> rfl
@[simp] theorem State.touchTxn_pads (fn id : Nat) : (s.touchTxn fn id).pads = s.pads := by unfold State.touchTxn State.putTxn; split <;> rfl
@[simp] theorem State.touchTxn_cores (fn id : Nat) : (s.touchTxn fn id).cores = s.cores := by unfold State.touchTxn State.putTxn; split <;> rfl
@[simp] theorem State.touchTxn_tasks (fn id : Nat) : (s.touchTxn fn id).tasks = s.tasks := by unfold State.touchTxn State.putTxn; split <;> rfl
@[simp] theorem State.touchTxn_nextId (fn id : Nat) : (s.touchTxn fn id).nextId = s.nextId := by unfold State.touchTxn State.putTxn; split <;> rfl
@[simp] theorem State.touchTxn_idleAt (fn id : Nat) : (s.touchTxn fn id).idleAt = s.idleAt := by unfold State.touchTxn State.putTxn; split <;> rfl
@[simp] theorem State.touchTxn_quotaWait (fn id : Nat) : (s.touchTxn fn id).quotaWait = s.quotaWait := by unfold State.touchTxn State.putTxn; split <;> rfl
@[simp] theorem State.touchTxn_winDone (fn id : Nat) : (s.touchTxn fn id).winDone = s.winDone := by unfold State.touchTxn State.putTxn; split <;> rfl
@[simp] theorem State.touchTxn_queues (fn id : Nat) : (s.touchTxn fn id).queues = s.queues := by unfold State.touchTxn State.putTxn; split <;> rfl
@[simp] theorem State.touchTxn_chans (fn id : Nat) : (s.touchTxn fn id).chans = s.chans := by unfold State.touchTxn State.putTxn; split <;> rfl
@[simp] theorem State.touchTxn_dmas (fn id : Nat) : (s.touchTxn fn id).dmas = s.dmas := by unfold State.touchTxn State.putTxn; split <;> rfl
@[simp] theorem State.touchTxn_ports (fn id : Nat) : (s.touchTxn fn id).ports = s.ports := by unfold State.touchTxn State.putTxn; split <;> rfl
@[simp] theorem State.touchTxn_streams (fn id : Nat) : (s.touchTxn fn id).streams = s.streams := by unfold State.touchTxn State.putTxn; split <;> rfl
@[simp] theorem State.touchTxn_i3cs (fn id : Nat) : (s.touchTxn fn id).i3cs = s.i3cs := by unfold State.touchTxn State.putTxn; split <;> rfl
@[simp] theorem State.touchTxn_engines (fn id : Nat) : (s.touchTxn fn id).engines = s.engines := by unfold State.touchTxn State.putTxn; split <;> rfl
@[simp] theorem State.touchTxn_ctxCache (fn id : Nat) : (s.touchTxn fn id).ctxCache = s.ctxCache := by unfold State.touchTxn State.putTxn; split <;> rfl
@[simp] theorem State.touchTxn_ctxFreed (fn id : Nat) : (s.touchTxn fn id).ctxFreed = s.ctxFreed := by unfold State.touchTxn State.putTxn; split <;> rfl
@[simp] theorem State.touchTxn_ctxUndef (fn id : Nat) : (s.touchTxn fn id).ctxUndef = s.ctxUndef := by unfold State.touchTxn State.putTxn; split <;> rfl
@[simp] theorem State.touchTxn_netReply (fn id : Nat) : (s.touchTxn fn id).netReply = s.netReply := by unfold State.touchTxn State.putTxn; split <;> rfl
@[simp] theorem State.touchTxn_umbra (fn id : Nat) : (s.touchTxn fn id).umbra = s.umbra := by unfold State.touchTxn State.putTxn; split <;> rfl
@[simp] theorem State.touchTxn_faults (fn id : Nat) : (s.touchTxn fn id).faults = s.faults := by unfold State.touchTxn State.putTxn; split <;> rfl
@[simp] theorem State.touchTxn_scrubs (fn id : Nat) : (s.touchTxn fn id).scrubs = s.scrubs := by unfold State.touchTxn State.putTxn; split <;> rfl
@[simp] theorem State.touchTxn_sec (fn id : Nat) : (s.touchTxn fn id).sec = s.sec := by unfold State.touchTxn State.putTxn; split <;> rfl
@[simp] theorem State.touchTxn_avs (fn id : Nat) : (s.touchTxn fn id).avs = s.avs := by unfold State.touchTxn State.putTxn; split <;> rfl
@[simp] theorem State.touchTxn_jtag (fn id : Nat) : (s.touchTxn fn id).jtag = s.jtag := by unfold State.touchTxn State.putTxn; split <;> rfl
@[simp] theorem State.touchTxn_env (fn id : Nat) : (s.touchTxn fn id).env = s.env := by unfold State.touchTxn State.putTxn; split <;> rfl
@[simp] theorem State.touchTxn_railBad (fn id : Nat) : (s.touchTxn fn id).railBad = s.railBad := by unfold State.touchTxn State.putTxn; split <;> rfl
@[simp] theorem State.touchTxn_frames (fn id : Nat) : (s.touchTxn fn id).frames = s.frames := by unfold State.touchTxn State.putTxn; split <;> rfl
@[simp] theorem State.touchTxn_frames2 (fn id : Nat) : (s.touchTxn fn id).frames2 = s.frames2 := by unfold State.touchTxn State.putTxn; split <;> rfl
@[simp] theorem State.touchTxn_ddr (fn id : Nat) : (s.touchTxn fn id).ddr = s.ddr := by unfold State.touchTxn State.putTxn; split <;> rfl
@[simp] theorem State.touchTxn_fscratch (fn id : Nat) : (s.touchTxn fn id).fscratch = s.fscratch := by unfold State.touchTxn State.putTxn; split <;> rfl
@[simp] theorem State.touchTxn_scrPrev (fn id : Nat) : (s.touchTxn fn id).scrPrev = s.scrPrev := by unfold State.touchTxn State.putTxn; split <;> rfl
@[simp] theorem State.touchTxn_hostMem (fn id : Nat) : (s.touchTxn fn id).hostMem = s.hostMem := by unfold State.touchTxn State.putTxn; split <;> rfl
@[simp] theorem State.touchTxn_free (fn id : Nat) : (s.touchTxn fn id).free = s.free := by unfold State.touchTxn State.putTxn; split <;> rfl
@[simp] theorem State.touchTxn_pending (fn id : Nat) : (s.touchTxn fn id).pending = s.pending := by unfold State.touchTxn State.putTxn; split <;> rfl

/-! ### `countResp` -/

@[simp] theorem State.countResp_now (fn : Nat) (p : Resp) : (s.countResp fn p).now = s.now := by unfold State.countResp; split <;> split <;> rfl
@[simp] theorem State.countResp_resetN (fn : Nat) (p : Resp) : (s.countResp fn p).resetN = s.resetN := by unfold State.countResp; split <;> split <;> rfl
@[simp] theorem State.countResp_stopped (fn : Nat) (p : Resp) : (s.countResp fn p).stopped = s.stopped := by unfold State.countResp; split <;> split <;> rfl
@[simp] theorem State.countResp_tick (fn : Nat) (p : Resp) : (s.countResp fn p).tick = s.tick := by unfold State.countResp; split <;> split <;> rfl
@[simp] theorem State.countResp_plans (fn : Nat) (p : Resp) : (s.countResp fn p).plans = s.plans := by unfold State.countResp; split <;> split <;> rfl
@[simp] theorem State.countResp_fns (fn : Nat) (p : Resp) : (s.countResp fn p).fns = s.fns := by unfold State.countResp; split <;> split <;> rfl
@[simp] theorem State.countResp_link (fn : Nat) (p : Resp) : (s.countResp fn p).link = s.link := by unfold State.countResp; split <;> split <;> rfl
@[simp] theorem State.countResp_seen (fn : Nat) (p : Resp) : (s.countResp fn p).seen = s.seen := by unfold State.countResp; split <;> split <;> rfl
@[simp] theorem State.countResp_can (fn : Nat) (p : Resp) : (s.countResp fn p).can = s.can := by unfold State.countResp; split <;> split <;> rfl
@[simp] theorem State.countResp_fw (fn : Nat) (p : Resp) : (s.countResp fn p).fw = s.fw := by unfold State.countResp; split <;> split <;> rfl
@[simp] theorem State.countResp_pads (fn : Nat) (p : Resp) : (s.countResp fn p).pads = s.pads := by unfold State.countResp; split <;> split <;> rfl
@[simp] theorem State.countResp_cores (fn : Nat) (p : Resp) : (s.countResp fn p).cores = s.cores := by unfold State.countResp; split <;> split <;> rfl
@[simp] theorem State.countResp_tasks (fn : Nat) (p : Resp) : (s.countResp fn p).tasks = s.tasks := by unfold State.countResp; split <;> split <;> rfl
@[simp] theorem State.countResp_nextId (fn : Nat) (p : Resp) : (s.countResp fn p).nextId = s.nextId := by unfold State.countResp; split <;> split <;> rfl
@[simp] theorem State.countResp_idleAt (fn : Nat) (p : Resp) : (s.countResp fn p).idleAt = s.idleAt := by unfold State.countResp; split <;> split <;> rfl
@[simp] theorem State.countResp_quotaWait (fn : Nat) (p : Resp) : (s.countResp fn p).quotaWait = s.quotaWait := by unfold State.countResp; split <;> split <;> rfl
@[simp] theorem State.countResp_winDone (fn : Nat) (p : Resp) : (s.countResp fn p).winDone = s.winDone := by unfold State.countResp; split <;> split <;> rfl
@[simp] theorem State.countResp_queues (fn : Nat) (p : Resp) : (s.countResp fn p).queues = s.queues := by unfold State.countResp; split <;> split <;> rfl
@[simp] theorem State.countResp_chans (fn : Nat) (p : Resp) : (s.countResp fn p).chans = s.chans := by unfold State.countResp; split <;> split <;> rfl
@[simp] theorem State.countResp_dmas (fn : Nat) (p : Resp) : (s.countResp fn p).dmas = s.dmas := by unfold State.countResp; split <;> split <;> rfl
@[simp] theorem State.countResp_ports (fn : Nat) (p : Resp) : (s.countResp fn p).ports = s.ports := by unfold State.countResp; split <;> split <;> rfl
@[simp] theorem State.countResp_streams (fn : Nat) (p : Resp) : (s.countResp fn p).streams = s.streams := by unfold State.countResp; split <;> split <;> rfl
@[simp] theorem State.countResp_i3cs (fn : Nat) (p : Resp) : (s.countResp fn p).i3cs = s.i3cs := by unfold State.countResp; split <;> split <;> rfl
@[simp] theorem State.countResp_engines (fn : Nat) (p : Resp) : (s.countResp fn p).engines = s.engines := by unfold State.countResp; split <;> split <;> rfl
@[simp] theorem State.countResp_ctxCache (fn : Nat) (p : Resp) : (s.countResp fn p).ctxCache = s.ctxCache := by unfold State.countResp; split <;> split <;> rfl
@[simp] theorem State.countResp_ctxFreed (fn : Nat) (p : Resp) : (s.countResp fn p).ctxFreed = s.ctxFreed := by unfold State.countResp; split <;> split <;> rfl
@[simp] theorem State.countResp_ctxUndef (fn : Nat) (p : Resp) : (s.countResp fn p).ctxUndef = s.ctxUndef := by unfold State.countResp; split <;> split <;> rfl
@[simp] theorem State.countResp_netReply (fn : Nat) (p : Resp) : (s.countResp fn p).netReply = s.netReply := by unfold State.countResp; split <;> split <;> rfl
@[simp] theorem State.countResp_umbra (fn : Nat) (p : Resp) : (s.countResp fn p).umbra = s.umbra := by unfold State.countResp; split <;> split <;> rfl
@[simp] theorem State.countResp_faults (fn : Nat) (p : Resp) : (s.countResp fn p).faults = s.faults := by unfold State.countResp; split <;> split <;> rfl
@[simp] theorem State.countResp_scrubs (fn : Nat) (p : Resp) : (s.countResp fn p).scrubs = s.scrubs := by unfold State.countResp; split <;> split <;> rfl
@[simp] theorem State.countResp_sec (fn : Nat) (p : Resp) : (s.countResp fn p).sec = s.sec := by unfold State.countResp; split <;> split <;> rfl
@[simp] theorem State.countResp_avs (fn : Nat) (p : Resp) : (s.countResp fn p).avs = s.avs := by unfold State.countResp; split <;> split <;> rfl
@[simp] theorem State.countResp_jtag (fn : Nat) (p : Resp) : (s.countResp fn p).jtag = s.jtag := by unfold State.countResp; split <;> split <;> rfl
@[simp] theorem State.countResp_env (fn : Nat) (p : Resp) : (s.countResp fn p).env = s.env := by unfold State.countResp; split <;> split <;> rfl
@[simp] theorem State.countResp_railBad (fn : Nat) (p : Resp) : (s.countResp fn p).railBad = s.railBad := by unfold State.countResp; split <;> split <;> rfl
@[simp] theorem State.countResp_frames (fn : Nat) (p : Resp) : (s.countResp fn p).frames = s.frames := by unfold State.countResp; split <;> split <;> rfl
@[simp] theorem State.countResp_frames2 (fn : Nat) (p : Resp) : (s.countResp fn p).frames2 = s.frames2 := by unfold State.countResp; split <;> split <;> rfl
@[simp] theorem State.countResp_ddr (fn : Nat) (p : Resp) : (s.countResp fn p).ddr = s.ddr := by unfold State.countResp; split <;> split <;> rfl
@[simp] theorem State.countResp_fscratch (fn : Nat) (p : Resp) : (s.countResp fn p).fscratch = s.fscratch := by unfold State.countResp; split <;> split <;> rfl
@[simp] theorem State.countResp_scrPrev (fn : Nat) (p : Resp) : (s.countResp fn p).scrPrev = s.scrPrev := by unfold State.countResp; split <;> split <;> rfl
@[simp] theorem State.countResp_hostMem (fn : Nat) (p : Resp) : (s.countResp fn p).hostMem = s.hostMem := by unfold State.countResp; split <;> split <;> rfl
@[simp] theorem State.countResp_free (fn : Nat) (p : Resp) : (s.countResp fn p).free = s.free := by unfold State.countResp; split <;> split <;> rfl
@[simp] theorem State.countResp_pending (fn : Nat) (p : Resp) : (s.countResp fn p).pending = s.pending := by unfold State.countResp; split <;> split <;> rfl

/-! ### `canRespond` -/

@[simp] theorem State.canRespond_now (p : Resp) : (s.canRespond p).now = s.now := by unfold State.canRespond State.canSend; dsimp only; split <;> rfl
@[simp] theorem State.canRespond_resetN (p : Resp) : (s.canRespond p).resetN = s.resetN := by unfold State.canRespond State.canSend; dsimp only; split <;> rfl
@[simp] theorem State.canRespond_stopped (p : Resp) : (s.canRespond p).stopped = s.stopped := by unfold State.canRespond State.canSend; dsimp only; split <;> rfl
@[simp] theorem State.canRespond_tick (p : Resp) : (s.canRespond p).tick = s.tick := by unfold State.canRespond State.canSend; dsimp only; split <;> rfl
@[simp] theorem State.canRespond_dict (p : Resp) : (s.canRespond p).dict = s.dict := by unfold State.canRespond State.canSend; dsimp only; split <;> rfl
@[simp] theorem State.canRespond_plans (p : Resp) : (s.canRespond p).plans = s.plans := by unfold State.canRespond State.canSend; dsimp only; split <;> rfl
@[simp] theorem State.canRespond_fns (p : Resp) : (s.canRespond p).fns = s.fns := by unfold State.canRespond State.canSend; dsimp only; split <;> rfl
@[simp] theorem State.canRespond_link (p : Resp) : (s.canRespond p).link = s.link := by unfold State.canRespond State.canSend; dsimp only; split <;> rfl
@[simp] theorem State.canRespond_seen (p : Resp) : (s.canRespond p).seen = s.seen := by unfold State.canRespond State.canSend; dsimp only; split <;> rfl
@[simp] theorem State.canRespond_fw (p : Resp) : (s.canRespond p).fw = s.fw := by unfold State.canRespond State.canSend; dsimp only; split <;> rfl
@[simp] theorem State.canRespond_pads (p : Resp) : (s.canRespond p).pads = s.pads := by unfold State.canRespond State.canSend; dsimp only; split <;> rfl
@[simp] theorem State.canRespond_cores (p : Resp) : (s.canRespond p).cores = s.cores := by unfold State.canRespond State.canSend; dsimp only; split <;> rfl
@[simp] theorem State.canRespond_tasks (p : Resp) : (s.canRespond p).tasks = s.tasks := by unfold State.canRespond State.canSend; dsimp only; split <;> rfl
@[simp] theorem State.canRespond_nextId (p : Resp) : (s.canRespond p).nextId = s.nextId := by unfold State.canRespond State.canSend; dsimp only; split <;> rfl
@[simp] theorem State.canRespond_idleAt (p : Resp) : (s.canRespond p).idleAt = s.idleAt := by unfold State.canRespond State.canSend; dsimp only; split <;> rfl
@[simp] theorem State.canRespond_quotaWait (p : Resp) : (s.canRespond p).quotaWait = s.quotaWait := by unfold State.canRespond State.canSend; dsimp only; split <;> rfl
@[simp] theorem State.canRespond_winDone (p : Resp) : (s.canRespond p).winDone = s.winDone := by unfold State.canRespond State.canSend; dsimp only; split <;> rfl
@[simp] theorem State.canRespond_queues (p : Resp) : (s.canRespond p).queues = s.queues := by unfold State.canRespond State.canSend; dsimp only; split <;> rfl
@[simp] theorem State.canRespond_chans (p : Resp) : (s.canRespond p).chans = s.chans := by unfold State.canRespond State.canSend; dsimp only; split <;> rfl
@[simp] theorem State.canRespond_dmas (p : Resp) : (s.canRespond p).dmas = s.dmas := by unfold State.canRespond State.canSend; dsimp only; split <;> rfl
@[simp] theorem State.canRespond_ports (p : Resp) : (s.canRespond p).ports = s.ports := by unfold State.canRespond State.canSend; dsimp only; split <;> rfl
@[simp] theorem State.canRespond_streams (p : Resp) : (s.canRespond p).streams = s.streams := by unfold State.canRespond State.canSend; dsimp only; split <;> rfl
@[simp] theorem State.canRespond_i3cs (p : Resp) : (s.canRespond p).i3cs = s.i3cs := by unfold State.canRespond State.canSend; dsimp only; split <;> rfl
@[simp] theorem State.canRespond_engines (p : Resp) : (s.canRespond p).engines = s.engines := by unfold State.canRespond State.canSend; dsimp only; split <;> rfl
@[simp] theorem State.canRespond_ctxCache (p : Resp) : (s.canRespond p).ctxCache = s.ctxCache := by unfold State.canRespond State.canSend; dsimp only; split <;> rfl
@[simp] theorem State.canRespond_ctxFreed (p : Resp) : (s.canRespond p).ctxFreed = s.ctxFreed := by unfold State.canRespond State.canSend; dsimp only; split <;> rfl
@[simp] theorem State.canRespond_ctxUndef (p : Resp) : (s.canRespond p).ctxUndef = s.ctxUndef := by unfold State.canRespond State.canSend; dsimp only; split <;> rfl
@[simp] theorem State.canRespond_netReply (p : Resp) : (s.canRespond p).netReply = s.netReply := by unfold State.canRespond State.canSend; dsimp only; split <;> rfl
@[simp] theorem State.canRespond_umbra (p : Resp) : (s.canRespond p).umbra = s.umbra := by unfold State.canRespond State.canSend; dsimp only; split <;> rfl
@[simp] theorem State.canRespond_faults (p : Resp) : (s.canRespond p).faults = s.faults := by unfold State.canRespond State.canSend; dsimp only; split <;> rfl
@[simp] theorem State.canRespond_scrubs (p : Resp) : (s.canRespond p).scrubs = s.scrubs := by unfold State.canRespond State.canSend; dsimp only; split <;> rfl
@[simp] theorem State.canRespond_sec (p : Resp) : (s.canRespond p).sec = s.sec := by unfold State.canRespond State.canSend; dsimp only; split <;> rfl
@[simp] theorem State.canRespond_avs (p : Resp) : (s.canRespond p).avs = s.avs := by unfold State.canRespond State.canSend; dsimp only; split <;> rfl
@[simp] theorem State.canRespond_jtag (p : Resp) : (s.canRespond p).jtag = s.jtag := by unfold State.canRespond State.canSend; dsimp only; split <;> rfl
@[simp] theorem State.canRespond_env (p : Resp) : (s.canRespond p).env = s.env := by unfold State.canRespond State.canSend; dsimp only; split <;> rfl
@[simp] theorem State.canRespond_railBad (p : Resp) : (s.canRespond p).railBad = s.railBad := by unfold State.canRespond State.canSend; dsimp only; split <;> rfl
@[simp] theorem State.canRespond_frames (p : Resp) : (s.canRespond p).frames = s.frames := by unfold State.canRespond State.canSend; dsimp only; split <;> rfl
@[simp] theorem State.canRespond_frames2 (p : Resp) : (s.canRespond p).frames2 = s.frames2 := by unfold State.canRespond State.canSend; dsimp only; split <;> rfl
@[simp] theorem State.canRespond_ddr (p : Resp) : (s.canRespond p).ddr = s.ddr := by unfold State.canRespond State.canSend; dsimp only; split <;> rfl
@[simp] theorem State.canRespond_fscratch (p : Resp) : (s.canRespond p).fscratch = s.fscratch := by unfold State.canRespond State.canSend; dsimp only; split <;> rfl
@[simp] theorem State.canRespond_scrPrev (p : Resp) : (s.canRespond p).scrPrev = s.scrPrev := by unfold State.canRespond State.canSend; dsimp only; split <;> rfl
@[simp] theorem State.canRespond_hostMem (p : Resp) : (s.canRespond p).hostMem = s.hostMem := by unfold State.canRespond State.canSend; dsimp only; split <;> rfl
@[simp] theorem State.canRespond_free (p : Resp) : (s.canRespond p).free = s.free := by unfold State.canRespond State.canSend; dsimp only; split <;> rfl
@[simp] theorem State.canRespond_pending (p : Resp) : (s.canRespond p).pending = s.pending := by unfold State.canRespond State.canSend; dsimp only; split <;> rfl

/-! ### `deliver` -/

@[simp] theorem State.deliver_now (fn : Nat) (p : Resp) : (s.deliver fn p).now = s.now := by unfold State.deliver; dsimp only; split <;> simp
@[simp] theorem State.deliver_resetN (fn : Nat) (p : Resp) : (s.deliver fn p).resetN = s.resetN := by unfold State.deliver; dsimp only; split <;> simp
@[simp] theorem State.deliver_stopped (fn : Nat) (p : Resp) : (s.deliver fn p).stopped = s.stopped := by unfold State.deliver; dsimp only; split <;> simp
@[simp] theorem State.deliver_tick (fn : Nat) (p : Resp) : (s.deliver fn p).tick = s.tick := by unfold State.deliver; dsimp only; split <;> simp
@[simp] theorem State.deliver_plans (fn : Nat) (p : Resp) : (s.deliver fn p).plans = s.plans := by unfold State.deliver; dsimp only; split <;> simp
@[simp] theorem State.deliver_link (fn : Nat) (p : Resp) : (s.deliver fn p).link = s.link := by unfold State.deliver; dsimp only; split <;> simp
@[simp] theorem State.deliver_seen (fn : Nat) (p : Resp) : (s.deliver fn p).seen = s.seen := by unfold State.deliver; dsimp only; split <;> simp
@[simp] theorem State.deliver_fw (fn : Nat) (p : Resp) : (s.deliver fn p).fw = s.fw := by unfold State.deliver; dsimp only; split <;> simp
@[simp] theorem State.deliver_pads (fn : Nat) (p : Resp) : (s.deliver fn p).pads = s.pads := by unfold State.deliver; dsimp only; split <;> simp
@[simp] theorem State.deliver_cores (fn : Nat) (p : Resp) : (s.deliver fn p).cores = s.cores := by unfold State.deliver; dsimp only; split <;> simp
@[simp] theorem State.deliver_tasks (fn : Nat) (p : Resp) : (s.deliver fn p).tasks = s.tasks := by unfold State.deliver; dsimp only; split <;> simp
@[simp] theorem State.deliver_nextId (fn : Nat) (p : Resp) : (s.deliver fn p).nextId = s.nextId := by unfold State.deliver; dsimp only; split <;> simp
@[simp] theorem State.deliver_idleAt (fn : Nat) (p : Resp) : (s.deliver fn p).idleAt = s.idleAt := by unfold State.deliver; dsimp only; split <;> simp
@[simp] theorem State.deliver_quotaWait (fn : Nat) (p : Resp) : (s.deliver fn p).quotaWait = s.quotaWait := by unfold State.deliver; dsimp only; split <;> simp
@[simp] theorem State.deliver_winDone (fn : Nat) (p : Resp) : (s.deliver fn p).winDone = s.winDone := by unfold State.deliver; dsimp only; split <;> simp
@[simp] theorem State.deliver_queues (fn : Nat) (p : Resp) : (s.deliver fn p).queues = s.queues := by unfold State.deliver; dsimp only; split <;> simp
@[simp] theorem State.deliver_chans (fn : Nat) (p : Resp) : (s.deliver fn p).chans = s.chans := by unfold State.deliver; dsimp only; split <;> simp
@[simp] theorem State.deliver_dmas (fn : Nat) (p : Resp) : (s.deliver fn p).dmas = s.dmas := by unfold State.deliver; dsimp only; split <;> simp
@[simp] theorem State.deliver_ports (fn : Nat) (p : Resp) : (s.deliver fn p).ports = s.ports := by unfold State.deliver; dsimp only; split <;> simp
@[simp] theorem State.deliver_streams (fn : Nat) (p : Resp) : (s.deliver fn p).streams = s.streams := by unfold State.deliver; dsimp only; split <;> simp
@[simp] theorem State.deliver_i3cs (fn : Nat) (p : Resp) : (s.deliver fn p).i3cs = s.i3cs := by unfold State.deliver; dsimp only; split <;> simp
@[simp] theorem State.deliver_engines (fn : Nat) (p : Resp) : (s.deliver fn p).engines = s.engines := by unfold State.deliver; dsimp only; split <;> simp
@[simp] theorem State.deliver_ctxCache (fn : Nat) (p : Resp) : (s.deliver fn p).ctxCache = s.ctxCache := by unfold State.deliver; dsimp only; split <;> simp
@[simp] theorem State.deliver_ctxFreed (fn : Nat) (p : Resp) : (s.deliver fn p).ctxFreed = s.ctxFreed := by unfold State.deliver; dsimp only; split <;> simp
@[simp] theorem State.deliver_ctxUndef (fn : Nat) (p : Resp) : (s.deliver fn p).ctxUndef = s.ctxUndef := by unfold State.deliver; dsimp only; split <;> simp
@[simp] theorem State.deliver_netReply (fn : Nat) (p : Resp) : (s.deliver fn p).netReply = s.netReply := by unfold State.deliver; dsimp only; split <;> simp
@[simp] theorem State.deliver_umbra (fn : Nat) (p : Resp) : (s.deliver fn p).umbra = s.umbra := by unfold State.deliver; dsimp only; split <;> simp
@[simp] theorem State.deliver_faults (fn : Nat) (p : Resp) : (s.deliver fn p).faults = s.faults := by unfold State.deliver; dsimp only; split <;> simp
@[simp] theorem State.deliver_scrubs (fn : Nat) (p : Resp) : (s.deliver fn p).scrubs = s.scrubs := by unfold State.deliver; dsimp only; split <;> simp
@[simp] theorem State.deliver_sec (fn : Nat) (p : Resp) : (s.deliver fn p).sec = s.sec := by unfold State.deliver; dsimp only; split <;> simp
@[simp] theorem State.deliver_avs (fn : Nat) (p : Resp) : (s.deliver fn p).avs = s.avs := by unfold State.deliver; dsimp only; split <;> simp
@[simp] theorem State.deliver_jtag (fn : Nat) (p : Resp) : (s.deliver fn p).jtag = s.jtag := by unfold State.deliver; dsimp only; split <;> simp
@[simp] theorem State.deliver_env (fn : Nat) (p : Resp) : (s.deliver fn p).env = s.env := by unfold State.deliver; dsimp only; split <;> simp
@[simp] theorem State.deliver_railBad (fn : Nat) (p : Resp) : (s.deliver fn p).railBad = s.railBad := by unfold State.deliver; dsimp only; split <;> simp
@[simp] theorem State.deliver_frames (fn : Nat) (p : Resp) : (s.deliver fn p).frames = s.frames := by unfold State.deliver; dsimp only; split <;> simp
@[simp] theorem State.deliver_frames2 (fn : Nat) (p : Resp) : (s.deliver fn p).frames2 = s.frames2 := by unfold State.deliver; dsimp only; split <;> simp
@[simp] theorem State.deliver_ddr (fn : Nat) (p : Resp) : (s.deliver fn p).ddr = s.ddr := by unfold State.deliver; dsimp only; split <;> simp
@[simp] theorem State.deliver_fscratch (fn : Nat) (p : Resp) : (s.deliver fn p).fscratch = s.fscratch := by unfold State.deliver; dsimp only; split <;> simp
@[simp] theorem State.deliver_scrPrev (fn : Nat) (p : Resp) : (s.deliver fn p).scrPrev = s.scrPrev := by unfold State.deliver; dsimp only; split <;> simp
@[simp] theorem State.deliver_hostMem (fn : Nat) (p : Resp) : (s.deliver fn p).hostMem = s.hostMem := by unfold State.deliver; dsimp only; split <;> simp
@[simp] theorem State.deliver_free (fn : Nat) (p : Resp) : (s.deliver fn p).free = s.free := by unfold State.deliver; dsimp only; split <;> simp
@[simp] theorem State.deliver_pending (fn : Nat) (p : Resp) : (s.deliver fn p).pending = s.pending := by unfold State.deliver; dsimp only; split <;> simp

/-! ### `written`: beside the dictionary, what the effect left -/

@[simp] theorem State.written_now (fn : Nat) (o : ObjRow) (r : Req) : (s.written fn o r).now = (s.takeWrite fn o r).1.now := by
  simp only [State.written, State.touchTxn_now]; split <;> split <;> simp
@[simp] theorem State.written_resetN (fn : Nat) (o : ObjRow) (r : Req) : (s.written fn o r).resetN = (s.takeWrite fn o r).1.resetN := by
  simp only [State.written, State.touchTxn_resetN]; split <;> split <;> simp
@[simp] theorem State.written_stopped (fn : Nat) (o : ObjRow) (r : Req) : (s.written fn o r).stopped = (s.takeWrite fn o r).1.stopped := by
  simp only [State.written, State.touchTxn_stopped]; split <;> split <;> simp
@[simp] theorem State.written_tick (fn : Nat) (o : ObjRow) (r : Req) : (s.written fn o r).tick = (s.takeWrite fn o r).1.tick := by
  simp only [State.written, State.touchTxn_tick]; split <;> split <;> simp
@[simp] theorem State.written_plans (fn : Nat) (o : ObjRow) (r : Req) : (s.written fn o r).plans = (s.takeWrite fn o r).1.plans := by
  simp only [State.written, State.touchTxn_plans]; split <;> split <;> simp
@[simp] theorem State.written_fns (fn : Nat) (o : ObjRow) (r : Req) : (s.written fn o r).fns = (s.takeWrite fn o r).1.fns := by
  simp only [State.written, State.touchTxn_fns]; split <;> split <;> simp
@[simp] theorem State.written_link (fn : Nat) (o : ObjRow) (r : Req) : (s.written fn o r).link = (s.takeWrite fn o r).1.link := by
  simp only [State.written, State.touchTxn_link]; split <;> split <;> simp
@[simp] theorem State.written_seen (fn : Nat) (o : ObjRow) (r : Req) : (s.written fn o r).seen = (s.takeWrite fn o r).1.seen := by
  simp only [State.written, State.touchTxn_seen]; split <;> split <;> simp
@[simp] theorem State.written_can (fn : Nat) (o : ObjRow) (r : Req) : (s.written fn o r).can = (s.takeWrite fn o r).1.can := by
  simp only [State.written, State.touchTxn_can]; split <;> split <;> simp
@[simp] theorem State.written_fw (fn : Nat) (o : ObjRow) (r : Req) : (s.written fn o r).fw = (s.takeWrite fn o r).1.fw := by
  simp only [State.written, State.touchTxn_fw]; split <;> split <;> simp
@[simp] theorem State.written_pads (fn : Nat) (o : ObjRow) (r : Req) : (s.written fn o r).pads = (s.takeWrite fn o r).1.pads := by
  simp only [State.written, State.touchTxn_pads]; split <;> split <;> simp
@[simp] theorem State.written_cores (fn : Nat) (o : ObjRow) (r : Req) : (s.written fn o r).cores = (s.takeWrite fn o r).1.cores := by
  simp only [State.written, State.touchTxn_cores]; split <;> split <;> simp
@[simp] theorem State.written_tasks (fn : Nat) (o : ObjRow) (r : Req) : (s.written fn o r).tasks = (s.takeWrite fn o r).1.tasks := by
  simp only [State.written, State.touchTxn_tasks]; split <;> split <;> simp
@[simp] theorem State.written_nextId (fn : Nat) (o : ObjRow) (r : Req) : (s.written fn o r).nextId = (s.takeWrite fn o r).1.nextId := by
  simp only [State.written, State.touchTxn_nextId]; split <;> split <;> simp
@[simp] theorem State.written_idleAt (fn : Nat) (o : ObjRow) (r : Req) : (s.written fn o r).idleAt = (s.takeWrite fn o r).1.idleAt := by
  simp only [State.written, State.touchTxn_idleAt]; split <;> split <;> simp
@[simp] theorem State.written_quotaWait (fn : Nat) (o : ObjRow) (r : Req) : (s.written fn o r).quotaWait = (s.takeWrite fn o r).1.quotaWait := by
  simp only [State.written, State.touchTxn_quotaWait]; split <;> split <;> simp
@[simp] theorem State.written_winDone (fn : Nat) (o : ObjRow) (r : Req) : (s.written fn o r).winDone = (s.takeWrite fn o r).1.winDone := by
  simp only [State.written, State.touchTxn_winDone]; split <;> split <;> simp
@[simp] theorem State.written_queues (fn : Nat) (o : ObjRow) (r : Req) : (s.written fn o r).queues = (s.takeWrite fn o r).1.queues := by
  simp only [State.written, State.touchTxn_queues]; split <;> split <;> simp
@[simp] theorem State.written_chans (fn : Nat) (o : ObjRow) (r : Req) : (s.written fn o r).chans = (s.takeWrite fn o r).1.chans := by
  simp only [State.written, State.touchTxn_chans]; split <;> split <;> simp
@[simp] theorem State.written_dmas (fn : Nat) (o : ObjRow) (r : Req) : (s.written fn o r).dmas = (s.takeWrite fn o r).1.dmas := by
  simp only [State.written, State.touchTxn_dmas]; split <;> split <;> simp
@[simp] theorem State.written_ports (fn : Nat) (o : ObjRow) (r : Req) : (s.written fn o r).ports = (s.takeWrite fn o r).1.ports := by
  simp only [State.written, State.touchTxn_ports]; split <;> split <;> simp
@[simp] theorem State.written_streams (fn : Nat) (o : ObjRow) (r : Req) : (s.written fn o r).streams = (s.takeWrite fn o r).1.streams := by
  simp only [State.written, State.touchTxn_streams]; split <;> split <;> simp
@[simp] theorem State.written_i3cs (fn : Nat) (o : ObjRow) (r : Req) : (s.written fn o r).i3cs = (s.takeWrite fn o r).1.i3cs := by
  simp only [State.written, State.touchTxn_i3cs]; split <;> split <;> simp
@[simp] theorem State.written_engines (fn : Nat) (o : ObjRow) (r : Req) : (s.written fn o r).engines = (s.takeWrite fn o r).1.engines := by
  simp only [State.written, State.touchTxn_engines]; split <;> split <;> simp
@[simp] theorem State.written_ctxCache (fn : Nat) (o : ObjRow) (r : Req) : (s.written fn o r).ctxCache = (s.takeWrite fn o r).1.ctxCache := by
  simp only [State.written, State.touchTxn_ctxCache]; split <;> split <;> simp
@[simp] theorem State.written_ctxFreed (fn : Nat) (o : ObjRow) (r : Req) : (s.written fn o r).ctxFreed = (s.takeWrite fn o r).1.ctxFreed := by
  simp only [State.written, State.touchTxn_ctxFreed]; split <;> split <;> simp
@[simp] theorem State.written_ctxUndef (fn : Nat) (o : ObjRow) (r : Req) : (s.written fn o r).ctxUndef = (s.takeWrite fn o r).1.ctxUndef := by
  simp only [State.written, State.touchTxn_ctxUndef]; split <;> split <;> simp
@[simp] theorem State.written_netReply (fn : Nat) (o : ObjRow) (r : Req) : (s.written fn o r).netReply = (s.takeWrite fn o r).1.netReply := by
  simp only [State.written, State.touchTxn_netReply]; split <;> split <;> simp
@[simp] theorem State.written_umbra (fn : Nat) (o : ObjRow) (r : Req) : (s.written fn o r).umbra = (s.takeWrite fn o r).1.umbra := by
  simp only [State.written, State.touchTxn_umbra]; split <;> split <;> simp
@[simp] theorem State.written_faults (fn : Nat) (o : ObjRow) (r : Req) : (s.written fn o r).faults = (s.takeWrite fn o r).1.faults := by
  simp only [State.written, State.touchTxn_faults]; split <;> split <;> simp
@[simp] theorem State.written_scrubs (fn : Nat) (o : ObjRow) (r : Req) : (s.written fn o r).scrubs = (s.takeWrite fn o r).1.scrubs := by
  simp only [State.written, State.touchTxn_scrubs]; split <;> split <;> simp
@[simp] theorem State.written_sec (fn : Nat) (o : ObjRow) (r : Req) : (s.written fn o r).sec = (s.takeWrite fn o r).1.sec := by
  simp only [State.written, State.touchTxn_sec]; split <;> split <;> simp
@[simp] theorem State.written_avs (fn : Nat) (o : ObjRow) (r : Req) : (s.written fn o r).avs = (s.takeWrite fn o r).1.avs := by
  simp only [State.written, State.touchTxn_avs]; split <;> split <;> simp
@[simp] theorem State.written_jtag (fn : Nat) (o : ObjRow) (r : Req) : (s.written fn o r).jtag = (s.takeWrite fn o r).1.jtag := by
  simp only [State.written, State.touchTxn_jtag]; split <;> split <;> simp
@[simp] theorem State.written_env (fn : Nat) (o : ObjRow) (r : Req) : (s.written fn o r).env = (s.takeWrite fn o r).1.env := by
  simp only [State.written, State.touchTxn_env]; split <;> split <;> simp
@[simp] theorem State.written_railBad (fn : Nat) (o : ObjRow) (r : Req) : (s.written fn o r).railBad = (s.takeWrite fn o r).1.railBad := by
  simp only [State.written, State.touchTxn_railBad]; split <;> split <;> simp
@[simp] theorem State.written_frames (fn : Nat) (o : ObjRow) (r : Req) : (s.written fn o r).frames = (s.takeWrite fn o r).1.frames := by
  simp only [State.written, State.touchTxn_frames]; split <;> split <;> simp
@[simp] theorem State.written_frames2 (fn : Nat) (o : ObjRow) (r : Req) : (s.written fn o r).frames2 = (s.takeWrite fn o r).1.frames2 := by
  simp only [State.written, State.touchTxn_frames2]; split <;> split <;> simp
@[simp] theorem State.written_ddr (fn : Nat) (o : ObjRow) (r : Req) : (s.written fn o r).ddr = (s.takeWrite fn o r).1.ddr := by
  simp only [State.written, State.touchTxn_ddr]; split <;> split <;> simp
@[simp] theorem State.written_fscratch (fn : Nat) (o : ObjRow) (r : Req) : (s.written fn o r).fscratch = (s.takeWrite fn o r).1.fscratch := by
  simp only [State.written, State.touchTxn_fscratch]; split <;> split <;> simp
@[simp] theorem State.written_scrPrev (fn : Nat) (o : ObjRow) (r : Req) : (s.written fn o r).scrPrev = (s.takeWrite fn o r).1.scrPrev := by
  simp only [State.written, State.touchTxn_scrPrev]; split <;> split <;> simp
@[simp] theorem State.written_hostMem (fn : Nat) (o : ObjRow) (r : Req) : (s.written fn o r).hostMem = (s.takeWrite fn o r).1.hostMem := by
  simp only [State.written, State.touchTxn_hostMem]; split <;> split <;> simp
@[simp] theorem State.written_free (fn : Nat) (o : ObjRow) (r : Req) : (s.written fn o r).free = (s.takeWrite fn o r).1.free := by
  simp only [State.written, State.touchTxn_free]; split <;> split <;> simp
@[simp] theorem State.written_pending (fn : Nat) (o : ObjRow) (r : Req) : (s.written fn o r).pending = (s.takeWrite fn o r).1.pending := by
  simp only [State.written, State.touchTxn_pending]; split <;> split <;> simp

/-! ### Registers that a request's service leaves alone -/

/-- A counter of a function raised leaves the other registers. -/
theorem State.regF_bumpF_other {w n fn idx sub fn' idx' sub' : Nat} (h : okey fn' idx' sub' ≠ okey fn idx sub) :
    (s.bumpF w fn idx sub n).regF fn' idx' sub' = s.regF fn' idx' sub' := State.regF_setRegF_other _ h

/-- A register depends on the number objects alone. -/
theorem State.regF_congr {s s' : State} (h : s.dict.num = s'.dict.num) (g idx sub : Nat) : s.regF g idx sub = s'.regF g idx sub := by
  simp only [State.regF, h]

theorem State.regF_logAdd {g idx sub proc level : Nat} {part : Option Nat} {code : Nat} {args : List Nat} (h : idx ≠ 0x2054)
    (hi : idx < 65536) (hs : sub < 256) : (s.logAdd proc level part code args).regF g idx sub = s.regF g idx sub := by
  have k : okey g idx sub ≠ okey 0 0x2054 3 := okey_ne_of_idx h hi (by omega) hs (by omega)
  unfold State.logAdd State.setReg
  split
  · rfl
  · exact (State.regF_setRegF_other _ k).trans (State.regF_congr (by simp) g idx sub)

theorem State.regF_trace {g idx sub proc : Nat} {part : Option Nat} {point : Nat} (h : idx ≠ 0x2054) (hi : idx < 65536)
    (hs : sub < 256) : (s.trace proc part point).regF g idx sub = s.regF g idx sub := by
  have k : okey g idx sub ≠ okey 0 0x2054 7 := okey_ne_of_idx h hi (by omega) hs (by omega)
  unfold State.trace State.bump
  split
  · rfl
  · split
    · exact State.regF_bumpF_other s k
    · dsimp only
      rw [State.regF_logAdd _ h hi hs]
      exact State.regF_congr rfl g idx sub

theorem State.regF_asked {g idx sub fn : Nat} (h : idx ≠ 0x2054) (h' : idx ≠ 0x1012) (hi : idx < 65536)
    (hs : sub < 256) : (s.asked fn).regF g idx sub = s.regF g idx sub := by
  unfold State.asked
  rw [State.regF_trace _ h hi hs]
  exact State.regF_bumpF_other s (okey_ne_of_idx h' hi (by omega) hs (by omega))

theorem State.regF_journalAdd {g idx sub : Nat} {e : JEntry} (h : idx ≠ 0x1020) (hi : idx < 65536) (hs : sub < 256) :
    (s.journalAdd e).regF g idx sub = s.regF g idx sub := by
  have k (a : Nat) (ha : a < 256) : okey g idx sub ≠ okey 0 0x1020 a := okey_ne_of_idx h hi (by omega) hs ha
  unfold State.journalAdd State.setReg
  exact (State.regF_setRegF_other _ (k 7 (by omega))).trans ((State.regF_setRegF_other _ (k 2 (by omega))).trans
    ((State.regF_setRegF_other _ (k 1 (by omega))).trans (State.regF_congr (s.journalPush_num e) g idx sub)))

@[simp] theorem State.regF_changed (g idx sub fn i j : Nat) : (s.changed fn i j).regF g idx sub = s.regF g idx sub := rfl

@[simp] theorem State.regF_touchTxn (g idx sub fn id : Nat) : (s.touchTxn fn id).regF g idx sub = s.regF g idx sub := by
  unfold State.touchTxn State.putTxn; split <;> rfl

theorem State.regF_deliver {g idx sub fn : Nat} {p : Resp} (h : idx ≠ 0x1012) (hi : idx < 65536) (hs : sub < 256) :
    (s.deliver fn p).regF g idx sub = s.regF g idx sub := by
  have k (a : Nat) (ha : a < 256) : okey g idx sub ≠ okey fn 0x1012 a := okey_ne_of_idx h hi (by omega) hs ha
  have hc : (s.countResp fn p).regF g idx sub = s.regF g idx sub := by
    unfold State.countResp
    split <;> split <;>
      simp only [State.regF_bumpF_other _ (k 3 (by omega)), State.regF_bumpF_other _ (k 4 (by omega))]
  have hcan (u : State) : (u.canRespond p).regF g idx sub = u.regF g idx sub := by
    unfold State.canRespond State.canSend; dsimp only; split <;> rfl
  unfold State.deliver
  dsimp only
  split
  · rw [hcan, hc]
  · exact hc

/-- After an accepted WRITE an object holds what the effect left it, outside the journal's own objects. -/
theorem State.regF_written {g idx sub fn : Nat} {o : ObjRow} {r : Req} (h : idx ≠ 0x1020) (hi : idx < 65536) (hs : sub < 256) :
    (s.written fn o r).regF g idx sub = (s.takeWrite fn o r).1.regF g idx sub := by
  unfold State.written
  rw [State.regF_touchTxn]
  split <;> split <;> simp [State.regF_journalAdd _ h hi hs]

/-- The key slots do not change with a response. -/
@[simp] theorem State.deliver_keys (fn : Nat) (p : Resp) :
    (s.deliver fn p).can.key0 = s.can.key0 ∧ (s.deliver fn p).can.key1 = s.can.key1 := by
  have hcan (u : State) : (u.canRespond p).can.key0 = u.can.key0 ∧ (u.canRespond p).can.key1 = u.can.key1 := by
    unfold State.canRespond State.canSend; dsimp only; split <;> exact ⟨rfl, rfl⟩
  unfold State.deliver
  dsimp only
  split
  · rw [(hcan _).1, (hcan _).2, State.countResp_can]; exact ⟨rfl, rfl⟩
  · simp

/-! ### Rows of the table that are a WRITE -/

/-- A row that is a WRITE which passes its checks. -/
theorem serveRow_write {s : State} {t : Nat} {c : Caller} {r : Req} (h : WritePasses s t c r) :
    ∃ o p, objRow r.index.toNat r.sub.toNat = some o ∧ ((s.at t).asked (callerFn c)).takes (callerFn c) o r = true ∧
      serveRow t c 2 r s = .next ((((s.at t).asked (callerFn c)).written (callerFn c) o r).deliver (callerFn c) p) := by
  obtain ⟨hl, h0, hx, o, ho⟩ := h
  obtain ⟨p, -, -, hp⟩ := State.serve_write (s.at t) (fn := callerFn c) (o := o) (r := r) (by simpa using h0) hx ho
  refine ⟨o, p, ?_, ho, ?_⟩
  · simp only [State.takes, Bool.and_eq_true, decide_eq_true_eq] at ho
    exact ho.1.1.1.1.1
  · simp [serveRow, whileLive, hl, hp]

/-- A number written at once. -/
theorem State.takeWrite_num {u : State} {fn : Nat} {o : ObjRow} {r : Req} (ht : tySize o.ty ≠ 0) (h0 : r.txn.toNat = 0)
    (hs : selects r.index.toNat r.sub.toNat = none) (hw : writeStatus u fn r.index.toNat r.sub.toNat (.num (reqNum r)) = none) :
    u.takeWrite fn o r = (u.applyNum (if storesValue o then u.setRegF (holdFn o fn) r.index.toNat r.sub.toNat (reqNum r) else u) fn
      r.index.toNat r.sub.toNat (reqNum r), stOk) := by
  simp [State.takeWrite, ht, h0, parseVal, State.offered, applyExtra, State.storeVal, State.selectOther, hs]
  simp [reqNum] at hw ⊢
  rw [hw]

theorem reqFor_index (r : Req) (i j : Nat) : (reqFor r i j).index.toNat = i % 65536 ∧ (reqFor r i j).sub.toNat = j % 256 := by
  simp [reqFor]

/-- A row that writes a number to one object at once, outside a transaction. -/
theorem serveRow_num {s : State} {t : Nat} {c : Caller} {r : Req} {i j : Nat} (o : ObjRow) (h : WritePasses s t c (reqFor r i j))
    (hi : i < 65536) (hj : j < 256) (ho : objRow i j = some o) (hty : tySize o.ty ≠ 0) (h0 : r.txn.toNat = 0)
    (hs : selects i j = none) (hw : ∀ u fn n, writeStatus u fn i j (.num n) = none) :
    ∃ (w : State) (p : Resp), serveRow t c 2 (reqFor r i j) s = .next (w.deliver (callerFn c) p) ∧
      ∃ r', w = ((s.at t).asked (callerFn c)).written (callerFn c) o r' ∧
        (((s.at t).asked (callerFn c)).takeWrite (callerFn c) o r').1 = ((s.at t).asked (callerFn c)).applyNum
          (if storesValue o then ((s.at t).asked (callerFn c)).setRegF (holdFn o (callerFn c)) i j (reqNum r) else (s.at t).asked (callerFn c))
          (callerFn c) i j (reqNum r) := by
  obtain ⟨o', p, ho', ht, hr⟩ := serveRow_write h
  obtain ⟨e1, e2⟩ := reqFor_index r i j
  rw [Nat.mod_eq_of_lt hi] at e1
  rw [Nat.mod_eq_of_lt hj] at e2
  rw [e1, e2, ho] at ho'
  cases ho'
  refine ⟨_, p, hr, _, rfl, ?_⟩
  rw [State.takeWrite_num (r := reqFor r i j) hty h0 (by rw [e1, e2]; exact hs) (by rw [e1, e2]; exact hw _ _ _), e1, e2]
  rfl

end Sys2Proof.Machine
end

