-- ==== Sys2Proof/Laws/Ops.lean ====
section
/-! SUPPORT. What a report to hosts and to the machine controller can do: messages, event entries, EVENT frames write number objects,
functions, host memory, what waits for the link, the field port's queue, and nothing else. -/

namespace Sys2Proof.Machine

variable (s : State)

theorem ReportsOnly.refl : ReportsOnly s s := rfl

theorem ReportsOnly.trans {s s' s'' : State} (h : ReportsOnly s s') (h' : ReportsOnly s' s'') : ReportsOnly s s'' := by
  unfold ReportsOnly at h h' ⊢
  rw [h] at h'
  exact h'

theorem ReportsOnly.foldl {α : Type} (f : State → α → State) (h : ∀ s a, ReportsOnly s (f s a)) (l : List α) :
    ∀ s, ReportsOnly s (l.foldl f s) := by
  induction l with
  | nil => exact fun s => .refl s
  | cons a l ih => exact fun s => (h s a).trans (ih _)

theorem State.setRegF_reports (fn idx sub v : Nat) : ReportsOnly s (s.setRegF fn idx sub v) := rfl
theorem State.bumpF_reports (w fn idx sub n : Nat) : ReportsOnly s (s.bumpF w fn idx sub n) := rfl
theorem State.setFn_reports (f : Nat) (x : FnSt) : ReportsOnly s (s.setFn f x) := rfl

theorem State.hostLand_reports (fn addr : Nat) (b : List Byte) : ReportsOnly s (s.hostLand fn addr b) := by
  unfold State.hostLand State.drives; dsimp only; split <;> rfl

theorem State.hostWrite_reports (fn addr : Nat) (b : List Byte) : ReportsOnly s (s.hostWrite fn addr b) := by
  unfold State.hostWrite
  split
  · exact s.hostLand_reports fn addr b
  · rfl
  · rfl

theorem State.fire_reports (f v : Nat) : ReportsOnly s (s.fire f v) := by
  unfold State.fire
  dsimp only
  split
  · rfl
  · split
    · rfl
    · exact (s.setFn_reports f _).trans (State.hostWrite_reports _ _ _ _)

theorem State.fireLater_reports (f v : Nat) : ReportsOnly s (s.fireLater f v) := by
  unfold State.fireLater
  split
  · exact s.fire_reports f v
  · rfl

theorem State.evStore_reports (f : Nat) (e : List Byte) : ReportsOnly s (s.evStore f e) := by
  unfold State.evStore
  exact (s.hostWrite_reports f _ _).trans ((State.setFn_reports _ f _).trans (State.fireLater_reports _ f 1))

theorem State.evOverflow_reports (f : Nat) : ReportsOnly s (s.evOverflow f) := by
  unfold State.evOverflow
  dsimp only
  split
  · exact (s.setFn_reports f _).trans (State.evStore_reports _ f _)
  · rfl

theorem State.evWrite_reports (f : Nat) (e : List Byte) : ReportsOnly s (s.evWrite f e) := by
  unfold State.evWrite
  refine (s.evOverflow_reports f).trans ?_
  dsimp only
  split
  · exact State.evStore_reports _ f e
  · exact (State.setFn_reports _ f _).trans (State.bumpF_reports _ 32 f _ _ _)

theorem State.canEvent_reports (code : Nat) (e : List Byte) : ReportsOnly s (s.canEvent code e) := by
  unfold State.canEvent
  split
  · rfl
  · dsimp only
    split
    · split
      · rfl
      · exact s.bumpF_reports 32 0 _ _ _
    · rfl

theorem State.trace_reports (proc : Nat) (part : Option Nat) (point : Nat) : ReportsOnly s (s.trace proc part point) := by
  unfold State.trace
  split
  · rfl
  · split
    · exact s.bumpF_reports 32 0 _ _ _
    · dsimp only
      unfold State.logAdd
      split
      · rfl
      · rfl

theorem State.traceAny_reports (part : Option Nat) (point : Nat) : ReportsOnly s (s.traceAny part point) := by
  unfold State.traceAny
  split
  · rfl
  · exact ReportsOnly.trans (s' := s.draw.2) rfl (State.trace_reports _ _ _ _)

/-- An event writes what a report writes and nothing else. -/
theorem State.raiseEvent_reports (code : Nat) (part : Option Nat) (source d0 d1 d2 : Nat) :
    ReportsOnly s (s.raiseEvent code part source d0 d1 d2) := by
  unfold State.raiseEvent
  refine ((ReportsOnly.foldl _ (fun s f => ?_) _ s).trans (State.canEvent_reports _ _ _)).trans (State.traceAny_reports _ _ _)
  split
  · exact s.evWrite_reports f _
  · exact .refl s

/-! ### What an event leaves alone, field by field -/

theorem ReportsOnly.now {s s' : State} (h : ReportsOnly s s') : s'.now = s.now := by rw [ReportsOnly] at h; rw [h]
theorem ReportsOnly.resetN {s s' : State} (h : ReportsOnly s s') : s'.resetN = s.resetN := by rw [ReportsOnly] at h; rw [h]
theorem ReportsOnly.stopped {s s' : State} (h : ReportsOnly s s') : s'.stopped = s.stopped := by rw [ReportsOnly] at h; rw [h]
theorem ReportsOnly.tick {s s' : State} (h : ReportsOnly s s') : s'.tick = s.tick := by rw [ReportsOnly] at h; rw [h]
theorem ReportsOnly.plans {s s' : State} (h : ReportsOnly s s') : s'.plans = s.plans := by rw [ReportsOnly] at h; rw [h]
theorem ReportsOnly.seen {s s' : State} (h : ReportsOnly s s') : s'.seen = s.seen := by rw [ReportsOnly] at h; rw [h]
theorem ReportsOnly.fw {s s' : State} (h : ReportsOnly s s') : s'.fw = s.fw := by rw [ReportsOnly] at h; rw [h]
theorem ReportsOnly.pads {s s' : State} (h : ReportsOnly s s') : s'.pads = s.pads := by rw [ReportsOnly] at h; rw [h]
theorem ReportsOnly.cores {s s' : State} (h : ReportsOnly s s') : s'.cores = s.cores := by rw [ReportsOnly] at h; rw [h]
theorem ReportsOnly.tasks {s s' : State} (h : ReportsOnly s s') : s'.tasks = s.tasks := by rw [ReportsOnly] at h; rw [h]
theorem ReportsOnly.nextId {s s' : State} (h : ReportsOnly s s') : s'.nextId = s.nextId := by rw [ReportsOnly] at h; rw [h]
theorem ReportsOnly.idleAt {s s' : State} (h : ReportsOnly s s') : s'.idleAt = s.idleAt := by rw [ReportsOnly] at h; rw [h]
theorem ReportsOnly.quotaWait {s s' : State} (h : ReportsOnly s s') : s'.quotaWait = s.quotaWait := by rw [ReportsOnly] at h; rw [h]
theorem ReportsOnly.winDone {s s' : State} (h : ReportsOnly s s') : s'.winDone = s.winDone := by rw [ReportsOnly] at h; rw [h]
theorem ReportsOnly.queues {s s' : State} (h : ReportsOnly s s') : s'.queues = s.queues := by rw [ReportsOnly] at h; rw [h]
theorem ReportsOnly.chans {s s' : State} (h : ReportsOnly s s') : s'.chans = s.chans := by rw [ReportsOnly] at h; rw [h]
theorem ReportsOnly.dmas {s s' : State} (h : ReportsOnly s s') : s'.dmas = s.dmas := by rw [ReportsOnly] at h; rw [h]
theorem ReportsOnly.ports {s s' : State} (h : ReportsOnly s s') : s'.ports = s.ports := by rw [ReportsOnly] at h; rw [h]
theorem ReportsOnly.streams {s s' : State} (h : ReportsOnly s s') : s'.streams = s.streams := by rw [ReportsOnly] at h; rw [h]
theorem ReportsOnly.i3cs {s s' : State} (h : ReportsOnly s s') : s'.i3cs = s.i3cs := by rw [ReportsOnly] at h; rw [h]
theorem ReportsOnly.engines {s s' : State} (h : ReportsOnly s s') : s'.engines = s.engines := by rw [ReportsOnly] at h; rw [h]
theorem ReportsOnly.ctxCache {s s' : State} (h : ReportsOnly s s') : s'.ctxCache = s.ctxCache := by rw [ReportsOnly] at h; rw [h]
theorem ReportsOnly.ctxFreed {s s' : State} (h : ReportsOnly s s') : s'.ctxFreed = s.ctxFreed := by rw [ReportsOnly] at h; rw [h]
theorem ReportsOnly.ctxUndef {s s' : State} (h : ReportsOnly s s') : s'.ctxUndef = s.ctxUndef := by rw [ReportsOnly] at h; rw [h]
theorem ReportsOnly.netReply {s s' : State} (h : ReportsOnly s s') : s'.netReply = s.netReply := by rw [ReportsOnly] at h; rw [h]
theorem ReportsOnly.umbra {s s' : State} (h : ReportsOnly s s') : s'.umbra = s.umbra := by rw [ReportsOnly] at h; rw [h]
theorem ReportsOnly.faults {s s' : State} (h : ReportsOnly s s') : s'.faults = s.faults := by rw [ReportsOnly] at h; rw [h]
theorem ReportsOnly.scrubs {s s' : State} (h : ReportsOnly s s') : s'.scrubs = s.scrubs := by rw [ReportsOnly] at h; rw [h]
theorem ReportsOnly.sec {s s' : State} (h : ReportsOnly s s') : s'.sec = s.sec := by rw [ReportsOnly] at h; rw [h]
theorem ReportsOnly.avs {s s' : State} (h : ReportsOnly s s') : s'.avs = s.avs := by rw [ReportsOnly] at h; rw [h]
theorem ReportsOnly.jtag {s s' : State} (h : ReportsOnly s s') : s'.jtag = s.jtag := by rw [ReportsOnly] at h; rw [h]
theorem ReportsOnly.env {s s' : State} (h : ReportsOnly s s') : s'.env = s.env := by rw [ReportsOnly] at h; rw [h]
theorem ReportsOnly.railBad {s s' : State} (h : ReportsOnly s s') : s'.railBad = s.railBad := by rw [ReportsOnly] at h; rw [h]
theorem ReportsOnly.frames {s s' : State} (h : ReportsOnly s s') : s'.frames = s.frames := by rw [ReportsOnly] at h; rw [h]
theorem ReportsOnly.frames2 {s s' : State} (h : ReportsOnly s s') : s'.frames2 = s.frames2 := by rw [ReportsOnly] at h; rw [h]
theorem ReportsOnly.ddr {s s' : State} (h : ReportsOnly s s') : s'.ddr = s.ddr := by rw [ReportsOnly] at h; rw [h]
theorem ReportsOnly.fscratch {s s' : State} (h : ReportsOnly s s') : s'.fscratch = s.fscratch := by rw [ReportsOnly] at h; rw [h]
theorem ReportsOnly.scrPrev {s s' : State} (h : ReportsOnly s s') : s'.scrPrev = s.scrPrev := by rw [ReportsOnly] at h; rw [h]
theorem ReportsOnly.pending {s s' : State} (h : ReportsOnly s s') : s'.pending = s.pending := by rw [ReportsOnly] at h; rw [h]
@[simp] theorem State.raiseEvent_now (code : Nat) (part : Option Nat) (src a b c : Nat) :
    (s.raiseEvent code part src a b c).now = s.now := (s.raiseEvent_reports code part src a b c).now
@[simp] theorem State.raiseEvent_resetN (code : Nat) (part : Option Nat) (src a b c : Nat) :
    (s.raiseEvent code part src a b c).resetN = s.resetN := (s.raiseEvent_reports code part src a b c).resetN
@[simp] theorem State.raiseEvent_stopped (code : Nat) (part : Option Nat) (src a b c : Nat) :
    (s.raiseEvent code part src a b c).stopped = s.stopped := (s.raiseEvent_reports code part src a b c).stopped
@[simp] theorem State.raiseEvent_tick (code : Nat) (part : Option Nat) (src a b c : Nat) :
    (s.raiseEvent code part src a b c).tick = s.tick := (s.raiseEvent_reports code part src a b c).tick
@[simp] theorem State.raiseEvent_plans (code : Nat) (part : Option Nat) (src a b c : Nat) :
    (s.raiseEvent code part src a b c).plans = s.plans := (s.raiseEvent_reports code part src a b c).plans
@[simp] theorem State.raiseEvent_seen (code : Nat) (part : Option Nat) (src a b c : Nat) :
    (s.raiseEvent code part src a b c).seen = s.seen := (s.raiseEvent_reports code part src a b c).seen
@[simp] theorem State.raiseEvent_fw (code : Nat) (part : Option Nat) (src a b c : Nat) :
    (s.raiseEvent code part src a b c).fw = s.fw := (s.raiseEvent_reports code part src a b c).fw
@[simp] theorem State.raiseEvent_pads (code : Nat) (part : Option Nat) (src a b c : Nat) :
    (s.raiseEvent code part src a b c).pads = s.pads := (s.raiseEvent_reports code part src a b c).pads
@[simp] theorem State.raiseEvent_cores (code : Nat) (part : Option Nat) (src a b c : Nat) :
    (s.raiseEvent code part src a b c).cores = s.cores := (s.raiseEvent_reports code part src a b c).cores
@[simp] theorem State.raiseEvent_tasks (code : Nat) (part : Option Nat) (src a b c : Nat) :
    (s.raiseEvent code part src a b c).tasks = s.tasks := (s.raiseEvent_reports code part src a b c).tasks
@[simp] theorem State.raiseEvent_nextId (code : Nat) (part : Option Nat) (src a b c : Nat) :
    (s.raiseEvent code part src a b c).nextId = s.nextId := (s.raiseEvent_reports code part src a b c).nextId
@[simp] theorem State.raiseEvent_idleAt (code : Nat) (part : Option Nat) (src a b c : Nat) :
    (s.raiseEvent code part src a b c).idleAt = s.idleAt := (s.raiseEvent_reports code part src a b c).idleAt
@[simp] theorem State.raiseEvent_quotaWait (code : Nat) (part : Option Nat) (src a b c : Nat) :
    (s.raiseEvent code part src a b c).quotaWait = s.quotaWait := (s.raiseEvent_reports code part src a b c).quotaWait
@[simp] theorem State.raiseEvent_winDone (code : Nat) (part : Option Nat) (src a b c : Nat) :
    (s.raiseEvent code part src a b c).winDone = s.winDone := (s.raiseEvent_reports code part src a b c).winDone
@[simp] theorem State.raiseEvent_queues (code : Nat) (part : Option Nat) (src a b c : Nat) :
    (s.raiseEvent code part src a b c).queues = s.queues := (s.raiseEvent_reports code part src a b c).queues
@[simp] theorem State.raiseEvent_chans (code : Nat) (part : Option Nat) (src a b c : Nat) :
    (s.raiseEvent code part src a b c).chans = s.chans := (s.raiseEvent_reports code part src a b c).chans
@[simp] theorem State.raiseEvent_dmas (code : Nat) (part : Option Nat) (src a b c : Nat) :
    (s.raiseEvent code part src a b c).dmas = s.dmas := (s.raiseEvent_reports code part src a b c).dmas
@[simp] theorem State.raiseEvent_ports (code : Nat) (part : Option Nat) (src a b c : Nat) :
    (s.raiseEvent code part src a b c).ports = s.ports := (s.raiseEvent_reports code part src a b c).ports
@[simp] theorem State.raiseEvent_streams (code : Nat) (part : Option Nat) (src a b c : Nat) :
    (s.raiseEvent code part src a b c).streams = s.streams := (s.raiseEvent_reports code part src a b c).streams
@[simp] theorem State.raiseEvent_i3cs (code : Nat) (part : Option Nat) (src a b c : Nat) :
    (s.raiseEvent code part src a b c).i3cs = s.i3cs := (s.raiseEvent_reports code part src a b c).i3cs
@[simp] theorem State.raiseEvent_engines (code : Nat) (part : Option Nat) (src a b c : Nat) :
    (s.raiseEvent code part src a b c).engines = s.engines := (s.raiseEvent_reports code part src a b c).engines
@[simp] theorem State.raiseEvent_ctxCache (code : Nat) (part : Option Nat) (src a b c : Nat) :
    (s.raiseEvent code part src a b c).ctxCache = s.ctxCache := (s.raiseEvent_reports code part src a b c).ctxCache
@[simp] theorem State.raiseEvent_ctxFreed (code : Nat) (part : Option Nat) (src a b c : Nat) :
    (s.raiseEvent code part src a b c).ctxFreed = s.ctxFreed := (s.raiseEvent_reports code part src a b c).ctxFreed
@[simp] theorem State.raiseEvent_ctxUndef (code : Nat) (part : Option Nat) (src a b c : Nat) :
    (s.raiseEvent code part src a b c).ctxUndef = s.ctxUndef := (s.raiseEvent_reports code part src a b c).ctxUndef
@[simp] theorem State.raiseEvent_netReply (code : Nat) (part : Option Nat) (src a b c : Nat) :
    (s.raiseEvent code part src a b c).netReply = s.netReply := (s.raiseEvent_reports code part src a b c).netReply
@[simp] theorem State.raiseEvent_umbra (code : Nat) (part : Option Nat) (src a b c : Nat) :
    (s.raiseEvent code part src a b c).umbra = s.umbra := (s.raiseEvent_reports code part src a b c).umbra
@[simp] theorem State.raiseEvent_faults (code : Nat) (part : Option Nat) (src a b c : Nat) :
    (s.raiseEvent code part src a b c).faults = s.faults := (s.raiseEvent_reports code part src a b c).faults
@[simp] theorem State.raiseEvent_scrubs (code : Nat) (part : Option Nat) (src a b c : Nat) :
    (s.raiseEvent code part src a b c).scrubs = s.scrubs := (s.raiseEvent_reports code part src a b c).scrubs
@[simp] theorem State.raiseEvent_sec (code : Nat) (part : Option Nat) (src a b c : Nat) :
    (s.raiseEvent code part src a b c).sec = s.sec := (s.raiseEvent_reports code part src a b c).sec
@[simp] theorem State.raiseEvent_avs (code : Nat) (part : Option Nat) (src a b c : Nat) :
    (s.raiseEvent code part src a b c).avs = s.avs := (s.raiseEvent_reports code part src a b c).avs
@[simp] theorem State.raiseEvent_jtag (code : Nat) (part : Option Nat) (src a b c : Nat) :
    (s.raiseEvent code part src a b c).jtag = s.jtag := (s.raiseEvent_reports code part src a b c).jtag
@[simp] theorem State.raiseEvent_env (code : Nat) (part : Option Nat) (src a b c : Nat) :
    (s.raiseEvent code part src a b c).env = s.env := (s.raiseEvent_reports code part src a b c).env
@[simp] theorem State.raiseEvent_railBad (code : Nat) (part : Option Nat) (src a b c : Nat) :
    (s.raiseEvent code part src a b c).railBad = s.railBad := (s.raiseEvent_reports code part src a b c).railBad
@[simp] theorem State.raiseEvent_frames (code : Nat) (part : Option Nat) (src a b c : Nat) :
    (s.raiseEvent code part src a b c).frames = s.frames := (s.raiseEvent_reports code part src a b c).frames
@[simp] theorem State.raiseEvent_frames2 (code : Nat) (part : Option Nat) (src a b c : Nat) :
    (s.raiseEvent code part src a b c).frames2 = s.frames2 := (s.raiseEvent_reports code part src a b c).frames2
@[simp] theorem State.raiseEvent_ddr (code : Nat) (part : Option Nat) (src a b c : Nat) :
    (s.raiseEvent code part src a b c).ddr = s.ddr := (s.raiseEvent_reports code part src a b c).ddr
@[simp] theorem State.raiseEvent_fscratch (code : Nat) (part : Option Nat) (src a b c : Nat) :
    (s.raiseEvent code part src a b c).fscratch = s.fscratch := (s.raiseEvent_reports code part src a b c).fscratch
@[simp] theorem State.raiseEvent_scrPrev (code : Nat) (part : Option Nat) (src a b c : Nat) :
    (s.raiseEvent code part src a b c).scrPrev = s.scrPrev := (s.raiseEvent_reports code part src a b c).scrPrev
@[simp] theorem State.raiseEvent_pending (code : Nat) (part : Option Nat) (src a b c : Nat) :
    (s.raiseEvent code part src a b c).pending = s.pending := (s.raiseEvent_reports code part src a b c).pending
@[simp] theorem State.fire_now (f v : Nat) : (s.fire f v).now = s.now := (s.fire_reports f v).now
@[simp] theorem State.fire_resetN (f v : Nat) : (s.fire f v).resetN = s.resetN := (s.fire_reports f v).resetN
@[simp] theorem State.fire_stopped (f v : Nat) : (s.fire f v).stopped = s.stopped := (s.fire_reports f v).stopped
@[simp] theorem State.fire_tick (f v : Nat) : (s.fire f v).tick = s.tick := (s.fire_reports f v).tick
@[simp] theorem State.fire_plans (f v : Nat) : (s.fire f v).plans = s.plans := (s.fire_reports f v).plans
@[simp] theorem State.fire_seen (f v : Nat) : (s.fire f v).seen = s.seen := (s.fire_reports f v).seen
@[simp] theorem State.fire_fw (f v : Nat) : (s.fire f v).fw = s.fw := (s.fire_reports f v).fw
@[simp] theorem State.fire_pads (f v : Nat) : (s.fire f v).pads = s.pads := (s.fire_reports f v).pads
@[simp] theorem State.fire_cores (f v : Nat) : (s.fire f v).cores = s.cores := (s.fire_reports f v).cores
@[simp] theorem State.fire_tasks (f v : Nat) : (s.fire f v).tasks = s.tasks := (s.fire_reports f v).tasks
@[simp] theorem State.fire_nextId (f v : Nat) : (s.fire f v).nextId = s.nextId := (s.fire_reports f v).nextId
@[simp] theorem State.fire_idleAt (f v : Nat) : (s.fire f v).idleAt = s.idleAt := (s.fire_reports f v).idleAt
@[simp] theorem State.fire_quotaWait (f v : Nat) : (s.fire f v).quotaWait = s.quotaWait := (s.fire_reports f v).quotaWait
@[simp] theorem State.fire_winDone (f v : Nat) : (s.fire f v).winDone = s.winDone := (s.fire_reports f v).winDone
@[simp] theorem State.fire_queues (f v : Nat) : (s.fire f v).queues = s.queues := (s.fire_reports f v).queues
@[simp] theorem State.fire_chans (f v : Nat) : (s.fire f v).chans = s.chans := (s.fire_reports f v).chans
@[simp] theorem State.fire_dmas (f v : Nat) : (s.fire f v).dmas = s.dmas := (s.fire_reports f v).dmas
@[simp] theorem State.fire_ports (f v : Nat) : (s.fire f v).ports = s.ports := (s.fire_reports f v).ports
@[simp] theorem State.fire_streams (f v : Nat) : (s.fire f v).streams = s.streams := (s.fire_reports f v).streams
@[simp] theorem State.fire_i3cs (f v : Nat) : (s.fire f v).i3cs = s.i3cs := (s.fire_reports f v).i3cs
@[simp] theorem State.fire_engines (f v : Nat) : (s.fire f v).engines = s.engines := (s.fire_reports f v).engines
@[simp] theorem State.fire_ctxCache (f v : Nat) : (s.fire f v).ctxCache = s.ctxCache := (s.fire_reports f v).ctxCache
@[simp] theorem State.fire_ctxFreed (f v : Nat) : (s.fire f v).ctxFreed = s.ctxFreed := (s.fire_reports f v).ctxFreed
@[simp] theorem State.fire_ctxUndef (f v : Nat) : (s.fire f v).ctxUndef = s.ctxUndef := (s.fire_reports f v).ctxUndef
@[simp] theorem State.fire_netReply (f v : Nat) : (s.fire f v).netReply = s.netReply := (s.fire_reports f v).netReply
@[simp] theorem State.fire_umbra (f v : Nat) : (s.fire f v).umbra = s.umbra := (s.fire_reports f v).umbra
@[simp] theorem State.fire_faults (f v : Nat) : (s.fire f v).faults = s.faults := (s.fire_reports f v).faults
@[simp] theorem State.fire_scrubs (f v : Nat) : (s.fire f v).scrubs = s.scrubs := (s.fire_reports f v).scrubs
@[simp] theorem State.fire_sec (f v : Nat) : (s.fire f v).sec = s.sec := (s.fire_reports f v).sec
@[simp] theorem State.fire_avs (f v : Nat) : (s.fire f v).avs = s.avs := (s.fire_reports f v).avs
@[simp] theorem State.fire_jtag (f v : Nat) : (s.fire f v).jtag = s.jtag := (s.fire_reports f v).jtag
@[simp] theorem State.fire_env (f v : Nat) : (s.fire f v).env = s.env := (s.fire_reports f v).env
@[simp] theorem State.fire_railBad (f v : Nat) : (s.fire f v).railBad = s.railBad := (s.fire_reports f v).railBad
@[simp] theorem State.fire_frames (f v : Nat) : (s.fire f v).frames = s.frames := (s.fire_reports f v).frames
@[simp] theorem State.fire_frames2 (f v : Nat) : (s.fire f v).frames2 = s.frames2 := (s.fire_reports f v).frames2
@[simp] theorem State.fire_ddr (f v : Nat) : (s.fire f v).ddr = s.ddr := (s.fire_reports f v).ddr
@[simp] theorem State.fire_fscratch (f v : Nat) : (s.fire f v).fscratch = s.fscratch := (s.fire_reports f v).fscratch
@[simp] theorem State.fire_scrPrev (f v : Nat) : (s.fire f v).scrPrev = s.scrPrev := (s.fire_reports f v).scrPrev
@[simp] theorem State.fire_pending (f v : Nat) : (s.fire f v).pending = s.pending := (s.fire_reports f v).pending

/-! ### The link's queue flushed -/

theorem State.noteWait_reports : ReportsOnly s s.noteWait := by
  unfold State.noteWait
  split <;> exact rfl

theorem State.flushHost_reports : ReportsOnly s s.flushHost := by
  refine (State.noteWait_reports (s := s)).trans ?_
  generalize h1 : s.noteWait = s1
  simp only [State.flushHost, h1]
  split
  · have h (l : List HostWrite) (u : State) : ReportsOnly u (l.foldl (fun s w => s.hostLand w.fn w.addr w.bytes) u) :=
      ReportsOnly.foldl (fun s (w : HostWrite) => s.hostLand w.fn w.addr w.bytes)
        (fun s w => s.hostLand_reports w.fn w.addr w.bytes) l u
    have h0 : ReportsOnly s1 { s1 with link := { s1.link with waiting := [] } } := rfl
    exact h0.trans (h _ _)
  · rfl

/-! ### Registers under a report -/

theorem State.regF_setFn (g idx sub f : Nat) (x : FnSt) : (s.setFn f x).regF g idx sub = s.regF g idx sub := rfl

theorem State.regF_hostLand (g idx sub fn addr : Nat) (b : List Byte) : (s.hostLand fn addr b).regF g idx sub = s.regF g idx sub := by
  unfold State.hostLand State.drives; dsimp only; split <;> rfl

theorem State.regF_hostWrite (g idx sub fn addr : Nat) (b : List Byte) : (s.hostWrite fn addr b).regF g idx sub = s.regF g idx sub := by
  unfold State.hostWrite
  split
  · exact s.regF_hostLand g idx sub fn addr b
  · rfl
  · rfl

theorem State.regF_fire (g idx sub f v : Nat) : (s.fire f v).regF g idx sub = s.regF g idx sub := by
  unfold State.fire
  dsimp only
  split
  · rfl
  · split
    · rfl
    · rw [State.regF_hostWrite]; rfl

theorem State.regF_fireLater (g idx sub f v : Nat) : (s.fireLater f v).regF g idx sub = s.regF g idx sub := by
  unfold State.fireLater
  split
  · exact s.regF_fire g idx sub f v
  · rfl

theorem State.regF_evStore (g idx sub f : Nat) (e : List Byte) : (s.evStore f e).regF g idx sub = s.regF g idx sub := by
  unfold State.evStore
  rw [State.regF_fireLater, State.regF_setFn, State.regF_hostWrite]

theorem State.regF_evOverflow (g idx sub f : Nat) : (s.evOverflow f).regF g idx sub = s.regF g idx sub := by
  unfold State.evOverflow
  dsimp only
  split
  · rw [State.regF_evStore]; rfl
  · rfl

theorem State.regF_traceAny {g idx sub point : Nat} {part : Option Nat} (h : idx ≠ 0x2054) (hi : idx < 65536) (hs : sub < 256) :
    (s.traceAny part point).regF g idx sub = s.regF g idx sub := by
  unfold State.traceAny
  split
  · rfl
  · exact State.regF_trace _ h hi hs

/-- Of the number objects an event writes OD 1104.04 and OD 1111.12 alone, and those of the log where it is traced. -/
theorem State.regF_raiseEvent {g idx sub code : Nat} {part : Option Nat} {src a b c : Nat} (h : idx ≠ 0x1104) (h' : idx ≠ 0x1111)
    (h'' : idx ≠ 0x2054) (hi : idx < 65536) (hs : sub < 256) : (s.raiseEvent code part src a b c).regF g idx sub = s.regF g idx sub := by
  have hw (s : State) (f : Nat) (e : List Byte) : (s.evWrite f e).regF g idx sub = s.regF g idx sub := by
    unfold State.evWrite
    dsimp only
    split
    · rw [State.regF_evStore, State.regF_evOverflow]
    · rw [State.regF_bumpF_other _ (okey_ne_of_idx h hi (by omega) hs (by omega)), State.regF_setFn, State.regF_evOverflow]
  have hc (s : State) (e : List Byte) : (s.canEvent code e).regF g idx sub = s.regF g idx sub := by
    unfold State.canEvent
    split
    · rfl
    · dsimp only
      split
      · split
        · rfl
        · exact State.regF_bumpF_other s (okey_ne_of_idx h' hi (by omega) hs (by omega))
      · rfl
  have hf (l : List Nat) (e : List Byte) : ∀ s : State,
      (l.foldl (fun s f => if entitled code part f && (s.fnSt f).enabled then s.evWrite f e else s) s).regF g idx sub = s.regF g idx sub := by
    induction l with
    | nil => intro s; rfl
    | cons f l ih =>
      intro s
      rw [List.foldl_cons, ih]
      split
      · exact hw s f e
      · rfl
  unfold State.raiseEvent
  dsimp only
  rw [State.regF_traceAny _ h'' hi hs, hc, hf]

end Sys2Proof.Machine
end

