-- ==== Sys2Proof/Laws/PerInstr.lean ====
section
/-! SUPPORT. Facts of every command as syntax, one lemma for each constructor. -/

namespace Sys2Proof.Laws.Operands

/-- Moving a command to another cycle sets its cycle, keeps it well formed, and can be undone. -/
def Statement (i : Instr) : Prop := ∀ n : Nat, (i.retime n).time = n ∧ (i.retime n).wf = i.wf ∧ (i.retime n).retime i.time = i

theorem tickEdge (a0 : Nat) (a1 : Readings) : Statement (.tickEdge a0 a1) := fun _ => ⟨rfl, rfl, rfl⟩
theorem tickInEdge (a0 : Nat) (a1 : Bool) (a2 : Readings) : Statement (.tickInEdge a0 a1 a2) := fun _ => ⟨rfl, rfl, rfl⟩
theorem hostTick (a0 : Nat) (a1 : Caller) (a2 : Req) (a3 : Readings) : Statement (.hostTick a0 a1 a2 a3) := fun _ => ⟨rfl, rfl, rfl⟩
theorem flywheelTick (a0 : Nat) (a1 : Readings) : Statement (.flywheelTick a0 a1) := fun _ => ⟨rfl, rfl, rfl⟩
theorem tickSourceLost (a0 : Nat) : Statement (.tickSourceLost a0) := fun _ => ⟨rfl, rfl, rfl⟩
theorem guardIntervalStart (a0 : Nat) : Statement (.guardIntervalStart a0) := fun _ => ⟨rfl, rfl, rfl⟩
theorem fsyncAssert (a0 : Nat) (a1 : PortId) : Statement (.fsyncAssert a0 a1) := fun _ => ⟨rfl, rfl, rfl⟩
theorem fsyncDeassert (a0 : Nat) (a1 : PortId) : Statement (.fsyncDeassert a0 a1) := fun _ => ⟨rfl, rfl, rfl⟩
theorem nodeRelease (a0 : Nat) (a1 : Part) (a2 : Nat) : Statement (.nodeRelease a0 a1 a2) := fun _ => ⟨rfl, rfl, rfl⟩
theorem nodeEligible (a0 : Nat) (a1 : Part) (a2 : Nat) : Statement (.nodeEligible a0 a1 a2) := fun _ => ⟨rfl, rfl, rfl⟩
theorem taskSelect (a0 : Nat) (a1 : Res) : Statement (.taskSelect a0 a1) := fun _ => ⟨rfl, rfl, rfl⟩
theorem hostTaskMaxCycles (a0 : Nat) (a1 : CoreId) : Statement (.hostTaskMaxCycles a0 a1) := fun _ => ⟨rfl, rfl, rfl⟩
theorem todFetch (a0 : Nat) (a1 : CoreId) : Statement (.todFetch a0 a1) := fun _ => ⟨rfl, rfl, rfl⟩
theorem todStart (a0 : Nat) (a1 : CoreId) : Statement (.todStart a0 a1) := fun _ => ⟨rfl, rfl, rfl⟩
theorem todComplete (a0 : Nat) (a1 : CoreId) : Statement (.todComplete a0 a1) := fun _ => ⟨rfl, rfl, rfl⟩
theorem taskComplete (a0 : Nat) (a1 : QueueId) : Statement (.taskComplete a0 a1) := fun _ => ⟨rfl, rfl, rfl⟩
theorem scratchpadRequest (a0 : Nat) (a1 : CoreId) (a2 : List PadReq) : Statement (.scratchpadRequest a0 a1 a2) := fun _ => ⟨rfl, rfl, rfl⟩
theorem remoteNarrowRequest (a0 : Nat) (a1 : BitVec 8) (a2 : Part) (a3 : CoreId) (a4 : Fin 64) (a5 : BitVec 12) (a6 : Nat) (a7 : Access) : Statement (.remoteNarrowRequest a0 a1 a2 a3 a4 a5 a6 a7) := fun _ => ⟨rfl, rfl, rfl⟩
theorem rawNarrowAccess (a0 : Nat) (a1 : BitVec 8) (a2 : CoreId) (a3 : Nat) (a4 : Access) : Statement (.rawNarrowAccess a0 a1 a2 a3 a4) := fun _ => ⟨rfl, rfl, rfl⟩
theorem rowValidClearDone (a0 : Nat) (a1 : CoreId) : Statement (.rowValidClearDone a0 a1) := fun _ => ⟨rfl, rfl, rfl⟩
theorem dmaDescriptorLoad (a0 : Nat) (a1 : DmaId) (a2 : ChanId) : Statement (.dmaDescriptorLoad a0 a1 a2) := fun _ => ⟨rfl, rfl, rfl⟩
theorem dmaShadowActivate (a0 : Nat) (a1 : DmaId) (a2 : ChanId) : Statement (.dmaShadowActivate a0 a1 a2) := fun _ => ⟨rfl, rfl, rfl⟩
theorem dmaReadData (a0 : Nat) (a1 : DmaId) (a2 : ChanId) (a3 : List Byte) : Statement (.dmaReadData a0 a1 a2 a3) := fun _ => ⟨rfl, rfl, rfl⟩
theorem dmaWriteLanded (a0 : Nat) (a1 : DmaId) (a2 : ChanId) : Statement (.dmaWriteLanded a0 a1 a2) := fun _ => ⟨rfl, rfl, rfl⟩
theorem dmaBusError (a0 : Nat) (a1 : DmaId) (a2 : ChanId) (a3 : BitVec 8) : Statement (.dmaBusError a0 a1 a2 a3) := fun _ => ⟨rfl, rfl, rfl⟩
theorem dmaBusTimeout (a0 : Nat) (a1 : DmaId) (a2 : ChanId) : Statement (.dmaBusTimeout a0 a1 a2) := fun _ => ⟨rfl, rfl, rfl⟩
theorem dmaRetryReissue (a0 : Nat) (a1 : DmaId) (a2 : ChanId) : Statement (.dmaRetryReissue a0 a1 a2) := fun _ => ⟨rfl, rfl, rfl⟩
theorem reshardEntryEnd (a0 : Nat) (a1 : DmaId) (a2 : ChanId) : Statement (.reshardEntryEnd a0 a1 a2) := fun _ => ⟨rfl, rfl, rfl⟩
theorem maintYield (a0 : Nat) (a1 : DmaId) (a2 : ChanId) : Statement (.maintYield a0 a1 a2) := fun _ => ⟨rfl, rfl, rfl⟩
theorem maintResume (a0 : Nat) (a1 : DmaId) (a2 : ChanId) : Statement (.maintResume a0 a1 a2) := fun _ => ⟨rfl, rfl, rfl⟩
theorem facetDescriptorActivate (a0 : Nat) (a1 : EngId) : Statement (.facetDescriptorActivate a0 a1) := fun _ => ⟨rfl, rfl, rfl⟩
theorem facetProgressFlag (a0 : Nat) (a1 : EngId) : Statement (.facetProgressFlag a0 a1) := fun _ => ⟨rfl, rfl, rfl⟩
theorem facetDescriptorEnd (a0 : Nat) (a1 : EngId) : Statement (.facetDescriptorEnd a0 a1) := fun _ => ⟨rfl, rfl, rfl⟩
theorem refinePassStart (a0 : Nat) (a1 : EngId) : Statement (.refinePassStart a0 a1) := fun _ => ⟨rfl, rfl, rfl⟩
theorem refineTileStart (a0 : Nat) (a1 : EngId) : Statement (.refineTileStart a0 a1) := fun _ => ⟨rfl, rfl, rfl⟩
theorem trackActivate (a0 : Nat) : Statement (.trackActivate a0) := fun _ => ⟨rfl, rfl, rfl⟩
theorem trackContextUpdate (a0 : Nat) : Statement (.trackContextUpdate a0) := fun _ => ⟨rfl, rfl, rfl⟩
theorem trackAllocate (a0 : Nat) : Statement (.trackAllocate a0) := fun _ => ⟨rfl, rfl, rfl⟩
theorem flagWaitPoll (a0 : Nat) (a1 : CoreId) : Statement (.flagWaitPoll a0 a1) := fun _ => ⟨rfl, rfl, rfl⟩
theorem flagWaitExpired (a0 : Nat) (a1 : CoreId) : Statement (.flagWaitExpired a0 a1) := fun _ => ⟨rfl, rfl, rfl⟩
theorem flagWaitCopyDone (a0 : Nat) (a1 : CoreId) : Statement (.flagWaitCopyDone a0 a1) := fun _ => ⟨rfl, rfl, rfl⟩
theorem portHsRequest (a0 : Nat) (a1 : PortId) : Statement (.portHsRequest a0 a1) := fun _ => ⟨rfl, rfl, rfl⟩
theorem frameStart (a0 : Nat) (a1 : PortId) (a2 : Packet) (a3 : BitVec 16) : Statement (.frameStart a0 a1 a2 a3) := fun _ => ⟨rfl, rfl, rfl⟩
theorem frameEnd (a0 : Nat) (a1 : PortId) (a2 : Packet) (a3 : BitVec 16) : Statement (.frameEnd a0 a1 a2 a3) := fun _ => ⟨rfl, rfl, rfl⟩
theorem lineStartEnd (a0 : Nat) (a1 : PortId) (a2 : Packet) (a3 : Bool) (a4 : BitVec 16) : Statement (.lineStartEnd a0 a1 a2 a3 a4) := fun _ => ⟨rfl, rfl, rfl⟩
theorem longPacket (a0 : Nat) (a1 : PortId) (a2 : Packet) (a3 : BitVec 8) (a4 : List Byte) (a5 : Bool) : Statement (.longPacket a0 a1 a2 a3 a4 a5) := fun _ => ⟨rfl, rfl, rfl⟩
theorem genericShortPacket (a0 : Nat) (a1 : PortId) (a2 : Packet) (a3 : BitVec 8) (a4 : BitVec 16) : Statement (.genericShortPacket a0 a1 a2 a3 a4) := fun _ => ⟨rfl, rfl, rfl⟩
theorem otherShortPacket (a0 : Nat) (a1 : PortId) (a2 : Packet) (a3 : BitVec 8) (a4 : BitVec 16) : Statement (.otherShortPacket a0 a1 a2 a3 a4) := fun _ => ⟨rfl, rfl, rfl⟩
theorem ulpsEntry (a0 : Nat) (a1 : PortId) : Statement (.ulpsEntry a0 a1) := fun _ => ⟨rfl, rfl, rfl⟩
theorem laneFault (a0 : Nat) (a1 : PortId) (a2 : Fin 5) (a3 : Fin 8) : Statement (.laneFault a0 a1 a2 a3) := fun _ => ⟨rfl, rfl, rfl⟩
theorem portRecover (a0 : Nat) (a1 : PortId) : Statement (.portRecover a0 a1) := fun _ => ⟨rfl, rfl, rfl⟩
theorem streamLoss (a0 : Nat) (a1 : StreamId) : Statement (.streamLoss a0 a1) := fun _ => ⟨rfl, rfl, rfl⟩
theorem feRowDone (a0 : Nat) (a1 : StreamId) : Statement (.feRowDone a0 a1) := fun _ => ⟨rfl, rfl, rfl⟩
theorem statsRecordWrite (a0 : Nat) (a1 : StreamId) : Statement (.statsRecordWrite a0 a1) := fun _ => ⟨rfl, rfl, rfl⟩
theorem glintCheckLatch (a0 : Nat) (a1 : StreamId) (a2 : BitVec 32) : Statement (.glintCheckLatch a0 a1 a2) := fun _ => ⟨rfl, rfl, rfl⟩
theorem inlineWindowRead (a0 : Nat) (a1 : ChanId) : Statement (.inlineWindowRead a0 a1) := fun _ => ⟨rfl, rfl, rfl⟩
theorem inlineRingRoom (a0 : Nat) (a1 : PortId) : Statement (.inlineRingRoom a0 a1) := fun _ => ⟨rfl, rfl, rfl⟩
theorem i3cWriteDone (a0 : Nat) (a1 : PortId) : Statement (.i3cWriteDone a0 a1) := fun _ => ⟨rfl, rfl, rfl⟩
theorem i3cNack (a0 : Nat) (a1 : PortId) : Statement (.i3cNack a0 a1) := fun _ => ⟨rfl, rfl, rfl⟩
theorem i3cBusStuck (a0 : Nat) (a1 : PortId) : Statement (.i3cBusStuck a0 a1) := fun _ => ⟨rfl, rfl, rfl⟩
theorem i3cRecoveryTimeout (a0 : Nat) (a1 : PortId) : Statement (.i3cRecoveryTimeout a0 a1) := fun _ => ⟨rfl, rfl, rfl⟩
theorem i3cIbi (a0 : Nat) (a1 : PortId) (a2 : Bool) : Statement (.i3cIbi a0 a1 a2) := fun _ => ⟨rfl, rfl, rfl⟩
theorem dasaAssignment (a0 : Nat) (a1 : PortId) : Statement (.dasaAssignment a0 a1) := fun _ => ⟨rfl, rfl, rfl⟩
theorem read (a0 : Nat) (a1 : Caller) (a2 : Req) : Statement (.read a0 a1 a2) := fun _ => ⟨rfl, rfl, rfl⟩
theorem write (a0 : Nat) (a1 : Caller) (a2 : Req) : Statement (.write a0 a1 a2) := fun _ => ⟨rfl, rfl, rfl⟩
theorem begin (a0 : Nat) (a1 : Caller) (a2 : Req) : Statement (.begin a0 a1 a2) := fun _ => ⟨rfl, rfl, rfl⟩
theorem commit (a0 : Nat) (a1 : Caller) (a2 : Req) : Statement (.commit a0 a1 a2) := fun _ => ⟨rfl, rfl, rfl⟩
theorem admissionDone (a0 : Nat) : Statement (.admissionDone a0) := fun _ => ⟨rfl, rfl, rfl⟩
theorem commitComplete (a0 : Nat) : Statement (.commitComplete a0) := fun _ => ⟨rfl, rfl, rfl⟩
theorem rollback (a0 : Nat) (a1 : Caller) (a2 : Req) : Statement (.rollback a0 a1 a2) := fun _ => ⟨rfl, rfl, rfl⟩
theorem txnQuery (a0 : Nat) (a1 : Caller) (a2 : Req) : Statement (.txnQuery a0 a1 a2) := fun _ => ⟨rfl, rfl, rfl⟩
theorem txnIdleExpiry (a0 : Nat) (a1 : BitVec 32) : Statement (.txnIdleExpiry a0 a1) := fun _ => ⟨rfl, rfl, rfl⟩
theorem journalMirrorCopy (a0 : Nat) : Statement (.journalMirrorCopy a0) := fun _ => ⟨rfl, rfl, rfl⟩
theorem planImage (a0 : Nat) (a1 : Caller) (a2 : Part) (a3 : Req) : Statement (.planImage a0 a1 a2 a3) := fun _ => ⟨rfl, rfl, rfl⟩
theorem planStop (a0 : Nat) (a1 : Caller) (a2 : Part) (a3 : Req) : Statement (.planStop a0 a1 a2 a3) := fun _ => ⟨rfl, rfl, rfl⟩
theorem clearOverrun (a0 : Nat) (a1 : Caller) (a2 : Part) (a3 : Req) : Statement (.clearOverrun a0 a1 a2 a3) := fun _ => ⟨rfl, rfl, rfl⟩
theorem clearCounts (a0 : Nat) (a1 : Caller) (a2 : Req) : Statement (.clearCounts a0 a1 a2) := fun _ => ⟨rfl, rfl, rfl⟩
theorem hostIfVersion (a0 : Nat) (a1 : Caller) (a2 : Req) : Statement (.hostIfVersion a0 a1 a2) := fun _ => ⟨rfl, rfl, rfl⟩
theorem functionIfVersion (a0 : Nat) (a1 : Caller) (a2 : Req) : Statement (.functionIfVersion a0 a1 a2) := fun _ => ⟨rfl, rfl, rfl⟩
theorem ringEnable (a0 : Nat) (a1 : Caller) (a2 : Req) : Statement (.ringEnable a0 a1 a2) := fun _ => ⟨rfl, rfl, rfl⟩
theorem journalRead (a0 : Nat) (a1 : Caller) (a2 : Req) : Statement (.journalRead a0 a1 a2) := fun _ => ⟨rfl, rfl, rfl⟩
theorem logRead (a0 : Nat) (a1 : Caller) (a2 : Req) : Statement (.logRead a0 a1 a2) := fun _ => ⟨rfl, rfl, rfl⟩
theorem abort (a0 : Nat) (a1 : Caller) (a2 : Req) : Statement (.abort a0 a1 a2) := fun _ => ⟨rfl, rfl, rfl⟩
theorem maintDesc (a0 : Nat) (a1 : Caller) (a2 : Req) : Statement (.maintDesc a0 a1 a2) := fun _ => ⟨rfl, rfl, rfl⟩
theorem quota (a0 : Nat) (a1 : Caller) (a2 : StreamId) (a3 : Req) : Statement (.quota a0 a1 a2 a3) := fun _ => ⟨rfl, rfl, rfl⟩
theorem retrain (a0 : Nat) (a1 : Caller) (a2 : Req) : Statement (.retrain a0 a1 a2) := fun _ => ⟨rfl, rfl, rfl⟩
theorem keyWrite (a0 : Nat) (a1 : Caller) (a2 : Fin 2) (a3 : Req) : Statement (.keyWrite a0 a1 a2 a3) := fun _ => ⟨rfl, rfl, rfl⟩
theorem evEnable (a0 : Nat) (a1 : Caller) (a2 : Req) : Statement (.evEnable a0 a1 a2) := fun _ => ⟨rfl, rfl, rfl⟩
theorem resEnable (a0 : Nat) (a1 : Caller) (a2 : Req) : Statement (.resEnable a0 a1 a2) := fun _ => ⟨rfl, rfl, rfl⟩
theorem loadImage (a0 : Nat) (a1 : Caller) (a2 : Req) : Statement (.loadImage a0 a1 a2) := fun _ => ⟨rfl, rfl, rfl⟩
theorem start (a0 : Nat) (a1 : Caller) (a2 : Req) : Statement (.start a0 a1 a2) := fun _ => ⟨rfl, rfl, rfl⟩
theorem updateImage (a0 : Nat) (a1 : Caller) (a2 : Req) : Statement (.updateImage a0 a1 a2) := fun _ => ⟨rfl, rfl, rfl⟩
theorem updateCommit (a0 : Nat) (a1 : Caller) (a2 : Req) : Statement (.updateCommit a0 a1 a2) := fun _ => ⟨rfl, rfl, rfl⟩
theorem svnRaise (a0 : Nat) (a1 : Caller) (a2 : Req) : Statement (.svnRaise a0 a1 a2) := fun _ => ⟨rfl, rfl, rfl⟩
theorem dumpRelease (a0 : Nat) (a1 : Caller) (a2 : Req) : Statement (.dumpRelease a0 a1 a2) := fun _ => ⟨rfl, rfl, rfl⟩
theorem restart (a0 : Nat) (a1 : Caller) (a2 : ProcId) (a3 : Req) : Statement (.restart a0 a1 a2 a3) := fun _ => ⟨rfl, rfl, rfl⟩
theorem safeClear (a0 : Nat) (a1 : Caller) (a2 : Req) : Statement (.safeClear a0 a1 a2) := fun _ => ⟨rfl, rfl, rfl⟩
theorem listErase (a0 : Nat) (a1 : Caller) (a2 : Req) : Statement (.listErase a0 a1 a2) := fun _ => ⟨rfl, rfl, rfl⟩
theorem serviceNow (a0 : Nat) (a1 : Caller) (a2 : Req) : Statement (.serviceNow a0 a1 a2) := fun _ => ⟨rfl, rfl, rfl⟩
theorem reqSeq (a0 : Nat) (a1 : Fn) (a2 : BitVec 16) : Statement (.reqSeq a0 a1 a2) := fun _ => ⟨rfl, rfl, rfl⟩
theorem ack (a0 : Nat) (a1 : Fn) (a2 : BitVec 32) : Statement (.ack a0 a1 a2) := fun _ => ⟨rfl, rfl, rfl⟩
theorem overrunClear (a0 : Nat) (a1 : Fn) (a2 : BitVec 32) : Statement (.overrunClear a0 a1 a2) := fun _ => ⟨rfl, rfl, rfl⟩
theorem mailboxDone (a0 : Nat) (a1 : Fn) : Statement (.mailboxDone a0 a1) := fun _ => ⟨rfl, rfl, rfl⟩
theorem sqTail (a0 : Nat) (a1 : Fn) (a2 : QueueId) (a3 : BitVec 32) : Statement (.sqTail a0 a1 a2 a3) := fun _ => ⟨rfl, rfl, rfl⟩
theorem cqHead (a0 : Nat) (a1 : Fn) (a2 : QueueId) (a3 : BitVec 32) : Statement (.cqHead a0 a1 a2 a3) := fun _ => ⟨rfl, rfl, rfl⟩
theorem evTail (a0 : Nat) (a1 : Fn) (a2 : BitVec 32) : Statement (.evTail a0 a1 a2) := fun _ => ⟨rfl, rfl, rfl⟩
theorem resTail (a0 : Nat) (a1 : Fn) (a2 : BitVec 32) : Statement (.resTail a0 a1 a2) := fun _ => ⟨rfl, rfl, rfl⟩
theorem registerWindowRead (a0 : Nat) (a1 : Fn) (a2 : Nat) (a3 : Nat) : Statement (.registerWindowRead a0 a1 a2 a3) := fun _ => ⟨rfl, rfl, rfl⟩
theorem registerWindowWrite (a0 : Nat) (a1 : Fn) (a2 : Nat) : Statement (.registerWindowWrite a0 a1 a2) := fun _ => ⟨rfl, rfl, rfl⟩
theorem registerWrite (a0 : Nat) (a1 : Fn) (a2 : Nat) (a3 : List Byte) : Statement (.registerWrite a0 a1 a2 a3) := fun _ => ⟨rfl, rfl, rfl⟩
theorem lpddr5ApertureAccess (a0 : Nat) (a1 : Fn) (a2 : Nat) (a3 : Access) : Statement (.lpddr5ApertureAccess a0 a1 a2 a3) := fun _ => ⟨rfl, rfl, rfl⟩
theorem scratchpadApertureAccess (a0 : Nat) (a1 : Fn) (a2 : Nat) (a3 : Access) : Statement (.scratchpadApertureAccess a0 a1 a2 a3) := fun _ => ⟨rfl, rfl, rfl⟩
theorem configRequest (a0 : Nat) (a1 : Fn) (a2 : ConfigReq) : Statement (.configRequest a0 a1 a2) := fun _ => ⟨rfl, rfl, rfl⟩
theorem vfEnable (a0 : Nat) (a1 : Fin 9) : Statement (.vfEnable a0 a1) := fun _ => ⟨rfl, rfl, rfl⟩
theorem d3hotEntry (a0 : Nat) (a1 : Fn) : Statement (.d3hotEntry a0 a1) := fun _ => ⟨rfl, rfl, rfl⟩
theorem flrVf (a0 : Nat) (a1 : Part) : Statement (.flrVf a0 a1) := fun _ => ⟨rfl, rfl, rfl⟩
theorem flrPf (a0 : Nat) : Statement (.flrPf a0) := fun _ => ⟨rfl, rfl, rfl⟩
theorem hotReset (a0 : Nat) (a1 : Bool) : Statement (.hotReset a0 a1) := fun _ => ⟨rfl, rfl, rfl⟩
theorem ucieModuleTrained (a0 : Nat) (a1 : Fin 2) (a2 : Fin 3) : Statement (.ucieModuleTrained a0 a1 a2) := fun _ => ⟨rfl, rfl, rfl⟩
theorem linkTrainingRetry (a0 : Nat) : Statement (.linkTrainingRetry a0) := fun _ => ⟨rfl, rfl, rfl⟩
theorem dlUp (a0 : Nat) : Statement (.dlUp a0) := fun _ => ⟨rfl, rfl, rfl⟩
theorem linkRetrain (a0 : Nat) : Statement (.linkRetrain a0) := fun _ => ⟨rfl, rfl, rfl⟩
theorem linkRetrainDone (a0 : Nat) (a1 : Bool) (a2 : Bool) : Statement (.linkRetrainDone a0 a1 a2) := fun _ => ⟨rfl, rfl, rfl⟩
theorem ideKeyProgram (a0 : Nat) (a1 : Nat) (a2 : Fin 2) (a3 : Fin 3) (a4 : Bool) (a5 : List Byte) : Statement (.ideKeyProgram a0 a1 a2 a3 a4 a5) := fun _ => ⟨rfl, rfl, rfl⟩
theorem kSetGo (a0 : Nat) (a1 : Nat) (a2 : Fin 2) : Statement (.kSetGo a0 a1 a2) := fun _ => ⟨rfl, rfl, rfl⟩
theorem ideMacFailure (a0 : Nat) : Statement (.ideMacFailure a0) := fun _ => ⟨rfl, rfl, rfl⟩
theorem ideRekey (a0 : Nat) (a1 : Fin 3) : Statement (.ideRekey a0 a1) := fun _ => ⟨rfl, rfl, rfl⟩
theorem ideHardLimit (a0 : Nat) (a1 : Fin 3) : Statement (.ideHardLimit a0 a1) := fun _ => ⟨rfl, rfl, rfl⟩
theorem getVersion (a0 : Nat) : Statement (.getVersion a0) := fun _ => ⟨rfl, rfl, rfl⟩
theorem getCapabilities (a0 : Nat) : Statement (.getCapabilities a0) := fun _ => ⟨rfl, rfl, rfl⟩
theorem negotiateAlgorithms (a0 : Nat) (a1 : Bool) (a2 : Bool) (a3 : Bool) (a4 : Bool) : Statement (.negotiateAlgorithms a0 a1 a2 a3 a4) := fun _ => ⟨rfl, rfl, rfl⟩
theorem getDigests (a0 : Nat) : Statement (.getDigests a0) := fun _ => ⟨rfl, rfl, rfl⟩
theorem getCertificate (a0 : Nat) (a1 : Fin 8) (a2 : Nat) (a3 : Nat) : Statement (.getCertificate a0 a1 a2 a3) := fun _ => ⟨rfl, rfl, rfl⟩
theorem challenge (a0 : Nat) (a1 : Fin 8) (a2 : List Byte) : Statement (.challenge a0 a1 a2) := fun _ => ⟨rfl, rfl, rfl⟩
theorem getMeasurements (a0 : Nat) (a1 : BitVec 8) : Statement (.getMeasurements a0 a1) := fun _ => ⟨rfl, rfl, rfl⟩
theorem keyExchange (a0 : Nat) (a1 : Nat) : Statement (.keyExchange a0 a1) := fun _ => ⟨rfl, rfl, rfl⟩
theorem finish (a0 : Nat) (a1 : Nat) (a2 : Bool) : Statement (.finish a0 a1 a2) := fun _ => ⟨rfl, rfl, rfl⟩
theorem keyUpdate (a0 : Nat) (a1 : Nat) : Statement (.keyUpdate a0 a1) := fun _ => ⟨rfl, rfl, rfl⟩
theorem heartbeat (a0 : Nat) (a1 : Nat) : Statement (.heartbeat a0 a1) := fun _ => ⟨rfl, rfl, rfl⟩
theorem endSession (a0 : Nat) (a1 : Nat) : Statement (.endSession a0 a1) := fun _ => ⟨rfl, rfl, rfl⟩
theorem respondIfReady (a0 : Nat) : Statement (.respondIfReady a0) := fun _ => ⟨rfl, rfl, rfl⟩
theorem dictRequest (a0 : Nat) (a1 : BitVec 29) (a2 : Bool) (a3 : List Byte) : Statement (.dictRequest a0 a1 a2 a3) := fun _ => ⟨rfl, rfl, rfl⟩
theorem keySwitch (a0 : Nat) (a1 : BitVec 29) (a2 : Bool) (a3 : List Byte) : Statement (.keySwitch a0 a1 a2 a3) := fun _ => ⟨rfl, rfl, rfl⟩
theorem canFrameIgnored (a0 : Nat) (a1 : BitVec 29) (a2 : Bool) : Statement (.canFrameIgnored a0 a1 a2) := fun _ => ⟨rfl, rfl, rfl⟩
theorem aedsyPartialTimeout (a0 : Nat) : Statement (.aedsyPartialTimeout a0) := fun _ => ⟨rfl, rfl, rfl⟩
theorem aedsyRekeyDue (a0 : Nat) : Statement (.aedsyRekeyDue a0) := fun _ => ⟨rfl, rfl, rfl⟩
theorem aedsyFreshLimit (a0 : Nat) : Statement (.aedsyFreshLimit a0) := fun _ => ⟨rfl, rfl, rfl⟩
theorem aedsyStatusFrame (a0 : Nat) : Statement (.aedsyStatusFrame a0) := fun _ => ⟨rfl, rfl, rfl⟩
theorem canTxComplete (a0 : Nat) : Statement (.canTxComplete a0) := fun _ => ⟨rfl, rfl, rfl⟩
theorem canBusOff (a0 : Nat) (a1 : Nat) : Statement (.canBusOff a0 a1) := fun _ => ⟨rfl, rfl, rfl⟩
theorem busoffDelayExpiry (a0 : Nat) : Statement (.busoffDelayExpiry a0) := fun _ => ⟨rfl, rfl, rfl⟩
theorem canRecovered (a0 : Nat) : Statement (.canRecovered a0) := fun _ => ⟨rfl, rfl, rfl⟩
theorem msixCoalesceExpiry (a0 : Nat) (a1 : Fn) (a2 : Vec) : Statement (.msixCoalesceExpiry a0 a1 a2) := fun _ => ⟨rfl, rfl, rfl⟩
theorem tickVector (a0 : Nat) (a1 : Fn) : Statement (.tickVector a0 a1) := fun _ => ⟨rfl, rfl, rfl⟩
theorem eventOverflowEntry (a0 : Nat) (a1 : Fn) : Statement (.eventOverflowEntry a0 a1) := fun _ => ⟨rfl, rfl, rfl⟩
theorem pairJudge (a0 : Nat) (a1 : Part) (a2 : Nat) : Statement (.pairJudge a0 a1 a2) := fun _ => ⟨rfl, rfl, rfl⟩
theorem verdictDeadline (a0 : Nat) (a1 : Part) : Statement (.verdictDeadline a0 a1) := fun _ => ⟨rfl, rfl, rfl⟩
theorem verdictPublish (a0 : Nat) : Statement (.verdictPublish a0) := fun _ => ⟨rfl, rfl, rfl⟩
theorem missingVerdict (a0 : Nat) : Statement (.missingVerdict a0) := fun _ => ⟨rfl, rfl, rfl⟩
theorem checkerFault (a0 : Nat) (a1 : Fin 3) : Statement (.checkerFault a0 a1) := fun _ => ⟨rfl, rfl, rfl⟩
theorem selftestLapse (a0 : Nat) (a1 : CoreId) : Statement (.selftestLapse a0 a1) := fun _ => ⟨rfl, rfl, rfl⟩
theorem detectionCheckFail (a0 : Nat) (a1 : ErrSite) (a2 : ErrReader) : Statement (.detectionCheckFail a0 a1 a2) := fun _ => ⟨rfl, rfl, rfl⟩
theorem detectionRetryResult (a0 : Nat) (a1 : Bool) : Statement (.detectionRetryResult a0 a1) := fun _ => ⟨rfl, rfl, rfl⟩
theorem retirementListAppend (a0 : Nat) : Statement (.retirementListAppend a0) := fun _ => ⟨rfl, rfl, rfl⟩
theorem scrubFillDone (a0 : Nat) : Statement (.scrubFillDone a0) := fun _ => ⟨rfl, rfl, rfl⟩
theorem serviceWindow (a0 : Nat) : Statement (.serviceWindow a0) := fun _ => ⟨rfl, rfl, rfl⟩
theorem avsResponse (a0 : Nat) (a1 : AvsReply) : Statement (.avsResponse a0 a1) := fun _ => ⟨rfl, rfl, rfl⟩
theorem avsTimeout (a0 : Nat) : Statement (.avsTimeout a0) := fun _ => ⟨rfl, rfl, rfl⟩
theorem avsHoldExpiry (a0 : Nat) : Statement (.avsHoldExpiry a0) := fun _ => ⟨rfl, rfl, rfl⟩
theorem thermalTrip (a0 : Nat) (a1 : Fin 8) : Statement (.thermalTrip a0 a1) := fun _ => ⟨rfl, rfl, rfl⟩
theorem pllLossOfLock (a0 : Nat) (a1 : Pll) : Statement (.pllLossOfLock a0 a1) := fun _ => ⟨rfl, rfl, rfl⟩
theorem resetNAssert (a0 : Nat) : Statement (.resetNAssert a0) := fun _ => ⟨rfl, rfl, rfl⟩
theorem resetNRelease (a0 : Nat) : Statement (.resetNRelease a0) := fun _ => ⟨rfl, rfl, rfl⟩
theorem romRelease (a0 : Nat) : Statement (.romRelease a0) := fun _ => ⟨rfl, rfl, rfl⟩
theorem lpddr5TrainingDone (a0 : Nat) (a1 : Nat) (a2 : Bool) : Statement (.lpddr5TrainingDone a0 a1 a2) := fun _ => ⟨rfl, rfl, rfl⟩
theorem watchdogExpiry (a0 : Nat) (a1 : ProcId) : Statement (.watchdogExpiry a0 a1) := fun _ => ⟨rfl, rfl, rfl⟩
theorem firmwareFault (a0 : Nat) (a1 : ProcId) : Statement (.firmwareFault a0 a1) := fun _ => ⟨rfl, rfl, rfl⟩
theorem crashDumpCaptured (a0 : Nat) (a1 : ProcId) : Statement (.crashDumpCaptured a0 a1) := fun _ => ⟨rfl, rfl, rfl⟩
theorem processorRestartDone (a0 : Nat) (a1 : ProcId) : Statement (.processorRestartDone a0 a1) := fun _ => ⟨rfl, rfl, rfl⟩
theorem processorFailed (a0 : Nat) (a1 : ProcId) : Statement (.processorFailed a0 a1) := fun _ => ⟨rfl, rfl, rfl⟩
theorem dmaRequestIssue (a0 : Nat) (a1 : DmaId) : Statement (.dmaRequestIssue a0 a1) := fun _ => ⟨rfl, rfl, rfl⟩
theorem engineWindowStart (a0 : Nat) (a1 : Part) (a2 : EngId) : Statement (.engineWindowStart a0 a1 a2) := fun _ => ⟨rfl, rfl, rfl⟩
theorem engineWindowEnd (a0 : Nat) (a1 : Part) (a2 : EngId) : Statement (.engineWindowEnd a0 a1 a2) := fun _ => ⟨rfl, rfl, rfl⟩
theorem i3cSdaHigh (a0 : Nat) (a1 : PortId) : Statement (.i3cSdaHigh a0 a1) := fun _ => ⟨rfl, rfl, rfl⟩
theorem canErrorPassive (a0 : Nat) (a1 : CanErrors) : Statement (.canErrorPassive a0 a1) := fun _ => ⟨rfl, rfl, rfl⟩
theorem schFirstRunsImage (a0 : Nat) : Statement (.schFirstRunsImage a0) := fun _ => ⟨rfl, rfl, rfl⟩
theorem railOutOfRange (a0 : Nat) (a1 : Rail) : Statement (.railOutOfRange a0 a1) := fun _ => ⟨rfl, rfl, rfl⟩
theorem jtagTapClock (a0 : Nat) (a1 : Bool) (a2 : Bool) (a3 : Bool) : Statement (.jtagTapClock a0 a1 a2 a3) := fun _ => ⟨rfl, rfl, rfl⟩

end Sys2Proof.Laws.Operands
end

