-- ==== Sys2Proof/Tests/Slice0.lean ====
section
/-! SUPPORT. The author's own tests. `smoke_…`: an ill-formed command for each check of `Instr.wf`, refused by it. `witness_…`: for each
statement with hypotheses, a concrete state and operands that meet them, clause by clause. `test_…`: single steps against values that the
manual states. -/

namespace Sys2Proof.Tests

open Sys2Proof.Machine

-- One theorem after another: the kernel evaluations would together take more memory than there is.
set_option Elab.async false

/-! ### Small states and commands -/

/-- A state with number objects set: (index, sub-index, value). -/
def withRegs (l : List (Nat × Nat × Nat)) (s : State) : State := l.foldl (fun s e => s.setReg e.1 e.2.1 e.2.2) s

/-- A die out of reset, nothing started. -/
def stUp : State := { State.reset with resetN := true }

/-- A die that is READY, with every processor running and the host's interface version accepted. -/
def stRun : State := withRegs ([(0x2050, 1, 3), (0x1010, 3, 1)] ++ (List.range 9).map (fun x => (0x2060 + x, 1, 1))) stUp

/-- The same with the tick running since an edge at cycle 100, at 60,000 mHz from the internal generator. -/
def stTick : State := withRegs [(0x2000, 3, 1)] { stRun with tick := { stRun.tick with lastEdge := some 100 } }

/-- A request for an object with LAST set, outside any transaction. -/
def rq (idx sub : Nat) (p : List Byte) : Req :=
  { flags := 1, tag := 1, txn := 0, index := BitVec.ofNat 16 idx, sub := BitVec.ofNat 8 sub, scopePart := 0, scopeGlobal := true, rsvd := 0,
    offset := 0, length := BitVec.ofNat 32 p.length, payload := p }

/-- The device owner. -/
def pf : Caller := .fn 0

/-- Readings of a cool die. -/
def cool : Readings :=
  { temps := [300, 300, 300, 300, 300, 300, 300, 300], margins := [], currentMa := 0, powerMw := 0, powerW := 0, sramMv := 750, ucieMv := 750,
    ddrMv := 500 }

/-- A clean packet of virtual channel 0. -/
def pk0 : Packet := { vc := 0, hdr := .clean, maps := [] }

/-- Does a write pass every check of R75? -/
def takesSome (s : State) (fn : Nat) (r : Req) : Bool :=
  match objRow r.index.toNat r.sub.toNat with
  | some o => s.takes fn o r
  | none => false

theorem passes_of {s : State} {t : Nat} {c : Caller} {r : Req} (h : s.live = true) (h1 : s.reg 0x2050 1 ≠ 0)
    (ho : s.roleOpen (callerFn c) = true)
    (h2 : takesSome ((s.at t).asked (callerFn c)) (callerFn c) r = true) : WritePasses s t c r := by
  refine ⟨h, h1, ho, ?_⟩
  cases ho : objRow r.index.toNat r.sub.toNat with
  | none => simp [takesSome, ho] at h2
  | some o => exact ⟨o, by simpa [takesSome, ho] using h2⟩

/-! ### Well-formedness -/

theorem smoke_payload : (Instr.read 0 pf { rq 0x1000 1 [] with payload := List.replicate 4097 0 }).wf = false := by
  simp only [Instr.wf, Req.wf, List.length_replicate]; decide
theorem smoke_sensors : (Instr.tickEdge 0 { cool with temps := [300] }).wf = false := by decide
theorem smoke_units : (Instr.tickEdge 0 { cool with margins := [(256, 0, 0)] }).wf = false := by decide
theorem smoke_node : (Instr.nodeRelease 0 0 65534).wf = false ∧ (Instr.nodeEligible 0 0 65535).wf = false := by decide
theorem smoke_noRequest : (Instr.scratchpadRequest 0 0 []).wf = false := by decide
theorem smoke_portTwice : (Instr.scratchpadRequest 0 0 [{ port := 0, handle := 0, gen := 0, kind := .wideRead 0 },
    { port := 0, handle := 1, gen := 0, kind := .wideRead 0 }]).wf = false := by decide
theorem smoke_portKind : (Instr.scratchpadRequest 0 0 [{ port := 2, handle := 0, gen := 0, kind := .wideRead 0 }]).wf = false
    ∧ (Instr.scratchpadRequest 0 0 [{ port := 0, handle := 0, gen := 0, kind := .narrowRead 0 }]).wf = false := by decide
theorem smoke_padBytes : (Instr.scratchpadRequest 0 0 [{ port := 2, handle := 0, gen := 0, kind := .wideWrite 0 [none] }]).wf = false
    ∧ (Instr.scratchpadRequest 0 0 [{ port := 5, handle := 0, gen := 0, kind := .narrowWrite 0 [none] }]).wf = false
    ∧ (Instr.scratchpadRequest 0 0 [{ port := 0, handle := 0, gen := 0, kind := .column 0 32 }]).wf = false := by decide
theorem smoke_narrow : (Instr.remoteNarrowRequest 0 0x50 0 0 0 0 0 (.rd 4)).wf = false := by decide
theorem smoke_raw : (Instr.rawNarrowAccess 0 0x50 0 327680 (.rd 8)).wf = false ∧ (Instr.rawNarrowAccess 0 0x50 0 0 (.wr [])).wf = false := by decide
theorem smoke_hostData : (Instr.dmaReadData 0 0 0 (List.replicate 257 0)).wf = false := by
  simp only [Instr.wf, List.length_replicate]; decide
theorem smoke_cause : (Instr.dmaBusError 0 0 0 4).wf = false ∧ (Instr.dmaBusError 0 0 0 0).wf = false := by decide
theorem smoke_lane : (Instr.laneFault 0 0 0 0).wf = true ∧ (Instr.laneFault 0 0 0 5).wf = false := by decide
theorem smoke_dataType : (Instr.longPacket 0 0 pk0 64 [] true).wf = false ∧ (Instr.genericShortPacket 0 0 pk0 7 0).wf = false
    ∧ (Instr.otherShortPacket 0 0 pk0 8 0).wf = false := by decide
theorem smoke_long : (Instr.longPacket 0 0 pk0 0x2B (List.replicate 65536 0) true).wf = false := by
  simp only [Instr.wf, List.length_replicate]; decide
theorem smoke_window : (Instr.registerWindowRead 0 0 0 2).wf = false ∧ (Instr.registerWindowRead 0 0 4 8).wf = false
    ∧ (Instr.registerWindowRead 0 0 0x40000 4).wf = false ∧ (Instr.registerWindowWrite 0 0 0x10000).wf = false := by decide
theorem smoke_register : (Instr.registerWrite 0 0 0x20000 []).wf = false ∧ (Instr.registerWrite 0 0 0x40000 [0]).wf = false := by decide
theorem smoke_aperture : (Instr.lpddr5ApertureAccess 0 0 0 (.rd 0)).wf = false ∧ (Instr.lpddr5ApertureAccess 0 0 (2 ^ 35) (.rd 1)).wf = false
    ∧ (Instr.lpddr5ApertureAccess 0 0 0 (.rd 4097)).wf = false ∧ (Instr.scratchpadApertureAccess 0 0 (2 ^ 34) (.rd 1)).wf = false := by decide
theorem smoke_config : (Instr.configRequest 0 0 (.numVfs 9)).wf = false ∧ (Instr.configRequest 0 0 (.other 4096)).wf = false := by decide
theorem smoke_key : (Instr.ideKeyProgram 0 1 0 0 true [0]).wf = false := by decide
theorem smoke_session : (Instr.kSetGo 0 (2 ^ 32) 0).wf = false ∧ (Instr.keyExchange 0 (2 ^ 32)).wf = false ∧ (Instr.finish 0 (2 ^ 32) true).wf = false
    ∧ (Instr.keyUpdate 0 (2 ^ 32)).wf = false ∧ (Instr.heartbeat 0 (2 ^ 32)).wf = false ∧ (Instr.endSession 0 (2 ^ 32)).wf = false
    ∧ (Instr.ideKeyProgram 0 (2 ^ 32) 0 0 true (zeros 32)).wf = false := by decide
theorem smoke_spdm : (Instr.getCertificate 0 0 65536 1).wf = false ∧ (Instr.getCertificate 0 0 0 65536).wf = false
    ∧ (Instr.challenge 0 0 [1]).wf = false := by decide
theorem smoke_canId : (Instr.dictRequest 0 (BitVec.ofNat 29 2048) false []).wf = false ∧ (Instr.keySwitch 0 (BitVec.ofNat 29 2048) false []).wf = false
    ∧ (Instr.canFrameIgnored 0 (BitVec.ofNat 29 2048) false).wf = false := by decide
theorem smoke_canFrame : (Instr.dictRequest 0 0 true (zeros 65)).wf = false ∧ (Instr.keySwitch 0 0 true (zeros 65)).wf = false := by decide
theorem smoke_canCounts : (Instr.canBusOff 0 255).wf = false ∧ (Instr.canErrorPassive 0 { tecCount := 127, recCount := 127 }).wf = false
    ∧ (Instr.canErrorPassive 0 { tecCount := 256, recCount := 0 }).wf = false := by decide
theorem smoke_pair : (Instr.pairJudge 0 0 256).wf = false := by decide
theorem smoke_site : (Instr.detectionCheckFail 0 (.pad 0 10240 0) .narrow).wf = false ∧ (Instr.detectionCheckFail 0 (.lpddr5 (2 ^ 35)) .narrow).wf = false
    ∧ (Instr.detectionCheckFail 0 (.fscratch (2 ^ 19)) .narrow).wf = false ∧ (Instr.detectionCheckFail 0 (.lineMem 0 32768) .narrow).wf = false := by decide
theorem smoke_capacity : (Instr.lpddr5TrainingDone 0 (2 ^ 32) true).wf = false ∧ (Instr.lpddr5TrainingDone 0 (2 ^ 36) true).wf = false := by decide

/-! ### Hypotheses met: the block and its reset -/

theorem witness_StepRunsTheFrontCommand :
    ({ stUp with pending := [.admissionDone 0] } : State).pending = .admissionDone 0 :: [] := by decide
theorem witness_IdleStepLetsOneCyclePass : stRun.pending = [] := by decide
theorem witness_DieThatDoesNotRunStandsStill : State.reset.live = false ∧ ({ stRun with stopped := true } : State).live = false
    ∧ resetEdge (.admissionDone 0) = false := by decide

/-- A die that a trip has stopped. -/
def stStopped : State := { stRun with stopped := true, umbra := { stRun.umbra with safeN := false } }
theorem witness_StoppedDieStaysStopped : Stopped stStopped ∧ ∃ s', step stStopped = .next s' :=
  ⟨⟨by decide, by decide, by decide, by decide, by decide⟩, _, rfl⟩

/-- A die held in reset that a transition of TICK_IN reaches. -/
def stHeld : State := { State.reset with now := 7, pending := [.tickInEdge 9 true cool] }
theorem witness_DieHeldInResetKeepsItsResetValues : HeldInReset stHeld ∧ ∃ s', step stHeld = .next s' :=
  ⟨⟨rfl, by decide⟩, _, rfl⟩
theorem witness_TripsAndLostClocksStopTheDie : stRun.live = true ∧ Pll.core ≠ .ucie := by decide
/-- A directory write that the next cycle begins. -/
def stDirWrite : State := { State.reset with fw := { fwReset with dirWrite := some (1, 0, []) } }
theorem witness_ResetPinResetsAndReleases : State.reset.resetN = false ∧ stDirWrite.fw.dirWrite = some (1, 0, [])
    ∧ max stDirWrite.now 0 < 1 + Config.dirCycles ∧ State.reset.fw.dirWrite = none :=
  ⟨by decide, by decide, Nat.lt_add_right _ (by decide), by decide⟩
theorem witness_TapClockMovesTheTapAlone : State.reset.jtag.tap ≠ 3 := by decide

/-! ### Hypotheses met: the dictionary -/

/-- A READ of OD 2000.01 by the PF. -/
def rdMode : Req := { rq 0x2000 1 [] with length := 1 }
/-- The state in which the PF's request is checked. -/
def askedRun : State := (stRun.at 0).asked 0
theorem witness_ReadAnswersTheValue : stRun.live = true ∧ stRun.reg 0x2050 1 ≠ 0 ∧ stRun.roleOpen 0 = true ∧ askedRun.serviceGate 0 1 0x2000 1 = none
    ∧ formCheck 0 1 rdMode = stOk
    ∧ firstFail [askedRun.versionCheck 0 1 0x2000 1, addressCheck 0x2000 1 false, askedRun.rightsCheck 0 0x2000 1 false none] = stOk
    ∧ rdMode.txn.toNat = 0 ∧ reqStagedRead rdMode = false ∧ rdMode.index.toNat < 0xF000
    ∧ (∃ o, objRow 0x2000 1 = some o ∧ o.acc ≠ .wo ∧ tySize o.ty ≠ 0) ∧ rdMode.offset.toNat = 0 := by
  refine ⟨by decide, by decide, by decide, by decide, by decide, by decide, by decide, by decide, by decide, ⟨_, rfl, by decide, by decide⟩,
    by decide⟩

theorem witness_WriteTakesEffectAndIsJournaled : stRun.live = true ∧ stRun.reg 0x2050 1 ≠ 0 ∧ stRun.roleOpen 0 = true
    ∧ takesSome askedRun 0 (rq 0x1106 1 [4]) = true := by decide
theorem witness_RefusedWriteChangesNoObject : stRun.live = true ∧ stRun.reg 0x2050 1 ≠ 0 ∧ stRun.roleOpen 0 = true ∧ askedRun.serviceGate 0 2 0x1106 2 = none
    ∧ formCheck 0 2 (rq 0x1106 2 [0xFF, 0xFF]) = stOk
    ∧ ∃ o, objRow 0x1106 2 = some o ∧ askedRun.valueStep 0 o (rq 0x1106 2 [0xFF, 0xFF]) ≠ stOk :=
  ⟨by decide, by decide, by decide, by decide, by decide, _, rfl, by decide⟩

theorem witness_ClosedRolesAreNotServed : (stUp.live = true ∧ stUp.reg 0x2050 1 = 0)
    ∧ (stRun.reg 0x2050 1 ≠ 0 ∧ roleOf (callerFn (.fn 1)) = 1 ∧ (stRun.fnSt (callerFn (.fn 1))).enabled = false) := by decide

/-- A state with transaction 1 of the PF open in the global scope, staging `l`. -/
def stTxn (l : List Staged) : State := { stRun with dict := { stRun.dict with
  txns := [{ id := 1, fn := 0, role := 0, scope := none, beginSeq := 1, waiting := [], staged := l, lastCmd := 0 }], nextTxn := 2 } }
/-- A transaction command of the PF that names transaction `n`. -/
def tx (n : Nat) : Req := { rq 0 0 [] with flags := 0, txn := BitVec.ofNat 32 n }
theorem witness_BeginOpensAndQueryNamesOneTransaction :
    (stRun.live = true ∧ stRun.reg 0x2050 1 ≠ 0 ∧ stRun.roleOpen 0 = true ∧ askedRun.serviceGate 0 3 0 0 = none ∧ formCheck 0 3 (tx 0) = stOk
      ∧ askedRun.versionCheck 0 3 0 0 = stOk ∧ scopeAllowed 0 (reqScope (tx 0)) = true
      ∧ askedRun.scopeTxn (roleOf 0) (reqScope (tx 0)) = none ∧ askedRun.journalFull = false)
    ∧ (((stTxn []).at 0).asked 0).scopeTxn (roleOf 0) (reqScope (tx 0)) ≠ none
    ∧ (askedRun.serviceGate 0 6 0 0 = none ∧ formCheck 0 6 (tx 0) = stOk ∧ askedRun.versionCheck 0 6 0 0 = stOk
      ∧ (askedRun.touchTxn 0 0).scopeTxn (roleOf 0) (reqScope (tx 0)) = none)
    ∧ ((((stTxn []).at 0).asked 0).touchTxn 0 1).scopeTxn (roleOf 0) (reqScope (tx 1)) ≠ none := by decide
theorem witness_RollbackClosesItsTransaction :
    askedRun.serviceGate 0 5 0 0 = none ∧ formCheck 0 5 (tx 1) = stOk ∧ askedRun.versionCheck 0 5 0 0 = stOk
    ∧ (((stTxn []).at 0).asked 0).findTxn 0 1 ≠ none ∧ (((stTxn []).at 0).asked 0).journalFull = false
    ∧ askedRun.findTxn 0 1 = none ∧ stTick.tickOn = true := by decide

/-- A COMMIT of the PF's transaction 1, which stages STATUS_PERIOD 5. -/
def txn1 : Txn :=
  { id := 1, fn := 0, role := 0, scope := none, beginSeq := 1, waiting := [], staged := [{ fn := 0, idx := 0x1111, sub := 8, val := .num 5 }],
    lastCmd := 0 }
def run1 : CommitRun := { fn := 0, req := tx 1, txn := txn1, seq := 0, decided := none, tick := 0 }
/-- The state in which the PF commits it. -/
def stCommit : State := ((stTxn run1.txn.staged).at 0).asked 0
theorem witness_CommitDecidesAndCompletes :
    (stCommit.serviceGate 0 4 0 0 = none ∧ formCheck 0 4 (tx 1) = stOk ∧ stCommit.versionCheck 0 4 0 0 = stOk
      ∧ stCommit.findTxn 0 1 = some run1.txn ∧ (commitProcs run1.txn.staged).findSome? (fun y => (stCommit.touchTxn 0 1).procGate y) = none
      ∧ (stCommit.touchTxn 0 1).journalFull = false
      ∧ run1.txn.staged.any (fun w => (stCommit.touchTxn 0 1).locked w.fn w.idx w.sub) = false
      ∧ run1.txn.staged.find? ((stCommit.touchTxn 0 1).conflicts run1.txn) = none ∧ needsAdmission run1.txn.staged = false
      ∧ ((stCommit.touchTxn 0 1).runCommit run1).2.isSome = true)
    ∧ (stRun.proc 2 = 1 ∧ [run1].any (fun c => c.decided.isNone) = true)
    ∧ [({ run1 with decided := some 0 } : CommitRun)].find? ((stRun.at 50000000).commitDue) ≠ none ∧ stTick.tickOn = true := by
  decide

/-- A journal entry. -/
def entry1 : JEntry :=
  { seq := 1, tick := 0, txn := 0, index := 0x1106, sub := 1, role := 0, part := 0, isGlobal := true, kind := 1, outcome := 0,
    count := 1, transport := 0, oldHash := zeros 8, newHash := zeros 8 }
/-- A READY die whose journal waits for the mirror. -/
def stMirror : State := { withRegs [(0x1020, 4, 1)] stRun with dict := { (withRegs [(0x1020, 4, 1)] stRun).dict with journal := [entry1] } }
theorem witness_IdleTransactionsCloseAndTheMirrorFollows :
    (stRun.proc 2 = 1 ∧ (stTxn []).dict.txns.find? (fun y => decide (y.id = 1)) ≠ none ∧ 0 + msCycles 2000 ≤ max stRun.now 2000000000
      ∧ (stTxn []).dict.commits.any (fun c => decide (c.txn.id = 1)) = false)
    ∧ (stMirror.live = true ∧ stMirror.dict.journal.find? (fun x => decide (stMirror.dict.mirrored < x.seq)) = some entry1 ∧ stMirror.proc 2 = 1
      ∧ stMirror.reg 0x1020 4 = 1)
    ∧ stRun.dict.journal.find? (fun x => decide (stRun.dict.mirrored < x.seq)) = none := by
  decide

/-! ### Hypotheses met: rows that write one object -/

/-- A write inside transaction 1. -/
def rqT (idx sub : Nat) (p : List Byte) : Req := { rq idx sub p with txn := 1 }

/-- A write passes at cycle 0, through function `fn`. -/
def passes (s : State) (fn : Nat) (r : Req) : Bool :=
  s.live && decide (s.reg 0x2050 1 ≠ 0) && s.roleOpen fn && takesSome ((s.at 0).asked fn) fn r
/-- The owner of partition 0. -/
def vf1 : Caller := .fn 1
theorem of_passes {s : State} {c : Caller} {r : Req} (h : passes s (callerFn c) r = true) : WritePasses s 0 c r := by
  simp only [passes, Bool.and_eq_true, decide_eq_true_eq] at h
  exact passes_of h.1.1.1 h.1.1.2 h.1.2 h.2

/-- The first VF enabled. -/
def stOwner : State := stRun.setFn 1 { stRun.fnSt 1 with enabled := true }
/-- Transaction 1 of partition 0's owner is open. -/
def stTxnP : State :=
  { stOwner with dict := { stRun.dict with
      txns := [{ id := 1, fn := 1, role := 1, scope := some 0, beginSeq := 1, waiting := [], staged := [], lastCmd := 0 }], nextTxn := 2 } }
/-- The same with the tick on. -/
def stTxnOn : State := withRegs [(0x2000, 3, 1)] stTxnP
theorem witness_TransactionalWritesAreStaged :
    WritePasses stTxnP 0 vf1 (rqT 0x2100 1 (zeros 16)) ∧ (WritePasses stTxnOn 0 vf1 (rqT 0x2100 4 [1]) ∧ reqNum (rqT 0x2100 4 [1]) = 1 ∧ stTxnOn.tickOn = true)
    ∧ (WritePasses (stTxn []) 0 pf (rqT 0x1020 4 [0]) ∧ reqNum (rqT 0x1020 4 [0]) ≠ (stTxn []).reg 0x1020 4)
    ∧ (WritePasses (stTxn []) 0 pf (rqT 0x6040 1 [0, 1, 0, 0]) ∧ reqNum (rqT 0x6040 1 [0, 1, 0, 0]) ≠ (stTxn []).reg 0x6040 1
      ∧ (stTxn []).streamPart 0 = some 0 ∧ ((stTxn []).eng 14).run = none ∧ (stTxn []).ctxIn 0 0 = true)
    ∧ (rqT 0x2100 1 (zeros 16)).txn.toNat ≠ 0 ∧ reqLast (rqT 0x2100 1 (zeros 16)) = true :=
  ⟨of_passes (by decide), ⟨of_passes (by decide), by decide, by decide⟩, ⟨of_passes (by decide), by decide⟩,
    ⟨of_passes (by decide), by decide, by decide, by decide, by decide⟩, by decide, by decide⟩
theorem witness_VersionsAndRingsTakeTheirValue :
    WritePasses stRun 0 pf (rq 0x1010 1 [0, 0, 1, 0]) ∧ WritePasses stOwner 0 vf1 (rq 0x1010 4 [0, 0, 1, 0])
    ∧ WritePasses stRun 0 pf (rq 0x1104 3 [1]) ∧ WritePasses stRun 0 pf (rq 0x1105 3 [1]) ∧ (rq 0x1010 1 []).txn.toNat = 0 :=
  ⟨of_passes (by decide), of_passes (by decide), of_passes (by decide), of_passes (by decide), by decide⟩
/-- The same with the journal's cursor of the device owner elsewhere, and with entries from SEQ 5 on held. -/
def askedAt (n : Nat) : State := askedRun.setRegF 0 0x1021 1 n
def askedLate : State :=
  { askedAt 2 with dict := { (askedAt 2).dict with journal := [{ (askedAt 2).entry0 6 with seq := 5 }], nextSeq := 6 } }
theorem witness_CursorReadsAnswerEntries :
    (askedRun.serviceGate 0 1 0x1021 2 = none ∧ formCheck 0 1 { rq 0x1021 2 [] with length := 64 } = stOk
      ∧ firstFail [askedRun.versionCheck 0 1 0x1021 2, askedRun.rightsCheck 0 0x1021 2 false none] = stOk
      ∧ 64 ≤ ({ rq 0x1021 2 [] with length := 64 } : Req).length.toNat
      ∧ (askedAt 7).dict.nextSeq ≤ (askedAt 7).regF 0 0x1021 1
      ∧ (askedLate.setRegF 0 0x1021 1 5).regF 0 0x1021 1 < askedLate.dict.nextSeq
      ∧ (askedLate.heldEntries.head?.map (fun e => e.seq)).getD 1 ≤ (askedLate.setRegF 0 0x1021 1 5).regF 0 0x1021 1
      ∧ askedLate.regF 0 0x1021 1 < askedLate.dict.nextSeq
      ∧ askedLate.regF 0 0x1021 1 < (askedLate.heldEntries.head?.map (fun e => e.seq)).getD 1)
    ∧ askedRun.serviceGate 0 1 0x2054 2 = none ∧ formCheck 0 1 { rq 0x2054 2 [] with length := 64 } = stOk
      ∧ firstFail [askedRun.versionCheck 0 1 0x2054 2, askedRun.rightsCheck 0 0x2054 2 false none] = stOk := by decide
theorem witness_ClearingWritesClear :
    (WritePasses stRun 0 pf (rq 0x2130 7 [1]) ∧ WritePasses stOwner 0 vf1 (rq 0x2130 7 [1])) ∧ (WritePasses stRun 0 pf (rq 0x5410 13 [1]) ∧ clearList 0 0x5410 13 ≠ none)
    ∧ WritePasses stRun 0 pf (rq 0x7000 4 [1]) ∧ WritePasses stRun 0 pf (rq 0x8010 6 [1]) ∧ reqNum (rq 0x2130 7 [1]) = 1 :=
  ⟨⟨of_passes (by decide), of_passes (by decide)⟩, ⟨of_passes (by decide), by decide⟩, of_passes (by decide), of_passes (by decide), by decide⟩
/-- A READY die with its link up. -/
def stLink : State :=
  { withRegs [(0x1100, 1, 2), (0x1100, 3, 2), (0x1100, 4, 128)] stRun with link := { stRun.link with u0 := some 2, u1 := some 2, dlUp := true, waitAt := none } }
theorem witness_RequestWritesStartTheirWork :
    WritePasses stRun 0 pf (rq 0x1111 1 (zeros 16)) ∧ (WritePasses stLink 0 pf (rq 0x1100 8 [1]) ∧ stLink.linkUp = true)
    ∧ WritePasses stTick 0 pf (rq 0x8030 2 [1]) ∧ WritePasses stRun 0 pf (rq 0x5420 1 (zeros 64))
    ∧ WritePasses stRun 0 pf (rq 0x5210 1 [0, 0, 0, 0]) ∧ reqLast (rq 0x1111 1 (zeros 16)) = true ∧ stRun.reg 0x1111 3 = 0xFF :=
  ⟨of_passes (by decide), ⟨of_passes (by decide), by decide⟩, of_passes (by decide), of_passes (by decide), of_passes (by decide),
    by decide, by decide⟩

/-- An image for SCH: its header, a body of one 4 and 63 zeros, and a signature whose two scalars are 1, found by hand. -/
def image2 : List Byte :=
  beBytes 64 0x46494d470200000000000000ffff00004000000000000000d6e497b816c27a31acd5d9f3ed670639fef7842fee51f044dfbfb6319c760a5f00000000b874e5f7
    ++ 4 :: zeros 63 ++ beBytes 32 0x795f707c409c311239235c8328a8dd3614b6d2b66684b4a720d1ba8fcd6ea4ae
    ++ beBytes 32 0x795f707c409c311239235c8328a8dd3614b6d2b66684b4a720d1ba8fcd6ea4ae
/-- A manifest whose first record is the image's key. -/
def manifest1 : List Byte :=
  zeros 64 ++ beBytes 32 0x38afdeb62050622885a50db5701ca400a1a4d9fa12305a8d79c0b468c1c545d3
    ++ beBytes 32 0xc92795500b6217e26f95e32525db97f14e1935f087479c911f98e1fe2371b378
/-- A LOADING die: SEC and PMC run, SCH's image lies in the load area. -/
def stLoad : State :=
  (withRegs [(0x1010, 3, 1), (0x2050, 1, 2), (0x2050, 3, 0), (0x2060, 1, 1), (0x2061, 1, 1)] { stUp with fw := { stUp.fw with images := [(0x10, manifest1)] } }).ddrWrite 0 image2
/-- The state in which the image is checked. -/
def stLoadAsked : State := ((stLoad.at 0).asked 0).setSegment 0 0x2051 1 0 none
/-- A LOADING die with every image loaded. -/
def stLoaded : State := withRegs [(0x2051, 2, 0x1FF)] stLoad
/-- A READY die with an update staged. -/
def stUpdate : State := { stRun with fw := { stRun.fw with update := [(0, [1]), (1, [1]), (2, [1])] } }
theorem image2_passes : (stLoadAsked.loadCheck 2 0).2 = stOk := by
  have h : imSvn (stLoadAsked.ddrRead (stLoadAsked.reg 0x2050 3 + 0) 64) = 65535 := by decide +kernel
  have h2 : stLoadAsked.svnFloor 2 ≤ 65535 := by
    have : kget 0 stLoadAsked.fw.floors 2 = 0 := by decide
    simp only [State.svnFloor, this]
    split <;> omega
  unfold State.loadCheck
  simp only []
  rw [if_neg (by decide +kernel), if_neg (by decide +kernel), if_neg (by decide +kernel), if_neg (by decide +kernel),
    if_neg (by decide +kernel), h, if_neg (by omega)]
set_option maxRecDepth 4000 in
theorem witness_FirmwareWritesActOnImagesAndProcessors :
    (WritePasses stLoad 0 pf (rq 0x2051 1 [2, 0, 0, 0, 0, 0, 0, 0]) ∧ (stLoadAsked.loadCheck 2 0).2 = stOk)
    ∧ (WritePasses stLoaded 0 pf (rq 0x2050 2 [1]) ∧ stLoaded.reg 0x2050 1 = 2 ∧ stLoaded.reg 0x2051 2 / 4 % 128 = 127)
    ∧ (WritePasses stRun 0 pf (rq 0x2053 1 [0, 0, 0, 0, 1, 0, 0, 0]) ∧ stRun.updateCheck 0 1 ≠ stOk)
    ∧ (WritePasses stUpdate 0 pf (rq 0x2053 2 [1]) ∧ ∀ k, k < 3 → (klook stUpdate.fw.update k).isSome = true)
    ∧ WritePasses stRun 0 pf (rq 0x2053 4 [1]) ∧ WritePasses stRun 0 pf (rq 0x2055 5 [1])
    ∧ WritePasses stRun 0 pf (rq 0x2063 6 [1]) ∧ stRun.proc 3 = 1 :=
  ⟨⟨of_passes (by decide), image2_passes⟩, ⟨of_passes (by decide), by decide, by decide⟩, ⟨of_passes (by decide), by decide⟩,
    ⟨of_passes (by decide), by decide⟩, of_passes (by decide), of_passes (by decide), of_passes (by decide), by decide⟩

/-! ### Hypotheses met: the tick -/

/-- The tick with source `src`. -/
def stSrc (src : Nat) : State := withRegs [(0x2000, 1, src)] stTick
/-- A host's edge on its way. -/
def stHostDue : State := { stSrc 2 with tick := { (stSrc 2).tick with hostDue := some 8333436 } }
theorem witness_NominalPeriodFollowsTheRate : (15000 ≤ 15000 ∧ 15000 ≤ 240000) ∧ (14999 < 15000 ∨ 240000 < 14999) := by decide
theorem witness_ShortestTickAndItsLimit : (stSrc 0).reg 0x2000 1 = 0 ∧ ((stSrc 1).reg 0x2000 1 = 1 ∨ (stSrc 1).reg 0x2000 1 = 2)
    ∧ (stSrc 2).reg 0x2000 1 = 2 := by decide
theorem witness_EdgeCountsInTheTickUnit : stTick.tick.lastEdge = some 100 := by decide
theorem witness_SourcesMakeEdges :
    (stTick.live = true ∧ stTick.tickOn = true ∧ stTick.tick.hostDue = none ∧ stTick.reg 0x2000 1 = 0 ∧ stTick.innerDue ≤ max stTick.now 8333433)
    ∧ ((stSrc 1).tickOn = true ∧ true ≠ (stSrc 1).tick.tickIn ∧ (stSrc 1).reg 0x2000 1 = 1 ∧ true = decide ((stSrc 1).reg 0x2000 4 = 0)
      ∧ (stSrc 1).tooEarly 5000 = true ∧ (stSrc 1).tooEarly 8333433 = false)
    ∧ (stHostDue.live = true ∧ stHostDue.tickOn = true ∧ stHostDue.tick.hostDue = some 8333436 ∧ 8333436 ≤ max stHostDue.now 8333436)
    ∧ (((stSrc 2).at 8333433).serve 0 2 (reqFor (rq 0x2000 5 [1]) 0x2000 5)).tick.hostDue = some 8333436
    ∧ (((stSrc 2).at 8333433).tickOn = true ∧ (stSrc 2).reg 0x2000 1 = 2 ∧ (stSrc 2).tick.hostDue = none
      ∧ ((stSrc 2).at 8333433).tooEarly (8333433 + 3) = false)
    ∧ ((stSrc 1).tick.lastEdge = some 100 ∧ (stSrc 1).reg 0x2000 1 ≠ 0 ∧ (stSrc 1).tick.hostDue = none ∧ 100 + (stSrc 1).pNom * 101 / 100 ≤ max (stSrc 1).now 9000000) := by
  decide
/-- Three flywheel edges in a run. -/
def stRun3 : State := { stTick with tick := { stTick.tick with run := 3 } }
/-- FSYNC of port 2 enabled at once for 1,000 cycles, and up. -/
def stFsync : State := withRegs [(0x2012, 4, 1), (0x2012, 2, 1000)] stTick
def stFsyncUp : State := stFsync.setPort 2 { port0 with fsync := true, fsyncAt := 100, fsyncUp := true }
theorem witness_TickUnitActsWithinTheTick :
    (3 ≤ stRun3.tick.run ∧ stRun3.tick.lost = false)
    ∧ (stTick.tick.lastEdge = some 100 ∧ stTick.tick.guard = false ∧ stTick.limitL ≤ (stTick.at 8300000).sinceEdge)
    ∧ (stFsync.reg 0x2012 4 = 1 ∧ (stFsync.port 2).fsyncUp = false ∧ stFsync.reg 0x2012 1 ≤ max stFsync.now 100 - 100)
    ∧ ((stFsyncUp.port 2).fsyncUp = true ∧ (stFsyncUp.port 2).fsyncAt + stFsyncUp.reg 0x2012 2 ≤ max stFsyncUp.now 1100) := by decide

/-! ### Hypotheses met: dispatch -/

/-- The entry of node 4 of partition 0 on a resource, in a stage. -/
def task4 (res stage : Nat) : Task :=
  { task0 with id := 7, num := 4, stage := stage, edge := 100, node := { node0 with kind := 1, phase := 1, res := res, queue := 3 } }
/-- The tick running with that entry, its queue bound. -/
def stTask (k : Task) : State :=
  { stTick with tasks := [k], now := 200, dict := (withRegs [(0x3110, 1, 100 * 2 ^ 32), (0x3120, 1, 4)] stTick).dict,
                queues := [(3, { queue0 with bind := some { queue := 3, res := k.node.res, prio := 0, hostFed := false, outstanding := 2,
                                                            log2Depth := 3, budgetNode := 0, budgetCycles := 0, sqAddr := 0, cqAddr := 0 } })] }
theorem witness_WaitingEntriesBecomeEligible :
    ((stTask (task4 2 0)).tasks.filter (fun x => decide (x.part = 0) && decide (x.num = 4) && decide (x.stage = 0) && x.maint.isNone && x.ring.isNone
        && decide (x.redo = 0)) = [task4 2 0] ∧ ((stTask (task4 2 0)).at 0).task? 7 = some (task4 2 0)
      ∧ ((stTask (task4 2 0)).at 0).eligible (task4 2 0) = true)
    ∧ ((stTask (task4 0x20 0)).tasks.filter (fun x => decide (x.part = 0) && decide (x.node.res = 0x20) && decide (x.stage = 0)) = [task4 0x20 0]
      ∧ ((stTask (task4 0x20 0)).at 0).eligible (task4 0x20 0) = true)
    ∧ ((stTask (task4 0x20 0)).window 0 0 = some (0, 100) ∧ (stTask (task4 0x20 0)).tick.lastEdge = some 100
      ∧ 100 ≤ max (stTask (task4 0x20 0)).now 200 - 100 ∧ 0 ∉ (stTask (task4 0x20 0)).winDone) := by decide
/-- Engine 1 runs entry 6, and holds entry `n` too. -/
def stEngBusy (n : Option Nat) : State := { stTask (task4 0x21 1) with engines := [(1, { eng0 with task := some 6, next := n })] }
/-- Every channel of DMA0 is halted. -/
def stHalted : State := { stTask (task4 0x30 1) with chans := (List.range 32).map (fun c => (c, { chan0 with halted := true })) }
/-- Core 2 within budget node 7. -/
def stBudget : State := { stTask (task4 2 2) with cores := [(2, { core0 with budget := some 7 })] }
theorem witness_ResourcesTakeTheFirstReadyEntry :
    ((withRegs [(0x5002, 1, 2)] stRun).at 0).resRetired 2 = true
    ∧ (((stTask (task4 2 1)).at 0).resRetired 2 = false ∧ ((stTask (task4 2 1)).core 2).task = none ∧ ((stTask (task4 2 1)).core 2).budget = none
      ∧ ((stTask (task4 2 1)).core 2).paused = none
      ∧ firstTask ((((stTask (task4 2 1)).at 0).readyList 2).filter (fun x => !(x.selfTest && ((stTask (task4 2 1)).at 0).away (3 + 2 / 8))))
          = some (task4 2 1)
      ∧ ((stTask (task4 2 1)).at 0).isBudget (task4 2 1) = false)
    ∧ (((stTask (task4 0x21 1)).at 0).resRetired 0x21 = false ∧ isEngine 0x21 = true
      ∧ firstTask (((stTask (task4 0x21 1)).at 0).readyList 0x21) = some (task4 0x21 1) ∧ ((stTask (task4 0x21 1)).eng 1).task = none
      ∧ firstTask (((stEngBusy none).at 0).readyList 0x21) = some (task4 0x21 1)
      ∧ ((stEngBusy none).eng 1).task ≠ none ∧ ((stEngBusy none).eng 1).next = none
      ∧ firstTask (((stEngBusy (some 8)).at 0).readyList 0x21) = some (task4 0x21 1) ∧ ((stEngBusy (some 8)).eng 1).next ≠ none)
    ∧ (stBudget.live = true ∧ (stBudget.at 0).resRetired 2 = false ∧ (stBudget.core 2).task = none ∧ (stBudget.core 2).budget = some 7
      ∧ (stBudget.at 0).task? 7 = some (task4 2 2))
    ∧ (isDma 0x30 = true ∧ firstTask ((((stTask (task4 0x30 1)).at 0).readyList 0x30).filter (fun x => x.maint.isNone
        || decide ((stTask (task4 0x30 1)).reg 0x2071 11 = 0))) = some (task4 0x30 1)
      ∧ (task4 0x30 1).owner.isNone = false ∧ ((stTask (task4 0x30 1)).at 0).freeChan 0 0 false = some 0
      ∧ firstTask (((stHalted.at 0).readyList 0x30).filter (fun x => x.maint.isNone || decide (stHalted.reg 0x2071 11 = 0)))
          = some (task4 0x30 1) ∧ (stHalted.at 0).freeChan 0 0 false = none)
    ∧ (isI3c 0x41 = true ∧ firstTask (((stTask (task4 0x41 1)).at 0).readyList 0x41) = some (task4 0x41 1)
      ∧ ((stTask (task4 0x41 1)).i3c 1).task = none)
    ∧ (stTick.live = true ∧ (stTick.at 0).readyList 0x21 = []) := by decide
/-- The ring of queue 3. -/
def ring3 : Ring :=
  { bind := { queue := 3, res := 2, prio := 0, hostFed := false, outstanding := 2, log2Depth := 3, budgetNode := 0, budgetCycles := 0, sqAddr := 0,
              cqAddr := 0 }, part := 0, cqHead := 0, cqTail := 0 }
theorem witness_EndedEntriesAreRecorded :
    (stTick.at 0).dueTask 3 = none ∧ ((stTask (task4 2 3)).live = true ∧ ((stTask (task4 2 3)).at 0).dueTask 3 = some (task4 2 3)
      ∧ (task4 2 3).redo ≠ 1 ∧ ((stTask (task4 2 3)).queue 3).ringFor (task4 2 3).old = some ring3) := by decide

/-! ### Hypotheses met: tensor cores and scratchpads -/

/-- Sixteen words of a descriptor, those given at their places and 0 elsewhere. -/
def words (l : List (Nat × Nat)) : List Byte := (List.range 16).flatMap (fun i => leBytes 4 (kget 0 l i))
/-- Core 2 runs that entry in state `x`. -/
def stCore (x : CoreSt) : State := { stTask (task4 2 2) with cores := [(2, { x with task := some 7 })] }
/-- A VECTOR over one element. -/
def tod2 : List Byte := words [(0, 0x102), (4, 1)]
/-- A LAYOUT_MOVE from another core, through a handle that is not bound. -/
def tod11 : List Byte := words [(0, 0x111), (4, 0x70)]
/-- The same, not the LAST of its program. -/
def tod2n : List Byte := words [(0, 2), (4, 1)]
/-- The same with an output, whose handle is not bound. -/
def tod3 : List Byte := words [(0, 0x102), (1, 0x1000000), (4, 1)]
/-- A KNOWN_ANSWER. -/
def tod30 : List Byte := words [(0, 0x130)]
/-- A FLAG_WAIT for flag 5 with a copy of 8 bytes. -/
def tod20 : List Byte := words [(0, 0x120), (4, 0x40000005), (5, 0), (6, 1)]
/-- That core with a poisoned block at the program's first TOD. -/
def stPoison : State := { stCore core0 with faults := { stTick.faults with poisoned := [(0, true)] } }
/-- That core with its program's page withdrawn. -/
def stFetchGone : State := { stCore core0 with faults := { stTick.faults with withdrawn := [(0, true)] } }
/-- The program fetched whole, and the queue's next entry waiting. -/
def coreNext : CoreSt := { core0 with fetch := [{ bytes := words [(0, 0x10102)], status := 0 }], next := some 8 }
def stNext : State := { stCore coreNext with tasks := [task4 2 2, { task4 2 1 with id := 8 }] }
theorem witness_SequencerFetches :
    (((stCore core0).at 0).coreTask 2 = some (task4 2 2) ∧ ((stCore core0).core 2).fetchedAll = false
      ∧ fetchOpen ((stCore core0).core 2).fetch = true)
    ∧ (stPoison.live = true ∧ (stPoison.at 0).coreTask 2 = some (task4 2 2) ∧ (stPoison.core 2).fetchedAll = false
      ∧ fetchOpen (stPoison.core 2).fetch = true ∧ stPoison.spanRetired ((task4 2 2).prog + 64 * 0) 64 = false
      ∧ stPoison.spanPoisoned ((task4 2 2).prog + 64 * 0) 64 = true)
    ∧ stFetchGone.spanRetired ((task4 2 2).prog + 64 * 0) 64 = true
    ∧ ((stCore core0).spanRetired 0 64 = false ∧ (stCore core0).spanPoisoned 0 64 = false ∧ crc32 (slice ((stCore core0).ddrRead 0 64) 0 60) ≠ wordAt ((stCore core0).ddrRead 0 64) 15)
    ∧ ((({ core0 with fetch := List.replicate 8 { bytes := tod2n, status := 0 } } : CoreSt).fetchedAll = false
      ∧ fetchOpen (List.replicate 8 ({ bytes := tod2n, status := 0 } : TodQ)) = false))
    ∧ (stNext.live = true ∧ (stNext.at 0).coreTask 2 = some (task4 2 2) ∧ (stNext.core 2).fetchedAll = true ∧ (stNext.queue 3).bind.isSome = true
      ∧ ((stNext.queue 3).bind.map Binding.outstanding) = some 2 ∧ (stNext.core 2).next = some 8
      ∧ (stNext.at 0).task? 8 = some { task4 2 1 with id := 8 } ∧ fetchOpen (stNext.core 2).nfetch = true) := by
  and_intros <;> decide +kernel
/-- That TOD at the head of the queue, with the status of its checks. -/
def coreHead (b : List Byte) (st : Nat) : CoreSt := { core0 with fetch := [{ bytes := b, status := st }] }
/-- A self-test slot whose cycles are over. -/
def taskSlot : Task := { task4 2 2 with node := { (task4 2 2).node with kind := 12 } }
def stSlot : State := { stCore (coreHead tod2 0) with tasks := [taskSlot] }
theorem witness_HeadTodStartsOrIsRefused :
    (((stCore (coreHead tod2 0)).at 0).coreTask 2 = some (task4 2 2) ∧ core0.run = none ∧ core0.stop = 0
      ∧ ((stCore (coreHead tod2 0)).core 2).fetch = { bytes := tod2, status := 0 } :: []
      ∧ ((stCore (coreHead tod2 0)).at 0).startCheck 2 0 tod2 = 0
      ∧ (task4 2 2).selfTest = false ∧ (task4 2 2).ring = none)
    ∧ ((stCore (coreHead tod2 6)).core 2).fetch = { bytes := tod2, status := 6 } :: []
    ∧ ((stCore (coreHead tod3 0)).at 0).startCheck 2 0 tod3 ≠ 0
    ∧ ((stSlot.at 0).coreTask 2 = some taskSlot
      ∧ (stSlot.at 0).startCheck 2 0 tod2 = 0 ∧ taskSlot.selfTest = true
      ∧ slotLimit taskSlot < max stSlot.now 0 + todCycles tod2 0 0 false)
    ∧ (((stCore { core0 with stop := 1 }).at 0).coreTask 2 = some (task4 2 2) ∧ ((stCore { core0 with stop := 1 }).core 2).stop ≠ 0
      ∧ ((stCore core0).core 2).fetch = [])
    ∧ ((stCore { core0 with run := some tod2 }).core 2).run ≠ none := by and_intros <;> decide +kernel
/-- Core 2 runs `b`. -/
def stTodRun (b : List Byte) (wait : Nat) : State := stCore { core0 with run := some b, wait := wait }
/-- The row-valid bits of its scratchpad are cleared until cycle 900. -/
def stTodClear (b : List Byte) : State := (stTodRun b 2).setPad 2 { pad0 with clearAt := some 900 }
/-- Handle 0 of that scratchpad is bound to row 0, which is withdrawn. -/
def stTodGone (b : List Byte) (wait : Nat) : State :=
  ((stTodRun b wait).setPad 2 { pad0 with handles := [(0, { handle0 with bound := true, count := 4 })] }).setBlob 0x8102 7 (List.replicate 16 255)
/-- What lies before a TOD's completion, its ports' cycles run. -/
def ranPads (s : State) (b : List Byte) : State := (todReach b 2).foldl State.padRun (s.at 0)
theorem witness_TodCompletesWithItsOutputs :
    ((stTodClear tod2).live = true ∧ ((stTodClear tod2).core 2).run = some tod2
      ∧ (todReach tod2 2).find? ((stTodClear tod2).at 0).padClearing = some 2)
    ∧ (((stTodRun tod2 0).core 2).run = some tod2 ∧ (todReach tod2 2).find? ((stTodRun tod2 0).at 0).padClearing = none
      ∧ ((ranPads (stTodRun tod2 0) tod2).core 2).run = some tod2 ∧ (ranPads (stTodRun tod2 0) tod2).coreTask 2 = some (task4 2 2)
      ∧ todType tod2 ≠ 0x20 ∧ todType tod2 ≠ 0x30 ∧ ((ranPads (stTodRun tod2 0) tod2).remoteCheck 2 0 tod2).2 = 0
      ∧ ((((ranPads (stTodRun tod2 0) tod2).remoteCheck 2 0 tod2).1.todWork 2 tod2).spans.any (fun e =>
          ((ranPads (stTodRun tod2 0) tod2).remoteCheck 2 0 tod2).1.spanWithdrawn (todCore tod2 2 e.1) (todHandle tod2 e.1) e.2.1 e.2.2)) = false)
    ∧ ((ranPads (stTodGone tod2 0) tod2).coreTask 2 = some (task4 2 2) ∧ ((ranPads (stTodGone tod2 0) tod2).remoteCheck 2 0 tod2).2 = 0
      ∧ ((((ranPads (stTodGone tod2 0) tod2).remoteCheck 2 0 tod2).1.todWork 2 tod2).spans.any (fun e =>
          ((ranPads (stTodGone tod2 0) tod2).remoteCheck 2 0 tod2).1.spanWithdrawn (todCore tod2 2 e.1) (todHandle tod2 e.1) e.2.1 e.2.2)) = true)
    ∧ ((todReach tod11 2).find? ((stTodRun tod11 0).at 0).padClearing = none ∧ ((ranPads (stTodRun tod11 0) tod11).core 2).run = some tod11
      ∧ (ranPads (stTodRun tod11 0) tod11).coreTask 2 = some (task4 2 2) ∧ todType tod11 ≠ 0x20 ∧ todType tod11 ≠ 0x30
      ∧ ((ranPads (stTodRun tod11 0) tod11).remoteCheck 2 0 tod11).2 ≠ 0)
    ∧ (todType tod20 = 0x20 ∧ (ranPads (stTodRun tod20 1) tod20).coreTask 2 = some (task4 2 2)
      ∧ ((ranPads (stTodRun tod20 1) tod20).core 2).wait = 1 ∧ ((ranPads (stTodRun tod20 3) tod20).core 2).wait = 3)
    ∧ (todType tod30 = 0x30 ∧ (ranPads (stTodRun tod30 0) tod30).coreTask 2 = some (task4 2 2)
      ∧ (todReach tod30 2).find? ((stTodRun tod30 0).at 0).padClearing = none)
    ∧ ((stTodRun tod2 0).coreTask 2 = some (task4 2 2) ∧ ((stTodRun tod2 0).core 2).stop = 0 ∧ todLast tod2n = false ∧ todLast tod2 = true) := by and_intros <;> decide +kernel
/-- A host task of 50 cycles on core 2. -/
def taskHost : Task := { task4 2 2 with ring := some 0, started := true, startAt := 100, maxCyc := 50 }
def stHost (x : CoreSt) : State := { stCore x with tasks := [taskHost] }
theorem witness_HostTaskStopsAtItsLimit :
    (((stHost core0).at 0).coreTask 2 = some taskHost ∧ taskHost.ring.isSome = true ∧ taskHost.started = true)
    ∧ (taskHost.startAt + taskHost.maxCyc ≤ max (stHost core0).now 0 ∧ ((stHost core0).core 2).run = none)
    ∧ ((stHost { core0 with run := some tod2 }).core 2).run ≠ none
    ∧ max ({ stHost core0 with now := 120 } : State).now 0 < taskHost.startAt + taskHost.maxCyc := by and_intros <;> decide +kernel
/-- Core 2 in that FLAG_WAIT, the flag holding `f`. -/
def stWait (w f : Nat) : State := { stTodRun tod20 w with fscratch := ((stCore core0).scrWrite (flagAddr 5) (leBytes 8 f)).fscratch }
theorem witness_FlagWaitsEnd :
    (((stWait 1 (2 ^ 58)).at 0).coreTask 2 = some (task4 2 2) ∧ ((stWait 1 (2 ^ 58)).core 2).run = some tod20 ∧ ((stWait 1 (2 ^ 58)).core 2).wait = 1
      ∧ leNat (((stWait 1 (2 ^ 58)).at 0).scrRead (flagAddr (df tod20 4 11 0)) 8) = 2 ^ 58 ∧ 2 ^ 58 % 2 ^ 44 = flagTick (task4 2 2) tod20
      ∧ (2 ^ 58).testBit 58 = true ∧ (2 ^ 58).testBit 59 = false)
    ∧ (leNat (((stWait 1 (2 ^ 58 + 2 ^ 59)).at 0).scrRead (flagAddr (df tod20 4 11 0)) 8) = 2 ^ 58 + 2 ^ 59
      ∧ (2 ^ 58 + 2 ^ 59) % 2 ^ 44 = flagTick (task4 2 2) tod20 ∧ (2 ^ 58 + 2 ^ 59).testBit 58 = true ∧ (2 ^ 58 + 2 ^ 59).testBit 59 = true)
    ∧ (leNat (((stWait 1 0).at 0).scrRead (flagAddr (df tod20 4 11 0)) 8) = 0 ∧ Nat.testBit 0 58 = false ∧ df tod20 4 29 16 = 0)
    ∧ ((task4 2 2).tick + 2 ≤ (withRegs [(0x2001, 1, 2)] (stWait 1 0)).tickCount ∧ (stWait 1 0).tickCount < (task4 2 2).tick + 2)
    ∧ (((stTodClear tod20).core 2).run = some tod20 ∧ (todReach tod20 2).find? ((stTodClear tod20).at 0).padClearing = some 2)
    ∧ ((todReach tod20 2).find? ((stWait 2 0).at 0).padClearing = none ∧ ((ranPads (stWait 2 0) tod20).core 2).run = some tod20
      ∧ (ranPads (stWait 2 0) tod20).coreTask 2 = some (task4 2 2) ∧ ((ranPads (stWait 2 0) tod20).core 2).wait = 2
      ∧ (ranPads (stWait 2 0) tod20).scrOwned 0 (df tod20 5 22 0) (8 * df tod20 6 23 0) = true
      ∧ (ranPads (stWait 2 0) tod20).spanWithdrawn 2 (todHandle tod20 0) (8 * df tod20 7 19 0) (8 * df tod20 6 23 0) = false)
    ∧ ((ranPads (stTodGone tod20 2) tod20).scrOwned 0 (df tod20 5 22 0) (8 * df tod20 6 23 0) = true
      ∧ (ranPads (stTodGone tod20 2) tod20).spanWithdrawn 2 (todHandle tod20 0) (8 * df tod20 7 19 0) (8 * df tod20 6 23 0) = true)
    ∧ (ranPads (withRegs [(0x3100, 9, 0)] (stWait 2 0)) tod20).scrOwned 0 (df tod20 5 22 0) (8 * df tod20 6 23 0) = false := by
  and_intros <;> decide +kernel
/-- Core 2 in partition 0; handle 1 of its scratchpad is bound to rows 4 to 7. -/
def stPad : State :=
  (withRegs [(0x3100, 2, 4)] stTick).setPad 2 { pad0 with handles := [(1, { handle0 with bound := true, base := 4, count := 4, gen := 3 })] }
/-- The same while its row-valid bits are cleared until cycle 900. -/
def stClear : State := stPad.setPad 2 { pad0 with clearAt := some 900 }
theorem witness_ScratchpadsServeTheirPortsAndNarrowAccesses :
    (stClear.at 0).padClearing 2 = true ∧ (stPad.at 0).padClearing 2 = false
    ∧ ((stPad.pad 2).pend = [] ∧ portAllows 0 (.wideRead 1) = true ∧ handleCheck ((stPad.pad 2).handle 1) 3 = stOk
      ∧ 1 < ((stPad.pad 2).handle 1).count ∧ (stPad.at 0).rowWithdrawn 2 (((stPad.pad 2).handle 1).base + 1) = false)
    ∧ ((stClear.pad 2).clearAt = some 900 ∧ 900 ≤ max stClear.now 900)
    ∧ ((hasNarrowPath 0x50 = true ∧ privileged 0x50 = true) ∧ (hasNarrowPath 0x71 = true ∧ stPad.corePart 2 = some 0 ∧ stPad.tagOf 0x71 5 = some 0))
    ∧ (hasNarrowPath 0x72 = true ∧ privileged 0x72 = false ∧ stPad.corePart 2 ≠ stPad.tagOf 0x72 0) ∧ hasNarrowPath 0x2F = false ∧ 100 < 327680 := by
  decide

/-! ### Hypotheses met: DMA -/

/-- COPY of 64 bytes from address 0 to `dst`: the first descriptor of a chain, and the last, with their check words. -/
def dmaA : List Byte := words [(0, 1), (1, 3), (4, 64), (6, 1), (7, 3), (8, 4096), (10, 64), (12, 1), (15, 0xce9897f6)]
def dmaB : List Byte := words [(0, 0x10101), (1, 3), (4, 64), (6, 1), (7, 3), (8, 4096), (10, 64), (12, 1), (15, 0xed139d94)]
/-- That descriptor in a channel, with `r` bytes requested and returned and `w` requested to be written. -/
def descA (r w : Nat) : Desc :=
  { newDesc 0 dmaA with rPos := r, rGot := r, wPos := w, buf := (List.range r).map (fun i => (i, 1)) }
/-- A request of it. -/
def reqA (write : Bool) : DmaReq :=
  { newReq 0 write 0 64 (if write then 4096 else 0) 200 with data := if write then List.replicate 64 (some 0) else [] }
/-- Channel 0 of unit 0 runs that node's chain, which lies at 0x20000, in state `x`; `n` granules belong to partition 0. -/
def stChan (n : Nat) (x : Chan) : State :=
  (withRegs [(0x1002, 7, 2 ^ 30), (0x3100, 6, 0), (0x3100, 7, n)]
    { stTask (task4 0x30 2) with chans := [(0, { x with task := some 7, descAt := 0x20000 })] }).ddrWrite 0x20000 (dmaA ++ dmaB)
/-- A copy between two places of one scratchpad, both its requests made, its row-valid bits cleared until cycle `e`. -/
def dmaP : List Byte := words [(0, 0x101), (1, 1), (4, 64), (6, 1), (7, 1), (8, 4096), (10, 64), (12, 1)]
def stChanP (e : Nat) : State :=
  (stChan 4 { chan0 with live := [{ descA 64 64 with bytes := dmaP }], reqs := [reqA false, reqA true] }).setPad 0 { pad0 with clearAt := some e }
/-- The read of that descriptor, and its write, in flight. -/
def chanR (r : DmaReq) : Chan := { chan0 with live := [descA 0 0], reqs := [r] }
def chanW : Chan := { chan0 with live := [descA 64 64], reqs := [reqA true] }
theorem witness_DmaChannelsLoadIssueAndLand :
    (((stChan 4 chan0).live = true ∧ ((stChan 4 chan0).at 0).chanTask 0 0 = some (task4 0x30 2) ∧ (task4 0x30 2).node.kind ≠ 9
        ∧ ((stChan 4 chan0).chan 0 0).shadow = none ∧ (task4 0x30 2).stop = false ∧ ((stChan 4 chan0).chan 0 0).chainOpen = true
        ∧ (stChan 4 chan0).ddrRead (0x20000 + 64 * 0) 64 = dmaA ∧ ((stChan 4 chan0).at 0).spanPoisoned 0x20000 64 = false
        ∧ ((stChan 4 chan0).at 0).dmaCheck 0 dmaA 0 false = stOk
        ∧ ({ chan0 with shadow := some (newDesc 0 dmaA), seq := 1 } : Chan).shadowReady = true ∧ chan0.live = [])
      ∧ (((stChan 4 { chan0 with seq := 1, live := [descA 64 0] }).at 0).chanTask 0 0 = some (task4 0x30 2)
        ∧ ({ chan0 with seq := 1, live := [descA 64 0] } : Chan).chainOpen = true
        ∧ (stChan 4 { chan0 with seq := 1, live := [descA 64 0] }).ddrRead (0x20000 + 64 * 1) 64 = dmaB
        ∧ ((stChan 4 { chan0 with seq := 1, live := [descA 64 0] }).at 0).dmaCheck 0 dmaB 1 false = stOk)
      ∧ ({ chan0 with shadow := some (newDesc 1 dmaB) } : Chan).shadow.isSome = true
      ∧ ({ chan0 with shadow := some (newDesc 1 dmaB), live := [descA 64 0] } : Chan).shadowReady = true
      ∧ ({ chan0 with shadow := some (newDesc 1 dmaB), live := [descA 64 0] } : Chan).live.getLast? = some (descA 64 0)
      ∧ dFence dmaB = false ∧ (descA 64 0).readsOut = true)
    ∧ (((stChan 4 { chan0 with live := [descA 64 0] }).at 0).slotPick 0 = some (true, 0)
      ∧ ((stChan 4 { chan0 with live := [descA 0 0] }).at 0).slotPick 0 = some (false, 0)
      ∧ ((stChan 4 chan0).at 0).slotPick 0 = none ∧ ((stChan 4 chan0).dma 0).slotAt ≠ some (max (stChan 4 chan0).now 0)
      ∧ (((stChan 4 chan0).setDma 0 { dma0 with slotAt := some 200 }).dma 0).slotAt = some (max (stChan 4 chan0).now 0))
    ∧ (((stChanP 900).at 0).padClearing 0 = true ∧ ((stChanP 900).at 0).dmaPad 0 0 false = some 0 ∧ ((stChanP 900).at 0).dmaPad 0 0 true = some 0
      ∧ ((stChanP 100).at 0).dmaPad 0 0 false = some 0 ∧ ((stChanP 100).at 0).padClearing 0 = false
      ∧ (((stChanP 100).at 0).padRun 0).chanTask 0 0 = some (task4 0x30 2)
      ∧ ((((stChanP 100).at 0).padRun 0).chan 0 0).oldest (fun q => !q.write) = some (reqA false)
      ∧ ((((stChanP 100).at 0).padRun 0).chan 0 0).oldest (fun q => q.write) = some (reqA true))
    ∧ (((stChan 4 (chanR (reqA false))).at 0).dmaPad 0 0 false = none ∧ (chanR (reqA false)).oldest (fun q => !q.write) = some (reqA false)
      ∧ (chanR (reqA false)).descOf (reqA false) = some (descA 0 0)
      ∧ ((stChan 4 chan0).at 0).answers (task4 0x30 2) (reqSide (descA 0 0) (reqA false)) (reqA false) = true
      ∧ (withRegs [(0x1002, 7, 0)] (stChan 4 chan0)).answers (task4 0x30 2) (reqSide (descA 0 0) (reqA false)) (reqA false) = false
      ∧ ((stChan 4 chan0).at 0).dmaTarget (task4 0x30 2) false (reqSide (descA 0 0) (reqA false)) 0 64 = stOk
      ∧ ((stChan 0 chan0).at 0).dmaTarget (task4 0x30 2) false (reqSide (descA 0 0) (reqA false)) 0 64 ≠ stOk
      ∧ (reqSide (descA 0 0) (reqA false)).kind = 3
      ∧ ((stChan 4 chan0).at 0).spanPoisoned 0 64 = false ∧ ({ stChan 4 chan0 with faults := stPoison.faults } : State).spanPoisoned 0 64 = true
      ∧ (chanR { reqA false with index := true }).oldest (fun q => !q.write) = some { reqA false with index := true })
    ∧ (((stChan 4 chanW).at 0).dmaPad 0 0 true = none ∧ chanW.oldest (fun q => q.write) = some (reqA true)
      ∧ chanW.descOf (reqA true) = some (descA 64 64)
      ∧ ((stChan 4 chan0).at 0).answers (task4 0x30 2) (dstSide dmaA) (reqA true) = true
      ∧ (withRegs [(0x1002, 7, 0)] (stChan 4 chan0)).answers (task4 0x30 2) (dstSide dmaA) (reqA true) = false
      ∧ ((stChan 4 chan0).at 0).dmaTarget (task4 0x30 2) true (dstSide dmaA) 4096 64 = stOk
      ∧ ((stChan 0 chan0).at 0).dmaTarget (task4 0x30 2) true (dstSide dmaA) 4096 64 = stAccessDenied) := by
  and_intros <;> decide +kernel

/-- A plan of partition 0 whose re-shard node 4 has one entry, and whose first core is marked for a self-test. -/
def planA : Plan :=
  { part := 0, length := 0, maxRate := 60000, workCores := 0, spare := 0, inlineStream := 0, inlineEn := false, planId := 1, digest := [],
    nodes := [], slots := [], bufs := [], phases := [], ports := [], bindings := [],
    sections := [(7, words [(0, 1), (4, 0x10004), (5, 64)] ++ words [])], memBytes := 0, moved := [] }
/-- A read of host memory. -/
def dmaH : List Byte := words [(0, 0x101), (1, 5), (4, 64), (6, 1), (7, 3), (8, 4096), (10, 64), (12, 1)]
def descH : Desc := { descA 0 0 with bytes := dmaH, rPos := 64 }
/-- A maintenance request and the task that waits for its channel. -/
def taskM : Task := { task4 0x30 2 with maint := some 0 }
def stMaint : State :=
  { stChan 4 chan0 with
    tasks := [taskM, { task4 0x30 1 with id := 8, eligAt := 100 }], chans := (List.range 32).map (fun c => (c, { chan0 with task := some 7 })) }
def stSaved : State := { stChan 4 chan0 with chans := [], tasks := [taskM], dmas := [(0, { dma0 with saved := [{ chan0 with task := some 7 }] })] }
/-- The re-shard node runs in channel 0 of unit 0. -/
def task9 : Task := { task4 0x30 2 with node := { (task4 0x30 2).node with kind := 9 } }
def stReshard : State := { stChan 4 chan0 with tasks := [task9], plans := [(0, { plan0 with cur := some planA })] }
/-- An engine's descriptor that has had no response. -/
def run0 : FacetRun := newRun (words []) 200 (task4 0x21 2).tick false
def stSide : State := { stTask (task4 0x21 2) with engines := [(1, { eng0 with task := some 7, run := some run0 })] }
/-- A channel whose read of host memory is in flight. -/
def chanH : Chan := { chan0 with live := [descH], reqs := [reqA false] }
/-- A read whose retry is due. -/
def reqRetry : DmaReq := { reqA false with retryAt := some 100 }
/-- The same re-shard node with a retry pending; with its entry bound to stream 0; with the destination's row-valid bits cleared. -/
def stReshardRetry : State := stReshard.setChan 0 0 { chan0 with task := some 7, descAt := 0x20000, reqs := [{ reqA false with retryAt := some 900 }] }
def planB : Plan := { planA with sections := [(7, words [(0, 1), (4, 0x10004), (5, 64)] ++ words [(1, 0x400000)])] }
def stReshardBound : State := { stReshard with plans := [(0, { plan0 with cur := some planB })] }
def stReshardClear : State := stReshard.setPad 0 { pad0 with clearAt := some 900 }
/-- Its channel, and its entries. -/
def reshardOf (s : State) : Option (Task × OwnerEntry × Nat) := (s.at 0).reshardAt 0 0
theorem witness_BusErrorsMaintenanceAndReshard :
    ((reqA false).tries < stRun.reg 0x5400 6 ∧ stRun.reg 0x5400 6 ≤ { reqA false with tries := 100 }.tries
      ∧ ((stChan 4 chan0).chanTask 0 0).isSome = true)
    ∧ (((stChan 4 chan0).at 0).chanTask 0 0 = some (task4 0x30 2) ∧ (stLink.at 0).chanTask 0 0 = none
        ∧ chanH.failing (fun y r => (stLink.at 0).causeFits (task4 0x30 2) y r 2) = some (reqA false, reqSide descH (reqA false))
        ∧ chan0.failing (fun y r => (stLink.at 0).causeFits (task4 0x30 2) y r 2) = none)
    ∧ (0 ∈ planChans 0 ∧ ((stChan 4 chanH).at 0).reshardAt 0 0 = none ∧ chanH.failing ((stLink.at 200000).timedOut) = some (reqA false, reqSide descH (reqA false))
      ∧ chanH.failing ((stLink.at 0).timedOut) = none)
    ∧ ((reshardOf stReshard).isSome = true ∧ (stReshard.chan 0 0).reqs = [] ∧ (stReshard.chan 0 0).entryAt + 131072 ≤ max stReshard.now 200000
      ∧ max stReshard.now 0 < (stReshard.chan 0 0).entryAt + 131072)
    ∧ (1 ∉ planChans 4 ∧ (stSide.at 0).sideWork 4 1 = some (65536 * 7, 200) ∧ (stSide.chan 4 1).reqs = []
      ∧ 200 + 131072 ≤ max stSide.now 200000 ∧ max stSide.now 0 < 200 + 131072)
    ∧ (([{ reqA false with retryAt := some 456 }] : List DmaReq).find? (fun q => match q.retryAt with
        | some a => decide (a ≤ max stRun.now 456)
        | none => false) = some { reqA false with retryAt := some 456 }
      ∧ ([{ reqA false with retryAt := some 456 }] : List DmaReq).all (fun q => (q.retryAt.map (fun a => decide (max stRun.now 0 < a))).getD true) = true
      ∧ ((stChan 4 (chanR reqRetry)).at 200).retryDue 0 0 = some reqRetry ∧ ((stChan 4 (chanR reqRetry)).at 200).mayReissue 0 0 reqRetry = true
      ∧ (({ stChan 4 (chanR reqRetry) with dmas := [(0, { dma0 with slotAt := some 200 })] } : State).dma 0).slotAt = some (max 200 200)
      ∧ ((stChan 4 (chanR { reqRetry with write := true })).at 200).netSlot 0 none ≠ some (true, 1))
    ∧ ((stMaint.at 0).maintChan 0 5 = true ∧ (stMaint.at 0).yieldFor 0 5 = true ∧ (stMaint.at 0).maintChan 1 5 = false)
    ∧ ((stSaved.dma 0).saved = { chan0 with task := some 7 } :: [] ∧ (stSaved.chan 0 5).task = none ∧ (stSaved.chan 0 5).halted = false
      ∧ 5 ∈ planChans 0 ∧ (stSaved.at 0).dmaWaiting 0 = false ∧ ({ taskM with maint := some 1 } : Task).owner = some 0
      ∧ ((withRegs [(0x3120, 1, 0)] stSaved).at 0).freeChan 0 0 false = none ∧ (stSaved.at 0).freeChan 0 0 false = some 0)
    ∧ ((reshardOf stReshardRetry).isSome = true ∧ (stReshardRetry.chan 0 0).reqs.any (fun r => r.retryAt.isSome) = true)
    ∧ ((reshardOf stReshardBound).map (fun x => x.2.1.bound) = some true ∧ (stReshardBound.at 0).frameFor 0 0 = none
      ∧ (reshardOf stReshardBound).map (fun x => x.2.1.stream) = some 0)
    ∧ ((reshardOf stReshardClear).map (fun x => (x.2.1.bound, x.2.1.srcKind, x.2.1.srcCore, x.2.1.dstCore)) = some (false, 0, 0, 0)
      ∧ [0, 0].find? (stReshardClear.at 0).padClearing = some 0 ∧ [0, 0].find? (stReshard.at 0).padClearing = none) := by
  and_intros <;> decide +kernel

/-! ### Hypotheses met: Facet engines -/

/-- PYRAMID of a 4 by 4 image, one level, flag 5 at every row. -/
def pyr : List Byte :=
  words [(0, 0x301), (1, 0x1005), (2, 0x14303), (5, 0x40004), (6, 64), (7, 4096), (11, 512), (15, 0x41d461c5)]
/-- Engine `e` runs that node's chain, which lies at 0x20000, with its active descriptor. -/
def stEng (e : Nat) (r : Option FacetRun) : State :=
  (withRegs [(0x1002, 7, 2 ^ 30), (0x3100, 6, 0), (0x3100, 7, 4)]
    { stTask { task4 (0x20 + e) 2 with prog := 0x20000 } with engines := [(e, { eng0 with task := some 7, run := r })] }).ddrWrite 0x20000 pyr
def taskP : Task := { task4 0x20 2 with prog := 0x20000 }
def runP : FacetRun := { run0 with bytes := pyr }
theorem landTo_runs (s : State) (e n : Nat) (h : (s.eng e).run.isSome = true) : ∃ q, ((s.landTo e n).eng e).run = some q := by
  unfold State.landTo
  cases hr : (s.eng e).run with
  | none => simp [hr] at h
  | some r =>
    by_cases hn : n ≤ r.progress
    · exact ⟨r, by simp [hn, hr]⟩
    · rw [← Option.isSome_iff_exists]; simp [hn, State.setRun, State.setEng, State.eng]
/-- An engine whose first descriptor is loaded; whose task is to stop; one of whose requests waits for its retry. -/
def stLoaded0 : State := (stEng 0 none).setEng 0 { eng0 with task := some 7, loaded := some (pyr, stOk) }
def taskStop : Task := { taskP with stop := true }
def stStop (s : State) : State := { s with tasks := [taskStop] }
def stWaits (r : Option FacetRun) : State := (stEng 0 r).setChan 4 0 { chan0 with reqs := [{ reqA false with retryAt := some 900 }] }
/-- The memory that it reads is another partition's. -/
def stTaken (s : State) : State := withRegs [(0x3100, 7, 0)] s
/-- A FLOW with a prediction on flag 5; the flag shows tick 0 and DONE. -/
def flowP : List Byte := words [(0, 0x110), (2, 0x5303), (12, 0x50000)]
/-- The same with the prediction of its own tick; a FLOW that shows its rows on flag 5. -/
def flowQ : List Byte := words [(0, 0x110), (2, 0x6303), (12, 0x50000)]
def flowF : List Byte := words [(0, 0x310), (1, 0x1005), (2, 0x4303), (5, 4096), (7, 0x80008), (8, 64), (9, 8192), (13, 278 * 2 ^ 14 + 5), (14, 9000)]
def stPred : State := { stEng 8 none with fscratch := ((stCore core0).scrWrite (flagAddr 5) (leBytes 8 (2 ^ 58))).fscratch }
theorem witness_FacetDescriptorsRunToTheirEnd :
    ((stEng 0 none).live = true ∧ ((stEng 0 none).at 0).engTask 0 = some taskP ∧ ((stEng 0 none).eng 0).run = none
      ∧ ((stEng 0 none).at 0).engWaits 0 = false ∧ taskP.stop = false ∧ ((stEng 0 none).eng 0).loaded = none
      ∧ (stEng 0 none).ddrRead (taskP.prog + 64 * 0) 64 = pyr
      ∧ firstFail [((stEng 0 none).at 0).facetLoad 0 taskP pyr 0, ((stEng 0 none).at 0).facetOpen taskP (((stEng 0 none).at 0).pictured taskP pyr)] = stOk)
    ∧ ((stLoaded0.at 0).engTask 0 = some taskP ∧ (stLoaded0.eng 0).loaded = some (pyr, stOk))
    ∧ (firstFail [((stEng 1 none).at 0).facetLoad 4 taskP pyr 0, ((stEng 1 none).at 0).facetOpen taskP (((stEng 1 none).at 0).pictured taskP pyr)] ≠ stOk
      ∧ firstFail [((stEng 1 none).at 0).facetLoad 4 taskP pyr 0, ((stEng 1 none).at 0).facetOpen taskP (((stEng 1 none).at 0).pictured taskP pyr)] ≠ stTaskAborted
      ∧ fFlag pyr / 512 = taskP.part)
    ∧ (((stEng 0 (some runP)).eng 0).run.isSome = true ∧ (stWaits none).engWaits 0 = true
      ∧ ((stStop (stEng 0 none)).at 0).engTask 0 = some taskStop ∧ taskStop.stop = true ∧ ((stStop (stEng 0 none)).eng 0).run = none)
    ∧ (isMatch flowP = true ∧ mPred flowP ≠ 0 ∧ (stEng 8 none).predGood taskP flowP = false ∧ stPred.predGood { taskP with tick := 0 } flowQ = true
      ∧ isMatch flowQ = true ∧ mPred flowQ ≠ 0)
    ∧ (((stEng 0 (some runP)).at 0).engTask 0 = some taskP ∧ ((stEng 0 (some runP)).eng 0).run = some runP ∧ runP.stage = 0 ∧ fSetFlag pyr = true
      ∧ fEvery pyr ≠ 0 ∧ nextFlagRow pyr 0 ≤ facetRows pyr ∧ ((stEng 0 (some runP)).at 0).engWaits 0 = false
      ∧ ((stEng 0 (some runP)).at 0).facetFault 0 = stOk ∧ (stTaken (stEng 0 (some runP))).facetFault 0 ≠ stOk)
    ∧ (∃ q, ((((stEng 0 (some runP)).at 0).landTo 0 (nextFlagRow pyr 0)).eng 0).run = some q)
    ∧ (((stStop (stEng 8 (some { run0 with bytes := flowF }))).at 0).engTask 8 = some taskStop ∧ isMatch flowF = true ∧ fSetFlag flowF = true
      ∧ fEvery flowF ≠ 0 ∧ nextFlagRow flowF 0 ≤ facetRows flowF ∧ ((stStop (stEng 8 (some { run0 with bytes := flowF }))).at 0).facetFault 8 = stOk)
    ∧ (facetRows pyr < nextFlagRow pyr 4 ∧ (stWaits (some runP)).engWaits 0 = true)
    ∧ (((stEng 0 (some runP)).at 0).facetReady taskP runP = true ∧ (((((stEng 0 (some runP)).at 0).landRest 0 taskP).eng 0).run).isSome = true
      ∧ ((stEng 8 none).at 0).facetReady taskP { run0 with bytes := flowF } = false
      ∧ ((stEng 0 (some { runP with counted := 300 })).at 0).stalling 0 { runP with counted := 300 } = false
      ∧ ((stEng 0 (some { runP with counted := 300, stalled := 50 })).at 300).stalling 0 { runP with counted := 300, stalled := 50 } = true) := by
  refine ⟨?_, ?_, ?_, ?_, ?_, ?_, landTo_runs _ _ _ (by decide +kernel), ?_⟩
  all_goals and_intros <;> decide +kernel
/-- FLOW over two 8 by 8 images. -/
def flow : List Byte :=
  words [(0, 0x110), (2, 0x4303), (5, 4096), (7, 0x80008), (8, 64), (9, 8192), (13, 278 * 2 ^ 14 + 5), (14, 9000)]
def runF (stage : Nat) (todo : List Nat) : FacetRun := { run0 with bytes := flow, stage := stage, todo := todo, refineAt := 200 }
/-- TRACK on the list at 0x3000, which has one feature; contexts of stream 0 from 3 on. -/
def track : List Byte := words [(0, 0x121), (2, 0x80303), (3, 0x3000), (5, 0x8000), (7, 10), (8, 10)]
def runT (stage : Nat) : FacetRun := { run0 with bytes := track, stage := stage }
def stTrack (stage n : Nat) (live : Nat) : State :=
  (withRegs [(0x6040, 3, 3), (0x6040, 4, n)] { stEng 14 (some (runT stage)) with
    ctxCache := [{ ctx := 3, bytes := words [(0, 4096 * live)], dirty := false }] }).ddrWrite 0x3000 [1]
def stFlow (stage : Nat) (todo : List Nat) : State := stEng 8 (some (runF stage todo))
/-- The contexts of partition 0 cannot be read. -/
def stTrackGone (n live : Nat) : State := withRegs [(0x3100, 7, 0)] { stTrack 1 n live with ctxCache := [] }
theorem witness_RefineAndTrackGoInOrder :
    (((stFlow 0 []).at 0).engTask 8 = some { taskP with node := (task4 0x28 2).node } ∧ ((stFlow 0 []).eng 8).run = some (runF 0 [])
      ∧ isMatch flow = true ∧ (runF 0 []).stage = 0 ∧ ((stFlow 0 []).at 0).facetFault 8 = stOk ∧ (stTaken (stFlow 0 [])).facetFault 8 ≠ stOk
      ∧ ((stStop (stFlow 0 [])).at 0).engTask 8 = some taskStop)
    ∧ (∃ q, ((((stFlow 0 []).at 0).landTo 8 (facetRows flow)).eng 8).run = some q)
    ∧ (((stFlow 1 [0]).eng 8).run = some (runF 1 [0]) ∧ (runF 1 [0]).tickAt = (stFlow 1 [0]).tickCount ∧ ((stFlow 1 [0]).at 0).facetFault 8 = stOk
      ∧ max (stFlow 1 [0]).now 0 - (runF 1 [0]).refineAt + matchTile flow ≤ mRefineCycles flow
      ∧ mRefineCycles flow < max (stFlow 1 [0]).now 200000 - (runF 1 [0]).refineAt + matchTile flow
      ∧ (runF 1 [0]).tickAt ≠ (withRegs [(0x2001, 1, 1)] (stFlow 1 [0])).tickCount ∧ (stTaken (stFlow 1 [0])).facetFault 8 ≠ stOk
      ∧ ((stStop (stFlow 1 [0])).at 0).engTask 8 = some taskStop)
    ∧ (((stTrack 0 1 1).at 0).engTask 14 ≠ none ∧ ((stTrack 0 1 1).eng 14).run = some (runT 0) ∧ fType track = 0x21
      ∧ ((stTrack 0 1 1).at 0).engWaits 14 = false)
    ∧ (((stTrack 1 1 1).eng 14).run = some (runT 1) ∧ ((stTrack 1 1 1).at 0).nextCtx 0 track 0 = some 3 ∧ (runT 1).updates < tUpdateMax track
      ∧ tUpdateMax track ≤ { runT 1 with updates := 10 }.updates ∧ ((stTrack 1 1 1).at 0).ctxStatus 0 3 = stOk
      ∧ (stTrackGone 1 1).ctxStatus 0 3 ≠ stOk)
    ∧ (((stTrack 1 1 0).at 0).nextCtx 0 track 0 = none ∧ nextFeat (runT 1) (((stTrack 1 1 0).at 0).featCount track) = some 0
      ∧ (((stTrack 1 1 0).at 0).ctxRange (tStream track)).find? (fun y => !(ctxOf (((stTrack 1 1 0).at 0).ctxShown 0 y)).live
          && !decide (y ∈ (runT 1).freed) && !decide (y ∈ (stTrack 1 1 0).ctxFreed)) = some 3
      ∧ ((stTrack 1 1 0).at 0).ctxStatus 0 3 = stOk ∧ nextFeat { runT 1 with feature := 1 } (((stTrack 1 1 0).at 0).featCount track) = none)
    ∧ ((stTrackGone 1 0).nextCtx 0 track 0 = none ∧ nextFeat (runT 1) ((stTrackGone 1 0).featCount track) = some 0
      ∧ ((stTrackGone 1 0).ctxRange (tStream track)).find? (fun y => !(ctxOf ((stTrackGone 1 0).ctxShown 0 y)).live
          && !decide (y ∈ (runT 1).freed) && !decide (y ∈ (stTrackGone 1 0).ctxFreed)) = some 3 ∧ (stTrackGone 1 0).ctxStatus 0 3 ≠ stOk)
    ∧ (((stTrack 1 0 0).at 0).nextCtx 0 track 0 = none ∧ nextFeat (runT 1) (((stTrack 1 0 0).at 0).featCount track) = some 0
      ∧ (((stTrack 1 0 0).at 0).ctxRange (tStream track)).find? (fun y => !(ctxOf (((stTrack 1 0 0).at 0).ctxShown 0 y)).live
          && !decide (y ∈ (runT 1).freed) && !decide (y ∈ (stTrack 1 0 0).ctxFreed)) = none) := by
  refine ⟨?_, landTo_runs _ _ _ (by decide +kernel), ?_⟩
  all_goals and_intros <;> decide +kernel

/-! ### Hypotheses met: ports, front-ends, I3C -/

/-- Port 0 in a state, in a one-lane configuration; partition 0 runs a plan that takes its streams in, stream 0 in line. -/
def slotA : Slot := { inl := true, fmt := 0, width := 40, height := 4, firstNode := 0, nodeSpan := 1, stripeRows := 0, haloRows := 0 }
def planI : Plan := { planA with inlineEn := true, slots := [slotA] }
def stPort (st : Nat) : State :=
  withRegs [(0x2030, 1, 4), (0x2030, 6, st), (0x2030, 8, 0x36D6), (0x4000, 1, 1), (0x2110, 2, 2), (0x3100, 3, 0xFFFF)]
    { stTick with plans := [(0, { plan0 with cur := some planI })] }
theorem witness_PortLanesFollowTheirStates :
    (((stPort 1).at 0).portState 0 = 1 ∧ (withRegs [(0x2030, 3, 1)] (stPort 1)).reg 0x2030 3 = 1 ∧ (stPort 1).reg 0x2030 3 ≠ 1)
    ∧ (((stPort 3).at 0).portState 0 = 3 ∧ ((stPort 3).at 0).portState 0 ≠ 1 ∧ ((stPort 4).at 0).portState 0 = 4)
    ∧ ((1 : Fin 8).val = 1 ∧ laneUsed ((stPort 3).phy 0) 4 = false ∧ laneUsed ((stPort 3).phy 0) 1 = true ∧ (stPort 3).portState 0 ≠ 4
      ∧ (stPort 3).portState 0 ≠ 0 ∧ (0 : Fin 8).val = 0 ∧ 5 ≤ (5 : Fin 8).val ∧ (stPort 0).portState 0 = 0)
    ∧ (laneCode ((withRegs [(0x2030, 8, 0x10)] (stPort 4)).reg 0x2030 8) 1 = 2 ∧ (withRegs [(0x2030, 8, 0)] (stPort 4)).lanesClear 0 = true
      ∧ laneCode ((stPort 3).reg 0x2030 8) 4 = 3 ∧ laneCode (0 : Nat) 1 = 0) := by and_intros <;> decide +kernel
/-- Coefficients of a small frame, and the frame. -/
def coefA : Coef :=
  { bits := 10, w := 8, h := 4, pad := 0, cfa := 0, bl := [0, 0, 0, 0], ped := 0, dpc := false, hi := 0, lo := 0, static := false, defects := [],
    lsc := false, grid := [], clip := 0 }
def frameA (done glint : Nat) : Frame :=
  { number := 9, sensor := 9, tick := 0, fsTime := 0, feTime := 0, flags := 0, padRows := 0, rows := 4, taken := 4, rxW := 8, ended := true, inl := false,
    coef := coefA, done := done, up1 := [], up2 := [], zones := [], hist := [], defects := 0, record := false, glint := glint, cutRows := 0, endAt := 0,
    took := 0, rawAt := 0x10000, statsAt := 0x20000, pitch := 64 }
def stFrame (f : Frame) : State := (stPort 3).setStream 0 { stream0 with cur := some f }
/-- A packet on port 0, the stream that it is for and what takes the stream in. -/
def packetOn (s : State) : State × Option (Nat × Option (Slot × BufRec)) := ((s.at 0).bump 64 0x2030 11 pk0.sot.val).packetFor 0 pk0
/-- The same port without a plan. -/
def stNoPlan : State := { stPort 3 with plans := [] }
theorem witness_PacketsActOnTheirStream :
    ((stPort 3).live = true ∧ ((stPort 3).at 0).portState 0 = 3 ∧ ((stPort 3).at 0).edgeDue = false
      ∧ (packetOn (stPort 3)).2.map (fun x => (x.1, x.2.isSome)) = some (0, true) ∧ (packetOn (stPort 3)).1.reg (0x4000 + 0x40 * 0) 1 = 1
      ∧ (packetOn stNoPlan).2 = some (0, none) ∧ (packetOn (withRegs [(0x4000, 1, 0)] (stPort 3))).1.reg (0x4000 + 0x40 * 0) 1 ≠ 1
      ∧ ((packetOn (stPort 3)).1.stream 0).fs ≠ some 7 ∧ ((packetOn (stPort 3)).1.stream 0).cur = none
      ∧ ((packetOn ((stPort 3).setStream 0 { stream0 with fs := some 7 })).1.stream 0).fs = some 7)
    ∧ (((packetOn (stFrame (frameA 0 0))).1.stream 0).cur = some (frameA 0 0) ∧ (packetOn (stFrame (frameA 0 0))).2.isSome = true
      ∧ typeFits (((packetOn (stFrame (frameA 0 0))).2.map (fun x => x.2)).getD none) 0x2B = true
      ∧ typeFits (((packetOn (stFrame (frameA 0 0))).2.map (fun x => x.2)).getD none) 0x2C = false
      ∧ typeFits (((packetOn (stPort 3)).2.map (fun x => x.2)).getD none) 0x2B = true)
    ∧ ((stPort 3).at 8333433).edgeDue = true
    ∧ (((stPort 3).at 0).packetFor 0 { pk0 with vc := 9 }).2 = none
    ∧ (((stPort 2).at 0).portState 0 = 2 ∧ ((stPort 1).at 0).portState 0 ≠ 2 ∧ ((stPort 1).at 0).portState 0 ≠ 3)
    ∧ (((withRegs [(stIdx 0 1, 1, 3)] ((stPort 3).setStream 0 { stream0 with missed := 255 })).at 0).streamState 0 = 3
      ∧ (stPort 3).reg (0x4000 + 0x40 * 0) 5 ≤ (((stPort 3).setStream 0 { stream0 with missed := 255 }).stream 0).missed
      ∧ ((stPort 3).at 0).streamState 0 ≠ 3) := by
  and_intros <;> decide +kernel
/-- A row at the head of port 0's queue. -/
def jobA : RowJob := { stream := 0, tick := 0, line := none, glint := none, bytes := 0 }
/-- COPY of the first in-line row to memory, in channel 16 of DMA5. -/
def dmaI : List Byte := words [(0, 0x101), (1, 6), (2, 0x1000800), (4, 64), (6, 1), (7, 3), (8, 4096), (10, 64), (12, 1)]
def stWindow : State :=
  { stPort 3 with
    ports := [(0, { port0 with ring := [(0, zeros 64)], ringTop := 4 })], tasks := [task4 0x35 2],
    chans := [(176, { chan0 with task := some 7, live := [{ descA 0 0 with bytes := dmaI }] })] }
theorem crcShift_lt (poly : Nat) (hp : poly < 2 ^ 32) : ∀ n c, c < 2 ^ 32 → crcShift poly n c < 2 ^ 32
  | 0, c, h => h
  | n + 1, c, h => by
    unfold crcShift
    refine crcShift_lt poly hp n _ ?_
    split
    · exact Nat.xor_lt_two_pow (by omega) hp
    · omega
theorem crc32_lt (bs : List Byte) : crc32 bs < 2 ^ 32 := by
  have h : ∀ (l : List Byte) (c : Nat), c < 2 ^ 32 →
      l.foldl (fun c b => crcShift 0xEDB88320 8 (Nat.xor c b.toNat)) c < 2 ^ 32 := by
    intro l
    induction l with
    | nil => intro c h; exact h
    | cons b l ih =>
      intro c hc
      exact ih _ (crcShift_lt _ (by decide) _ _ (Nat.xor_lt_two_pow hc (by have := b.isLt; omega)))
  exact Nat.xor_lt_two_pow (by decide) (h bs _ (by decide))
/-- Some signature is the one expected, and some is not. -/
theorem glint_seen (k : Coef) (st tick : Nat) :
    (∃ seen : BitVec 32, glintExpected k st tick = seen.toNat) ∧ ∃ seen : BitVec 32, glintExpected k st tick ≠ seen.toNat := by
  have h : glintExpected k st tick < 2 ^ 32 := crc32_lt _
  refine ⟨⟨BitVec.ofNat 32 (glintExpected k st tick), by simp; omega⟩, ?_⟩
  by_cases h0 : glintExpected k st tick = 0
  · exact ⟨1#32, by rw [h0]; decide⟩
  · exact ⟨0#32, by simpa using h0⟩
/-- Port 0 with rows that wait, stalled since cycle `e`, and its channel of DMA5 halted or not. -/
def stFeQ (l : List RowJob) (e : Option Nat) (halted : Bool) : State :=
  ((stPort 3).setPort 0 { port0 with work := l, stalled := e }).setChan 5 0 { chan0 with halted := halted }
/-- A transfer that has 32 rows of the ring still to read. -/
def dma32 : List Byte := words [(0, 0x101), (1, 6), (2, 0x1000800), (4, 2048), (6, 1), (7, 3), (8, 4096), (10, 64), (12, 1)]
def stRingFull : State :=
  { stPort 3 with
    ports := [(0, { port0 with ring := (List.range 32).map (fun r => (r, zeros 64)), ringTop := 40, stalled := some 100 })]
    tasks := [{ task4 0x35 2 with node := { (task4 0x35 2).node with kind := 10, phase := 6 } }]
    chans := [(176, { chan0 with task := some 7, live := [{ descA 0 0 with bytes := dma32 }] })] }
/-- Port 0 stalled with room in its ring, with an in-line plan and without. -/
def stStalled (plan : Bool) : State := (if plan then stPort 3 else stNoPlan).setPort 0 { port0 with stalled := some 100 }
theorem witness_FrontEndRowsRecordsAndGlints :
    (((stFeQ [jobA] none false).port 0).work = jobA :: [] ∧ jobA.stream = 0 ∧ ((stFeQ [jobA] none false).port 0).stalled = none
      ∧ ((stFeQ [jobA] none false).chan 5 0).halted = false ∧ ((stFeQ [{ jobA with stream := 1 }] none false).port 0).work
        = { jobA with stream := 1 } :: [] ∧ ((stFeQ [jobA] (some 9) false).port 0).stalled ≠ none ∧ ((stFeQ [jobA] none true).chan 5 0).halted = true
      ∧ ((stFeQ [] none false).port 0).work = [])
    ∧ ((((stFrame (frameA 4 0)).stream 0).late ++ ((stFrame (frameA 4 0)).stream 0).cur.toList).find? (fun g => g.ended && decide (g.coef.h ≤ g.done)
        && !g.record) = some (frameA 4 0) ∧ ((stFrame (frameA 4 0)).chan 5 0).halted = false ∧ (frameA 4 0).statsAt ≠ 0
      ∧ { frameA 4 0 with statsAt := 0 }.statsAt = 0
      ∧ (((stFrame (frameA 3 0)).stream 0).late ++ ((stFrame (frameA 3 0)).stream 0).cur.toList).find? (fun g => g.ended && decide (g.coef.h ≤ g.done)
        && !g.record) = none)
    ∧ ((((stFrame (frameA 4 2)).stream 0).late ++ ((stFrame (frameA 4 2)).stream 0).cur.toList).find? (fun g => decide (g.glint = 2))
        = some (frameA 4 2)
      ∧ (((stFrame (frameA 4 0)).stream 0).late ++ ((stFrame (frameA 4 0)).stream 0).cur.toList).find? (fun g => decide (g.glint = 2)) = none
      ∧ (∃ seen : BitVec 32, glintExpected coefA 0 0 = seen.toNat) ∧ ∃ seen : BitVec 32, glintExpected coefA 0 0 ≠ seen.toNat)
    ∧ ((stWindow.at 0).readReady 5 16 = some (.data { descA 0 0 with bytes := dmaI } false 0x1000800 64) ∧ (srcSide dmaI).kind = 6
      ∧ (stWindow.dma 5).slotAt = none ∧ ((stWindow.setDma 5 { dma0 with slotAt := some stWindow.now }).dma 5).slotAt = some (max stWindow.now 0)
      ∧ ((stPort 3).at 0).readReady 5 16 = none)
    ∧ ((((((stStalled true).at 0).trimRing 0).port 0).stalled = some 100)
      ∧ ((((stStalled true).at 0).trimRing 0).port 0).ring.length < 32
      ∧ (((((stStalled true).at 0).trimRing 0).setPort 0 { (((stStalled true).at 0).trimRing 0).port 0 with stalled := none }).inlineOf 0).isSome = true
      ∧ ((((stStalled false).at 0).trimRing 0).setPort 0 { (((stStalled false).at 0).trimRing 0).port 0 with stalled := none }).inlineOf 0 = none
      ∧ 32 ≤ (((stRingFull.at 0).trimRing 0).port 0).ring.length ∧ (((stRingFull.at 0).trimRing 0).port 0).stalled = some 100) := by
  refine ⟨?_, ?_, ⟨?_, ?_, glint_seen _ _ _⟩, ?_⟩
  all_goals and_intros <;> decide +kernel
/-- A camera-loop write of stream 0, and controller 1 with it on the bus. -/
def writeA : BusWrite := { entry := 0, i2c := false, target := 0x10, bytes := [1, 2], rate := 0 }
def turnA : LoopTurn := { stream := 4, mode := 0, template := [], host := none, addr := 0, param := 0 }
def stI3c (nacked : Bool) (recover : Option Nat) : State :=
  { stTask (task4 0x41 2) with
    i3cs := [(1, { i3c0 with task := some 7, writes := [writeA], turn := some turnA, nacked := nacked, recover := recover, dasa := true })] }
theorem witness_I3cControllerEvents :
    (((stI3c false none).i3c 1).writes = writeA :: [] ∧ ((stI3c false none).i3c 1).turn = some turnA ∧ ((stI3c false none).at 0).i3cBusy 1 = true
      ∧ ((stI3c false none).i3c 1).nacked = false ∧ ((stI3c true none).i3c 1).nacked = true ∧ ((stI3c false (some 200)).at 0).i3cBusy 1 = false
      ∧ ((stI3c false (some 200)).i3c 1).writes = writeA :: [] ∧ (stTick.i3c 1).writes = [])
    ∧ (((stI3c false none).i3c 1).recover = none ∧ ((stI3c false none).i3c 1).writes ≠ [] ∧ (stTick.i3c 1).dasa = false)
    ∧ (((stI3c false (some 200)).i3c 1).recover = some 200 ∧ 200 + usCycles 100 ≤ max (stI3c false (some 200)).now 200000
      ∧ max (stI3c false (some 200)).now 0 < 200 + usCycles 100)
    ∧ (((stI3c false none).i3c 1).dasa = true ∧ (stI3c false none).reg 0x2041 4 ≠ 2 ∧ (stI3c false none).proc 8 = 1
      ∧ (withRegs [(0x2041, 4, 2)] (stI3c false none)).reg 0x2041 4 = 2 ∧ (withRegs [(0x2068, 1, 2)] (stI3c false none)).proc 8 ≠ 1) := by
  and_intros <;> decide +kernel

/-! ### Hypotheses met: the host interface -/

/-- A READY die whose host reaches it, with function 0 in state `x`; queue 3 is host-fed. -/
def stFn (x : FnSt) : State :=
  withRegs [(0x1104, 3, 1), (0x1106, 1, 4), (0x3100, 6, 0), (0x3100, 7, 4), (0x1002, 7, 2 ^ 30)]
    { stLink with
      fns := [(0, { x with enabled := true })], tick := stTick.tick,
      queues := [(3, { queue0 with bind := some { queue := 3, res := 2, prio := 0, hostFed := true, outstanding := 2, log2Depth := 3, budgetNode := 0,
                                                  budgetCycles := 0, sqAddr := 0, cqAddr := 0 } })] }
def stFnServed : State := ((stFn { fn0 with mbState := 1 }).at 0).serve 0 (reqOfBytes []).1 (reqOfBytes []).2
/-- Function 0 with a pending request whose answer is there; with its COMMIT under way; out of the host's reach; vector 2 sent at the edge. -/
def stFnAnswered : State := stFn { fn0 with mbState := 1, answer := some (mkResp 1 (rq 0 0 []) 0 0 0 []) }
def stFnCommit : State := { stFn { fn0 with mbState := 1 } with dict := { (stFn fn0).dict with commits := [run1] } }
def stFnFired : State := stFn { fn0 with lastFire := [(2, 100)] }
theorem witness_HostMailboxDoorbellsRingsAndVectors :
    ((stFn fn0).live = true ∧ ((stFn fn0).at 0).reaches 0 = true ∧ ((stFn fn0).at 0).reaches 1 = false)
    ∧ (((stFn { fn0 with mbState := 2 }).fnSt 0).mbState = 2 ∧ ((stFn { fn0 with mbState := 2 }).at 0).reaches 0 = true ∧ (1#32).getLsbD 0 = true)
    ∧ (4#32).getLsbD 2 = true
    ∧ ((stFn { fn0 with mbState := 1 }).reg 0x2050 1 = 3 ∧ (stFn { fn0 with mbState := 1 }).proc 2 = 1
      ∧ ((stFn { fn0 with mbState := 1 }).fnSt 0).mbState = 1 ∧ ((stFn { fn0 with mbState := 1 }).fnSt 0).reqBuf = []
      ∧ (stFn { fn0 with mbState := 1 }).dict.commits.any (fun c => decide (c.fn = 0) && !c.silent) = false
      ∧ ((stFn { fn0 with mbState := 1 }).fnSt 0).answer = none ∧ (stFnServed.fnSt 0).answer.isSome = true
      ∧ (stFnAnswered.fnSt 0).answer.isSome = true ∧ (stFnAnswered.fnSt 0).mbState = 1
      ∧ ((stFn fn0).fnSt 0).mbState ≠ 1 ∧ stFnCommit.dict.commits.any (fun c => decide (c.fn = 0) && !c.silent) = true)
    ∧ (((stFn fn0).at 0).doorbellCheck 0 3 = stOk ∧ (((stFn fn0).queue 3).bind).map Binding.depth = some 8
      ∧ aheadOf 8 ((stFn fn0).queue 3).sqHead 8 ≤ 8 ∧ 8 < aheadOf 8 ((stFn fn0).queue 3).sqHead 9 ∧ ((stFn fn0).at 0).doorbellCheck 0 4 ≠ stOk)
    ∧ (((stFn { fn0 with evLost := 2 }).fnSt 0).evLost ≠ 0 ∧ ((stFn { fn0 with evLost := 2 }).at 0).evRoom 0 = true)
    ∧ (kget false ((stFn { fn0 with fresh := [(1, true)] }).fnSt 0).fresh 1 = true
      ∧ ((stFn { fn0 with fresh := [(1, true)] }).at 0).coalesceOver 0 1 = true)
    ∧ ((stFn fn0).regF 0 0x1106 1 ≠ 0 ∧ (stFn fn0).tickCount % (stFn fn0).regF 0 0x1106 1 = 0 ∧ (stFn fn0).tick.lastEdge = some 100
      ∧ klook ((stFn fn0).fnSt 0).lastFire 2 = none ∧ (stFn fn0).regF 1 0x1106 1 = 0
      ∧ (withRegs [(0x2001, 1, 3)] (stFn fn0)).tickCount % (stFn fn0).regF 0 0x1106 1 ≠ 0
      ∧ klook (stFnFired.fnSt 0).lastFire 2 = some 100) := by and_intros <;> decide +kernel
theorem witness_RegisterWindowIsReadOnly :
    ((((stFn fn0).at 0).windowCheck 0 8 8 = stOk ∧ windowSlot 8 = some (0x2001, 1, none) ∧ (objRow 0x2001 1).isSome = true)
      ∧ ((stFn fn0).at 0).windowCheck 0 2 8 ≠ stOk)
    ∧ (0x10000 ≤ 0x10000 ∧ 8 < 0x10000)
    ∧ (0x20000 ≤ 0x20000 ∧ 0x20000 < 0x21014) ∧ (0x30000 ≤ 0x3007F ∧ 0x3007F < 0x30080) ∧ (0x1FFFF < 0x20000 ∧ 0x21014 ≤ 0x21014 ∧ 0x30080 ≤ 0x30080)
    ∧ (((stFn { fn0 with mbState := 1 }).fnSt 0).mbState = 1 ∧ ((stFn fn0).fnSt 0).mbState ≠ 1 ∧ ((stFn fn0).at 0).reaches 1 = false) := by
  and_intros <;> decide +kernel
/-- The first VF enabled and reached. -/
def stVf : State := { stFn fn0 with fns := [(0, { fn0 with enabled := true }), (1, { fn0 with enabled := true })] }
/-- A poisoned block at 4096, and the page at 8192 withdrawn. -/
def stWorn : State := { stVf with faults := { stVf.faults with poisoned := [(64, true)], withdrawn := [(2, true)] } }
theorem witness_AperturesReachTheirMemoryAlone :
    (stVf.live = true ∧ (stVf.at 0).reaches 1 = true ∧ (stVf.at 0).granuleIn 0 (4096 / 67108864) = true
      ∧ (stVf.at 0).granuleIn 0 ((4096 + 8 - 1) / 67108864) = true ∧ 4096 + 8 ≤ (stVf.at 0).capacityUsed ∧ (stVf.at 0).spanPoisoned 4096 8 = false
      ∧ 8 ≤ 4096 ∧ (stVf.at 0).spanRetired 4096 8 = false)
    ∧ ((stVf.at 0).reaches 0 = true ∧ (stVf.at 0).capacityUsed < (stVf.at 0).capacityUsed + accessLen (.rd 8)
      ∧ (stWorn.at 0).reaches 0 = true ∧ stWorn.live = true ∧ (stWorn.at 0).spanRetired 8192 (accessLen (.rd 8)) = true
      ∧ 4096 < 4097 ∧ 4096 + 4097 ≤ (stVf.at 0).capacityUsed ∧ (stVf.at 0).spanRetired 4096 4097 = false)
    ∧ (4096 + 8 ≤ (stWorn.at 0).capacityUsed ∧ (stWorn.at 0).spanRetired 4096 8 = false ∧ (stWorn.at 0).spanPoisoned 4096 8 = true)
    ∧ (1 ≠ 0 ∧ (stVf.at 0).granuleIn 0 (2 ^ 33 / 67108864) = false)
    ∧ (0x40000008 / 0x20000000 = 2 ∧ 2 < 32 ∧ 0x40000008 % 0x20000000 < 0x10000000 ∧ 1 ≤ accessLen (.rd 8)
      ∧ 0x40000008 % 0x20000000 % 8 + accessLen (.rd 8) ≤ 8 ∧ (stVf.at 0).padClearing 2 = false ∧ stVf.corePart 2 = some 0)
    ∧ (withRegs [(0x3100, 2, 0)] stVf).corePart 2 ≠ some 0
    ∧ (0x50000000 / 0x20000000 = 2 ∧ 0x10000000 ≤ 0x50000000 % 0x20000000 ∧ 0x50000000 % 0x20000000 < 0x10280000)
    ∧ (0x10280000 ≤ 0x50280000 % 0x20000000 ∧ accessLen (.rd 0) = 0 ∧ 8 < 4 % 0x20000000 % 8 + accessLen (.rd 8) ∧ 32 ≤ 0x400000000 / 0x20000000)
    ∧ ((stFn fn0).at 0).reaches 1 = false := by and_intros <;> decide +kernel
theorem witness_FunctionsResetAndConfigure :
    (stVf.live = true ∧ stVf.link.dlUp = true ∧ (stVf.fnSt 1).enabled = true ∧ (8 : Fin 9).val ≠ 0)
    ∧ (stRun.live = true ∧ stRun.link.dlUp = false ∧ (stVf.fnSt 2).enabled = false ∧ stRun.reg 0x9001 2 ≠ 2) := by and_intros <;> decide +kernel

/-! ### Hypotheses met: link, IDE, SPDM, field port -/

/-- A link in a state. -/
def stLinkIn (st : Nat) (l : LinkSt) : State := { withRegs [(0x1100, 1, st)] stRun with link := l }
def link0 : LinkSt :=
  { u0 := none, u1 := none, drop0 := false, drop1 := false, dlUp := false, failedAt := none, waiting := [], numVfs := 0, again := false,
    was0 := false, was1 := false }
/-- Both modules up, in a state; after a hot reset that only module 0 came back from. -/
def link2 : LinkSt := { link0 with u0 := some 2, u1 := some 2 }
def stLinkAgain : State := stLinkIn 3 { link0 with u0 := some 2, again := true, was0 := true, was1 := true }
theorem witness_LinkStatesDecideOnHostRequests :
    (State.reset.reg 0x1100 1 = 0 ∧ stLink.reg 0x1100 1 = 2 ∧ stLink.reg 0x9001 1 ≠ 1 ∧ (stLinkIn 6 link0).reg 0x1100 1 = 6)
    ∧ ((stLinkIn 1 link0).live = true ∧ (stLinkIn 1 link0).reg 0x1100 1 = 1 ∧ (stLinkIn 1 link0).link.u0 = none ∧ (stLinkIn 1 link0).link.drop0 = false
      ∧ (0 : Fin 3).val ≤ (stLinkIn 1 link0).reg 0x1100 2 ∧ (stLinkIn 1 link0).link.u1 = none ∧ (stLinkIn 1 link0).link.drop1 = false)
    ∧ ((stLinkIn 2 link2).modUp 0 = true ∧ (stLinkIn 2 link2).modUp 1 = true
      ∧ (withRegs [(0x1100, 2, 0)] (stLinkIn 1 link0)).reg 0x1100 2 < (1 : Fin 3).val ∧ stLink.link.dlUp = true ∧ stLink.reg 0x1100 1 ≠ 1)
    ∧ ({ link0 with u0 := some 2, drop1 := true } : LinkSt).u0 = some 2 ∧ ({ link0 with u1 := some 2 } : LinkSt).u0 = none
    ∧ (stLink.link.u0 = some 2 ∧ stLink.link.u1 = some 2)
    ∧ ((stLinkIn 6 { link0 with failedAt := some 0 }).link.failedAt = some 0 ∧ 0 + msCycles 100 ≤ max stRun.now 100000000
      ∧ (stLinkIn 6 { link0 with failedAt := some 0 }).reg 0x1100 1 = 6 ∧ max stRun.now 0 < 0 + msCycles 100)
    ∧ ((stLinkIn 1 link0).link.failedAt = none ∧ (stLinkIn 1 link0).modUp 0 = false ∧ (stLinkIn 1 link0).modUp 1 = false)
    ∧ ((stLinkIn 2 link2).linkUp = true ∧ (stLinkIn 2 link2).link.dlUp = false ∧ (stLinkIn 2 link2).link.again = false ∧ (stLinkIn 1 link0).linkUp = false
      ∧ stLinkAgain.linkUp = true ∧ stLinkAgain.link.dlUp = false ∧ stLinkAgain.link.again = true ∧ (stLinkAgain.link.was1 && !stLinkAgain.modUp 1) = true)
    ∧ stLink.linkUp = true
    ∧ ((stLinkIn 5 link2).reg 0x1100 1 = 5 ∧ (stLinkIn 5 link2).modUp 0 = true ∧ (stLinkIn 5 link2).modUp 1 = true
      ∧ ((stLinkIn 5 link2).modUp 0 && false) = false ∧ (stLinkIn 2 link2).reg 0x1100 1 ≠ 5) := by and_intros <;> decide +kernel
/-- A die with session 4 established and key set 0 whole, the stream SECURE. -/
def stIde : State :=
  withRegs [(0x9001, 2, 1)] { stLink with sec := { stLink.sec with
    sessions := [(4, true, 0)], keys := (List.range 6).map (fun i => (ideKey 0 (i / 2) (decide (i % 2 = 0)), zeros 32)) } }
/-- A die that scrubs granule 3: its fill is the task 7, on channel 15 of DMA4. -/
def stScrub : State :=
  { stLink with scrubs := [{ granule := true, part := 0, index := 3 }],
                tasks := [{ task0 with id := 7, maint := some scrubFn, stage := 2 }], chans := [(143, { chan0 with task := some 7 })] }
theorem witness_IdeStreamAndScrubbing :
    (stIde.live = true ∧ stIde.proc 0 = 1 ∧ stIde.sessionUp 4 = true ∧ (zeros 32).length = 32 ∧ stIde.sessionUp 5 = false ∧ (zeros 31).length ≠ 32
      ∧ stIde.setWhole 1 = false)
    ∧ stIde.setWhole 0 = true ∧ (stIde.reg 0x9001 2 = 1 ∧ stRun.reg 0x9001 2 ≠ 1)
    ∧ (stIde.reg 0x9001 4 < 2 ^ 48 ∧ 2 ^ 48 ≤ (withRegs [(0x9001, 4, 2 ^ 48)] stIde).reg 0x9001 4)
    ∧ (stScrub.scrubs = { granule := true, part := 0, index := 3 } :: [] ∧ stScrub.scrubChan = some 15)
    ∧ ({ stScrub with scrubs := [{ granule := false, part := 0, index := 3 }] } : State).scrubs = { granule := false, part := 0, index := 3 } :: []
    ∧ (stRun.scrubs = [] ∧ ({ stScrub with chans := [] } : State).scrubChan = none) := by and_intros <;> decide +kernel
/-- The responder in a phase. -/
def stSpdm (phase : Nat) (l : List (Nat × Bool × Nat)) : State := { stRun with sec := { stRun.sec with phase := phase, sessions := l } }
def stSecBusy : State := withRegs [(0x2060, 1, 2)] stRun
theorem witness_SpdmResponderAnswers :
    (stRun.live = true ∧ stRun.proc 0 = 1) ∧ (stSpdm 0 []).sec.phase = 0 ∧ 1 ≤ (stSpdm 1 []).sec.phase ∧ (stSpdm 1 []).sec.phase < 2
    ∧ 2 ≤ (stSpdm 2 []).sec.phase ∧ (stSpdm 2 []).sec.phase < 3 ∧ 3 ≤ (stSpdm 3 []).sec.phase
    ∧ 2 ≤ (stSpdm 3 [(4, true, 0), (5, true, 0)]).sec.sessions.length
    ∧ ((stSpdm 3 [(4, true, 0)]).sec.sessions.length < 2 ∧ ∀ e ∈ (stSpdm 3 [(4, true, 0)]).sec.sessions, e.1 ≠ 5)
    ∧ (stSpdm 3 [(4, false, 0)]).sec.sessions.find? (fun e => decide (e.1 = 4)) = some (4, false, 0) ∧ stIde.sessionUp 4 = true
    ∧ stSecBusy.proc 0 = 2
    ∧ ({ stRun with sec := { stRun.sec with deferred := some (.getVersion 0) } } : State).sec.deferred = some (.getVersion 0)
    ∧ stRun.sec.deferred = none ∧ ((withRegs [(0x2060, 1, 3)] stRun).proc 0 ≠ 1 ∧ (withRegs [(0x2060, 1, 3)] stRun).proc 0 ≠ 2) := by
  and_intros <;> decide +kernel

/-- The field port on, with key slot 0 active; identifiers from 0x100 on. -/
def keyA : List Byte := zeros 16
def stCan : State :=
  withRegs [(0x1110, 1, 1), (0x1110, 4, 0x100), (0x1110, 9, 1), (0x1110, 11, 0), (0x1111, 3, 0), (0x1111, 4, 4), (0x1111, 5, 7)]
    { stTick with can := { stTick.can with key0 := some keyA, key1 := some keyA } }
/-- The 56 bytes of a frame under the MAC of a key: type and version, key slot, segment, segment count, FRESH. -/
def frameOf (id : Nat) (l : List Byte) (fresh : Nat) : List Byte :=
  let b := l ++ leBytes 4 fresh ++ zeros 48
  b ++ frameMac keyA id false b
def reqGood : List Byte := frameOf 0x102 [0x11, 0, 0, 1] 5
def reqStale : List Byte := frameOf 0x102 [0x11, 0, 0, 1] 4
def reqForged (m : Byte) : List Byte := [0x11, 0, 0, 1] ++ leBytes 4 5 ++ zeros 48 ++ List.replicate 8 m
def keySwitch1 : List Byte := frameOf 0x103 [0x16, 1, 0, 1] 1
/-- A frame that waits to be sent. -/
def txA : CanTx := { idOff := 1, ty := 3, seg := 0, count := 1, body := [] }
def stCanBusy : State :=
  { withRegs [(0x1111, 4, 0xF0000000), (0x1111, 8, 1), (0x2001, 1, 6)] stCan with
    can := { stCan.can with queue := [txA], msg := some { count := 2, next := 1, bytes := [], lastAt := 0 } } }
def stBusOff (st : Nat) : State := { withRegs [(0x1110, 9, st)] stCan with can := { stCan.can with busOffAt := some 0 } }
theorem mac_slice (key : List Byte) (id : Nat) (b m : List Byte) (hb : b.length = 56) (hm : m.length = 8) :
    frameMac key id false (b ++ m) = frameMac key id false b ∧ slice (b ++ m) 56 8 = m := by
  have e : List.take 56 b = b := by rw [← hb]; exact List.take_length
  have e1 : List.take 8 m = m := by rw [← hm]; exact List.take_length
  refine ⟨by simp [frameMac, slice, hb, e], by simp [slice, hb, hm, e1, zeros]⟩
theorem mac_length (id : Nat) (b : List Byte) : (frameMac keyA id false b).length = 8 := by
  have hk : ((aesExpand 10 1 [keyA]).reverse.getD 10 []).length = 16 := by decide +kernel
  simp only [frameMac, aesCmac, aes128, List.length_take, xorBytes, List.length_zipWith, hk, aesShift, List.length_map, List.length_range]
  decide
theorem mac_frame (id : Nat) (l : List Byte) (fresh : Nat) (h : l.length = 4) :
    frameMac keyA id false (frameOf id l fresh) = slice (frameOf id l fresh) 56 8 := by
  have hb : (l ++ leBytes 4 fresh ++ zeros 48).length = 56 := by simp [h, leBytes, zeros]
  have := mac_slice keyA id _ _ hb (mac_length id (l ++ leBytes 4 fresh ++ zeros 48))
  rw [frameOf, this.1, this.2]
theorem mac_forged : ∃ m, aedsyForm 2 (reqForged m) = true ∧ frameMac keyA 0x102 false (reqForged m) ≠ slice (reqForged m) 56 8 := by
  have h (m : Byte) := mac_slice keyA 0x102 ([0x11, 0, 0, 1] ++ leBytes 4 5 ++ zeros 48) (List.replicate 8 m) (by decide) (by simp)
  by_cases h0 : frameMac keyA 0x102 false (reqForged 0) = slice (reqForged 0) 56 8
  · refine ⟨1, by decide, fun h1 => ?_⟩
    have a := (h 0).1.symm.trans (h0.trans (h 0).2)
    have b := (h 1).1.symm.trans (h1.trans (h 1).2)
    exact absurd (a.symm.trans b) (by decide)
  · exact ⟨0, by decide, h0⟩
theorem witness_FieldPortTakesAuthenticFramesAndKeepsItsTimers :
    (stCan.live = true ∧ stCan.canOn = true ∧ ((stCan.at 0).canReceived).aedsyId 0x102 false = some 2 ∧ ((stCan.at 0).canReceived).canKeyed = true
      ∧ aedsyForm 2 reqGood = true ∧ byteOf reqGood 1 % 2 = ((stCan.at 0).canReceived).reg 0x1111 3
      ∧ ((stCan.at 0).canReceived).canKey 0 = some keyA ∧ ((stCan.at 0).canReceived).reg 0x1111 4 < frameFresh reqGood
      ∧ frameFresh reqGood ≤ ((stCan.at 0).canReceived).reg 0x1111 4 + 1048576)
    ∧ frameMac keyA 0x102 false reqGood = slice reqGood 56 8
    ∧ (∃ m, aedsyForm 2 (reqForged m) = true ∧ frameMac keyA 0x102 false (reqForged m) ≠ slice (reqForged m) 56 8)
    ∧ (aedsyForm 2 reqStale = true ∧ frameMac keyA 0x102 false reqStale = slice reqStale 56 8
      ∧ frameFresh reqStale ≤ ((stCan.at 0).canReceived).reg 0x1111 4)
    ∧ (((stCan.at 0).canReceived).aedsyId 0x103 false = some 3 ∧ aedsyForm 3 keySwitch1 = true
      ∧ byteOf keySwitch1 1 % 2 ≠ ((stCan.at 0).canReceived).reg 0x1111 3 ∧ ((stCan.at 0).canReceived).canKey 1 = some keyA
      ∧ frameMac keyA 0x103 false keySwitch1 = slice keySwitch1 56 8 ∧ frameFresh keySwitch1 = 1)
    ∧ (stCan.at 0).aedsyId 0x200 false = none
    ∧ (stCanBusy.can.msg = some { count := 2, next := 1, bytes := [], lastAt := 0 } ∧ 0 + msCycles 100 ≤ max stCanBusy.now 100000000)
    ∧ (stCanBusy.canKeyed = true ∧ stCanBusy.rekeyDue = true ∧ stCanBusy.can.dueRaised = false)
    ∧ (stCanBusy.reg 0x1111 8 ≠ 0 ∧ stCanBusy.tickCount % stCanBusy.reg 0x1111 8 = 0 ∧ stCanBusy.can.statusAt < stCanBusy.tickCount)
    ∧ (stCanBusy.can.queue = txA :: [] ∧ stCanBusy.canOn = true ∧ canMaySend (stCanBusy.reg 0x1111 5) txA = true)
    ∧ ((stBusOff 3).can.busOffAt = some 0 ∧ (stBusOff 3).reg 0x1110 9 = 3 ∧ 0 + msCycles ((stBusOff 3).reg 0x1110 8) ≤ max (stBusOff 3).now (2 ^ 40))
    ∧ (stBusOff 4).reg 0x1110 9 = 4 ∧ (255 ≤ 255 ∧ 128 ≤ 255)
    ∧ ((stTick.at 0).canReceived.canKeyed = false ∧ aedsyForm 2 [] = false ∧ aedsyForm 3 [] = false ∧ byteOf keySwitch1 1 % 2 ≠ 0
      ∧ byteOf reqGood 1 % 2 = 0)
    ∧ (stTick.canOn = false ∧ stTick.can.queue = [] ∧ stTick.canKeyed = false ∧ stTick.reg 0x1110 9 ≠ 3 ∧ stTick.reg 0x1110 9 ≠ 4)
    ∧ (stCan.rekeyDue = false ∧ max stCanBusy.now 0 < 0 + msCycles 100) := by
  refine ⟨?_, mac_frame _ _ _ rfl, mac_forged, ⟨?_, mac_frame _ _ _ rfl, ?_⟩, ⟨?_, ?_, ?_, ?_, mac_frame _ _ _ rfl, ?_⟩, ?_⟩
  all_goals and_intros <;> decide +kernel

/-! ### Hypotheses met: checker, faults, power, processors -/

/-- A safety section with one pair: outputs 4 and 5, its deadline 1,000 cycles into the tick. -/
def secA : List Byte := words [(0, 1), (2, 1000), (4, 0x50004), (5, 0xFFFFFFFF)]
/-- The checker on, with that section in force and both outputs ended. -/
def stCheck (ready : Bool) : State :=
  withRegs [(0x7000, 1, 1), (0x2110, 2, 3)]
    { stTask (task4 2 3) with
      plans := [(0, { plan0 with cur := some { planA with sections := [(8, secA)] } })], tasks := [task4 2 3, { task4 3 3 with id := 8, num := 5 }],
      umbra := { stTick.umbra with halted := false, tables := [(0, secA)], published := false, ready := ready } }
def stHaltedC : State := { stTick with umbra := { stTick.umbra with halted := true } }
def stMissing : State := { stTick with umbra := { stTick.umbra with missing := some 3, halted := false } }
/-- That section with its first output dependent on stream 0, whose frame's glint check is open. -/
def secB : List Byte := words [(0, 1), (2, 1000), (4, 0x50004), (5, 0xFFFFFFFF), (10, 1)]
def stOpen : State := { stCheck false with streams := [(0, { stream0 with cur := some (frameA 4 2) })] }
/-- The checker on while one output runs still. -/
def stEarly : State := { stCheck false with tasks := [task4 2 2, { task4 3 2 with id := 8, num := 5 }] }
def stLapse : State := withRegs [(0x2001, 1, 100)] (stCheck false)
theorem witness_CheckerJudgesPublishesAndHalts :
    ((stCheck false).live = true ∧ ((stCheck false).at 0).judging 0 = some ({ planA with sections := [(8, secA)] }, false, secA)
      ∧ ((stCheck false).at 0).checkerOn = true ∧ (stCheck false).umbra.published = false
      ∧ ((stCheck false).at 0).judgeTask 0 false (outPair secA 0).primary = some (task4 2 3) ∧ (task4 2 3).ended = true
      ∧ ((stCheck false).at 0).judgeTask 0 false (outPair secA 0).copy = some { task4 3 3 with id := 8, num := 5 }
      ∧ ({ task4 3 3 with id := 8, num := 5 } : Task).ended = true ∧ ((stCheck false).at 0).dependsOpen (outPair secA 0).depends = false)
    ∧ ((stEarly.at 0).judgeTask 0 false (outPair secA 0).primary = some (task4 2 2) ∧ (task4 2 2).ended = false
      ∧ (stEarly.at 0).judgeTask 0 false (outPair secA 0).copy = some { task4 3 2 with id := 8, num := 5 }
      ∧ ({ task4 3 2 with id := 8, num := 5 } : Task).ended = false)
    ∧ ((stTask (task4 2 3)).checkerOn = false ∧ (stOpen.at 0).dependsOpen (outPair secB 0).depends = true)
    ∧ (((stCheck false).at 2000).edgeAt + markDeadline secA ≤ max (stCheck false).now 2000
      ∧ max (stCheck false).now 0 < ((stCheck false).at 0).edgeAt + markDeadline secA)
    ∧ ((stCheck true).umbra.ready = true ∧ (stCheck true).umbra.published = false ∧ (stCheck false).umbra.ready = false)
    ∧ (stMissing.umbra.missing = some 3 ∧ stMissing.umbra.halted = false ∧ stTick.umbra.missing = none ∧ stHaltedC.umbra.halted = true)
    ∧ (stLapse.corePart 2 = some 0 ∧ (stLapse.planSt 0).cur = some { planA with sections := [(8, secA)] }
      ∧ ({ planA with sections := [(8, secA)] } : Plan).marked = true ∧ stLapse.planState 0 ≠ 0 ∧ stLapse.reg (0x5000 + 2) 1 ≤ 1
      ∧ max (stLapse.core 2).passAt (stLapse.core 2).lapseAt + 100 ≤ stLapse.tickCount)
    ∧ ((withRegs [(0x3100, 2, 0)] stLapse).corePart 2 = none
      ∧ (stCheck false).tickCount < max ((stCheck false).core 2).passAt ((stCheck false).core 2).lapseAt + 100
      ∧ 1 < (withRegs [(0x5002, 1, 2)] stLapse).reg (0x5000 + 2) 1) := by and_intros <;> decide +kernel
def stFail : State :=
  { stRun with faults := { stRun.faults with failing := [{ site := .lpddr5 128, reader := .narrow }], toList := [zeros 8], poisoned := [(2, true)] } }
theorem witness_DetectionErrorsAreRetriedAndCharged :
    (stRun.at 0).sitePoisoned (.lpddr5 128) = false ∧ (stFail.at 0).sitePoisoned (.lpddr5 128) = true
    ∧ stFail.faults.failing = { site := .lpddr5 128, reader := .narrow } :: [] ∧ (stFail.faults.toList = zeros 8 :: [] ∧ stFail.proc 0 = 1)
    ∧ (stRun.faults.failing = [] ∧ stRun.faults.toList = [] ∧ (withRegs [(0x2060, 1, 2)] stFail).proc 0 ≠ 1) := by
  and_intros <;> decide +kernel
/-- PMC awaits the answer to a request of 720 mV; a hold, and a service window asked for at tick 3. -/
def stAvs : State :=
  { withRegs [(0x2001, 1, 200)] stTick with
    avs := { stTick.avs with sentAt := stTick.now, flight := some 720, second := true, hold := some 100, asked := some 3 } }
/-- A service window is due by its period. -/
def stWindow0 : State := withRegs [(0x8030, 1, 100), (0x2001, 1, 200)] stTick
theorem witness_VoltageRequestsAreConfirmed :
    (stAvs.live = true ∧ stAvs.avs.flight = some 720 ∧ stAvs.proc 1 = 1 ∧ stAvs.avs.status = false
      ∧ max stAvs.now 0 < stAvs.avs.sentAt + 10000 ∧ stAvs.avs.sentAt + 10000 ≤ max stAvs.now (stAvs.avs.sentAt + 10000)
      ∧ ({ stAvs with avs := { stAvs.avs with status := true } } : State).avs.status = true)
    ∧ (({ stAvs with avs := { stAvs.avs with goal := some 800 } } : State).avs.goal = some 800 ∧ stAvs.avsTarget < 800
      ∧ (stAvs.avs.proj.map stAvs.needOf).foldl max 650 < 800 ∧ stAvs.avs.goal = none)
    ∧ (({ crcOk := true, alert := false, readback := 715 } : AvsReply).crcOk = true ∧ 715 ≤ 720 + 10 ∧ 720 ≤ 715 + 10) ∧ (720 + 10 < 731 ∨ 731 + 10 < 720)
    ∧ (({ crcOk := false, alert := false, readback := 715 } : AvsReply).crcOk = false ∧ stTick.avs.flight = none ∧ stTick.avs.status = false
      ∧ (withRegs [(0x2061, 1, 2)] stAvs).proc 1 ≠ 1)
    ∧ stTick.avs.second = false ∧ stAvs.avs.second = true ∧ (stAvs.avs.hold = some 100 ∧ 100 + 100 ≤ stAvs.tickCount)
    ∧ (stAvs.tick.lastEdge.isSome = true ∧ stAvs.avs.asked = some 3 ∧ 3 < stAvs.tickCount)
    ∧ (stWindow0.reg 0x8030 1 ≠ 0 ∧ 0 < stWindow0.tickCount ∧ stWindow0.tickCount % stWindow0.reg 0x8030 1 = 0
      ∧ stWindow0.reg 0x8030 7 ≠ stWindow0.tickCount)
    ∧ (stRun.tick.lastEdge = none ∧ stTick.avs.asked = none ∧ (withRegs [(0x8030, 1, 0)] stTick).reg 0x8030 1 = 0) := by and_intros <;> decide +kernel
/-- Processor 4 at several points of its life. -/
def stFw (proc n : Nat) : State :=
  { withRegs [(0x2064, 1, proc)] stRun with
    fw := { stRun.fw with watchdog := [(4, 0)], restarts := [(4, List.replicate n 0)], dumpDue := [(4, 1)] } }
theorem witness_ProcessorsBootRestartAndFail :
    stUp.reg 0x2050 1 = 0 ∧ ((withRegs [(0x2050, 1, 1)] stRun).reg 0x2050 1 = 1 ∧ (withRegs [(0x2050, 1, 1)] stRun).proc 1 = 1
      ∧ (withRegs [(0x2050, 1, 1)] stRun).fw.noDdr = false ∧ ({ fwReset with noDdr := true } : FwSt).noDdr = true)
    ∧ ((withRegs [(0x2050, 1, 2)] stRun).reg 0x2050 1 = 2 ∧ (withRegs [(0x2050, 1, 2)] stRun).proc 2 = 1)
    ∧ ((stFw 1 0).live = true ∧ (stFw 1 0).proc 4 = 1 ∧ klook (stFw 1 0).fw.watchdog 4 = some 0
      ∧ 0 + msCycles (wdtMs 4) ≤ max (stFw 1 0).now 1000000000)
    ∧ ((stFw 2 3).proc 4 = 2 ∧ 3 ≤ (stFw 2 3).recentRestarts 4 ∧ (stFw 2 1).recentRestarts 4 < 3
      ∧ klook ({ stFw 2 1 with fw := { (stFw 2 1).fw with dumpDue := [] } } : State).fw.dumpDue 4 = none
      ∧ ({ stFw 2 1 with fw := { (stFw 2 1).fw with images := [(4, zeros 24 ++ sha256 [] ++ zeros 72)] } } : State).copyGood 4 = true
      ∧ (stFw 2 1).copyGood 4 = false)
    ∧ (4 ≤ 1 ∨ (stFw 2 1).proc 0 = 1) ∧ klook (stFw 1 0).fw.dumpDue 4 = some 1
    ∧ (stRun.reg 0x2050 1 ≠ 1 ∧ max (stFw 1 0).now 0 < 0 + msCycles (wdtMs 4) ∧ (stFw 2 1).proc 4 ≠ 1 ∧ (stFw 1 0).proc 4 ≠ 2
      ∧ 1 < 4 ∧ (withRegs [(0x2060, 1, 2)] (stFw 2 1)).proc 0 ≠ 1) := by and_intros <;> decide +kernel

/-! ### Values that the manual works out, and single steps -/

/-- What a command leaves. -/
def after (c : Instr) (s : State) : State :=
  match exec c s with
  | .next s' => s'
  | _ => s

/-- The worked requantisation of R109: 23,781 saturates to 127 and sets OUT_SAT; with QSHIFT 44 the output is 88. -/
theorem test_requant : convertAcc 1 0 false 0 (-5) { bias := uns 32 (-48576), mult := 1717986918, shift := 36 } (.i 1000000) = (127, 2)
    ∧ convertAcc 1 0 false 0 (-5) { bias := uns 32 (-48576), mult := 1717986918, shift := 44 } (.i 1000000) = (88, 0) := by decide +kernel
/-- The worked MATMUL of chapter 04: 8,296 cycles. -/
theorem test_matmulCycles : todCycles (words [(0, 0x101), (4, 0x1000100), (5, 0x1110400)]) 0 0 false = 8296 := by decide +kernel
/-- Rows 4,100 and 4,101 lie in sub-banks 0 and 1 (chapter 05). -/
theorem test_subBank : subBank 4100 = 0 ∧ subBank 4101 = 1 := by decide +kernel
/-- CRC-32 of the nine digits is the polynomial's published check value, and SHA-256 of three letters FIPS 180-4's. -/
theorem test_crc : crc32 [0x31, 0x32, 0x33, 0x34, 0x35, 0x36, 0x37, 0x38, 0x39] = 0xCBF43926 := by decide +kernel
theorem test_sha : beNat (sha256 [0x61, 0x62, 0x63]) = 0xba7816bf8f01cfea414140de5dae2223b00361a396177a9cb410ff61f20015ad := by decide +kernel

/-- Handle 7 of TC28 as in the example of chapter 05. -/
def stPad28 : State :=
  stTick.setPad 28 { pad0 with handles := [(7, { handle0 with bound := true, base := 4096, count := 256, guard := true })] }
/-- E0 reads row 4,100 while DW writes it: the conflict counts, and the guard log latches the row (chapter 05). -/
theorem test_padConflict :
    (after (.scratchpadRequest 300 28 [{ port := 0, handle := 7, gen := 0, kind := .wideRead 4 },
      { port := 3, handle := 7, gen := 0, kind := .wideWrite 4 (List.replicate 256 (some 1)) }]) stPad28).reg 0x511C 1 = 1
    ∧ (after (.scratchpadRequest 300 28 [{ port := 0, handle := 7, gen := 0, kind := .wideRead 4 },
      { port := 3, handle := 7, gen := 0, kind := .wideWrite 4 (List.replicate 256 (some 1)) }]) stPad28).reg 0x511C 10 % 65536 = 4100 := by
  decide +kernel
/-- The internal generator's edge comes 8,333,333 cycles after the last one, and no sooner (R30, R35). -/
theorem test_tickEdge : stTick.innerDue = 8333433 ∧ (stTick.countTick 8333433 0 false).reg 0x2001 3 = 8333333 := by decide +kernel
theorem test_tickEdgeNotYet : (after (.tickEdge 8333432 cool) stTick).tickCount = 0 := by decide +kernel
/-- A TICK_IN edge before 99 % of the period is ignored and counted (R31). -/
theorem test_tickInEarly : (after (.tickInEdge 8250095 true cool) (stSrc 1)).tickCount = 0
    ∧ (after (.tickInEdge 8250095 true cool) (stSrc 1)).reg 0x2001 6 = 1 := by decide +kernel
/-- A mailbox request of an idle mailbox waits; one more is an overrun (R359). -/
theorem test_reqSeq : ((after (.reqSeq 0 0 7) (stFn fn0)).fnSt 0).mbState = 1
    ∧ ((after (.reqSeq 0 0 8) (stFn { fn0 with mbState := 1 })).fnSt 0).overrun = true := by decide +kernel
/-- One module trained gives the link a width of 64; the second one, 128 at the lower rate (R348). -/
theorem test_moduleTrained : (after (.ucieModuleTrained 0 0 2) (stLinkIn 1 link0)).reg 0x1100 4 = 64
    ∧ (after (.ucieModuleTrained 0 1 1) (stLinkIn 3 { link0 with u0 := some 2 })).reg 0x1100 4 = 128
    ∧ (after (.ucieModuleTrained 0 1 1) (stLinkIn 3 { link0 with u0 := some 2 })).reg 0x1100 3 = 1 := by decide +kernel
/-- Bus-off counts, and the controller is BUS_OFF until its delay has passed (R369). -/
theorem test_busOff : (after (.canBusOff 9 256) stCan).reg 0x1110 9 = 3 ∧ (after (.canBusOff 9 256) stCan).reg 0x1110 12 = 1 := by decide +kernel
/-- A read slot of DMA0's network port takes the channel's first 64 bytes (R205, R217). -/
theorem test_dmaIssue : ((after (.dmaRequestIssue 300 0) (stChan 4 { chan0 with live := [descA 0 0] })).chan 0 0).reqs.map (fun r => r.len) = [64] := by
  decide +kernel
/-- In Run-Test/Idle TMS 1 goes to Select-DR-Scan. -/
theorem test_tap : (after (.jtagTapClock 0 true false true) { State.reset with jtag := { State.reset.jtag with tap := 1 } }).jtag.tap = 2 := by
  decide +kernel
/-- A trip stops the die (R478). -/
theorem test_trip : (after (.thermalTrip 5 3) stRun).stopped = true := by decide +kernel

end Sys2Proof.Tests
end

section
/-! PROOFS. A die that does not run, and a die that RESET_N low holds in reset (R12, R475, R478). -/

namespace Sys2Proof.Machine

variable {s s' s'' : State}

/-! ### One step, by the queue -/

theorem step_of_pending_nil (hp : s.pending = []) : step s = .next { s with now := s.now + 1 } := by
  simp [step, hp]

theorem step_of_pending_cons {c : Instr} {rest : List Instr} (hp : s.pending = c :: rest) :
    step s = exec c { s with pending := rest } := by
  simp [step, hp]

/-! ### What stands still while the die does not run -/

/-- `s'` is `s` but for time, the level seen on TICK_IN, the TAP and draws of free values: `Frozen`, with the queue as it was. -/
def StandsStill (s s' : State) : Prop := Frozen s s' ∧ s'.pending = s.pending

theorem StandsStill.refl (s : State) : StandsStill s s := ⟨rfl, rfl⟩

theorem StandsStill.trans (h : StandsStill s s') (h' : StandsStill s' s'') : StandsStill s s'' := by
  obtain ⟨hf, hp⟩ := h
  obtain ⟨hf', hp'⟩ := h'
  refine ⟨?_, hp'.trans hp⟩
  unfold Frozen at hf hf' ⊢
  rw [hf] at hf'
  exact hf'

theorem State.at_standsStill (s : State) (t : Nat) : StandsStill s (s.at t) := ⟨rfl, rfl⟩

theorem State.tickIn_standsStill (s : State) (level : Bool) :
    StandsStill s { s with tick := { s.tick with tickIn := level } } := ⟨rfl, rfl⟩

theorem State.jtag_standsStill (s : State) (j : JtagSt) : StandsStill s { s with jtag := j } := ⟨rfl, rfl⟩

theorem State.draw_standsStill (s : State) : StandsStill s s.draw.2 := ⟨rfl, rfl⟩

/-- Capture-DR draws the levels on the pins where the boundary register is selected, and nothing else. -/
theorem State.captureDr_standsStill (s : State) : StandsStill s s.captureDr.1 := by
  unfold State.captureDr
  split_ifs
  · exact .refl s
  · exact s.draw_standsStill
  · exact .refl s

/-- What `whileLive` answers on a die that does not run: time moves on, and the effect `x` does not come (log 3). -/
theorem ifLive_standsStill (hl : s.live = false) (t : Nat) (x : State) : StandsStill s (if s.live then x else s.at t) := by
  rw [hl]
  exact s.at_standsStill t

/-- The level on TICK_IN is seen whether the die runs or not. -/
theorem execTickInEdge_standsStill (hl : s.live = false) (t : Nat) (level : Bool) (env : Readings) :
    ∃ s', execTickInEdge t level env s = .next s' ∧ StandsStill s s' :=
  ⟨_, rfl, (s.tickIn_standsStill level).trans
    (ifLive_standsStill (s := { s with tick := { s.tick with tickIn := level } }) hl t _)⟩

/-- The TAP runs whether the die runs or not, and leaves everything else alone but for the draw of Capture-DR. -/
theorem execJtagTapClock_standsStill (t : Nat) (tms tdi trstN : Bool) (s : State) :
    ∃ s', execJtagTapClock t tms tdi trstN s = .next s' ∧ StandsStill s s' := by
  have hat := s.at_standsStill t
  unfold execJtagTapClock
  split
  · exact ⟨_, rfl, hat.trans ((s.at t).jtag_standsStill _)⟩
  · refine ⟨_, rfl, .trans ?_ (State.jtag_standsStill _ _)⟩
    split_ifs
    · exact hat
    · exact hat.trans (s.at t).captureDr_standsStill
    all_goals exact hat

/-- On a die that does not run no command but an edge of RESET_N moves more than `StandsStill` admits (R478, R496). -/
theorem exec_standsStill (hl : s.live = false) (i : Instr) (hi : resetEdge i = false) :
    ∃ s', exec i s = .next s' ∧ StandsStill s s' := by
  cases i with
  | resetNAssert t => cases hi
  | resetNRelease t => cases hi
  | tickInEdge t level env => exact execTickInEdge_standsStill hl t level env
  | jtagTapClock t tms tdi trstN => exact execJtagTapClock_standsStill t tms tdi trstN s
  | _ => exact ⟨_, rfl, ifLive_standsStill hl _ _⟩

/-! ### The die held in reset -/

theorem HeldInReset.not_live (h : HeldInReset s) : s.live = false := by
  obtain ⟨hs, -⟩ := h
  rw [hs]
  rfl

theorem HeldInReset.of_standsStill (h : HeldInReset s) (hs : StandsStill s s') : HeldInReset s' := by
  obtain ⟨hr, hq⟩ := h
  obtain ⟨hf, hp⟩ := hs
  refine ⟨?_, hp ▸ hq⟩
  unfold Frozen at hf
  rw [hf, hr]

theorem State.tornFlash_pending (s : State) : s.tornFlash.pending = s.pending := by
  unfold State.tornFlash
  split
  · rfl
  · dsimp only
    split_ifs <;> rfl

/-- RESET_N falling leaves a die held in reset, whatever its state was, where no release waits (R475). -/
theorem execResetNAssert_heldInReset (t : Nat) (hq : s.pending.all (fun i => !releases i) = true) :
    ∃ s', execResetNAssert t s = .next s' ∧ HeldInReset s' := by
  refine ⟨_, rfl, rfl, ?_⟩
  rw [State.tornFlash_pending]
  exact hq

/-- Every command but a release of RESET_N finds a die held in reset and leaves it so (R12, R475). -/
theorem HeldInReset.exec_next (h : HeldInReset s) {i : Instr} (hi : releases i = false) :
    ∃ s', exec i s = .next s' ∧ HeldInReset s' := by
  cases hr : resetEdge i with
  | false =>
    obtain ⟨s', he, hs⟩ := exec_standsStill h.not_live i hr
    exact ⟨s', he, h.of_standsStill hs⟩
  | true =>
    cases i with
    | resetNAssert t => exact execResetNAssert_heldInReset t h.2
    | resetNRelease t => cases hi
    | _ => cases hr

/-- The command at the front of a held die's queue is no release of RESET_N, and without it the die is held all the same. -/
theorem HeldInReset.front {c : Instr} {rest : List Instr} (h : HeldInReset s) (hp : s.pending = c :: rest) :
    releases c = false ∧ HeldInReset { s with pending := rest } := by
  obtain ⟨hs, hq⟩ := h
  rw [hp, List.all_cons, Bool.and_eq_true, Bool.not_eq_true'] at hq
  obtain ⟨hc, hrest⟩ := hq
  refine ⟨hc, ?_, hrest⟩
  rw [hs]

/-- Settles O7: an idle cycle moves time alone; a command at the front is no release of RESET_N, and any other leaves the die held. -/
theorem dieHeldInResetKeepsItsResetValues : Obligations.DieHeldInResetKeepsItsResetValues := by
  intro s s' h he
  cases hp : s.pending with
  | nil =>
    rw [step_of_pending_nil hp] at he
    cases he
    exact h.of_standsStill ⟨rfl, rfl⟩
  | cons c rest =>
    obtain ⟨hc, hfront⟩ := h.front hp
    obtain ⟨s'', he', hs''⟩ := hfront.exec_next hc
    rw [step_of_pending_cons hp, he'] at he
    cases he
    exact hs''

end Sys2Proof.Machine
end

section
/-! PROOFS. What a command does while the die runs. -/

namespace Sys2Proof.Machine

/-- While the die runs a command moves time on, and its effect follows (log 1, log 3). -/
theorem whileLive_of_live {s : State} (hl : s.live = true) (t : Nat) (f : State → State) : whileLive t s f = .next (f (s.at t)) := by
  simp [whileLive, hl]

end Sys2Proof.Machine
end

section
/-! PROOFS. The ports of a scratchpad and narrow accesses to it over the network (R16, R133, R144, R147, R148). -/

namespace Sys2Proof.Machine

variable {s : State}

/-! ### The scratchpad: rows, cycles, requests -/

/-- A row reads by the stored bytes and the valid bits alone. -/
theorem PadSt.readRow_congr {p p' : PadSt} (hc : p'.cells = p.cells) (hv : p'.valid = p.valid) (diag : Bool) (fill r : Nat) :
    p'.readRow diag fill r = p.readRow diag fill r := by
  unfold PadSt.readRow PadSt.isValid PadSt.storedWord
  rw [hc, hv]

@[simp] theorem State.countValid_pads (c : Nat) : (s.countValid c).pads = s.pads := rfl
@[simp] theorem State.countValid_ddr (c : Nat) : (s.countValid c).ddr = s.ddr := rfl
@[simp] theorem State.countValid_pad (c d : Nat) : (s.countValid c).pad d = s.pad d := rfl

theorem PadSt.openCycle_of_ne {p : PadSt} {k : Nat} (h : p.cycle ≠ k) :
    p.openCycle k = { p with cycle := k, served := [], taken := [], counted := false, waited := false, guarded := [] } := if_neg h

theorem State.padServe_of_clearing {c : Nat} (h : s.padClearing c = true) (xs : List PadHeld) :
    s.padServe c xs = xs.foldl (fun v x => v.holdPad c x) s := by simp [State.padServe, h]

theorem State.padServe_of_not_clearing {c : Nat} (h : s.padClearing c = false) (xs : List PadHeld) :
    s.padServe c xs = (xs.foldl (fun v x => v.servePad c x) (s.padRun c)).padCycle c := by simp [State.padServe, h]

theorem State.padRun_of_pend_nil {c : Nat} (h : (s.pad c).pend = []) : s.padRun c = s := by
  simp [State.padRun, h, State.padCycles]

/-! ### The cycle of one wide read alone -/

theorem standsBack_alone (q : PadPend) : standsBack [q] [] q = false := by
  simp [standsBack, meets]

theorem State.noteGroups_nil (c : Nat) : s.noteGroups c [] = s.setPad c (s.pad c) := by
  simp [State.noteGroups]

/-- A wide read of row `off` that the user of a port has presented. -/
structure FreshWideRead (q : PadPend) (off : Nat) : Prop where
  kind : q.req.kind = .wideRead off
  src : q.src = .port
  port : q.req.port.val < 5

/-- The wide read of row `off` as its port holds it until a cycle serves it. -/
def PadPend.wideRead (r : PadReq) (h : HandleE) (off : Nat) : PadPend :=
  { req := r, src := .port, entry := h, lost := 0, deferred := false, left := [off], got := [] }

theorem PadPend.wideRead_fresh {r : PadReq} {off : Nat} (hk : r.kind = .wideRead off) (hp : r.port.val < 5) (h : HandleE) :
    FreshWideRead (.wideRead r h off) off := ⟨hk, rfl, hp⟩

theorem port_lt_of_wideRead {port off : Nat} (h : portAllows port (.wideRead off) = true) : port < 5 := by
  simp only [portAllows, Bool.or_eq_true, decide_eq_true_eq] at h
  omega

theorem PadSt.heads_alone {p : PadSt} {q : PadPend} {off : Nat} (h : FreshWideRead q off) (hp : p.pend = [q]) (hs : p.served = []) :
    p.heads = [q] := by
  obtain ⟨-, hsrc, hport⟩ := h
  have hv : q.req.port.val = 0 ∨ q.req.port.val = 1 ∨ q.req.port.val = 2 ∨ q.req.port.val = 3 ∨ q.req.port.val = 4 := by omega
  unfold PadSt.heads
  rcases hv with h | h | h | h | h <;> simp [hp, hs, PadPend.own, hsrc, h, List.range_succ]

theorem rowGroups_read {q : PadPend} {off : Nat} (h : FreshWideRead q off) : rowGroups [q] = [] := by
  simp [rowGroups, PadPend.writes, padWrites, h.kind]

theorem PadRound.turn_alone {p : PadSt} {q : PadPend} {off : Nat} (h : FreshWideRead q off) (k : Nat) :
    PadRound.turn p k [q] [] { waits := [], served := [], taken := [] } q
      = { waits := [], served := [q], taken := q.pairs p } := by
  simp [PadRound.turn, standsBack_alone, h.kind, pairBusy]

theorem State.padCycle_alone {c off : Nat} {q : PadPend} (h : FreshWideRead q off) (hp : (s.pad c).pend = [q]) (hc : (s.pad c).cycle ≠ s.now) :
    klook ((s.padCycle c).pad c).replies q.req.port.val
        = some { status := stOk, bytes := (s.pad c).readRow q.entry.diag q.entry.fill (q.entry.base + off) }
      ∧ ((s.padCycle c).pad c).cells = (s.pad c).cells ∧ (s.padCycle c).ddr = s.ddr := by
  have ho := PadSt.openCycle_of_ne hc
  have hh : ((s.pad c).openCycle s.now).heads = [q] := PadSt.heads_alone h (by rw [ho, hp]) (by rw [ho])
  have hs : ((s.pad c).openCycle s.now).served = [] := by rw [ho]
  have ht : ((s.pad c).openCycle s.now).taken = [] := by rw [ho]
  unfold State.padCycle State.padCycleAt
  simp only [State.pad_setPad_same, hh, hs, ht, List.foldr_cons, List.foldr_nil, insertRank, List.append_nil, rowGroups_read h,
    State.noteGroups_nil, List.foldl_cons, List.foldl_nil, PadRound.turn_alone h]
  simp [h.kind, h.src, State.padAnswer, PadSt.serve, ho]
  exact PadSt.readRow_congr rfl rfl _ _ _

/-- A wide read through a handle in force, within its rows and of a row in place, is presented and waits for its turn (R133, R141). -/
theorem State.presentPad_wideRead {c off : Nat} {r : PadReq} (hk : r.kind = .wideRead off) (hp : portAllows r.port.val (.wideRead off) = true)
    (hh : handleCheck ((s.pad c).handle r.handle.val) r.gen.toNat = stOk) (ho : off < ((s.pad c).handle r.handle.val).count)
    (hw : s.rowWithdrawn c (((s.pad c).handle r.handle.val).base + off) = false) :
    s.presentPad c r
      = s.setPad c { s.pad c with pend := (s.pad c).pend ++ [.wideRead r ((s.pad c).handle r.handle.val) off] } := by
  have hb : ¬ ((s.pad c).handle r.handle.val).count ≤ off := by omega
  simp [State.presentPad, State.present, PadPend.wideRead, padOffs, hk, hp, hh, hb, ho, hw]

/-- Such a read, alone in a fresh cycle of ports without a request, is answered with the row's bytes (R133, R145). -/
theorem State.padCycle_presentPad_wideRead {c off : Nat} {r : PadReq} {h : HandleE} (hpend : (s.pad c).pend = []) (hc : (s.pad c).cycle ≠ s.now)
    (hk : r.kind = .wideRead off) (hp : portAllows r.port.val r.kind = true) (hh : h = (s.pad c).handle r.handle.val)
    (hcheck : handleCheck h r.gen.toNat = stOk) (ho : off < h.count) (hw : s.rowWithdrawn c (h.base + off) = false) :
    klook (((s.presentPad c r).padCycle c).pad c).replies r.port.val
        = some { status := stOk, bytes := (s.pad c).readRow h.diag h.fill (h.base + off) }
      ∧ (((s.presentPad c r).padCycle c).pad c).cells = (s.pad c).cells ∧ ((s.presentPad c r).padCycle c).ddr = s.ddr := by
  subst hh
  rw [hk] at hp
  have hfresh := PadPend.wideRead_fresh hk (port_lt_of_wideRead hp) ((s.pad c).handle r.handle.val)
  rw [State.presentPad_wideRead hk hp hcheck ho hw, hpend, List.nil_append]
  obtain ⟨hr, hcells, hddr⟩ := State.padCycle_alone (s := s.setPad c { s.pad c with pend := [.wideRead r _ off] }) hfresh
    (by rw [State.pad_setPad_same]) (by rw [State.pad_setPad_same]; exact hc)
  rw [State.pad_setPad_same] at hr hcells
  refine ⟨hr.trans ?_, hcells, hddr⟩
  rw [PadSt.readRow_congr rfl rfl]
  rfl

/-! ### The commands of a scratchpad -/

theorem exec_scratchpadRequest (hl : s.live = true) (t : Nat) (c : CoreId) (l : List PadReq) :
    exec (.scratchpadRequest t c l) s = .next ((s.at t).padServe c.val (l.map .port)) :=
  whileLive_of_live hl t fun v => v.padServe c.val (l.map .port)

/-- The end of a clear at its cycle, and before it. -/
theorem exec_rowValidClearDone (hl : s.live = true) (t : Nat) (c : CoreId) {e : Nat} (he : (s.pad c.val).clearAt = some e) :
    exec (.rowValidClearDone t c) s = .next (if max s.now t < e then s.at t
      else ((s.pad c.val).held.foldl (fun v x => v.serveHeld c.val x)
        ((s.at t).setPad c.val { s.pad c.val with clearAt := none, held := [] })).padCycle c.val) := by
  have hat : ((s.at t).pad c.val).clearAt = some e := he
  show execRowValidClearDone t c s = _
  unfold execRowValidClearDone
  rw [whileLive_of_live hl, hat]
  rfl

theorem exec_rowValidClearDone_none (hl : s.live = true) (t : Nat) (c : CoreId) (he : (s.pad c.val).clearAt = none) :
    exec (.rowValidClearDone t c) s = .next (s.at t) := by
  have hat : ((s.at t).pad c.val).clearAt = none := he
  show execRowValidClearDone t c s = _
  unfold execRowValidClearDone
  rw [whileLive_of_live hl, hat]

/-- Does the firewall let initiator `i` through to a handle of core `c` (R147, R406)? -/
def State.narrowOpen (s : State) (i tag c : Nat) : Bool :=
  privileged i || ((s.corePart c).isSome && decide (s.corePart c = s.tagOf i tag))

theorem exec_remoteNarrowRequest (hl : s.live = true) (t : Nat) (i : BitVec 8) (tag : Part) (c : CoreId) (h : Fin 64) (gen : BitVec 12)
    (off : Nat) (a : Access) :
    exec (.remoteNarrowRequest t i tag c h gen off a) s
      = .next (if hasNarrowPath i.toNat = false then { (s.at t) with netReply := { status := stAccessDenied, bytes := zeros 8 } }
          else if s.narrowOpen i.toNat tag.val c.val then (s.at t).padServe c.val [.narrow h.val gen.toNat off a]
          else (s.at t).narrowRefuse i.toNat tag.val 1 c.val a) := by
  show execRemoteNarrowRequest t i tag c h gen off a s = _
  unfold execRemoteNarrowRequest
  simp only [whileLive_of_live hl, Bool.not_eq_true']
  rfl

theorem exec_rawNarrowAccess (hl : s.live = true) (t : Nat) (i : BitVec 8) (c : CoreId) (word : Nat) (a : Access) :
    exec (.rawNarrowAccess t i c word a) s
      = .next (if hasNarrowPath i.toNat = false then { (s.at t) with netReply := { status := stAccessDenied, bytes := zeros 8 } }
          else if privileged i.toNat = false then (s.at t).narrowRefuse i.toNat 0 2 c.val a
          else if 327680 ≤ word then s.at t else (s.at t).padServe c.val [.raw word a]) := by
  show execRawNarrowAccess t i c word a s = _
  unfold execRawNarrowAccess
  simp only [whileLive_of_live hl, Bool.not_eq_true']

/-- A refusal answers zeros and counts in OD 51cc.04; it reaches no scratchpad and no byte of LPDDR5. -/
theorem State.narrowRefuse_spec (s : State) (i tag kind : Nat) (c : CoreId) (a : Access) :
    (s.narrowRefuse i tag kind c.val a).netReply = { status := stAccessDenied, bytes := zeros 8 }
      ∧ (s.narrowRefuse i tag kind c.val a).reg (0x5100 + c.val) 4 = satAdd 64 (s.reg (0x5100 + c.val) 4) 1
      ∧ (s.narrowRefuse i tag kind c.val a).pads = s.pads ∧ (s.narrowRefuse i tag kind c.val a).ddr = s.ddr := by
  have hc := c.isLt
  refine ⟨rfl, ?_, rfl, rfl⟩
  refine (State.reg_bump_same _ 64 _ 4 1).trans ?_
  unfold State.firewallRefuse
  rw [State.reg_setReg_other _ (okey_ne_of_idx (by omega) (by omega) (by omega) (by omega) (by omega)),
    State.reg_bump_other _ (okey_ne_of_idx (by omega) (by omega) (by omega) (by omega) (by omega))]

theorem hasNarrowPath_of_privileged {i : Nat} (h : privileged i = true) : hasNarrowPath i = true := by
  simp only [privileged, hasNarrowPath, Bool.or_eq_true, Bool.and_eq_true, decide_eq_true_eq] at h ⊢
  omega

/-- Settles O39, row by row. -/
theorem scratchpadsServeTheirPortsAndNarrowAccesses : Obligations.ScratchpadsServeTheirPortsAndNarrowAccesses := by
  refine ⟨?_, ?_, ?_, ?_, ?_, ?_, ?_, ?_, ?_, ?_, ?_, ?_⟩
  · rintro t c l s u rfl hl h
    rw [exec_scratchpadRequest hl, State.padServe_of_clearing h, List.foldl_map]
  · rintro t c l s u rfl hl h
    rw [exec_scratchpadRequest hl, State.padServe_of_not_clearing h, List.foldl_map]
    rfl
  · rintro t off c r s u h rfl hl hclear hpend hcycle hk hport hh hcheck hoff hrow
    refine ⟨_, exec_scratchpadRequest hl t c [r], ?_⟩
    rw [State.padServe_of_not_clearing hclear, State.padRun_of_pend_nil (s := s.at t) hpend]
    exact State.padCycle_presentPad_wideRead (s := s.at t) hpend hcycle hk hport hh hcheck hoff hrow
  · rintro t e c s u rfl hl he
    rw [exec_rowValidClearDone hl t c he]
    exact ⟨fun h => by rw [if_neg (by omega)], fun h => by rw [if_pos h]⟩
  · exact fun t c s hl he => exec_rowValidClearDone_none hl t c he
  · rintro t i tag c h gen off a s u rfl hl hn ho
    have hopen : s.narrowOpen i.toNat tag.val c.val = true := by simpa [State.narrowOpen] using ho
    rw [exec_remoteNarrowRequest hl, if_neg (by simp [hn]), if_pos hopen]
  · intro t i tag c h gen off a s hl hn hp ho
    have hshut : s.narrowOpen i.toNat tag.val c.val = false := by
      rcases ho with ho | ho <;> simp [State.narrowOpen, hp, ho]
    refine ⟨_, exec_remoteNarrowRequest hl t i tag c h gen off a, ?_⟩
    rw [hn, hshut]
    exact (s.at t).narrowRefuse_spec i.toNat tag.val 1 c a
  · intro t i tag c h gen off a s hl hn
    rw [exec_remoteNarrowRequest hl, if_pos hn]
  · rintro t word i c a s u rfl hl hp hw
    rw [exec_rawNarrowAccess hl, hasNarrowPath_of_privileged hp, hp, if_neg (by simp), if_neg (by simp), if_neg (by omega)]
  · intro t word i c a s hl hn hp
    refine ⟨_, exec_rawNarrowAccess hl t i c word a, ?_⟩
    rw [hn, if_pos hp]
    exact (s.at t).narrowRefuse_spec i.toNat 0 2 c a
  · intro t word i c a s hl hn
    rw [exec_rawNarrowAccess hl, if_pos hn]
  · intro i tag s
    refine ⟨fun h => if_pos h, fun h h' => ?_⟩
    unfold State.tagOf
    rw [if_neg (by omega), if_pos ⟨h, h'⟩]

end Sys2Proof.Machine
end

section
/-! PROOFS. A result record written, and the checker: pairs judged, the verdict, its absence, a fault and a lapse (R25, R366, R367, R429–R439). -/

namespace Sys2Proof.Machine

variable (s : State)

/-! ### A result record written -/

theorem State.writeResult_reports (fn : Nat) (b : List Byte) : ReportsOnly s (s.writeResult fn b) := by
  unfold State.writeResult
  dsimp only
  split
  · exact (s.hostWrite_reports fn _ _).trans ((State.setFn_reports _ fn _).trans (State.fireLater_reports _ fn 4))
  · exact (s.setFn_reports fn _).trans (State.bumpF_reports _ 32 fn _ _ _)

/-- Of the number objects a result record writes OD 1105.04 alone. -/
theorem State.regF_writeResult {g idx sub : Nat} (h : idx ≠ 0x1105) (hi : idx < 65536) (hs : sub < 256) (fn : Nat) (b : List Byte) :
    (s.writeResult fn b).regF g idx sub = s.regF g idx sub := by
  unfold State.writeResult
  dsimp only
  split
  · rw [State.regF_fireLater, State.regF_setFn, State.regF_hostWrite]
  · rw [State.regF_bumpF_other _ (okey_ne_of_idx h hi (by omega) hs (by omega)), State.regF_setFn]

/-! ### SAFE_N and the held records -/

@[simp] theorem State.driveSafe_false_reg : (s.driveSafe false).reg 0x7000 5 = 0 := State.reg_setReg_same _ _ _ _
@[simp] theorem State.driveSafe_safeN (high : Bool) : (s.driveSafe high).umbra.safeN = high := by cases high <;> rfl
@[simp] theorem State.driveSafe_missing (high : Bool) : (s.driveSafe high).umbra.missing = s.umbra.missing := by cases high <;> rfl
@[simp] theorem State.driveSafe_halted (high : Bool) : (s.driveSafe high).umbra.halted = s.umbra.halted := by cases high <;> rfl

theorem State.reg_driveSafe_other (high : Bool) {idx sub : Nat} (h : okey 0 idx sub ≠ okey 0 0x7000 5) :
    (s.driveSafe high).reg idx sub = s.reg idx sub := State.reg_setReg_other _ h

/-- The records of a release leave the hold, and of the checker's state nothing else changes. -/
theorem State.releaseHeld_umbra (mine : HeldResult → Bool) (all : Bool) :
    (s.releaseHeld mine all).umbra = { s.umbra with held := s.umbra.held.filter (fun h => !mine h) } := by
  unfold State.releaseHeld
  exact (ReportsOnly.foldl _ (fun u (_ : HeldResult) => u.writeResult_reports _ _) _ _).umbra

theorem State.reg_releaseHeld {idx sub : Nat} (h : idx ≠ 0x1105) (hi : idx < 65536) (hs : sub < 256) (mine : HeldResult → Bool) (all : Bool) :
    (s.releaseHeld mine all).reg idx sub = s.reg idx sub := by
  unfold State.releaseHeld
  exact List.foldlRecOn _ _ (motive := fun u : State => u.reg idx sub = s.reg idx sub) rfl
    fun u hu _ _ => (u.regF_writeResult h hi hs _ _).trans hu

@[simp] theorem State.verdictFault_umbra (source tick : Nat) : (s.verdictFault source tick).umbra = s.umbra := s.raiseEvent_umbra _ _ _ _ _ _

theorem State.reg_verdictFault {idx sub : Nat} (h : idx ≠ 0x1104) (h' : idx ≠ 0x1111) (h'' : idx ≠ 0x2054) (hi : idx < 65536) (hs : sub < 256)
    (source tick : Nat) : (s.verdictFault source tick).reg idx sub = s.reg idx sub := s.regF_raiseEvent h h' h'' hi hs

/-! ### The commands of the checker -/

section
variable {s}

/-- A pair of a section that the checker holds is judged once both its nodes have ended and no glint check is open (R25, R429). -/
theorem exec_pairJudge (hl : s.live = true) (t : Nat) (p : Part) (pair : Nat) {pl : Plan} {old : Bool} {sec : List Byte}
    (hj : (s.at t).judging p.val = some (pl, old, sec)) :
    exec (.pairJudge t p pair) s = .next (if (s.at t).checkerOn = true ∧ s.umbra.published = false
        ∧ ((s.at t).judgeTask p.val old (outPair sec pair).primary).any Task.ended = true
        ∧ ((s.at t).judgeTask p.val old (outPair sec pair).copy).any Task.ended = true
        ∧ (s.at t).dependsOpen (outPair sec pair).depends = false
      then ((s.at t).judgePair p.val pair).judgeEnd else s.at t) := by
  show execPairJudge t p pair s = _
  unfold execPairJudge
  rw [whileLive_of_live hl, hj]
  refine congrArg _ (if_congr ?_ rfl rfl)
  dsimp only
  cases (s.at t).judgeTask p.val old (outPair sec pair).primary <;> cases (s.at t).judgeTask p.val old (outPair sec pair).copy <;>
    simp [and_assoc]

/-- At the deadline every pair of the section is judged (R432). -/
theorem exec_verdictDeadline (hl : s.live = true) (t : Nat) (p : Part) {pl : Plan} {old : Bool} {sec : List Byte}
    (hj : (s.at t).judging p.val = some (pl, old, sec)) :
    exec (.verdictDeadline t p) s = .next (if (s.at t).checkerOn = true ∧ s.umbra.published = false ∧ (s.at t).edgeAt + markDeadline sec ≤ max s.now t
      then ((List.range (markCounts sec).1).foldl (fun v i => v.judgePair p.val i) (s.at t)).judgeEnd else s.at t) := by
  show execVerdictDeadline t p s = _
  unfold execVerdictDeadline
  rw [whileLive_of_live hl, hj]
  exact congrArg _ (if_congr (by simp [and_assoc]) rfl rfl)

theorem exec_verdictPublish (hl : s.live = true) (t : Nat) :
    exec (.verdictPublish t) s = .next (if (s.at t).checkerOn = true ∧ s.umbra.ready = true ∧ s.umbra.published = false
      then (s.at t).publishVerdict else s.at t) := by
  show execVerdictPublish t s = _
  unfold execVerdictPublish
  rw [whileLive_of_live hl]
  exact congrArg _ (if_congr (by simp [and_assoc]) rfl rfl)

/-- A tick that ended without its verdict, taken note of. -/
def State.missVerdict (s : State) (tick : Nat) : State :=
  ((State.driveSafe (State.bump { s with umbra := { s.umbra with missing := none } } 32 0x7001 4 1) false).verdictFault 4 tick).releaseHeld
    (fun h => decide (h.tick ≤ tick)) true

theorem exec_missingVerdict (hl : s.live = true) (t : Nat) :
    exec (.missingVerdict t) s = .next (match s.umbra.missing with
      | none => s.at t
      | some k => (s.at t).missVerdict k) :=
  whileLive_of_live hl t fun v => match v.umbra.missing with
    | none => v
    | some k => v.missVerdict k

theorem exec_checkerFault (hl : s.live = true) (t : Nat) (x : Fin 3) :
    exec (.checkerFault t x) s = .next ((s.at t).checkerFault (x.val + 1)) := whileLive_of_live hl t fun v => v.checkerFault (x.val + 1)

end

theorem State.missVerdict_spec (k : Nat) :
    (s.missVerdict k).umbra.missing = none ∧ (s.missVerdict k).umbra.safeN = false ∧ (s.missVerdict k).reg 0x7000 5 = 0
      ∧ (s.missVerdict k).reg 0x7001 4 = satAdd 32 (s.reg 0x7001 4) 1 ∧ (∀ h ∈ (s.missVerdict k).umbra.held, k < h.tick) := by
  unfold State.missVerdict
  refine ⟨?_, ?_, ?_, ?_, ?_⟩
  · simp [State.releaseHeld_umbra]
  · simp [State.releaseHeld_umbra]
  · rw [State.reg_releaseHeld _ (by decide) (by decide) (by decide),
      State.reg_verdictFault _ (by decide) (by decide) (by decide) (by decide) (by decide), State.driveSafe_false_reg]
  · rw [State.reg_releaseHeld _ (by decide) (by decide) (by decide),
      State.reg_verdictFault _ (by decide) (by decide) (by decide) (by decide) (by decide),
      State.reg_driveSafe_other _ _ (by decide), State.reg_bump_same]
    rfl
  · simp [State.releaseHeld_umbra]

theorem State.checkerFault_of_halted {source : Nat} (h : s.umbra.halted = true) : s.checkerFault source = s := by
  simp [State.checkerFault, h]

theorem State.checkerFault_halts {source : Nat} (h : s.umbra.halted = false) :
    (s.checkerFault source).umbra.halted = true ∧ (s.checkerFault source).umbra.safeN = false ∧ (s.checkerFault source).reg 0x7000 5 = 0 := by
  have hreg (v : State) (n : Nat) : ((v.driveSafe false).verdictFault source n).reg 0x7000 5 = 0 := by
    rw [State.reg_verdictFault _ (by decide) (by decide) (by decide) (by decide) (by decide), State.driveSafe_false_reg]
  unfold State.checkerFault
  rw [if_neg (by simp [h])]
  dsimp only
  split
  · exact ⟨by simp, by simp, hreg _ _⟩
  · refine ⟨by simp [State.releaseHeld_umbra], by simp [State.releaseHeld_umbra], ?_⟩
    rw [State.reg_releaseHeld _ (by decide) (by decide) (by decide), hreg]

/-! ### A lapse of the self-test -/

/-- Is core `c`, in service or spare in a partition with a marked plan, 100 ticks without a completed pass (R438)? -/
def State.lapsed (s : State) (p c : Nat) : Bool :=
  (s.planSt p).cur.any (fun pl => pl.marked && decide (s.planState p ≠ 0)) && decide (s.reg (0x5000 + c) 1 ≤ 1)
    && decide (max (s.core c).passAt (s.core c).lapseAt + 100 ≤ s.tickCount)

/-- A lapse on core `c` of partition `p`, counted and announced (R438). -/
def State.lapse (s : State) (p c : Nat) : State :=
  let v := s.setCore c { s.core c with lapseAt := s.tickCount }
  (State.bump { v with umbra := { v.umbra with selftest := true } } 32 (0x7100 + c) 4 1).raiseEvent 0x72 (some p) c
    (s.tickCount - (s.core c).passAt) (s.core c).cursor 0

theorem exec_selftestLapse {s : State} (hl : s.live = true) (t : Nat) (c : CoreId) {p : Nat} (hp : s.corePart c.val = some p) :
    exec (.selftestLapse t c) s = .next (if s.lapsed p c.val then (s.at t).lapse p c.val else s.at t) := by
  have hat : (s.at t).corePart c.val = some p := hp
  show execSelftestLapse t c s = _
  unfold execSelftestLapse
  rw [whileLive_of_live hl, hat]
  refine congrArg _ (if_congr ?_ rfl rfl)
  have hcur : ((s.at t).planSt p).cur = (s.planSt p).cur := rfl
  unfold State.lapsed
  rw [hcur]
  cases (s.planSt p).cur <;> rfl

theorem exec_selftestLapse_none {s : State} (hl : s.live = true) (t : Nat) (c : CoreId) (hp : s.corePart c.val = none) :
    exec (.selftestLapse t c) s = .next (s.at t) := by
  have hat : (s.at t).corePart c.val = none := hp
  show execSelftestLapse t c s = _
  unfold execSelftestLapse
  rw [whileLive_of_live hl, hat]

@[simp] theorem State.raiseEvent_core (c code : Nat) (part : Option Nat) (src x y z : Nat) :
    (s.raiseEvent code part src x y z).core c = s.core c := by
  unfold State.core
  rw [State.raiseEvent_cores]

theorem State.lapse_spec (p : Nat) (c : CoreId) :
    (s.lapse p c.val).umbra.selftest = true ∧ ((s.lapse p c.val).core c.val).lapseAt = s.tickCount
      ∧ (s.lapse p c.val).reg (0x7100 + c.val) 4 = satAdd 32 (s.reg (0x7100 + c.val) 4) 1 := by
  have hc := c.isLt
  unfold State.lapse
  refine ⟨by simp, ?_, ?_⟩
  · rw [State.raiseEvent_core]
    exact congrArg CoreSt.lapseAt (State.core_setCore_same _ _ _)
  · exact (State.regF_raiseEvent _ (by omega) (by omega) (by omega) (by omega) (by omega)).trans (State.reg_bump_same _ _ _ _ _)

/-- Settles O57: each command's equation, and what the missing verdict, the fault and the lapse leave. -/
theorem checkerJudgesPublishesAndHalts : Obligations.CheckerJudgesPublishesAndHalts := by
  refine ⟨?_, ?_, ?_, ?_, ?_, ?_, ?_, ?_⟩
  · rintro t pair p s u pl old sec rfl hl hj
    rw [exec_pairJudge hl t p pair hj, exec_verdictDeadline hl t p hj]
    refine ⟨?_, ?_, ?_, ?_, ?_, ?_⟩
    · intro a b hon hpub ha hae hb hbe hdep
      rw [if_pos ⟨hon, hpub, by rw [ha]; exact hae, by rw [hb]; exact hbe, hdep⟩]
    · intro a ha hae
      rw [if_neg (by simp [ha, hae])]
    · intro b hb hbe
      rw [if_neg (by simp [hb, hbe])]
    · intro h
      rw [if_neg (by rcases h with h | h | h <;> simp [h])]
    · intro hon hpub hat
      rw [if_pos ⟨hon, hpub, hat⟩]
    · rintro (h | h | h)
      · rw [if_neg (by simp [h])]
      · rw [if_neg (by simp [h])]
      · rw [if_neg fun ⟨_, _, hat⟩ => by omega]
  · rintro t s u rfl hl
    rw [exec_verdictPublish hl]
    refine ⟨fun hon hr hpub => by rw [if_pos ⟨hon, hr, hpub⟩], fun h => ?_⟩
    rw [if_neg (by rcases h with h | h | h <;> simp [h])]
  · intro t k s hl hm
    refine ⟨(s.at t).missVerdict k, ?_, (s.at t).missVerdict_spec k⟩
    rw [exec_missingVerdict hl, hm]
  · intro t s hl hm
    rw [exec_missingVerdict hl, hm]
  · intro t x s hl hh
    exact ⟨_, exec_checkerFault hl t x, (s.at t).checkerFault_halts hh⟩
  · intro t x s hl hh
    rw [exec_checkerFault hl, (s.at t).checkerFault_of_halted hh]
  · intro t p c s pl hl hp hcur hm hst hreg hlapse
    have h : s.lapsed p c.val = true := by simp [State.lapsed, hcur, hm, hst, hreg, hlapse]
    refine ⟨(s.at t).lapse p c.val, ?_, (s.at t).lapse_spec p c⟩
    rw [exec_selftestLapse hl t c hp, if_pos h]
  · intro t c s hl h
    cases hp : s.corePart c.val with
    | none => exact exec_selftestLapse_none hl t c hp
    | some p =>
      have hn : s.lapsed p c.val = false := by
        rcases h with h | h | h
        · simp [hp] at h
        · simp [State.lapsed, h]
        · simp [State.lapsed, h]
      rw [exec_selftestLapse hl t c hp, hn]
      rfl

end Sys2Proof.Machine
end

section
/-! PROOFS. Packets of a port act on the stream of their virtual channel, and a stream is lost (R18, R230, R232, R237–R239, R242). -/

namespace Sys2Proof.Machine

variable {s : State}

/-! ### A packet by the state of its port -/

/-- What a burst failed to sync on is counted in OD 203n.0B, which is not the port's state. -/
theorem State.portState_bumpSot (n : PortId) (k : Nat) : (s.bump 64 (0x2030 + n.val) 11 k).portState n.val = s.portState n.val :=
  State.reg_bump_other _ (okey_ne_of_sub (by decide) (by decide) (by decide))

theorem State.packet_acquiring {n : Nat} (h : s.portState n = 2) (pk : Packet) (long crcOk : Bool)
    (f : State → Nat → Option (Slot × BufRec) → State) :
    s.packet n pk long crcOk f = (s.bump 64 (0x2030 + n) 11 pk.sot.val).acquire n pk long crcOk := if_pos h

theorem State.packet_idle {n : Nat} (h : s.portState n ≠ 2) (h' : s.portState n ≠ 3) (pk : Packet) (long crcOk : Bool)
    (f : State → Nat → Option (Slot × BufRec) → State) : s.packet n pk long crcOk f = s := (if_neg h).trans (if_pos h')

/-- A packet of a LOCKED port that is for no stream leaves what `packetFor` counts. -/
theorem State.packet_none {n : Nat} {pk : Packet} {v : State} (h : s.portState n = 3)
    (hp : (s.bump 64 (0x2030 + n) 11 pk.sot.val).packetFor n pk = (v, none)) (long crcOk : Bool)
    (f : State → Nat → Option (Slot × BufRec) → State) : s.packet n pk long crcOk f = v := by
  simp [State.packet, h, hp]

/-- A packet of a LOCKED port acts on its stream. -/
theorem State.packet_some {n st : Nat} {pk : Packet} {v : State} {taking : Option (Slot × BufRec)} (h : s.portState n = 3)
    (hp : (s.bump 64 (0x2030 + n) 11 pk.sot.val).packetFor n pk = (v, some (st, taking))) (long crcOk : Bool)
    (f : State → Nat → Option (Slot × BufRec) → State) : s.packet n pk long crcOk f = f v st taking := by
  simp [State.packet, h, hp]

/-! ### What each packet does to its stream -/

/-- A Frame Start on a stream: its number is noted, and a frame opens where the stream is enabled and a plan takes it in (R242). -/
def State.startOn (fn : Nat) (v : State) (st : Nat) (taking : Option (Slot × BufRec)) : State :=
  let v := v.setStream st { v.stream st with fs := some fn }
  match taking with
  | some x => if v.reg (0x4000 + 0x40 * st) 1 = 1 then v.openFrame st fn x.1 x.2 else v
  | none => v

/-- A Frame End on a stream: the frame ends, and one whose Frame Start the port did not receive counts (R242, R245). -/
def State.endOn (fn : Nat) (v : State) (st : Nat) (_ : Option (Slot × BufRec)) : State :=
  let had := decide ((v.stream st).fs = some fn) || (v.stream st).cur.isSome
  let w := (v.setStream st { v.stream st with fs := none }).endFrame st .fe
  if had then w else w.bump 64 (stIdx st 2) 2 1

/-- A long packet on a stream: a line of the open frame, or of a data type that is not the stream's (R238, R239). -/
def State.lineOn (dt : Nat) (bs : List Byte) (ok : Bool) (v : State) (st : Nat) (taking : Option (Slot × BufRec)) : State :=
  if typeFits taking dt = false then v.bump 64 (stIdx st 2) 9 1
  else
    match (v.stream st).cur with
    | none => v
    | some f => v.takeLine st f bs ok

theorem exec_frameStart (hl : s.live = true) (t : Nat) (n : PortId) (pk : Packet) (fn : BitVec 16) (he : (s.at t).edgeDue = false) :
    exec (.frameStart t n pk fn) s = .next ((s.at t).packet n.val pk false true (State.startOn fn.toNat)) := by
  show execFrameStart t n pk fn s = _
  unfold execFrameStart
  rw [whileLive_of_live hl, he]
  rfl

theorem exec_frameStart_edge (hl : s.live = true) (t : Nat) (n : PortId) (pk : Packet) (fn : BitVec 16) (he : (s.at t).edgeDue = true) :
    exec (.frameStart t n pk fn) s = .next ((s.at t).setPort n.val { s.port n.val with early := (s.port n.val).early ++ [(pk, fn)] }) := by
  show execFrameStart t n pk fn s = _
  unfold execFrameStart
  rw [whileLive_of_live hl, he]
  rfl

theorem exec_frameEnd (hl : s.live = true) (t : Nat) (n : PortId) (pk : Packet) (fn : BitVec 16) :
    exec (.frameEnd t n pk fn) s = .next ((s.at t).packet n.val pk false true (State.endOn fn.toNat)) :=
  whileLive_of_live hl t fun v => v.packet n.val pk false true (State.endOn fn.toNat)

theorem exec_lineStartEnd (hl : s.live = true) (t : Nat) (n : PortId) (pk : Packet) (isEnd : Bool) (line : BitVec 16) :
    exec (.lineStartEnd t n pk isEnd line) s = .next ((s.at t).packet n.val pk false true fun v _ _ => v) :=
  whileLive_of_live hl t fun v => v.packet n.val pk false true fun v _ _ => v

theorem exec_genericShortPacket (hl : s.live = true) (t : Nat) (n : PortId) (pk : Packet) (dt : BitVec 8) (data : BitVec 16) :
    exec (.genericShortPacket t n pk dt data) s = .next ((s.at t).packet n.val pk false true fun v _ _ => v) :=
  whileLive_of_live hl t fun v => v.packet n.val pk false true fun v _ _ => v

theorem exec_otherShortPacket (hl : s.live = true) (t : Nat) (n : PortId) (pk : Packet) (dt : BitVec 8) (data : BitVec 16) :
    exec (.otherShortPacket t n pk dt data) s = .next ((s.at t).packet n.val pk false true fun v st _ => v.bump 64 (stIdx st 2) 9 1) :=
  whileLive_of_live hl t fun v => v.packet n.val pk false true fun v st _ => v.bump 64 (stIdx st 2) 9 1

theorem exec_longPacket (hl : s.live = true) (t : Nat) (n : PortId) (pk : Packet) (dt : BitVec 8) (bs : List Byte) (ok : Bool) :
    exec (.longPacket t n pk dt bs ok) s = .next ((s.at t).packet n.val pk true ok (State.lineOn dt.toNat bs ok)) :=
  whileLive_of_live hl t fun v => v.packet n.val pk true ok (State.lineOn dt.toNat bs ok)

/-- Where the state of the port alone says what a packet does, every command of a packet does it. -/
theorem exec_packets (hl : s.live = true) {t : Nat} {n : PortId} {pk : Packet} {x : State} {y : Bool → State}
    (hshort : ∀ f, (s.at t).packet n.val pk false true f = x) (hlong : ∀ ok f, (s.at t).packet n.val pk true ok f = y ok) :
    (∀ fn, (s.at t).edgeDue = false → exec (.frameStart t n pk fn) s = .next x) ∧ (∀ fn, exec (.frameEnd t n pk fn) s = .next x)
    ∧ (∀ isEnd line, exec (.lineStartEnd t n pk isEnd line) s = .next x) ∧ (∀ dt data, exec (.genericShortPacket t n pk dt data) s = .next x)
    ∧ (∀ dt data, exec (.otherShortPacket t n pk dt data) s = .next x) ∧ (∀ dt bs ok, exec (.longPacket t n pk dt bs ok) s = .next (y ok)) := by
  refine ⟨fun fn he => ?_, fun fn => ?_, fun isEnd line => ?_, fun dt data => ?_, fun dt data => ?_, fun dt bs ok => ?_⟩
  · rw [exec_frameStart hl t n pk fn he, hshort]
  · rw [exec_frameEnd hl, hshort]
  · rw [exec_lineStartEnd hl, hshort]
  · rw [exec_genericShortPacket hl, hshort]
  · rw [exec_otherShortPacket hl, hshort]
  · rw [exec_longPacket hl, hlong]

section
variable {st fn dt : Nat} {v : State} {taking : Option (Slot × BufRec)}

theorem State.startOn_opens {slot : Slot} {buf : BufRec} (h : v.reg (0x4000 + 0x40 * st) 1 = 1) :
    v.startOn fn st (some (slot, buf)) = (v.setStream st { v.stream st with fs := some fn }).openFrame st fn slot buf := if_pos h

theorem State.startOn_notes (h : taking = none ∨ v.reg (0x4000 + 0x40 * st) 1 ≠ 1) :
    v.startOn fn st taking = v.setStream st { v.stream st with fs := some fn } := by
  cases taking with
  | none => rfl
  | some x => exact if_neg (h.resolve_left (by simp))

theorem State.endOn_received (h : (v.stream st).fs = some fn ∨ (v.stream st).cur ≠ none) :
    v.endOn fn st taking = (v.setStream st { v.stream st with fs := none }).endFrame st .fe :=
  if_pos (by simpa [Option.isSome_iff_ne_none] using h)

theorem State.endOn_unreceived (h : (v.stream st).fs ≠ some fn) (hc : (v.stream st).cur = none) :
    v.endOn fn st taking = ((v.setStream st { v.stream st with fs := none }).endFrame st .fe).bump 64 (stIdx st 2) 2 1 :=
  if_neg (by simp [h, hc])

theorem State.lineOn_otherType (h : typeFits taking dt = false) (bs : List Byte) (ok : Bool) :
    v.lineOn dt bs ok st taking = v.bump 64 (stIdx st 2) 9 1 := if_pos h

theorem State.lineOn_open {f : Frame} (h : typeFits taking dt = true) (hc : (v.stream st).cur = some f) (bs : List Byte) (ok : Bool) :
    v.lineOn dt bs ok st taking = v.takeLine st f bs ok := by
  simp [State.lineOn, h, hc]

theorem State.lineOn_closed (h : typeFits taking dt = true) (hc : (v.stream st).cur = none) (bs : List Byte) (ok : Bool) :
    v.lineOn dt bs ok st taking = v := by
  simp [State.lineOn, h, hc]

end

/-! ### A stream lost -/

/-- A stream that misses its limit of frames: LOST, counted and announced (R242). -/
def State.loseStream (s : State) (st : Nat) : State :=
  let v := (s.setStream st { s.stream st with missed := 0, fs := none }).setStreamState st 4
  (v.bump 32 (stIdx st 2) 12 1).raiseEvent 0x42 (v.streamPart st) st (v.reg (stIdx st 1) 2) 0 0

theorem exec_streamLoss (hl : s.live = true) (t : Nat) (st : StreamId) :
    exec (.streamLoss t st) s = .next (if (s.at t).streamState st.val = 3 ∧ s.reg (0x4000 + 0x40 * st.val) 5 ≤ (s.stream st.val).missed
      then (s.at t).loseStream st.val else s.at t) := by
  show execStreamLoss t st s = _
  unfold execStreamLoss
  rw [whileLive_of_live hl]
  rfl

/-- Settles O45: by the state of the port, and on a LOCKED one by what the packet's stream does with it. -/
theorem packetsActOnTheirStream : Obligations.PacketsActOnTheirStream := by
  refine ⟨?_, ?_, ?_, ?_, ?_, ?_⟩
  · rintro t st n pk s u v w taking rfl hl hst hp rfl
    rw [State.portState_bumpSot] at hst
    have hpk (long ok : Bool) (f : State → Nat → Option (Slot × BufRec) → State) : (s.at t).packet n.val pk long ok f = f v st taking :=
      State.packet_some hst hp long ok f
    refine ⟨?_, ?_, ?_, ?_, ?_, ?_, ?_, ?_, ?_, ?_⟩
    · rintro fn slot buf he rfl hen
      rw [exec_frameStart hl t n pk fn he, hpk, State.startOn_opens hen]
    · intro fn he h
      rw [exec_frameStart hl t n pk fn he, hpk, State.startOn_notes h]
    · intro fn h
      rw [exec_frameEnd hl, hpk, State.endOn_received h]
    · intro fn h hc
      rw [exec_frameEnd hl, hpk, State.endOn_unreceived h hc]
    · intro isEnd line
      rw [exec_lineStartEnd hl, hpk]
    · intro dt data
      rw [exec_genericShortPacket hl, hpk]
    · intro dt data
      rw [exec_otherShortPacket hl, hpk]
    · intro dt bs ok h
      rw [exec_longPacket hl, hpk, State.lineOn_otherType h]
    · intro dt bs ok f h hc
      rw [exec_longPacket hl, hpk, State.lineOn_open h hc]
    · intro dt bs ok h hc
      rw [exec_longPacket hl, hpk, State.lineOn_closed h hc]
  · rintro t n pk fn s u rfl hl he
    exact exec_frameStart_edge hl t n pk fn he
  · rintro t n pk s u v rfl hl hst hp
    rw [State.portState_bumpSot] at hst
    exact exec_packets hl (State.packet_none hst hp false true) (State.packet_none hst hp true)
  · rintro t n pk s u v rfl rfl hl hst
    exact exec_packets hl (State.packet_acquiring hst pk false true) (State.packet_acquiring hst pk true)
  · rintro t n pk s u rfl hl h2 h3
    exact exec_packets hl (State.packet_idle h2 h3 pk false true) (State.packet_idle h2 h3 pk true)
  · rintro t st s u v rfl hl rfl
    rw [exec_streamLoss hl]
    refine ⟨fun h h' => by rw [if_pos ⟨h, h'⟩]; rfl, fun h => ?_⟩
    rw [if_neg]
    omega

end Sys2Proof.Machine
end

section
/-! PROOFS. The entry of a queue that is recorded, and its completion record (R25, R194, R195, R201). -/

namespace Sys2Proof.Machine

variable (s : State)

/-! ### The entry that is due -/

/-- May an entry be recorded: ended, of queue `q`, not held for a glint check, with room in its ring (R25, R194, R195)? -/
def State.recordable (s : State) (q : Nat) (k : Task) : Bool :=
  decide (k.stage = 3) && decide (k.node.queue = q) && k.maint.isNone && !s.outputHeld k && !s.ringWaits k

/-- The earlier of two ended entries, the one before where both ended together. -/
def firstEnded (a : Option Task) (k : Task) : Option Task :=
  match a with
  | none => some k
  | some b => if k.endAt < b.endAt then some k else some b

theorem State.dueTask_eq (q : Nat) : s.dueTask q = (s.tasks.filter (s.recordable q)).foldl firstEnded none := rfl

theorem firstEnded_spec (a : Option Task) (y : Task) :
    ∃ m, firstEnded a y = some m ∧ (y = m ∨ a = some m) ∧ m.endAt ≤ y.endAt ∧ ∀ b, a = some b → m.endAt ≤ b.endAt := by
  cases a with
  | none => exact ⟨y, rfl, .inl rfl, le_rfl, by simp⟩
  | some b =>
    by_cases h : y.endAt < b.endAt
    · exact ⟨y, if_pos h, .inl rfl, le_rfl, fun _ hb => Option.some.inj hb ▸ h.le⟩
    · exact ⟨b, if_neg h, .inr rfl, by omega, fun _ hb => Option.some.inj hb ▸ le_rfl⟩

/-- A fold over `firstEnded` picks an entry of the list, or the one before it, that ended no later than any of them. -/
theorem foldl_firstEnded_spec {k : Task} (l : List Task) : ∀ a : Option Task, l.foldl firstEnded a = some k →
    (k ∈ l ∨ a = some k) ∧ (∀ x, x ∈ l ∨ a = some x → k.endAt ≤ x.endAt) := by
  induction l with
  | nil =>
    rintro a rfl
    simp
  | cons y l ih =>
    intro a h
    obtain ⟨m, hm, hfrom, hy, ha⟩ := firstEnded_spec a y
    rw [List.foldl_cons, hm] at h
    obtain ⟨hmem, hmin⟩ := ih _ h
    have hkm : k.endAt ≤ m.endAt := hmin m (.inr rfl)
    refine ⟨?_, ?_⟩
    · rcases hmem with hk | hk
      · exact .inl (List.mem_cons_of_mem y hk)
      · exact hfrom.imp (fun hym => List.mem_cons.mpr (.inl (hym.trans (Option.some.inj hk)).symm)) (fun ham => ham.trans hk)
    · rintro x (hx | hx)
      · rcases List.mem_cons.mp hx with rfl | hx
        · exact hkm.trans hy
        · exact hmin x (.inl hx)
      · exact hkm.trans (ha x hx)

theorem State.mem_and_first_of_dueTask {q : Nat} {k : Task} (h : s.dueTask q = some k) :
    (k ∈ s.tasks ∧ s.recordable q k = true) ∧ ∀ x ∈ s.tasks, s.recordable q x = true → k.endAt ≤ x.endAt := by
  rw [State.dueTask_eq] at h
  obtain ⟨hmem, hmin⟩ := foldl_firstEnded_spec _ _ h
  refine ⟨List.mem_filter.mp (hmem.resolve_right (by simp)), fun x hx hr => hmin x (.inl (List.mem_filter.mpr ⟨hx, hr⟩))⟩

theorem State.recordable_iff {q : Nat} {k : Task} : s.recordable q k = true ↔
    k.stage = 3 ∧ k.node.queue = q ∧ k.maint = none ∧ s.outputHeld k = false ∧ s.ringWaits k = false := by
  simp [State.recordable, and_assoc]

/-! ### The completion record -/

theorem leBytes_length (n x : Nat) : (leBytes n x).length = n := by
  induction n generalizing x with
  | zero => rfl
  | succ n ih => rw [leBytes, List.length_cons, ih]

theorem completionBytes_length (k : Task) : (completionBytes k).length = 16 := by
  simp [completionBytes, wordBytes, leBytes_length]

/-- The place of the next record of a completion ring (R194, R195). -/
def State.recordAt (s : State) (g : Ring) : Nat := s.rangeAddr g.part g.bind.cqAddr + 16 * (g.cqTail % g.bind.depth)

/-- A queue whose entry's record has gone into ring `g`: it counts, and the ring moves on. -/
def QueueSt.recorded (x : QueueSt) (old : Bool) (g : Ring) : QueueSt :=
  { (if x.usesWas old then { x with was := some g.push } else { x with cqHead := g.push.cqHead, cqTail := g.push.cqTail }) with
    done := x.done + 1, dropped := if g.full then x.dropped + 1 else x.dropped }

/-- A completion record goes into its slot, its queue moves on, and a host-fed queue's vector follows. -/
theorem State.writeCompletion_reports {t : Task} {g : Ring} (h : (s.queue t.node.queue).ringFor t.old = some g) :
    ReportsOnly ((s.ddrWrite (s.recordAt g) (completionBytes t)).setQueue t.node.queue ((s.queue t.node.queue).recorded t.old g))
      (s.writeCompletion t) := by
  unfold State.writeCompletion
  dsimp only
  rw [h]
  dsimp only
  split
  · exact State.fireLater_reports _ _ _
  · exact .refl _

theorem State.writeCompletion_spec {t : Task} {g : Ring} (h : (s.queue t.node.queue).ringFor t.old = some g) :
    (s.writeCompletion t).ddr = ksets memDefault s.ddr (s.recordAt g) (completionBytes t)
      ∧ ((s.writeCompletion t).queue t.node.queue).done = (s.queue t.node.queue).done + 1 ∧ (s.writeCompletion t).tasks = s.tasks := by
  have hw := s.writeCompletion_reports h
  refine ⟨hw.ddr, ?_, hw.tasks⟩
  unfold State.queue
  rw [hw.queues]
  exact congrArg QueueSt.done (State.queue_setQueue_same _ _ _)

/-- An output node's result record changes no byte of LPDDR5, no queue and no entry. -/
theorem State.reportResult_leaves (t : Task) :
    (s.reportResult t).ddr = s.ddr ∧ (s.reportResult t).queues = s.queues ∧ (s.reportResult t).tasks = s.tasks := by
  have hw (fn : Nat) (b : List Byte) : (s.writeResult fn b).ddr = s.ddr ∧ (s.writeResult fn b).queues = s.queues
      ∧ (s.writeResult fn b).tasks = s.tasks :=
    ⟨(s.writeResult_reports fn b).ddr, (s.writeResult_reports fn b).queues, (s.writeResult_reports fn b).tasks⟩
  unfold State.reportResult
  dsimp only
  split
  · split
    · split
      · exact ⟨rfl, rfl, rfl⟩
      · exact hw _ _
    · exact hw _ _
  · exact ⟨rfl, rfl, rfl⟩

/-- The result record of an entry that is not a host's (R194, R366). -/
def State.reportPlanned (s : State) (t : Task) : State := if t.ring.isNone then s.reportResult t else s

theorem State.reportPlanned_leaves (t : Task) :
    (s.reportPlanned t).ddr = s.ddr ∧ (s.reportPlanned t).queues = s.queues ∧ (s.reportPlanned t).tasks = s.tasks := by
  unfold State.reportPlanned
  split
  · exact s.reportResult_leaves t
  · exact ⟨rfl, rfl, rfl⟩

/-- No channel holds a task whose channel is freed (R201). -/
theorem State.chan_freeTaskChan_task (id u c : Nat) : ((s.freeTaskChan id).chan u c).task ≠ some id := by
  have h (m : KMap Chan) (k : Nat) : (kget chan0 (m.map fun e => if e.2.task = some id then (e.1, { chan0 with halted := e.2.halted }) else e) k).task
      ≠ some id := by
    induction m with
    | nil => simp [kget, klook, chan0]
    | cons e m ih =>
      by_cases he : e.2.task = some id
      · by_cases hk : k = e.1
        · simp [kget, klook, he, hk, chan0]
        · simpa [kget, klook, he, hk] using ih
      · by_cases hk : k = e.1
        · simp [kget, klook, he, hk]
        · simpa [kget, klook, he, hk] using ih
  exact h s.chans _

/-- An ended entry as its record shows it: with the extent of its output (R366). -/
def State.recordedTask (s : State) (k : Task) : Task :=
  let o := if k.node.kind = 10 ∧ k.ring.isNone then s.outExtent k else (0, 0, 0)
  { k with outKind := o.1, outAddr := o.2.1, outLen := o.2.2 }

/-- The state in which its record is written: a recomputation that came out counts, and the entry is marked. -/
def State.markRecorded (s : State) (k : Task) : State :=
  (if k.recomp = true ∧ k.corrupt = false ∧ k.skipped = false then s.bump 64 0x8000 3 1 else s).putTask
    { s.recordedTask k with stage := 4 }

theorem State.completeTask_eq {k : Task} (h : k.redo ≠ 1) :
    s.completeTask k = (((s.markRecorded k).writeCompletion (s.recordedTask k)).reportPlanned (s.recordedTask k)).freeTaskChan k.id := if_neg h

/-- Different sub-indices have different keys, whatever their indices. -/
theorem okey_ne_of_sub_mod {f g i j a b : Nat} (h : a ≠ b) (ha : a < 256) (hb : b < 256) : okey f i a ≠ okey g j b := by
  unfold okey
  omega

theorem State.markRecorded_spec (k : Task) (g : Ring) :
    (s.markRecorded k).ddr = s.ddr ∧ (s.markRecorded k).queues = s.queues ∧ (s.markRecorded k).recordAt g = s.recordAt g
      ∧ ∀ x ∈ (s.markRecorded k).tasks, x.id = k.id → x.stage = 4 := by
  have hput (v : State) (x : Task) (hx : x ∈ (v.putTask { s.recordedTask k with stage := 4 }).tasks) (hid : x.id = k.id) : x.stage = 4 := by
    obtain ⟨u, -, rfl⟩ := List.mem_map.mp hx
    by_cases hu : u.id = k.id
    · exact congrArg Task.stage (if_pos hu)
    · exact absurd ((congrArg Task.id (if_neg hu)).symm.trans hid) hu
  unfold State.markRecorded
  split
  · refine ⟨rfl, rfl, ?_, hput _⟩
    have hreg := s.reg_bump_other (w := 64) (n := 1) (okey_ne_of_sub_mod (i := 0x3100 + g.part) (j := 0x8000) (a := 6) (b := 3) (by decide)
      (by decide) (by decide))
    exact congrArg (fun r => 67108864 * r + 64 * g.bind.cqAddr + 16 * (g.cqTail % g.bind.depth)) hreg
  · exact ⟨rfl, rfl, rfl, hput _⟩

/-- The record of an ended entry is written into its ring's next slot, counts, and the entry is recorded (R194). -/
theorem State.completeTask_spec {k : Task} {g : Ring} (h : k.redo ≠ 1) (hg : (s.queue k.node.queue).ringFor k.old = some g) :
    (s.completeTask k).ddr = ksets memDefault s.ddr (s.recordAt g) (completionBytes k)
      ∧ ((s.completeTask k).queue k.node.queue).done = (s.queue k.node.queue).done + 1
      ∧ (∀ x ∈ (s.completeTask k).tasks, x.id = k.id → x.stage = 4) := by
  obtain ⟨hmd, hmq, hma, hmt⟩ := s.markRecorded_spec k g
  have hqueue (q : Nat) : (s.markRecorded k).queue q = s.queue q := congrArg (fun m => kget queue0 m q) hmq
  have hg' : ((s.markRecorded k).queue (s.recordedTask k).node.queue).ringFor (s.recordedTask k).old = some g := by
    rw [hqueue]
    exact hg
  obtain ⟨hwd, hwq, hwt⟩ := (s.markRecorded k).writeCompletion_spec hg'
  obtain ⟨hrd, hrq, hrt⟩ := ((s.markRecorded k).writeCompletion (s.recordedTask k)).reportPlanned_leaves (s.recordedTask k)
  rw [hmd, hma] at hwd
  rw [hqueue] at hwq
  rw [State.completeTask_eq _ h]
  exact ⟨hrd.trans hwd, (congrArg (fun m => (kget queue0 m k.node.queue).done) hrq).trans hwq, fun x hx => hmt x (hwt ▸ hrt ▸ hx)⟩

/-! ### The command -/

theorem exec_taskComplete_none {s : State} (hl : s.live = true) (t : Nat) (q : QueueId) (h : (s.at t).dueTask q.val = none) :
    exec (.taskComplete t q) s = .next (s.at t) := by
  show execTaskComplete t q s = _
  unfold execTaskComplete
  rw [whileLive_of_live hl, h]

theorem exec_taskComplete {s : State} (hl : s.live = true) (t : Nat) (q : QueueId) {k : Task} (h : (s.at t).dueTask q.val = some k) :
    exec (.taskComplete t q) s = .next ((s.at t).completeTask k) := by
  show execTaskComplete t q s = _
  unfold execTaskComplete
  rw [whileLive_of_live hl, h]

/-- Settles O33: the due entry is the first of the recordable ones, and its record is all that LPDDR5 takes. -/
theorem endedEntriesAreRecorded : Obligations.EndedEntriesAreRecorded := by
  refine ⟨?_, ?_, ?_, ?_⟩
  · exact fun t q s hl h => exec_taskComplete_none hl t q h
  · exact fun t q s k hl h => exec_taskComplete hl t q h
  · rintro t a q s u k g rfl hl hk hredo hg rfl
    obtain ⟨⟨-, hrec⟩, -⟩ := (s.at t).mem_and_first_of_dueTask hk
    obtain ⟨-, hq, -⟩ := (s.at t).recordable_iff.mp hrec
    obtain ⟨hddr, hdone, htasks⟩ := (s.at t).completeTask_spec hredo (g := g) (by rw [hq]; exact hg)
    rw [hq] at hdone
    have hlen := completionBytes_length k
    refine ⟨_, exec_taskComplete hl t q hk, ?_, fun b hb => ?_, hdone, htasks, ?_⟩
    · unfold State.ddrRead
      rw [hddr, ← hlen]
      exact kgets_ksets _ _ _ _
    · rw [hddr]
      exact kget_ksets_outside _ _ _ _ _ (by rw [hlen]; exact hb)
    · intro v c
      rw [State.completeTask_eq _ hredo]
      exact State.chan_freeTaskChan_task _ _ _ _
  · intro s q k h
    obtain ⟨⟨hmem, hrec⟩, hfirst⟩ := s.mem_and_first_of_dueTask h
    obtain ⟨hstage, hqueue, hmaint, hheld, hwaits⟩ := s.recordable_iff.mp hrec
    exact ⟨hmem, hstage, hqueue, hmaint, hheld, hwaits, fun x hx h3 hq hm ho hr => hfirst x hx (s.recordable_iff.mpr ⟨h3, hq, hm, ho, hr⟩)⟩

end Sys2Proof.Machine
end

section
/-! PROOFS. The tick unit: its period and its limit, the sources of its edges, what it does within a tick (R29–R32, R36–R38, R53). -/

namespace Sys2Proof.Machine

variable (s : State)

/-! ### Time alone moves neither the tick unit nor a port -/

@[simp] theorem State.at_tickOn (t : Nat) : (s.at t).tickOn = s.tickOn := rfl
@[simp] theorem State.at_pNom (t : Nat) : (s.at t).pNom = s.pNom := rfl
@[simp] theorem State.at_limitL (t : Nat) : (s.at t).limitL = s.limitL := rfl
@[simp] theorem State.at_innerDue (t : Nat) : (s.at t).innerDue = s.innerDue := rfl
@[simp] theorem State.at_tooEarly (t c : Nat) : (s.at t).tooEarly c = s.tooEarly c := rfl
@[simp] theorem State.at_port (t n : Nat) : (s.at t).port n = s.port n := rfl

/-! ### After an edge at cycle `e` -/

section
variable {s} {e : Nat} (he : s.tick.lastEdge = some e)
include he

theorem State.flyDue_of_edge : s.flyDue = some (e + s.pNom * 101 / 100) := by
  rw [State.flyDue, he, Option.map_some]

theorem State.sinceEdge_of_edge : s.sinceEdge = s.now - e := by
  rw [State.sinceEdge, he, Option.getD_some]

theorem State.edgeAt_of_edge : s.edgeAt = e := by
  rw [State.edgeAt, he, Option.getD_some]

end

/-! ### The period and the limit -/

/-- Settles O26: the row of TICK_RATE reserves no value, so that its range alone decides. -/
theorem nominalPeriodFollowsTheRate : Obligations.NominalPeriodFollowsTheRate := by
  refine ⟨fun s => rfl, rfl, _, rfl, fun v hlo hhi => ?_, fun v hout => ?_⟩
  · have hin : (decide (15000 ≤ v) && decide (v ≤ 240000)) = true := by simp [hlo, hhi]
    simp [valueCheck, tySigned, need, hin, stOk]
  · have hin : (decide (15000 ≤ v) && decide (v ≤ 240000)) = false := by
      rw [Bool.and_eq_false_iff, decide_eq_false_iff_not, decide_eq_false_iff_not]
      omega
    simp [valueCheck, tySigned, need, hin]

/-- Settles O27: only the internal source, code 0, is as regular as P_nom. -/
theorem shortestTickAndItsLimit : Obligations.ShortestTickAndItsLimit := by
  refine ⟨fun s h => ?_, fun s h => ?_, fun s => rfl⟩
  · exact if_pos h
  · exact if_neg (show s.reg 0x2000 1 ≠ 0 by omega)

/-! ### The sources -/

section
variable {s} (hl : s.live = true) (t : Nat) (env : Readings)
include hl

theorem exec_tickEdge_inner (hon : s.tickOn = true) (hd : s.tick.hostDue = none) (hsrc : s.reg 0x2000 1 = 0)
    (hdue : s.innerDue ≤ max s.now t) : exec (.tickEdge t env) s = .next ((s.at t).makeEdge s.innerDue 0 false env) := by
  show execTickEdge t env s = _
  unfold execTickEdge
  rw [whileLive_of_live hl]
  simp [hon, hd, hsrc, hdue]

theorem exec_tickEdge_host (hon : s.tickOn = true) {k : Nat} (hd : s.tick.hostDue = some k) (hdue : k ≤ max s.now t) :
    exec (.tickEdge t env) s = .next ((s.at t).makeEdge k 2 false env) := by
  show execTickEdge t env s = _
  unfold execTickEdge
  rw [whileLive_of_live hl]
  rw [if_neg (by simp [hon]), State.at_tick, hd]
  exact congrArg _ (if_pos hdue)

/-- The selected transition of TICK_IN acts 3 cycles later, on the state that has seen the pin's new level. -/
theorem exec_tickInEdge_selected {level : Bool} (hon : s.tickOn = true) (hmoved : level ≠ s.tick.tickIn) (hsrc : s.reg 0x2000 1 = 1)
    (hpol : level = decide (s.reg 0x2000 4 = 0)) {u : State}
    (hu : u = ({ s with tick := { s.tick with tickIn := level } } : State).at t) :
    exec (.tickInEdge t level env) s =
      .next (if s.tooEarly (max s.now (t + 3)) then (u.bump 32 0x2001 6 1).openUndue else u.makeEdge (max s.now (t + 3)) 1 false env) := by
  have hon' : u.tickOn = true := hu ▸ hon
  have hsrc' : u.reg 0x2000 1 = 1 := hu ▸ hsrc
  have hpol' : level = decide (u.reg 0x2000 4 = 0) := hu ▸ hpol
  have hcycle : max u.now (t + 3) = max s.now (t + 3) := by
    rw [hu]
    show max (max s.now t) (t + 3) = _
    omega
  have hearly : u.tooEarly (max s.now (t + 3)) = s.tooEarly (max s.now (t + 3)) := hu ▸ rfl
  show execTickInEdge t level env s = _
  unfold execTickInEdge
  rw [whileLive_of_live (s := { s with tick := { s.tick with tickIn := level } }) hl]
  dsimp only
  rw [← hu, hcycle, hearly, hon', hsrc', if_pos (by simp [hmoved, ← hpol'])]

/-- A host's write makes its edge where the write leaves one due that was not due before. -/
theorem exec_hostTick {v : State} (c : Caller) (r : Req) (hv : v = (s.at t).serve (callerFn c) 2 (reqFor r 0x2000 5))
    (hd : s.tick.hostDue = none) :
    exec (.hostTick t c r env) s =
      .next (if v.tick.hostDue.isSome then v.makeEdge (max s.now (t + 3)) 2 false env else v.openUndue) := by
  have hcycle : max (max s.now t) (t + 3) = max s.now (t + 3) := by omega
  show execHostTick t c r env s = _
  unfold execHostTick
  rw [whileLive_of_live hl]
  simp only [← hv, State.at_tick, State.at_now, hd, hcycle, Option.isNone_none, Bool.true_and]

theorem exec_flywheelTick (hon : s.tickOn = true) {e : Nat} (he : s.tick.lastEdge = some e) (hsrc : s.reg 0x2000 1 ≠ 0)
    (hd : s.tick.hostDue = none) (hdue : e + s.pNom * 101 / 100 ≤ max s.now t) :
    exec (.flywheelTick t env) s = .next ((s.at t).makeEdge (e + s.pNom * 101 / 100) 3 true env) := by
  show execFlywheelTick t env s = _
  unfold execFlywheelTick
  rw [whileLive_of_live hl, State.flyDue_of_edge (s := s.at t) he]
  simp [hon, hsrc, hd, hdue]

end

theorem State.hostTickOp_accepted {s : State} (hon : s.tickOn = true) (hsrc : s.reg 0x2000 1 = 2) (hd : s.tick.hostDue = none)
    (hearly : s.tooEarly (s.now + 3) = false) : s.hostTickOp = ({ s with tick := { s.tick with hostDue := some (s.now + 3) } }, stOk) := by
  unfold State.hostTickOp
  rw [if_neg (by simp [hon, hsrc]), if_neg (by simp [hd, hearly])]

/-- Settles O29, source by source. -/
theorem sourcesMakeEdges : Obligations.SourcesMakeEdges := by
  refine ⟨?_, ?_, ?_, ?_, ?_, ?_⟩
  · exact fun t env s hl hon hd hsrc hdue => exec_tickEdge_inner hl t env hon hd hsrc hdue
  · exact fun t k env s hl hon hd hdue => exec_tickEdge_host hl t env hon hd hdue
  · exact fun t level env s u hu hl hon hmoved hsrc hpol => exec_tickInEdge_selected hl t env hon hmoved hsrc hpol hu
  · intro t k c r env s v hv hl hd
    rw [exec_hostTick hl t env c r hv hd]
    exact ⟨fun h => by simp [h], fun h => by simp [h]⟩
  · intro s hon hsrc hd hearly
    rw [State.hostTickOp_accepted hon hsrc hd hearly]
    exact ⟨rfl, rfl⟩
  · exact fun t e env s hl hon he hsrc hd hdue => exec_flywheelTick hl t env hon he hsrc hd hdue

/-! ### Within the tick -/

section
variable {s} (hl : s.live = true) (t : Nat)
include hl

theorem exec_tickSourceLost (hrun : 3 ≤ s.tick.run) (hlost : s.tick.lost = false) :
    exec (.tickSourceLost t) s =
      .next { ((s.at t).raiseEvent 0x10 none 0 (s.reg 0x2001 4) 0 0) with tick := { s.tick with lost := true } } := by
  show execTickSourceLost t s = _
  unfold execTickSourceLost
  rw [whileLive_of_live hl]
  exact congrArg _ (if_pos ⟨hrun, hlost⟩)

theorem exec_guardIntervalStart {e : Nat} {u : State} (hu : u = s.at t) (he : s.tick.lastEdge = some e) (hg : s.tick.guard = false)
    (hlim : s.limitL ≤ u.sinceEdge) :
    exec (.guardIntervalStart t) s = .next (State.replanStep (s.faults.toCopy.foldl State.copyPage { u with
      tick := { s.tick with guard := true }, faults := { s.faults with toCopy := [], copied := s.faults.copied ++ s.faults.toCopy } })) := by
  subst hu
  show execGuardIntervalStart t s = _
  unfold execGuardIntervalStart
  rw [whileLive_of_live hl]
  exact congrArg _ (if_pos (by simp [he, hg, hlim]))

theorem exec_fsyncAssert {e : Nat} (n : PortId) (he : s.tick.lastEdge = some e) (hen : s.reg (0x2010 + n.val) 4 = 1)
    (hup : (s.port n.val).fsyncUp = false) (hoff : s.reg (0x2010 + n.val) 1 ≤ max s.now t - e) :
    exec (.fsyncAssert t n) s = .next ((s.at t).setPort n.val { (s.port n.val) with
      fsync := decide (s.reg (0x2010 + n.val) 3 = 0), fsyncAt := e + s.reg (0x2010 + n.val) 1, fsyncUp := true }) := by
  have hsince : (s.at t).sinceEdge = max s.now t - e := State.sinceEdge_of_edge (s := s.at t) he
  show execFsyncAssert t n s = _
  unfold execFsyncAssert
  rw [whileLive_of_live hl]
  simp only [State.edgeAt_of_edge (s := s.at t) he]
  rw [if_pos (by simp [he, hen, hup, hsince, hoff])]
  rfl

theorem exec_fsyncDeassert (n : PortId) (hup : (s.port n.val).fsyncUp = true)
    (hw : (s.port n.val).fsyncAt + s.reg (0x2010 + n.val) 2 ≤ max s.now t) :
    exec (.fsyncDeassert t n) s = .next ((s.at t).setPort n.val { (s.port n.val) with fsync := decide (s.reg (0x2010 + n.val) 3 = 1) }) := by
  show execFsyncDeassert t n s = _
  unfold execFsyncDeassert
  rw [whileLive_of_live hl]
  exact congrArg _ (if_pos (by simp [hup, hw]))

end

/-- Settles O30, command by command. -/
theorem tickUnitActsWithinTheTick : Obligations.TickUnitActsWithinTheTick := by
  refine ⟨?_, ?_, ?_, ?_⟩
  · exact fun t s hl hrun hlost => exec_tickSourceLost hl t hrun hlost
  · exact fun t e s u hu hl he hg hlim => exec_guardIntervalStart hl t hu he hg hlim
  · exact fun t e n s hl he hen hup hoff => exec_fsyncAssert hl t n he hen hup hoff
  · exact fun t n s hl hup hw => exec_fsyncDeassert hl t n hup hw

end Sys2Proof.Machine
end

section
/-! PROOFS. Writes of 1 that clear: counters, SAFE_N's latch, the retirement list (R63, R433, R453). -/

namespace Sys2Proof.Machine

variable (s : State)

/-! ### Counters cleared -/

/-- A register is 0 once it is written with 0, and one that was 0 still is. -/
theorem State.reg_setReg_zero {idx sub sub' : Nat} (h : sub' = sub ∨ s.reg idx sub' = 0) : (s.setReg idx sub 0).reg idx sub' = 0 := by
  by_cases hk : okey 0 idx sub' = okey 0 idx sub
  · obtain rfl : sub' = sub := Nat.add_left_cancel hk
    exact s.reg_setReg_same idx sub' 0
  · rw [s.reg_setReg_other hk]
    exact h.resolve_left fun he => hk (he ▸ rfl)

theorem State.reg_clearSubs_zero {idx k : Nat} (l : List Nat) :
    ∀ s : State, k ∈ l ∨ s.reg idx k = 0 → (s.clearSubs idx l).reg idx k = 0 := by
  induction l with
  | nil => exact fun s h => h.resolve_left List.not_mem_nil
  | cons a l ih =>
    intro s h
    rw [List.mem_cons, or_right_comm] at h
    exact ih (s.setReg idx a 0) (h.symm.imp_right s.reg_setReg_zero)

/-! ### The objects that clear counters -/

/-- Where an object `idx`.`sub` that clears the counters `l` lies: behind the objects 10xx that serving a request writes, and behind the
sub-indices with an effect of another kind. -/
def ClearBounds (idx sub : Nat) (l : List Nat) : Prop := 0x2030 ≤ idx ∧ 6 ≤ sub ∧ ∀ k ∈ l, k < 256

theorem clearList_bounds {fn idx sub : Nat} {l : List Nat} : clearList fn idx sub = some l → ClearBounds idx sub l := by
  unfold clearList
  extract_lets range off
  have hoff : 0x40 ≤ off ∨ 0x4000 ≤ idx := by
    by_cases hidx : 0x4000 ≤ idx
    · exact .inr hidx
    · exact .inl (by simp [off, hidx])
  have hrange {a n : Nat} (hn : n + a ≤ 256) : ∀ k ∈ range a n, k < 256 := by
    intro k hk
    obtain ⟨i, hi, rfl⟩ := List.mem_map.mp hk
    exact (Nat.add_lt_add_right (List.mem_range.mp hi) a).trans_le hn
  clear_value off range
  have clears {m : List Nat} (hm : ∀ k ∈ m, k < 256) (hi : 0x2030 ≤ idx) (hs : 6 ≤ sub) (h : some m = some l) :
      ClearBounds idx sub l := ⟨hi, hs, Option.some.inj h ▸ hm⟩
  have hrole : (if roleOf fn = 1 then 4 else 6) ≤ 6 := by split <;> omega
  repeat' refine iteInduction (motive := fun x => x = some l → ClearBounds idx sub l) (fun hc => ?_) (fun _ => ?_)
  -- The counters of a DMA unit, the fifth case, are two ranges; the last case is that of the objects which clear nothing.
  pick_goal 5
  · exact clears (List.forall_mem_append.mpr ⟨hrange (by omega), hrange (by omega)⟩) (by omega) (by omega)
  pick_goal 15
  · exact fun h => nomatch h
  all_goals exact clears (hrange (by omega)) (by omega) (by omega)

/-- A row of a byte-string type that reaches beyond sub-index 5 is read-only. -/
def lateBytesReadOnly (o : ObjRow) : Bool := decide (tySize o.ty ≠ 0) || decide (o.sub + o.subs ≤ 6) || decide (o.acc = .ro)

theorem lateBytesReadOnly_of_rowsAt (idx : Nat) : ∀ o ∈ rowsAt idx, lateBytesReadOnly o = true := by
  unfold rowsAt
  repeat' refine iteInduction (motive := fun l => ∀ o ∈ l, lateBytesReadOnly o = true) (fun _ => ?_) (fun _ => ?_)
  all_goals exact List.all_eq_true.mp (by decide +kernel)

/-- A WRITE is taken by no read-only object (R75). -/
theorem State.not_readOnly_of_takes {fn : Nat} {o : ObjRow} {r : Req} (h : s.takes fn o r = true) : o.acc ≠ .ro := by
  simp only [State.takes, Bool.and_eq_true, decide_eq_true_eq] at h
  obtain ⟨⟨-, hrest⟩, -⟩ := h
  intro ho
  simp [firstFail, accessCheck, ho, stOk, stReadOnly] at hrest

/-- A WRITE from sub-index 6 on is taken by a number object. -/
theorem State.number_of_takes {fn : Nat} {o : ObjRow} {r : Req} (h : s.takes fn o r = true) (hs : 6 ≤ r.sub.toNat)
    (ho : objRow r.index.toNat r.sub.toNat = some o) : tySize o.ty ≠ 0 := by
  have hrow := lateBytesReadOnly_of_rowsAt _ o (List.mem_of_find?_eq_some ho)
  have hhas := List.find?_some ho
  simp only [lateBytesReadOnly, rowHas, Bool.or_eq_true, Bool.and_eq_true, decide_eq_true_eq] at hrow hhas
  obtain ⟨⟨-, hsub⟩, -⟩ := hhas
  obtain (hty | hlate) | hro := hrow
  · exact hty
  · omega
  · exact absurd hro (s.not_readOnly_of_takes h)

/-- A 1 written to an object that clears counters clears them last. -/
theorem State.applyNum_clears {fn idx sub : Nat} {l : List Nat} (was : State) (h : clearList fn idx sub = some l) :
    ∃ w : State, was.applyNum s fn idx sub 1 = w.clearSubs idx l := by
  obtain ⟨-, hs, -⟩ := clearList_bounds h
  have h1 : sub ≠ 1 := by omega
  have h3 : sub ≠ 3 := by omega
  have h4 : sub ≠ 4 := by omega
  unfold State.applyNum
  simp only [h1, h3, h4, h, and_false, or_self, if_false, ne_eq, not_true_eq_false]
  exact ⟨_, rfl⟩

/-- What a WRITE of 1 to an object that clears counters does before its response. -/
theorem State.takeWrite_clears {fn : Nat} {o : ObjRow} {r : Req} {l : List Nat} (ht : s.takes fn o r = true)
    (ho : objRow r.index.toNat r.sub.toNat = some o) (h0 : r.txn.toNat = 0) (h1 : reqNum r = 1)
    (h : clearList fn r.index.toNat r.sub.toNat = some l) :
    ∃ w : State, (s.takeWrite fn o r).1 = w.clearSubs r.index.toNat l := by
  obtain ⟨-, hs, -⟩ := clearList_bounds h
  have hsel : selects r.index.toNat r.sub.toNat = none := by
    unfold selects
    rw [if_neg (by omega), if_neg (by omega), if_neg (by omega)]
  have hstat : writeStatus s fn r.index.toNat r.sub.toNat (.num (reqNum r)) = none := by
    dsimp only [writeStatus]
    rw [if_neg (by omega), if_neg (by omega), if_neg (by omega)]
  rw [State.takeWrite_num (s.number_of_takes ht hs ho) h0 hsel hstat, h1]
  exact State.applyNum_clears _ s h

/-- A row that writes 1 to an object that clears counters leaves them 0: the response counts on objects of another index. -/
theorem serveRow_clears {t : Nat} {c : Caller} {r : Req} {l : List Nat} (hp : WritePasses s t c r) (h0 : r.txn.toNat = 0)
    (h1 : reqNum r = 1) (h : clearList (callerFn c) r.index.toNat r.sub.toNat = some l) :
    ∃ s', serveRow t c 2 r s = .next s' ∧ ∀ k ∈ l, s'.reg r.index.toNat k = 0 := by
  obtain ⟨o, p, ho, ht, he⟩ := serveRow_write hp
  obtain ⟨w, hw⟩ := State.takeWrite_clears _ ht ho h0 h1 h
  obtain ⟨hi, -, hl⟩ := clearList_bounds h
  have hidx : r.index.toNat < 65536 := r.index.isLt
  refine ⟨_, he, fun k hk => ?_⟩
  unfold State.reg
  rw [State.regF_deliver _ (by omega) hidx (hl k hk), State.regF_written _ (by omega) hidx (hl k hk), hw]
  exact State.reg_clearSubs_zero l w (.inl hk)

/-! ### SAFE_N's latch, the retirement list -/

theorem State.applyNum_safeClear (was : State) (fn n : Nat) :
    was.applyNum s fn 0x7000 4 n = { s with umbra := { s.umbra with cleared := true } } := rfl

theorem State.applyNum_listErase (was : State) (fn : Nat) : was.applyNum s fn 0x8010 6 1 = s.eraseList := rfl

theorem State.eraseList_reg : s.eraseList.reg 0x8010 3 = 0 := State.reg_setReg_same _ _ _ _

/-- The boot flash holds nothing in the block of the retirement list once that is erased. -/
theorem State.eraseList_flash : ∀ e ∈ s.eraseList.fw.flash, e.1 < 0x110000 ∨ 0x120000 ≤ e.1 := by
  intro e he
  simpa using (List.mem_filter.mp he).2

theorem exec_safeClear {t : Nat} {c : Caller} {r : Req} (hp : WritePasses s t c (reqFor r 0x7000 4)) (h0 : r.txn.toNat = 0) :
    ∃ s', exec (.safeClear t c r) s = .next s' ∧ s'.umbra = { s.umbra with cleared := true } := by
  obtain ⟨w, p, he, r', rfl, ht⟩ := serveRow_num _ hp (by omega) (by omega) rfl (by decide) h0 rfl fun _ _ _ => rfl
  refine ⟨_, he, ?_⟩
  rw [State.deliver_umbra, State.written_umbra, ht, State.applyNum_safeClear]
  split <;> simp

theorem exec_listErase {t : Nat} {c : Caller} {r : Req} (hp : WritePasses s t c (reqFor r 0x8010 6)) (h0 : r.txn.toNat = 0)
    (h1 : reqNum r = 1) :
    ∃ s', exec (.listErase t c r) s = .next s' ∧ s'.reg 0x8010 3 = 0 ∧ ∀ e ∈ s'.fw.flash, e.1 < 0x110000 ∨ 0x120000 ≤ e.1 := by
  obtain ⟨w, p, he, r', rfl, ht⟩ := serveRow_num _ hp (by omega) (by omega) rfl (by decide) h0 rfl fun _ _ _ => rfl
  rw [h1, State.applyNum_listErase] at ht
  refine ⟨_, he, ?_, ?_⟩
  · unfold State.reg
    rw [State.regF_deliver _ (by omega) (by omega) (by omega), State.regF_written _ (by omega) (by omega) (by omega), ht]
    exact State.eraseList_reg _
  · rw [State.deliver_fw, State.written_fw, ht]
    exact State.eraseList_flash _

/-- The overrun counters that a caller's write of OD 213p.07 clears (R63). -/
theorem clearList_overrun (fn : Nat) (p : Part) :
    clearList fn (0x2130 + p.val) 7 = some ((List.range (if roleOf fn = 1 then 4 else 6)).map (· + 1)) := by
  fin_cases p <;> rfl

/-- Settles O23: OD 213p.07 is one of the objects that clear counters. -/
theorem clearingWritesClear : Obligations.ClearingWritesClear := by
  refine ⟨?_, ?_, ?_, ?_⟩
  · intro t c p r s hp h0 h1
    obtain ⟨hidx, hsub⟩ := reqFor_index r (0x2130 + p.val) 7
    rw [Nat.mod_eq_of_lt (by omega)] at hidx hsub
    obtain ⟨s', he, hz⟩ := serveRow_clears s hp h0 h1 (by rw [hidx, hsub]; exact clearList_overrun _ p)
    rw [hidx] at hz
    exact ⟨s', he, fun k hk hk' => hz k (List.mem_map.mpr ⟨k - 1, List.mem_range.mpr (by omega), by omega⟩)⟩
  · exact fun t c r s l hp h0 h1 h => serveRow_clears s hp h0 h1 h
  · exact fun t c r s hp h0 => exec_safeClear s hp h0
  · exact fun t c r s hp h0 h1 => exec_listErase s hp h0 h1

end Sys2Proof.Machine
end

section
/-! PROOFS. The completion of a decided COMMIT, and the function that a reset has silenced meanwhile (R81, R353). -/

namespace Sys2Proof.Machine

variable {s : State}

/-- COMMIT_COMPLETE completes the first decided COMMIT that may, and answers its function unless that was reset (R81, R353). -/
theorem exec_commitComplete (hl : s.live = true) (t : Nat) {run : CommitRun}
    (hrun : (s.at t).dict.commits.find? (s.at t).commitDue = some run) {v : State}
    (hv : v = { s.at t with dict := { s.dict with commits := s.dict.commits.filter (fun c => decide (c.txn.id ≠ run.txn.id)) } }) :
    exec (.commitComplete t) s = .next ((v.finishCommit run).1.deliverRun run (v.finishCommit run).2) := by
  subst hv
  show execCommitComplete t s = _
  unfold execCommitComplete State.commitEnd
  rw [whileLive_of_live hl, hrun]
  rfl

/-- A response to a function is what its mailbox answers next. -/
theorem State.deliver_answer (s : State) {fn : Nat} (hfn : fn ≠ 9) (p : Resp) : ((s.deliver fn p).fnSt fn).answer = some p := by
  unfold State.deliver
  rw [if_neg hfn, State.fnSt_setFn_same]

/-! ### A COMMIT whose function was reset -/

/-- A decided COMMIT of partition 0's owner, which staged nothing; an FLR of the owner's function came after the decision. -/
def silentRun : CommitRun :=
  { fn := 1,
    req := { flags := 0, tag := 0, txn := 1, index := 0, sub := 0, scopePart := 0, scopeGlobal := false, rsvd := 0, offset := 0,
             length := 0, payload := [] },
    txn := { id := 1, fn := 1, role := 1, scope := some 0, beginSeq := 1, waiting := [], staged := [], lastCmd := 0 },
    seq := 1, decided := some 0, tick := 0, silent := true }

/-- A die out of reset, its tick off, in which that COMMIT is to complete. -/
def silentDie : State := { State.reset with resetN := true, dict := { dictReset with commits := [silentRun] } }

theorem silentDie_due : (silentDie.at 0).dict.commits.find? (silentDie.at 0).commitDue = some silentRun := by decide

/-- The die once the COMMIT has completed: the function has no answer. -/
theorem silentDie_unanswered : ∃ v : State, exec (.commitComplete 0) silentDie = .next v ∧ (v.fnSt silentRun.fn).answer = none :=
  ⟨_, exec_commitComplete rfl 0 silentDie_due rfl, by decide⟩

/-- Refutes O18: its third part has every COMMIT that completes answer its function, and no response comes where an FLR of that
came before (R353). -/
theorem not_commitDecidesAndCompletes : ¬ Obligations.CommitDecidesAndCompletes := by
  rintro ⟨-, -, hcomplete, -⟩
  obtain ⟨v, -, -, hanswers⟩ := hcomplete 0 silentDie silentRun rfl silentDie_due
  obtain ⟨w, hsilent, hnone⟩ := silentDie_unanswered
  rw [hanswers] at hsilent
  cases hsilent
  rw [State.deliver_answer _ (by decide)] at hnone
  cases hnone

end Sys2Proof.Machine
end

section
/-! PROOFS. Requests that reach their command, and what the service of the dictionary leaves alone (R71–R78). -/

namespace Sys2Proof.Machine

variable {s : State}

/-! ### A request and its command -/

/-- A request of opcode `op` that comes at cycle `t` reaches its command: the die runs, the dictionary is served, the caller's role is
open, nothing keeps the service from the request, and its form is right (R75 step 1, R78, R351). -/
structure ReachesCommand (s : State) (t : Nat) (c : Caller) (op : Nat) (r : Req) : Prop where
  live : s.live = true
  released : s.reg 0x2050 1 ≠ 0
  role : s.roleOpen (callerFn c) = true
  gate : ((s.at t).asked (callerFn c)).serviceGate (callerFn c) op r.index.toNat r.sub.toNat = none
  form : formCheck (callerFn c) op r = stOk

/-- The commands that answer at once: those of R73 but COMMIT. -/
def State.command (s : State) (fn op : Nat) (r : Req) : State × Resp :=
  if op = 1 then s.doRead fn r
  else if op = 2 then s.doWrite fn r
  else if op = 3 then s.doBegin fn r
  else if op = 5 then s.doRollback fn r
  else s.doQuery fn r

/-- A command but COMMIT is answered at once; its response names its journal entry (R73, R395). -/
theorem State.operate_command {op : Nat} (hop : op ≠ 4) (fn : Nat) (r : Req) :
    ∃ n, s.operate fn op r = ((s.command fn op r).1, some { (s.command fn op r).2 with seq := n }) := by
  unfold State.operate
  rw [if_neg hop]
  exact ⟨_, rfl⟩

/-- A row that is a request which reaches its command, and no COMMIT: the command runs, and its response goes out. -/
theorem serveRow_command {t op : Nat} {c : Caller} {r : Req} (h : ReachesCommand s t c op r) (hop : op ≠ 4) {x : State × Resp}
    (hx : ((s.at t).asked (callerFn c)).command (callerFn c) op r = x) :
    ∃ n, serveRow t c op r s = .next (x.1.deliver (callerFn c) { x.2 with seq := n }) := by
  subst hx
  obtain ⟨n, hn⟩ := State.operate_command (s := (s.at t).asked (callerFn c)) hop (callerFn c) r
  have ha : ((s.at t).asked (callerFn c)).answerTo (callerFn c) op r = ((s.at t).asked (callerFn c)).operate (callerFn c) op r := by
    unfold State.answerTo
    rw [h.gate]
    exact if_neg (not_not_intro h.form)
  have hopen : ¬((s.at t).reg 0x2050 1 = 0 ∨ (s.at t).roleOpen (callerFn c) = false) :=
    not_or.mpr ⟨h.released, Bool.not_eq_false _ ▸ h.role⟩
  refine ⟨n, ?_⟩
  rw [serveRow, whileLive_of_live h.live, State.serve, if_neg hopen]
  change Host.Outcome.next (match (((s.at t).asked (callerFn c)).answerTo (callerFn c) op r).2 with
    | some p => (((s.at t).asked (callerFn c)).answerTo (callerFn c) op r).1.deliver (callerFn c) p
    | none => (((s.at t).asked (callerFn c)).answerTo (callerFn c) op r).1) = _
  rw [ha, hn]

/-! ### The dictionary's own state -/

/-- A report writes no more of the dictionary than its numbers. -/
theorem ReportsOnly.dict {s' : State} (h : ReportsOnly s s') : s'.dict = { s.dict with num := s'.dict.num } := by
  rw [ReportsOnly] at h
  rw [h]

theorem State.asked_reports (fn : Nat) : ReportsOnly s (s.asked fn) :=
  (State.bumpF_reports ..).trans (State.trace_reports ..)

theorem State.countResp_reports (fn : Nat) (p : Resp) : ReportsOnly s (s.countResp fn p) := by
  unfold State.countResp
  split <;> split
  exacts [State.bumpF_reports .., .refl s, (State.bumpF_reports ..).trans (State.bumpF_reports ..), State.bumpF_reports ..]

/-- A response writes no more of the dictionary than its numbers. -/
theorem State.deliver_dict (fn : Nat) (p : Resp) : (s.deliver fn p).dict = { s.dict with num := (s.deliver fn p).dict.num } := by
  unfold State.deliver
  split
  · rw [State.canRespond_dict]
    exact (State.countResp_reports fn p).dict
  · exact (State.countResp_reports fn p).dict

@[simp] theorem State.asked_txns (fn : Nat) : (s.asked fn).dict.txns = s.dict.txns := by rw [(State.asked_reports fn).dict]
@[simp] theorem State.deliver_txns (fn : Nat) (p : Resp) : (s.deliver fn p).dict.txns = s.dict.txns := by rw [State.deliver_dict]
@[simp] theorem State.deliver_segments (fn : Nat) (p : Resp) : (s.deliver fn p).dict.segments = s.dict.segments := by rw [State.deliver_dict]
@[simp] theorem State.journalAdd_txns (e : JEntry) : (s.journalAdd e).dict.txns = s.dict.txns := rfl
@[simp] theorem State.journalAdd_commits (e : JEntry) : (s.journalAdd e).dict.commits = s.dict.commits := rfl

/-- A command that carries no identifier of an open transaction of the caller restarts no idle time (R84). -/
theorem State.touchTxn_none {fn id : Nat} (h : s.findTxn fn id = none) : s.touchTxn fn id = s := by
  unfold State.touchTxn
  rw [h]

/-! ### What holds every memory, core and object -/

/-- `s'` has the memories, cores and units of `s`, and its objects but those that count requests, journal entries and log entries. -/
def SameObjects (s s' : State) : Prop :=
  s'.ddr = s.ddr ∧ s'.fscratch = s.fscratch ∧ s'.pads = s.pads ∧ s'.cores = s.cores ∧ s'.umbra = s.umbra ∧ s'.sec = s.sec
    ∧ s'.plans = s.plans ∧ s'.dict.blob = s.dict.blob
    ∧ ∀ g idx sub, idx < 65536 → sub < 256 → idx ≠ 0x1012 → idx ≠ 0x1020 → idx ≠ 0x2054 → s'.regF g idx sub = s.regF g idx sub

theorem SameObjects.refl : SameObjects s s := ⟨rfl, rfl, rfl, rfl, rfl, rfl, rfl, rfl, fun _ _ _ _ _ _ _ _ => rfl⟩

theorem SameObjects.trans {s' s'' : State} (h : SameObjects s s') (h' : SameObjects s' s'') : SameObjects s s'' := by
  obtain ⟨hddr, hscr, hpads, hcores, humbra, hsec, hplans, hblob, hreg⟩ := h
  obtain ⟨hddr', hscr', hpads', hcores', humbra', hsec', hplans', hblob', hreg'⟩ := h'
  exact ⟨hddr'.trans hddr, hscr'.trans hscr, hpads'.trans hpads, hcores'.trans hcores, humbra'.trans humbra, hsec'.trans hsec,
    hplans'.trans hplans, hblob'.trans hblob,
    fun g idx sub hi hs h1 h2 h3 => (hreg' g idx sub hi hs h1 h2 h3).trans (hreg g idx sub hi hs h1 h2 h3)⟩

theorem State.at_sameObjects (t : Nat) : SameObjects s (s.at t) := ⟨rfl, rfl, rfl, rfl, rfl, rfl, rfl, rfl, fun _ _ _ _ _ _ _ _ => rfl⟩

theorem State.asked_sameObjects (fn : Nat) : SameObjects s (s.asked fn) :=
  ⟨by simp, by simp, by simp, by simp, by simp, by simp, by simp, by rw [(State.asked_reports fn).dict],
    fun _ _ _ hi hs h1 _ h3 => State.regF_asked s h3 h1 hi hs⟩

theorem State.setSegment_sameObjects (fn idx sub txn : Nat) (b : Option (List Byte)) : SameObjects s (s.setSegment fn idx sub txn b) :=
  ⟨rfl, rfl, rfl, rfl, rfl, rfl, rfl, rfl, fun _ _ _ _ _ _ _ _ => rfl⟩

theorem State.journalAdd_sameObjects (e : JEntry) : SameObjects s (s.journalAdd e) :=
  ⟨rfl, rfl, rfl, rfl, rfl, rfl, rfl, rfl, fun _ _ _ hi hs _ h2 _ => State.regF_journalAdd s h2 hi hs⟩

theorem State.touchTxn_sameObjects (fn id : Nat) : SameObjects s (s.touchTxn fn id) :=
  ⟨by simp, by simp, by simp, by simp, by simp, by simp, by simp, by unfold State.touchTxn State.putTxn; split <;> rfl,
    fun g idx sub _ _ _ _ _ => State.regF_touchTxn s g idx sub fn id⟩

theorem State.deliver_sameObjects (fn : Nat) (p : Resp) : SameObjects s (s.deliver fn p) :=
  ⟨by simp, by simp, by simp, by simp, by simp, by simp, by simp, by rw [State.deliver_dict],
    fun _ _ _ hi hs h1 _ _ => State.regF_deliver s h1 hi hs⟩

/-! ### A WRITE that a check refuses -/

/-- The first failure of two lists of checks in a row. -/
theorem firstFail_append (l m : List Nat) : firstFail (l ++ m) = firstFail [firstFail l, firstFail m] := by
  induction l with
  | nil => simp [firstFail]
  | cons a l ih =>
    by_cases ha : a = 0
    · simpa [firstFail, ha] using ih
    · simp [firstFail, ha]

/-- A WRITE that a check of R75 refuses may drop the segments before it, and is journaled. -/
theorem State.doWrite_refused {fn : Nat} {o : ObjRow} {r : Req} (ho : objRow r.index.toNat r.sub.toNat = some o)
    (hst : firstFail [s.versionCheck fn 2 r.index.toNat r.sub.toNat, addressCheck r.index.toNat r.sub.toNat true,
      s.rightsCheck fn r.index.toNat r.sub.toNat true (some (parseVal o.ty r.payload)),
      accessCheck o r.txn.toNat, s.txnCheck fn o r, s.valueStep fn o r] ≠ stOk) : SameObjects s (s.doWrite fn r).1 := by
  have hst' := hst
  rw [show ∀ a b c d e f : Nat, [a, b, c, d, e, f] = [a, b, c] ++ [d, e, f] from fun _ _ _ _ _ _ => rfl, firstFail_append] at hst'
  unfold State.doWrite
  simp only [ho, Option.map_some]
  rw [if_pos hst']
  refine SameObjects.trans ?_ (State.touchTxn_sameObjects _ _)
  split <;> split
  · exact (State.setSegment_sameObjects ..).trans (State.journalAdd_sameObjects _)
  · exact State.setSegment_sameObjects ..
  · exact State.journalAdd_sameObjects _
  · exact .refl

/-- Settles O14: the request's count and trace, the refusal's entry and the response touch no other object. -/
theorem refusedWriteChangesNoObject : Obligations.RefusedWriteChangesNoObject := by
  rintro t c r s _ o rfl hl h0 hx hg hf ho hst
  obtain ⟨n, he⟩ := serveRow_command (op := 2) ⟨hl, h0, hx, hg, hf⟩ (by decide) rfl
  refine ⟨_, he, ?_⟩
  change SameObjects s _
  exact (State.at_sameObjects t).trans ((State.asked_sameObjects _).trans
    ((State.doWrite_refused ho hst).trans (State.deliver_sameObjects _ _)))

/-- Settles O13: it is what a served WRITE that passes its checks does. -/
theorem writeTakesEffectAndIsJournaled : Obligations.WriteTakesEffectAndIsJournaled := by
  rintro t c r s _ o rfl hl h0 hx ht
  obtain ⟨p, hop, hst, hp⟩ := State.serve_write (s.at t) (by simpa using h0) hx ht
  refine ⟨p, hop, hst, ?_⟩
  change serveRow t c 2 r s = _
  rw [serveRow, whileLive_of_live hl, hp]

end Sys2Proof.Machine
end

section
/-! PROOFS. Transactions opened, rolled back, abandoned; the journal's mirror (R79, R83, R84, R86). -/

namespace Sys2Proof.Machine

variable {s : State}

/-! ### A transaction closed -/

/-- The dictionary of `s'` is that of `s` but for the counts of changed byte strings and for numbers from OD 2100 on, where the objects of
the staging buffers lie (R47, R76). -/
def StagingOnly (s s' : State) : Prop :=
  s'.dict = { s.dict with num := s'.dict.num, vers := s'.dict.vers }
    ∧ ∀ idx sub, idx < 0x2100 → sub < 256 → s'.reg idx sub = s.reg idx sub

theorem StagingOnly.trans {s' s'' : State} (h : StagingOnly s s') (h' : StagingOnly s' s'') : StagingOnly s s'' := by
  obtain ⟨hdict, hreg⟩ := h
  obtain ⟨hdict', hreg'⟩ := h'
  refine ⟨?_, fun idx sub hi hs => (hreg' idx sub hi hs).trans (hreg idx sub hi hs)⟩
  rw [hdict] at hdict'
  exact hdict'

theorem State.setStaging_stagingOnly {p : Nat} (hp : p < 8) (b : List Byte) : StagingOnly s (s.setStaging p b) := by
  have hver : StagingOnly s (if (s.planSt p).staging = b then s else s.newVersion 0 (0x2100 + p) 1) := by
    split <;> exact ⟨rfl, fun _ _ _ _ => rfl⟩
  refine hver.trans ⟨rfl, fun idx sub hi hs => ?_⟩
  have hkey {a : Nat} (ha : a < 256) : okey 0 idx sub ≠ okey 0 (0x2100 + p) a := okey_ne_of_idx (by omega) (by omega) (by omega) hs ha
  exact (State.reg_setReg_other _ (hkey (by omega))).trans (State.reg_setReg_other _ (hkey (by omega)))

theorem State.clearStaging_stagingOnly (ws : List Staged) : StagingOnly s (s.clearStaging ws) := by
  refine List.foldlRecOn (motive := StagingOnly s) _ _ ⟨rfl, fun _ _ _ _ => rfl⟩ fun v hv w hw => hv.trans ?_
  obtain ⟨-, hplan⟩ := List.mem_filter.mp hw
  simp only [Bool.and_eq_true, decide_eq_true_eq] at hplan
  exact State.setStaging_stagingOnly (by omega) []

/-- The staging buffers of the plans that transaction `id` staged made empty. -/
def State.emptyStaging (s : State) (id : Nat) : State :=
  (s.dict.txns.filter (fun u => decide (u.id = id))).foldl (fun s u => s.clearStaging u.staged) s

theorem State.emptyStaging_stagingOnly (id : Nat) : StagingOnly s (s.emptyStaging id) :=
  List.foldlRecOn (motive := StagingOnly s) _ _ ⟨rfl, fun _ _ _ _ => rfl⟩ fun _ hv u _ =>
    hv.trans (State.clearStaging_stagingOnly (Txn.staged u))

theorem State.closeTxn_txns (id : Nat) : (s.closeTxn id).dict.txns = s.dict.txns.filter (fun u => decide (u.id ≠ id)) := by
  change (s.emptyStaging id).dict.txns.filter _ = _
  rw [(State.emptyStaging_stagingOnly id).1]

theorem State.closeTxn_segments (id : Nat) :
    (s.closeTxn id).dict.segments = s.dict.segments.filter (fun g => decide (g.txn ≠ id)) := by
  change (s.emptyStaging id).dict.segments.filter _ = _
  rw [(State.emptyStaging_stagingOnly id).1]

/-- Of the objects below OD 2100 a transaction's end writes OD 1011.04 alone. -/
theorem State.closeTxn_reg {idx sub : Nat} (id : Nat) (hi : idx < 0x2100) (hs : sub < 256) (h : idx ≠ 0x1011 ∨ sub ≠ 4) :
    (s.closeTxn id).reg idx sub = s.reg idx sub := by
  have hkey : okey 0 idx sub ≠ okey 0 0x1011 4 := by unfold okey; omega
  exact (State.reg_setReg_other _ hkey).trans ((State.emptyStaging_stagingOnly id).2 idx sub hi hs)

/-- No transaction of that identifier is open once it is closed. -/
theorem State.not_mem_closeTxn_txns (id : Nat) : ∀ y ∈ (s.closeTxn id).dict.txns, y.id ≠ id := by
  rw [State.closeTxn_txns]
  exact fun y hy => by simpa using (List.mem_filter.mp hy).2

theorem State.not_mem_closeTxn_segments (id : Nat) : ∀ g ∈ (s.closeTxn id).dict.segments, g.txn ≠ id := by
  rw [State.closeTxn_segments]
  exact fun g hg => by simpa using (List.mem_filter.mp hg).2

/-! ### ROLLBACK -/

/-- A ROLLBACK of an open transaction journals itself and closes it (R83). -/
theorem State.doRollback_open {fn : Nat} {r : Req} {x : Txn} (hver : s.versionCheck fn 5 0 0 = stOk)
    (hx : s.findTxn fn r.txn.toNat = some x) (hj : s.journalFull = false) :
    ∃ v : State, (s.doRollback fn r).1 = v.closeTxn r.txn.toNat := by
  unfold State.doRollback
  simp only [hver, hx, hj, if_true, Bool.false_eq_true, if_false]
  exact ⟨_, rfl⟩

/-- A ROLLBACK of no open transaction of the caller closes none. -/
theorem State.doRollback_unknown {fn : Nat} {r : Req} (hver : s.versionCheck fn 5 0 0 = stOk) (hx : s.findTxn fn r.txn.toNat = none) :
    (s.doRollback fn r).2.status = stTxnUnknown ∧ (s.doRollback fn r).1.dict.txns = s.dict.txns := by
  unfold State.doRollback
  simp only [hver, hx, if_true]
  refine ⟨rfl, ?_⟩
  split
  · rw [State.touchTxn_none hx]
  · rw [State.touchTxn_none (s := s.journalAdd _) hx, State.journalAdd_txns]

/-! ### The decision of a COMMIT -/

theorem State.admitted_txns (p : Nat) (b : List Byte) : (s.admitted p b).dict.txns = s.dict.txns := by
  unfold State.admitted State.placeProgram
  dsimp only
  split <;> rfl

/-- While the tick runs a COMMIT that completes opens and closes no transaction: its writes wait for the edge (R34, R82). -/
theorem State.finishCommit_txns (run : CommitRun) (hon : s.tickOn = true) : (s.finishCommit run).1.dict.txns = s.dict.txns := by
  have hand (v : State) (part : Option Nat) : (v.handOver part).dict.txns = v.dict.txns := by
    unfold State.handOver
    split
    · rw [(State.trace_reports ..).dict]
    · rfl
  have hplans (l : List Nat) (v : State) : (l.foldl (fun s p => match stagedPlan run.txn.staged p with
      | some b => s.admitted p b
      | none => s) v).dict.txns = v.dict.txns := by
    refine List.foldlRecOn (motive := fun u : State => u.dict.txns = v.dict.txns) _ _ rfl fun u hu p _ => ?_
    split
    · rw [State.admitted_txns, hu]
    · exact hu
  unfold State.finishCommit
  simp only [hon, if_true]
  refine (hplans _ _).trans ((hand _ _).trans ?_)
  split <;> rfl

/-- The decision of a COMMIT closes its transaction (R83). -/
theorem State.not_mem_decideCommit_txns (run : CommitRun) (hon : s.tickOn = true) :
    ∀ y ∈ (s.decideCommit run).1.dict.txns, y.id ≠ run.txn.id := by
  have hon' : (s.closeTxn run.txn.id).tickOn = true := by
    unfold State.tickOn at hon ⊢
    rwa [State.closeTxn_reg _ (by omega) (by omega) (.inl (by omega))]
  have htxns : (s.decideCommit run).1.dict.txns = (s.closeTxn run.txn.id).dict.txns := by
    unfold State.decideCommit
    dsimp only
    split
    · dsimp only
      split <;> rfl
    · exact State.finishCommit_txns run hon'
  rw [htxns]
  exact State.not_mem_closeTxn_txns _

/-- Settles O17: what ROLLBACK and the decision of a COMMIT close is gone, and the response opens nothing. -/
theorem rollbackClosesItsTransaction : Obligations.RollbackClosesItsTransaction := by
  refine ⟨?_, ?_, fun s run hon => State.not_mem_decideCommit_txns run hon⟩
  · rintro t c r s _ x rfl hl h0 hrole hg hf hver hx hj
    obtain ⟨n, he⟩ := serveRow_command (op := 5) ⟨hl, h0, hrole, hg, hf⟩ (by decide) rfl
    obtain ⟨v, hv⟩ := State.doRollback_open hver hx hj
    refine ⟨_, he, ?_⟩
    rw [State.deliver_txns, State.deliver_segments]
    change (∀ y ∈ (State.doRollback _ _ _).1.dict.txns, _) ∧ (∀ g ∈ (State.doRollback _ _ _).1.dict.segments, _)
    rw [hv]
    exact ⟨v.not_mem_closeTxn_txns _, v.not_mem_closeTxn_segments _⟩
  · rintro t c r s _ rfl hl h0 hrole hg hf hver hx
    obtain ⟨n, he⟩ := serveRow_command (op := 5) ⟨hl, h0, hrole, hg, hf⟩ (by decide) rfl
    obtain ⟨hst, htxns⟩ := State.doRollback_unknown hver hx
    exact ⟨_, _, he, hst, htxns.trans (by rw [State.asked_txns]; rfl)⟩

/-! ### Abandonment -/

/-- A COMMIT that admission does not run for stands while others are cut. -/
theorem State.cutAdmission_none {status : Nat} {payload : List Byte} {which : Txn → Bool}
    (h : ∀ c ∈ s.dict.commits, which c.txn = false) : s.cutAdmission status payload which = s := by
  have hgone : s.dict.commits.filter (fun c => c.decided.isNone && which c.txn) = [] :=
    List.filter_eq_nil_iff.mpr fun c hc => by simp [h c hc]
  have hleft : s.dict.commits.filter (fun c => !(c.decided.isNone && which c.txn)) = s.dict.commits :=
    List.filter_eq_self.mpr fun c hc => by simp [h c hc]
  simp only [State.cutAdmission, hgone, hleft, List.any_nil, Bool.false_eq_true, if_false, List.map_id', List.filter_nil, List.foldl_nil]

/-- A transaction of which no COMMIT is under way is abandoned: counted, and closed (R84). -/
theorem State.abandonTxn_spec {x : Txn} (h : s.dict.commits.any (fun c => decide (c.txn.id = x.id)) = false) :
    ∃ v : State, s.abandonTxn x = v.closeTxn x.id ∧ v.reg 0x1011 5 = satAdd 32 (s.reg 0x1011 5) 1 := by
  refine ⟨_, rfl, ?_⟩
  rw [State.cutAdmission_none (by simpa using h), State.reg_bump_same]
  exact congrArg (satAdd 32 · 1) (State.regF_journalAdd s (by omega) (by omega) (by omega))

theorem exec_txnIdleExpiry (hl : s.live = true) (t : Nat) {id : BitVec 32} {x : Txn}
    (hx : s.dict.txns.find? (fun y => decide (y.id = id.toNat)) = some x) (hp : s.proc 2 = 1)
    (hidle : x.lastCmd + msCycles 2000 ≤ max s.now t) (hc : s.dict.commits.any (fun c => decide (c.txn.id = x.id)) = false) :
    exec (.txnIdleExpiry t id) s = .next ((s.at t).abandonTxn x) := by
  have hcond : (s.at t).proc 2 = 1 ∧ x.lastCmd + msCycles 2000 ≤ (s.at t).now
      ∧ (s.at t).dict.commits.any (fun c => decide (c.txn.id = x.id)) = false := ⟨hp, hidle, hc⟩
  have hx' : (s.at t).dict.txns.find? (fun y => decide (y.id = id.toNat)) = some x := hx
  change execTxnIdleExpiry t id s = _
  rw [execTxnIdleExpiry, whileLive_of_live hl, hx']
  exact congrArg Host.Outcome.next (if_pos hcond)

/-! ### The journal's mirror -/

/-- The mirror with entry `e` copied into its ring in LPDDR5, whose oldest entry and lag the objects show (R86). -/
def State.mirrorEntry (s : State) (e : JEntry) : State :=
  let ring := keepLast 1048576 (s.dict.ring ++ [e])
  let s := s.ddrWrite (ringPlace e.seq) (entryBytes e)
  let s := { s with dict := { s.dict with ring := ring, mirrored := e.seq } }
  (s.setReg 0x1020 3 ((ring.headD e).seq)).setReg 0x1020 7 s.lag

theorem State.mirrorEntry_ddr (e : JEntry) :
    (s.mirrorEntry e).ddr = ksets memDefault s.ddr (ringPlace e.seq) (entryBytes e) := rfl

theorem exec_journalMirrorCopy (hl : s.live = true) (t : Nat) {e : JEntry}
    (he : s.dict.journal.find? (fun x => decide (s.dict.mirrored < x.seq)) = some e) (hp : s.proc 2 = 1) (hr : s.reg 0x1020 4 = 1) :
    exec (.journalMirrorCopy t) s = .next ((s.at t).mirrorEntry e) := by
  have he' : (s.at t).dict.journal.find? (fun x => decide ((s.at t).dict.mirrored < x.seq)) = some e := he
  have hcond : (s.at t).proc 2 = 1 ∧ (s.at t).reg 0x1020 4 = 1 := ⟨hp, hr⟩
  change execJournalMirrorCopy t s = _
  rw [execJournalMirrorCopy, whileLive_of_live hl, he']
  exact congrArg Host.Outcome.next (if_pos hcond)

theorem exec_journalMirrorCopy_none (hl : s.live = true) (t : Nat)
    (h : s.dict.journal.find? (fun x => decide (s.dict.mirrored < x.seq)) = none ∨ s.proc 2 ≠ 1 ∨ s.reg 0x1020 4 ≠ 1) :
    exec (.journalMirrorCopy t) s = .next (s.at t) := by
  change execJournalMirrorCopy t s = _
  rw [execJournalMirrorCopy, whileLive_of_live hl]
  dsimp only
  split
  case h_1 e he =>
    have he' : s.dict.journal.find? (fun x => decide (s.dict.mirrored < x.seq)) = some e := he
    rw [he'] at h
    exact congrArg Host.Outcome.next (if_neg (not_and_or.mpr (h.resolve_left nofun)))
  case h_2 => rfl

/-- Settles O19: an expiry abandons its transaction, a copy writes the entry's place alone. -/
theorem idleTransactionsCloseAndTheMirrorFollows : Obligations.IdleTransactionsCloseAndTheMirrorFollows := by
  refine ⟨?_, ?_, fun t s hl h => exec_journalMirrorCopy_none hl t h⟩
  · intro t id s x hl hx hp hidle hc
    obtain ⟨v, hv, hcount⟩ := State.abandonTxn_spec (s := s.at t) (x := x) hc
    refine ⟨_, exec_txnIdleExpiry hl t hx hp hidle hc, ?_⟩
    rw [hv, State.closeTxn_reg _ (by omega) (by omega) (.inr (by omega))]
    exact ⟨v.not_mem_closeTxn_txns _, v.not_mem_closeTxn_segments _, hcount⟩
  · intro t s e hl he hp hr
    refine ⟨_, exec_journalMirrorCopy hl t he hp hr, rfl, rfl, ?_, fun a ha => ?_⟩
    · rw [State.ddrRead, State.mirrorEntry_ddr]
      exact kgets_ksets _ _ _ _
    · rw [State.mirrorEntry_ddr]
      exact kget_ksets_outside _ _ _ _ _ ha

end Sys2Proof.Machine
end

section
/-! PROOFS. A BEGIN that carries the identifier of another open transaction of its caller (R79, R84). -/

namespace Sys2Proof.Machine

/-- Transaction 1 of the device owner, open in partition 0, whose last command came at cycle 0. -/
def openTxn : Txn := { id := 1, role := 0, fn := 0, scope := some 0, beginSeq := 1, waiting := [], staged := [], lastCmd := 0 }

/-- A READY die, out of reset, in which it is open. -/
def openDie : State :=
  { State.reset with resetN := true, dict := { dictReset with num := [(okey 0 0x2050 1, 3)], txns := [openTxn], nextTxn := 2 } }

/-- A BEGIN in the global scope that carries identifier 1. -/
def beginGlobal : Req :=
  { flags := 0, tag := 0, txn := 1, index := 0, sub := 0, scopePart := 0, scopeGlobal := true, rsvd := 0, offset := 0, length := 0,
    payload := [] }

theorem openDie_reaches : ReachesCommand openDie 1 (.fn 0) 3 beginGlobal :=
  ⟨by decide, by decide, by decide, by decide, by decide⟩

/-- The BEGIN, at cycle 1, restarts the idle time of the transaction that it names (R84). -/
theorem openDie_begin : ∃ v : State, exec (.begin 1 (.fn 0) beginGlobal) openDie = .next v
    ∧ v.dict.txns.head? = some { openTxn with lastCmd := 1 } := by
  obtain ⟨n, he⟩ := serveRow_command (op := 3) openDie_reaches (by decide) rfl
  refine ⟨_, he, ?_⟩
  rw [State.deliver_txns]
  decide

/-- Refutes O16: its first part has BEGIN leave the open transactions as they were, and a BEGIN that carries the identifier of another
one restarts the idle time of that (R84). -/
theorem not_beginOpensAndQueryNamesOneTransaction : ¬ Obligations.BeginOpensAndQueryNamesOneTransaction := by
  rintro ⟨hopens, -, -⟩
  obtain ⟨hl, h0, hrole, hg, hf⟩ := openDie_reaches
  obtain ⟨x, s', he, htxns, -⟩ := hopens 1 (.fn 0) beginGlobal openDie _ rfl hl h0 hrole hg hf (by decide) (by decide) (by decide) (by decide)
  obtain ⟨v, hv, hhead⟩ := openDie_begin
  rw [he] at hv
  cases hv
  rw [htxns] at hhead
  have hsame : openTxn = { openTxn with lastCmd := 1 } := Option.some.inj hhead
  exact absurd hsame (by decide)

end Sys2Proof.Machine
end

section
/-! PROOFS. What a READ answers, and the reads that move a cursor (R75–R77, R90, R397). -/

namespace Sys2Proof.Machine

variable {s : State}

/-- A READ that passes its checks answers with what the object's value gives (R75). -/
theorem State.doRead_passed {fn : Nat} {r : Req} {o : ObjRow}
    (hchk : firstFail [s.versionCheck fn 1 r.index.toNat r.sub.toNat, addressCheck r.index.toNat r.sub.toNat false,
      s.rightsCheck fn r.index.toNat r.sub.toNat false none] = stOk)
    (htxn : r.txn.toNat = 0 ∨ (s.findTxn fn r.txn.toNat).isSome = true) (hidx : r.index.toNat < 0xF000)
    (ho : objRow r.index.toNat r.sub.toNat = some o) :
    s.doRead fn r = ((s.readValue fn o r).1.touchTxn fn r.txn.toNat, mkResp 1 r (tyCode o.ty) r.txn.toNat (s.readValue fn o r).2.1
      (if (s.readValue fn o r).2.1 = stOk then (s.readValue fn o r).2.2 else [])) := by
  have htxn' : (decide (r.txn.toNat = 0) || (s.findTxn fn r.txn.toNat).isSome) = true := by simpa using htxn
  have hst : firstFail [s.versionCheck fn 1 r.index.toNat r.sub.toNat, addressCheck r.index.toNat r.sub.toNat false,
      s.rightsCheck fn r.index.toNat r.sub.toNat false none,
      need (decide (r.txn.toNat = 0) || (s.findTxn fn r.txn.toNat).isSome) stTxnUnknown] = stOk :=
    (firstFail_append [_, _, _] [_]).trans (by rw [hchk, htxn']; rfl)
  unfold State.doRead
  dsimp only
  rw [if_neg (not_not_intro hst), if_neg (by omega), ho]

/-- A row that is a READ which passes its checks. -/
theorem serveRow_read {t : Nat} {c : Caller} {r : Req} {u : State} {o : ObjRow} {x : State × Nat × List Byte}
    (h : ReachesCommand s t c 1 r) (hu : u = (s.at t).asked (callerFn c))
    (hchk : firstFail [u.versionCheck (callerFn c) 1 r.index.toNat r.sub.toNat, addressCheck r.index.toNat r.sub.toNat false,
      u.rightsCheck (callerFn c) r.index.toNat r.sub.toNat false none] = stOk)
    (htxn : r.txn.toNat = 0 ∨ (u.findTxn (callerFn c) r.txn.toNat).isSome = true) (hidx : r.index.toNat < 0xF000)
    (ho : objRow r.index.toNat r.sub.toNat = some o) (hx : u.readValue (callerFn c) o r = x) :
    ∃ p : Resp, serveRow t c 1 r s = .next ((x.1.touchTxn (callerFn c) r.txn.toNat).deliver (callerFn c) p) ∧ p.status = x.2.1
      ∧ p.payload = (if x.2.1 = stOk then x.2.2 else []) := by
  subst hu
  have hread := State.doRead_passed hchk htxn hidx ho
  rw [hx] at hread
  obtain ⟨n, he⟩ := serveRow_command h (by decide) hread
  exact ⟨_, he, rfl, rfl⟩

/-- A fixed-size object that may be read answers its value in force, in as many bytes as the request asks for (R67, R77). -/
theorem State.readValue_fixed {fn : Nat} {r : Req} {o : ObjRow} (ho : objRow r.index.toNat r.sub.toNat = some o) (hacc : o.acc ≠ .wo)
    (hty : tySize o.ty ≠ 0) (hoff : r.offset.toNat = 0) (hst : reqStagedRead r = false) :
    s.readValue fn o r = (s, stOk, (valBytes o.ty (s.objValue fn o r.index.toNat r.sub.toNat)).take r.length.toNat) := by
  have hfixed {i j : Nat} (hij : ∀ o', objRow i j = some o' → tySize o'.ty = 0) : ¬(r.index.toNat = i ∧ r.sub.toNat = j) := by
    rintro ⟨hi, hj⟩
    rw [hi, hj] at ho
    exact hty (hij o ho)
  unfold State.readValue
  dsimp only
  rw [if_neg (hfixed fun o' h => by cases h; rfl), if_neg (hfixed fun o' h => by cases h; rfl), if_neg (by omega), if_neg hacc,
    if_pos hty, hst]
  rfl

/-- Settles O12: a fixed-size object's value moves no cursor and keeps nothing. -/
theorem readAnswersTheValue : Obligations.ReadAnswersTheValue := by
  rintro t c r s u o hu hl h0 hrole hg hf hchk htxn hst hidx ho hacc hty hoff
  subst hu
  obtain ⟨p, he, hstatus, hpay⟩ :=
    serveRow_read ⟨hl, h0, hrole, hg, hf⟩ rfl hchk htxn hidx ho (State.readValue_fixed ho hacc hty hoff hst)
  exact ⟨p, he, hstatus, hpay⟩

/-! ### The reads that move a cursor -/

/-- A row that reads the entries of the journal or of the log, outside a transaction, and passes its checks. -/
theorem serveRow_cursorRead {t i : Nat} {c : Caller} {r : Req} {u : State} {x : State × Nat × List Byte} (hi : i = 0x1021 ∨ i = 0x2054)
    (hu : u = (s.at t).asked (callerFn c)) (hl : s.live = true) (h0 : s.reg 0x2050 1 ≠ 0) (hrole : s.roleOpen (callerFn c) = true)
    (hg : u.serviceGate (callerFn c) 1 i 2 = none) (hf : formCheck (callerFn c) 1 (reqFor r i 2) = stOk)
    (hchk : firstFail [u.versionCheck (callerFn c) 1 i 2, u.rightsCheck (callerFn c) i 2 false none] = stOk)
    (htxn : r.txn.toNat = 0) (hx : ∀ o, u.readValue (callerFn c) o (reqFor r i 2) = x) :
    ∃ p : Resp, serveRow t c 1 (reqFor r i 2) s = .next ((x.1.touchTxn (callerFn c) 0).deliver (callerFn c) p) ∧ p.status = x.2.1
      ∧ p.payload = (if x.2.1 = stOk then x.2.2 else []) := by
  obtain ⟨hidx, hsub⟩ := reqFor_index r i 2
  rw [Nat.mod_eq_of_lt (by omega)] at hidx hsub
  obtain ⟨o, ho, haddr⟩ : ∃ o, objRow i 2 = some o ∧ addressCheck i 2 false = 0 := by obtain rfl | rfl := hi <;> exact ⟨_, rfl, rfl⟩
  rw [hu] at hg
  have hreach : ReachesCommand s t c 1 (reqFor r i 2) := ⟨hl, h0, hrole, by rw [hidx, hsub]; exact hg, hf⟩
  have hread := serveRow_read hreach hu (by rw [hidx, hsub, haddr]; simpa [firstFail] using hchk) (.inl htxn) (by omega)
    (by rw [hidx, hsub]; exact ho) (hx o)
  rwa [show (reqFor r i 2).txn.toNat = 0 from htxn] at hread

theorem State.readValue_journal {fn : Nat} {o : ObjRow} {r : Req} (hoff : r.offset.toNat = 0) :
    s.readValue fn o (reqFor r 0x1021 2) = s.journalReadOp fn r.length.toNat := by
  unfold State.readValue
  dsimp only
  rw [if_pos ⟨rfl, rfl⟩]
  exact if_pos hoff

theorem State.readValue_log {fn : Nat} {o : ObjRow} {r : Req} (hoff : r.offset.toNat = 0) :
    s.readValue fn o (reqFor r 0x2054 2) = s.logReadOp fn r.length.toNat := by
  have hidx : (reqFor r 0x2054 2).index.toNat = 0x2054 := rfl
  unfold State.readValue
  dsimp only
  rw [if_neg (by rw [hidx]; omega), if_pos ⟨rfl, rfl⟩]
  exact if_pos hoff

section

variable {fn len : Nat}

theorem State.journalReadOp_ahead (hlen : 64 ≤ len) (h : s.dict.nextSeq ≤ s.regF fn 0x1021 1) :
    s.journalReadOp fn len = (s, stOk, []) := by
  unfold State.journalReadOp
  rw [if_neg (by omega), if_pos h]

theorem State.journalReadOp_lost (hlen : 64 ≤ len) (h : s.regF fn 0x1021 1 < s.dict.nextSeq)
    (hold : s.regF fn 0x1021 1 < (s.heldEntries.head?.map (fun e => e.seq)).getD 1) :
    s.journalReadOp fn len = (s, stJournalLost, []) := by
  unfold State.journalReadOp
  dsimp only
  rw [if_neg (by omega), if_neg (by omega), if_pos hold]

theorem State.journalReadOp_held (hlen : 64 ≤ len) (h : s.regF fn 0x1021 1 < s.dict.nextSeq)
    (hold : (s.heldEntries.head?.map (fun e => e.seq)).getD 1 ≤ s.regF fn 0x1021 1) {x : List JEntry × Nat}
    (hx : x = jScan (s.jVisible fn s.heldEntries) s.heldEntries (min (s.regF fn 0x1021 3) (len / 64)) (s.regF fn 0x1021 1) []) :
    s.journalReadOp fn len = ((s.keepCursor fn 0x1021 [1]).setRegF fn 0x1021 1 x.2, stOk, x.1.flatMap entryBytes) := by
  unfold State.journalReadOp
  dsimp only
  rw [if_neg (by omega), if_neg (by omega), if_neg (by omega), ← hx]

end

/-- The cursors, and the count of the entries that one has lost, are no part of the log. -/
theorem State.logReadOp_eq {fn len cur oldest : Nat} {w v : State} {x : List LogEntry × Nat} (hcur : cur = s.regF fn 0x2054 1)
    (hold : oldest = (s.elog.entries.head?.map (fun e => e.seq)).getD s.elog.nextLog) (hw : w = s.keepCursor fn 0x2054 [1, 6])
    (hv : v = if max cur 1 < oldest then w.bumpF 32 fn 0x2054 6 (oldest - max cur 1) else w)
    (hx : x = logScan fn s.elog.entries (min 64 (len / 32)) (max cur oldest) []) :
    s.logReadOp fn len = (v.setRegF fn 0x2054 1 x.2, stOk, x.1.flatMap logBytes) := by
  have hlog : v.elog.entries = s.elog.entries := by
    rw [hv, hw]
    split <;> rfl
  unfold State.logReadOp
  dsimp only
  rw [← hcur, ← hold, ← hw, ← hv, hlog, ← hx]

/-- Settles O22: each read is that of its cursor's range, and the response changes neither. -/
theorem cursorReadsAnswerEntries : Obligations.CursorReadsAnswerEntries := by
  refine ⟨?_, ?_⟩
  · rintro t _ oldest c r s u rfl hu hl h0 hrole hg hf hchk htxn hoff hlen rfl
    have hread {x : State × Nat × List Byte} (hx : u.journalReadOp (callerFn c) r.length.toNat = x) :=
      serveRow_cursorRead (.inl rfl) hu hl h0 hrole hg hf hchk htxn fun _ => (State.readValue_journal hoff).trans hx
    refine ⟨fun h => ?_, fun x h hheld hx => ?_, fun h hlost => ?_⟩
    · obtain ⟨p, he, hst, hpay⟩ := hread (State.journalReadOp_ahead hlen h)
      exact ⟨p, he, hst, hpay⟩
    · obtain ⟨p, he, hst, hpay⟩ := hread (State.journalReadOp_held hlen h hheld hx)
      exact ⟨p, he, hst, hpay⟩
    · obtain ⟨p, he, hst, -⟩ := hread (State.journalReadOp_lost hlen h hlost)
      exact ⟨p, he, hst⟩
  · rintro t _ cur oldest c r s u w v x rfl hu hl h0 hrole hg hf hchk htxn hoff hcur hold hw hv hx
    obtain ⟨p, he, hst, hpay⟩ := serveRow_cursorRead (.inr rfl) hu hl h0 hrole hg hf hchk htxn fun _ =>
      (State.readValue_log hoff).trans (State.logReadOp_eq hcur hold hw hv hx)
    exact ⟨p, he, hst, hpay⟩

end Sys2Proof.Machine
end

section
/-! PROOFS. Interface versions and ring enables, written outside a transaction (R92, R367, R390). -/

namespace Sys2Proof.Machine

variable {s : State}

theorem State.fnSt_congr {s s' : State} (h : s'.fns = s.fns) (f : Nat) : s'.fnSt f = s.fnSt f := by
  simp only [State.fnSt, h]

/-- A response changes no more of its function's state than the answer of its mailbox. -/
theorem State.deliver_fnSt (fn : Nat) (p : Resp) : ∃ a, (s.deliver fn p).fnSt fn = { s.fnSt fn with answer := a } := by
  unfold State.deliver
  split
  · exact ⟨(s.fnSt fn).answer, State.fnSt_congr (by rw [State.canRespond_fns, State.countResp_fns]) fn⟩
  · exact ⟨some p, by rw [State.fnSt_setFn_same, State.fnSt_congr (s.countResp_fns fn p)]⟩

/-- What a number written at once leaves: the value and what the object adds, beside the counts of the request and of the journal. -/
theorem serveRow_num_leaves {t : Nat} {c : Caller} {r : Req} {i j : Nat} (o : ObjRow) (h : WritePasses s t c (reqFor r i j))
    (hi : i < 65536) (hj : j < 256) (ho : objRow i j = some o) (hty : tySize o.ty ≠ 0) (h0 : r.txn.toNat = 0)
    (hs : selects i j = none) (hw : ∀ u fn n, writeStatus u fn i j (.num n) = none) (hacc : storesValue o = true) {u v : State}
    (hu : u = (s.at t).asked (callerFn c))
    (hv : v = u.applyNum (u.setRegF (holdFn o (callerFn c)) i j (reqNum r)) (callerFn c) i j (reqNum r)) :
    ∃ s', serveRow t c 2 (reqFor r i j) s = .next s'
      ∧ (∀ g idx sub, idx ≠ 0x1012 → idx ≠ 0x1020 → idx < 65536 → sub < 256 → s'.regF g idx sub = v.regF g idx sub)
      ∧ ∃ a, s'.fnSt (callerFn c) = { v.fnSt (callerFn c) with answer := a } := by
  obtain ⟨_, p, he, r', rfl, ht⟩ := serveRow_num o h hi hj ho hty h0 hs hw
  rw [← hu, if_pos hacc, ← hv] at ht
  rw [← hu] at he
  obtain ⟨a, ha⟩ := State.deliver_fnSt (s := u.written (callerFn c) o r') (callerFn c) p
  have hfn : (u.written (callerFn c) o r').fnSt (callerFn c) = v.fnSt (callerFn c) :=
    State.fnSt_congr (by rw [State.written_fns, ht]) _
  refine ⟨_, he, fun g idx sub h1 h2 hidx hsub => ?_, a, ha.trans (by rw [hfn])⟩
  rw [State.regF_deliver _ h1 hidx hsub, State.regF_written _ h2 hidx hsub, ht]

/-! ### The four objects -/

section

variable {t : Nat} {c : Caller} {r : Req}

/-- The major of OD 1010.01 that the part serves is 1 (R92). -/
theorem exec_hostIfVersion (hp : WritePasses s t c (reqFor r 0x1010 1)) (h0 : r.txn.toNat = 0) :
    ∃ s', exec (.hostIfVersion t c r) s = .next s' ∧ s'.reg 0x1010 1 = reqNum r
      ∧ s'.reg 0x1010 3 = if reqNum r / 65536 = 1 then 1 else 2 := by
  obtain ⟨s', he, hreg, -⟩ :=
    serveRow_num_leaves _ hp (by omega) (by omega) rfl (by decide) h0 rfl (fun _ _ _ => rfl) rfl rfl rfl
  refine ⟨s', he, ?_, ?_⟩
  · refine (hreg 0 _ _ (by omega) (by omega) (by omega) (by omega)).trans ?_
    exact (State.reg_setReg_other _ (okey_ne_of_sub (by omega) (by omega) (by omega))).trans (State.regF_setRegF_same ..)
  · refine (hreg 0 _ _ (by omega) (by omega) (by omega) (by omega)).trans ?_
    exact State.reg_setReg_same ..

theorem State.applyNum_functionIfVersion (was : State) (fn n : Nat) : was.applyNum s fn 0x1010 4 n = s := by
  unfold State.applyNum
  simp [clearList]

theorem exec_functionIfVersion (hp : WritePasses s t c (reqFor r 0x1010 4)) (h0 : r.txn.toNat = 0) :
    ∃ s', exec (.functionIfVersion t c r) s = .next s' ∧ s'.regF (callerFn c) 0x1010 4 = reqNum r := by
  obtain ⟨s', he, hreg, -⟩ :=
    serveRow_num_leaves _ hp (by omega) (by omega) rfl (by decide) h0 rfl (fun _ _ _ => rfl) rfl rfl rfl
  refine ⟨s', he, (hreg _ _ _ (by omega) (by omega) (by omega) (by omega)).trans ?_⟩
  rw [State.applyNum_functionIfVersion]
  exact State.regF_setRegF_same ..

theorem State.applyNum_evEnable (was : State) (fn n : Nat) : was.applyNum s fn 0x1104 3 n =
    if n = 1 ∧ was.regF fn 0x1104 3 = 0 then s.setFn fn { s.fnSt fn with evHead := 0, evTail := 0, evSeq := 0 } else s := rfl

theorem exec_evEnable (hp : WritePasses s t c (reqFor r 0x1104 3)) (h0 : r.txn.toNat = 0) :
    ∃ s', exec (.evEnable t c r) s = .next s' ∧ s'.regF (callerFn c) 0x1104 3 = reqNum r
      ∧ (reqNum r = 1 → s.regF (callerFn c) 0x1104 3 = 0 → (s'.fnSt (callerFn c)).evHead = 0 ∧ (s'.fnSt (callerFn c)).evTail = 0
          ∧ (s'.fnSt (callerFn c)).evSeq = 0) := by
  obtain ⟨s', he, hreg, a, hfn⟩ :=
    serveRow_num_leaves _ hp (by omega) (by omega) rfl (by decide) h0 rfl (fun _ _ _ => rfl) rfl rfl rfl
  rw [State.applyNum_evEnable] at hfn
  refine ⟨s', he, (hreg _ _ _ (by omega) (by omega) (by omega) (by omega)).trans ?_, fun h1 hoff => ?_⟩
  · rw [State.applyNum_evEnable]
    split <;> exact State.regF_setRegF_same ..
  · rw [hfn, if_pos ⟨h1, (State.regF_asked _ (by omega) (by omega) (by omega) (by omega)).trans hoff⟩, State.fnSt_setFn_same]
    exact ⟨rfl, rfl, rfl⟩

theorem State.applyNum_resEnable (was : State) (fn n : Nat) : was.applyNum s fn 0x1105 3 n =
    if n = 1 ∧ was.regF fn 0x1105 3 = 0 then s.setFn fn { s.fnSt fn with resHead := 0, resTail := 0 } else s := rfl

theorem exec_resEnable (hp : WritePasses s t c (reqFor r 0x1105 3)) (h0 : r.txn.toNat = 0) :
    ∃ s', exec (.resEnable t c r) s = .next s' ∧ s'.regF (callerFn c) 0x1105 3 = reqNum r
      ∧ (reqNum r = 1 → s.regF (callerFn c) 0x1105 3 = 0 → (s'.fnSt (callerFn c)).resHead = 0 ∧ (s'.fnSt (callerFn c)).resTail = 0) := by
  obtain ⟨s', he, hreg, a, hfn⟩ :=
    serveRow_num_leaves _ hp (by omega) (by omega) rfl (by decide) h0 rfl (fun _ _ _ => rfl) rfl rfl rfl
  rw [State.applyNum_resEnable] at hfn
  refine ⟨s', he, (hreg _ _ _ (by omega) (by omega) (by omega) (by omega)).trans ?_, fun h1 hoff => ?_⟩
  · rw [State.applyNum_resEnable]
    split <;> exact State.regF_setRegF_same ..
  · rw [hfn, if_pos ⟨h1, (State.regF_asked _ (by omega) (by omega) (by omega) (by omega)).trans hoff⟩, State.fnSt_setFn_same]
    exact ⟨rfl, rfl⟩

end

/-- Settles O21: each object takes the number, and a ring that was off starts empty. -/
theorem versionsAndRingsTakeTheirValue : Obligations.VersionsAndRingsTakeTheirValue :=
  ⟨fun _ _ _ _ hp h0 => exec_hostIfVersion hp h0, fun _ _ _ _ hp h0 => exec_functionIfVersion hp h0,
    fun _ _ _ _ hp h0 => exec_evEnable hp h0, fun _ _ _ _ hp h0 => exec_resEnable hp h0⟩

end Sys2Proof.Machine
end

section
/-! PROOFS. A fetched TOD's outcome, and what it counts and marks: withdrawn pages, poisoned blocks, failed CRCs (R115, R444, R445, R447, R452). -/

namespace Sys2Proof.Machine

variable {s : State}

/-! ### An error record -/

/-- An error record changes the records, their version and the draws, and nothing else (R462). -/
theorem State.addRecord_eq (site : ErrSite) (who : Option Nat) (cls outcome : Nat) :
    ∃ vers records free, s.addRecord site who cls outcome
      = { s with dict := { s.dict with vers := vers }, faults := { s.faults with records := records }, free := free } := by
  unfold State.addRecord State.orFree
  split <;> cases who <;> exact ⟨_, _, _, rfl⟩

@[simp] theorem State.addRecord_tasks (site : ErrSite) (who : Option Nat) (cls outcome : Nat) :
    (s.addRecord site who cls outcome).tasks = s.tasks := by
  obtain ⟨_, _, _, h⟩ := State.addRecord_eq (s := s) site who cls outcome
  rw [h]

@[simp] theorem State.addRecord_ddr (site : ErrSite) (who : Option Nat) (cls outcome : Nat) :
    (s.addRecord site who cls outcome).ddr = s.ddr := by
  obtain ⟨_, _, _, h⟩ := State.addRecord_eq (s := s) site who cls outcome
  rw [h]

@[simp] theorem State.addRecord_pads (site : ErrSite) (who : Option Nat) (cls outcome : Nat) :
    (s.addRecord site who cls outcome).pads = s.pads := by
  obtain ⟨_, _, _, h⟩ := State.addRecord_eq (s := s) site who cls outcome
  rw [h]

@[simp] theorem State.addRecord_reg (site : ErrSite) (who : Option Nat) (cls outcome idx sub : Nat) :
    (s.addRecord site who cls outcome).reg idx sub = s.reg idx sub := by
  obtain ⟨_, _, _, h⟩ := State.addRecord_eq (s := s) site who cls outcome
  rw [h]
  rfl

/-! ### What depends on the dictionary alone -/

section

variable {s' : State} (h : s'.dict = s.dict)
include h

theorem State.reg_congr (idx sub : Nat) : s'.reg idx sub = s.reg idx sub := State.regF_congr (congrArg _ h) 0 idx sub

theorem State.setReg_dict_congr (idx sub v : Nat) : (s'.setReg idx sub v).dict = (s.setReg idx sub v).dict := by
  simp only [State.setReg, State.setRegF, h]

theorem State.bump_dict_congr (w idx sub n : Nat) : (s'.bump w idx sub n).dict = (s.bump w idx sub n).dict := by
  simp only [State.bump, State.bumpF, State.setRegF, State.regF, h]

/-- What `countStart` leaves in the dictionary depends on the dictionary alone. -/
theorem State.countStart_dict_congr (r w : Nat) : (s'.countStart r w).dict = (s.countStart r w).dict := by
  have hb := State.bump_dict_congr (State.bump_dict_congr h 64 (0x5300 + r) 3 w) 64 (0x5300 + r) 7 1
  unfold State.countStart
  dsimp only
  rw [State.reg_congr hb]
  split
  · exact State.setReg_dict_congr hb ..
  · exact hb

end

/-! ### A task changed -/

@[simp] theorem State.modTask_ddr (id : Nat) (f : Task → Task) : (s.modTask id f).ddr = s.ddr := rfl
@[simp] theorem State.modTask_pads (id : Nat) (f : Task → Task) : (s.modTask id f).pads = s.pads := rfl
@[simp] theorem State.modTask_reg (id idx sub : Nat) (f : Task → Task) : (s.modTask id f).reg idx sub = s.reg idx sub := rfl

/-- What a change of tasks leaves of them depends on the tasks alone. -/
theorem State.modTask_tasks_congr {s' : State} (h : s'.tasks = s.tasks) (id : Nat) (f : Task → Task) :
    (s'.modTask id f).tasks = (s.modTask id f).tasks := congrArg (List.map _) h

/-- A task that a change with its identifier meets is found changed. -/
theorem State.task?_modTask {id : Nat} {k : Task} (h : s.task? id = some k) {f : Task → Task} (hf : ∀ u, (f u).id = u.id) :
    (s.modTask k.id f).task? id = some (f k) := by
  rw [State.task?] at h ⊢
  have hid : k.id = id := by simpa using List.find?_some h
  have hp : (fun u : Task => decide (u.id = id)) ∘ (fun u => if u.id = id then f u else u) = fun u => decide (u.id = id) := by
    funext u
    simp only [Function.comp_apply]
    split <;> simp [hf]
  rw [State.modTask, hid, List.find?_map, hp, h, Option.map_some, if_pos hid]

/-- The task of a core, changed. -/
theorem State.coreTask_modTask {c : Nat} {k : Task} (h : s.coreTask c = some k) {f : Task → Task} (hf : ∀ u, (f u).id = u.id) :
    (s.modTask k.id f).coreTask c = some (f k) := by
  obtain ⟨id, hid, hk⟩ := Option.bind_eq_some_iff.mp h
  exact Option.bind_eq_some_iff.mpr ⟨id, hid, State.task?_modTask hk hf⟩

/-- A sequencer set to one that runs the same task. -/
theorem State.coreTask_setCore {c : Nat} {x : CoreSt} (h : x.task = (s.core c).task) : (s.setCore c x).coreTask c = s.coreTask c := by
  rw [State.coreTask, State.core_setCore_same, h]
  rfl

/-! ### The outcome of a fetch -/

theorem State.fetchStatus_retired {a : Nat} (h : s.spanRetired a 64 = true) : s.fetchStatus a = stRetired := if_pos h

theorem State.fetchStatus_poisoned {a : Nat} (h : s.spanRetired a 64 = false) (h' : s.spanPoisoned a 64 = true) :
    s.fetchStatus a = stTaskAborted := by simp [State.fetchStatus, h, h']

theorem State.fetchStatus_read {a : Nat} (h : s.spanRetired a 64 = false) (h' : s.spanPoisoned a 64 = false) :
    s.fetchStatus a = stOk := by simp [State.fetchStatus, h, h']

theorem firstFail_pair (x y : Nat) : firstFail [x, y] = if x = stOk then y else x := by
  by_cases hx : x = 0 <;> by_cases hy : y = 0 <;> simp [firstFail, stOk, hx, hy]

/-- A block that cannot be read gives its own status, and one that can that of the TOD's checks (R115). -/
theorem State.fetchOne_status (c : Nat) (k : Task) (q : List TodQ) (last : List Byte) (n : Nat) :
    (s.fetchOne c k q last n).status = if s.fetchStatus (k.prog + 64 * n) = stOk
      then s.todCheck c k (s.fetchOne c k q last n).bytes ((q.getLast?.map (fun x => x.bytes)).getD last) n
      else s.fetchStatus (k.prog + 64 * n) := by
  refine (firstFail_pair _ _).trans ?_
  cases q.getLast? <;> rfl

theorem State.todCheck_crc {b : List Byte} (h : crc32 (slice b 0 60) ≠ wordAt b 15) (c : Nat) (k : Task) (prev : List Byte) (n : Nat) :
    s.todCheck c k b prev n = stTaskAborted := if_pos h

/-! ### What a fetch counts and marks -/

section

variable (a st id : Nat) (who : Option Nat)

theorem State.countFetch_read (h : s.fetchStatus a = stOk) :
    s.countFetch a st who id = if st = stTaskAborted then s.crcLasting who else s := if_neg (not_not_intro h)

theorem State.countFetch_unread (h : s.fetchStatus a ≠ stOk) : s.countFetch a st who id =
    (if s.fetchStatus a = stTaskAborted then s.countPoison a 64 who else s).modTask id (fun x => { x with corrupt := true }) := if_pos h

/-- A block that cannot be read marks the outputs of its task (R447, R452). -/
theorem State.countFetch_tasks : (s.countFetch a st who id).tasks
    = if s.fetchStatus a = stOk then s.tasks else (s.modTask id (fun x => { x with corrupt := true })).tasks := by
  split
  case isTrue h =>
    rw [State.countFetch_read a st id who h]
    split <;> simp [State.crcLasting]
  case isFalse h =>
    rw [State.countFetch_unread a st id who h]
    refine State.modTask_tasks_congr ?_ id _
    split <;> simp [State.countPoison]

@[simp] theorem State.countFetch_ddr : (s.countFetch a st who id).ddr = s.ddr := by
  unfold State.countFetch
  split_ifs <;> simp [State.countPoison, State.crcLasting]

@[simp] theorem State.countFetch_pads : (s.countFetch a st who id).pads = s.pads := by
  unfold State.countFetch
  split_ifs <;> simp [State.countPoison, State.crcLasting]

/-- A poisoned block counts in OD 8000.04 (R444). -/
theorem State.countFetch_poisoned_reg (h : s.fetchStatus a = stTaskAborted) :
    (s.countFetch a st who id).reg 0x8000 4 = satAdd 64 (s.reg 0x8000 4) 1 := by
  rw [State.countFetch_unread a st id who (by rw [h]; decide), if_pos h]
  simp [State.countPoison, State.reg_bump_same]

/-- A CRC that fails counts in OD 8000.02 (R445). -/
theorem State.countFetch_crc_reg (h : s.fetchStatus a = stOk) :
    (s.countFetch a stTaskAborted who id).reg 0x8000 2 = satAdd 64 (s.reg 0x8000 2) 1 := by
  rw [State.countFetch_read a _ id who h, if_pos rfl]
  simp [State.crcLasting, State.reg_bump_same]

/-- Only a poisoned block and a failed CRC count. -/
theorem State.countFetch_dict (h : s.fetchStatus a ≠ stTaskAborted) (h' : st ≠ stTaskAborted) :
    (s.countFetch a st who id).dict = s.dict := by
  unfold State.countFetch
  rw [if_neg h, if_neg h']
  split <;> rfl

end

end Sys2Proof.Machine
end

section
/-! PROOFS. The tensor sequencers: TODs fetched, started and completed (R115–R117, R144, R166, R190, R302, R437, R451). -/

namespace Sys2Proof.Machine

variable {s : State}

/-! ### TOD_FETCH -/

/-- The next TOD of the running task (R115). -/
theorem exec_todFetch (hl : s.live = true) (t : Nat) (c : CoreId) {k : Task} {q : TodQ} (hk : (s.at t).coreTask c.val = some k)
    (hall : (s.core c.val).fetchedAll = false) (hopen : fetchOpen (s.core c.val).fetch = true)
    (hq : (s.at t).fetchOne c.val k (s.core c.val).fetch ((s.core c.val).run.getD (s.core c.val).lastTod) (s.core c.val).fetched = q) :
    exec (.todFetch t c) s = .next
      (((s.at t).countFetch (k.prog + 64 * (s.core c.val).fetched) q.status (some c.val) k.id).setCore c.val
        { s.core c.val with fetch := (s.core c.val).fetch ++ [q], fetched := (s.core c.val).fetched + 1 }) := by
  have hcore : (s.at t).core c.val = s.core c.val := rfl
  change execTodFetch t c s = _
  simp only [execTodFetch, whileLive_of_live hl, hk, hcore, hall, hopen, hq, Bool.not_false, if_true]

theorem exec_todFetch_full (hl : s.live = true) (t : Nat) (c : CoreId) {k : Task} (hk : (s.at t).coreTask c.val = some k)
    (hall : (s.core c.val).fetchedAll = false) (hfull : fetchOpen (s.core c.val).fetch = false) :
    exec (.todFetch t c) s = .next (s.at t) := by
  have hcore : (s.at t).core c.val = s.core c.val := rfl
  change execTodFetch t c s = _
  simp only [execTodFetch, whileLive_of_live hl, hk, hcore, hall, hfull, Bool.not_false, if_true, Bool.false_eq_true, if_false]

/-- The next TOD of the entry that is prefetched (R190). -/
theorem exec_todFetch_next (hl : s.live = true) (t : Nat) (c : CoreId) {id : Nat} {k v : Task} {b : Binding} {q : TodQ}
    (hk : (s.at t).coreTask c.val = some k) (hall : (s.core c.val).fetchedAll = true) (hb : (s.queue k.node.queue).bind = some b)
    (hdeep : 2 ≤ b.outstanding) (hid : (s.core c.val).next = some id) (hv : (s.at t).task? id = some v)
    (hopen : fetchOpen (s.core c.val).nfetch = true)
    (hq : (s.at t).fetchOne c.val v (s.core c.val).nfetch [] (s.core c.val).nfetch.length = q) :
    exec (.todFetch t c) s = .next
      (((s.at t).countFetch (v.prog + 64 * (s.core c.val).nfetch.length) q.status (some c.val) v.id).setCore c.val
        { s.core c.val with next := some v.id, nfetch := (s.core c.val).nfetch ++ [q] }) := by
  have hcore : (s.at t).core c.val = s.core c.val := rfl
  have hqueue : ((s.at t).queue k.node.queue).bind = some b := hb
  change execTodFetch t c s = _
  simp only [execTodFetch, whileLive_of_live hl, hk, hcore, hall, hqueue, hid, hv, hopen, hq, hdeep, Bool.not_true, Bool.false_eq_true,
    if_false, decide_true, Bool.and_self, if_true]

/-- Settles O34: the TOD that enters is `fetchOne`'s, and what it counts and marks is `countFetch`'s. -/
theorem sequencerFetches : Obligations.SequencerFetches := by
  refine ⟨?_, fun t c s k hl hk hall hfull => exec_todFetch_full hl t c hk hall hfull, ?_⟩
  · rintro t a c s u k rfl hl hk hall hopen rfl
    have hret := State.fetchStatus_retired (s := s.at t) (a := k.prog + 64 * (s.core c.val).fetched)
    have hpois := State.fetchStatus_poisoned (s := s.at t) (a := k.prog + 64 * (s.core c.val).fetched)
    have hread := State.fetchStatus_read (s := s.at t) (a := k.prog + 64 * (s.core c.val).fetched)
    have hst := (s.at t).fetchOne_status c.val k (s.core c.val).fetch ((s.core c.val).run.getD (s.core c.val).lastTod) (s.core c.val).fetched
    refine ⟨_, _, exec_todFetch hl t c hk hall hopen rfl, State.core_setCore_same .., rfl, fun h => ?_, fun h h' => ?_,
      fun h h' hcrc => ?_, fun h h' => ?_, fun hnot => ?_, State.countFetch_tasks .., State.countFetch_ddr .., State.countFetch_pads ..⟩
    · rw [hst, hret h]
      rfl
    · rw [hst, hpois h h']
      exact ⟨rfl, State.countFetch_poisoned_reg _ _ _ _ (hpois h h')⟩
    · rw [hst, if_pos (hread h h'), State.todCheck_crc hcrc]
      exact ⟨rfl, State.countFetch_crc_reg _ _ _ (hread h h')⟩
    · exact hst.trans (if_pos (hread h h'))
    · refine State.countFetch_dict _ _ _ _ (fun hf => hnot ?_) hnot
      rw [hst, hf]
      rfl
  · rintro t id c s u k v b rfl hl hk hall hb hdeep hid hv hopen
    exact ⟨_, _, exec_todFetch_next hl t c hk hall hb hdeep hid hv hopen rfl, State.core_setCore_same .., rfl, State.countFetch_tasks ..,
      State.countFetch_ddr .., State.countFetch_pads ..⟩

/-! ### TOD_START -/

/-- What `countStart` writes is in the dictionary. -/
theorem State.countStart_eq (r w : Nat) : s.countStart r w = { s with dict := (s.countStart r w).dict } := by
  unfold State.countStart
  dsimp only
  split <;> rfl

/-- A host task's first TOD marks its task started and counts the wait before it (R191; log 84). -/
def State.noteFirstTod (s : State) (c : Nat) (k : Task) : State :=
  if k.ring.isSome ∧ k.started = false then
    (s.modTask k.id (fun u => { u with started := true, startAt := s.now })).countStart c (s.now - k.eligAt)
  else s

/-- The TOD `b` starts on core `c`, where `rest` stays fetched. -/
def State.startTod (s : State) (c : Nat) (k : Task) (b : List Byte) (rest : List TodQ) : State :=
  (s.noteFirstTod c k).setCore c { (s.noteFirstTod c k).core c with
    fetch := rest, run := some b, runAt := (s.noteFirstTod c k).now, ran := 0, wait := if todType b = 0x20 then 1 else 0 }

/-- The first TOD of a host task starts the task (R191). -/
theorem State.noteFirstTod_coreTask {c d : Nat} {k : Task} (hk : s.coreTask d = some k) : (s.noteFirstTod c k).coreTask d
    = some (if k.ring.isSome = true ∧ k.started = false then { k with started := true, startAt := s.now } else k) := by
  unfold State.noteFirstTod
  split
  · rw [State.countStart_eq]
    exact State.coreTask_modTask hk fun _ => rfl
  · exact hk

theorem State.noteFirstTod_dict (c : Nat) (k : Task) : (s.noteFirstTod c k).dict
    = if k.ring.isSome = true ∧ k.started = false then (s.countStart c (s.now - k.eligAt)).dict else s.dict := by
  unfold State.noteFirstTod
  split
  · exact State.countStart_dict_congr (s := s) (s' := s.modTask k.id _) rfl _ _
  · rfl

/-- The first TOD of a host task is noted in the task and in the dictionary, and nowhere else. -/
theorem State.noteFirstTod_eq (c : Nat) (k : Task) :
    s.noteFirstTod c k = { s with dict := (s.noteFirstTod c k).dict, tasks := (s.noteFirstTod c k).tasks } := by
  unfold State.noteFirstTod
  split
  · rw [State.countStart_eq]
    rfl
  · rfl

theorem State.startTod_core (c : Nat) (k : Task) (b : List Byte) (rest : List TodQ) : (s.startTod c k b rest).core c = { s.core c with
    fetch := rest, run := some b, runAt := s.now, ran := 0, wait := if todType b = 0x20 then 1 else 0 } := by
  rw [State.startTod, State.core_setCore_same, State.noteFirstTod_eq]
  rfl

theorem State.startTod_coreTask (c : Nat) (k : Task) (b : List Byte) (rest : List TodQ) :
    (s.startTod c k b rest).coreTask c = (s.noteFirstTod c k).coreTask c := State.coreTask_setCore rfl

theorem State.startTod_ddr (c : Nat) (k : Task) (b : List Byte) (rest : List TodQ) : (s.startTod c k b rest).ddr = s.ddr := by
  rw [State.startTod, State.setCore_ddr, State.noteFirstTod_eq]

theorem State.startTod_pads (c : Nat) (k : Task) (b : List Byte) (rest : List TodQ) : (s.startTod c k b rest).pads = s.pads := by
  rw [State.startTod, State.setCore_pads, State.noteFirstTod_eq]

theorem exec_todStart_running (hl : s.live = true) (t : Nat) (c : CoreId) (hrun : (s.core c.val).run ≠ none) :
    exec (.todStart t c) s = .next (s.at t) := by
  have hrun' : ((s.at t).core c.val).run.isSome = true := Option.isSome_iff_ne_none.mpr hrun
  change execTodStart t c s = _
  unfold execTodStart
  rw [whileLive_of_live hl]
  dsimp only
  split
  · rfl
  · rw [if_pos hrun']

section

variable (hl : s.live = true) (t : Nat) (c : CoreId) {k : Task} (hk : (s.at t).coreTask c.val = some k) (hrun : (s.core c.val).run = none)
include hl hk hrun

theorem exec_todStart_stops (hstop : (s.core c.val).stop ≠ 0) : exec (.todStart t c) s = .next ((s.at t).coreStop c.val) := by
  have hcore : (s.at t).core c.val = s.core c.val := rfl
  change execTodStart t c s = _
  simp only [execTodStart, whileLive_of_live hl, hk, hcore, hrun, hstop, Option.isSome_none, Bool.false_eq_true, if_false, ne_eq,
    not_false_eq_true, if_true]

theorem exec_todStart_empty (hstop : (s.core c.val).stop = 0) (hfetch : (s.core c.val).fetch = []) :
    exec (.todStart t c) s = .next (s.at t) := by
  have hcore : (s.at t).core c.val = s.core c.val := rfl
  change execTodStart t c s = _
  simp only [execTodStart, whileLive_of_live hl, hk, hcore, hrun, hstop, hfetch, Option.isSome_none, Bool.false_eq_true, if_false, ne_eq,
    not_true_eq_false]

/-- The TOD at the head of the queue: refused, at the end of its slot, or started. -/
theorem exec_todStart_head {q : TodQ} {rest : List TodQ} (hstop : (s.core c.val).stop = 0) (hfetch : (s.core c.val).fetch = q :: rest) :
    exec (.todStart t c) s = .next
      (if q.status ≠ 0 then (s.at t).refuseTod c.val q.status
      else if (s.at t).startCheck c.val k.part q.bytes ≠ 0 then (s.at t).refuseTod c.val ((s.at t).startCheck c.val k.part q.bytes)
      else if k.selfTest = true ∧ k.redo = 0 ∧ slotLimit k < max s.now t + todCycles q.bytes 0 0 false then
        ((s.at t).bump 64 (0x7100 + c.val) 6 1).coreFinish c.val stOk
      else (s.at t).startTod c.val k q.bytes rest) := by
  have hcore : (s.at t).core c.val = s.core c.val := rfl
  change execTodStart t c s = _
  simp only [execTodStart, whileLive_of_live hl, hk, hcore, hrun, hstop, hfetch, Option.isSome_none, Bool.false_eq_true, if_false, ne_eq,
    not_true_eq_false, Bool.and_eq_true, decide_eq_true_eq, and_assoc, State.at_now]
  rfl

end

/-- Settles O35, by what the head of the fetch queue is. -/
theorem headTodStartsOrIsRefused : Obligations.HeadTodStartsOrIsRefused := by
  refine ⟨?_, ?_, ?_, fun t c s hl hrun => exec_todStart_running hl t c hrun⟩
  · rintro t c s u k q rest rfl hl hk hrun hstop hfetch hq hcheck hfits
    have hslot : ¬(k.selfTest = true ∧ k.redo = 0 ∧ slotLimit k < max s.now t + todCycles q.bytes 0 0 false) := by
      rintro ⟨hself, hredo, hover⟩
      rcases hfits with h | h | h
      · simp [hself] at h
      · exact h hredo
      · omega
    have he := exec_todStart_head hl t c hk hrun hstop hfetch
    rw [if_neg (not_not_intro hq), if_neg (not_not_intro hcheck), if_neg hslot] at he
    refine ⟨_, he, State.startTod_core .., ?_, ?_, State.startTod_ddr .., State.startTod_pads ..⟩
    · rw [State.startTod_coreTask]
      exact State.noteFirstTod_coreTask hk
    · refine (State.noteFirstTod_dict c.val k).trans ?_
      rw [State.countStart_dict_congr (s := s) (s' := s.at t) rfl]
      rfl
  · rintro t c s u k q rest rfl hl hk hrun hstop hfetch
    rw [exec_todStart_head hl t c hk hrun hstop hfetch]
    refine ⟨fun hq => ?_, fun hq hcheck => ?_, fun hq hcheck hself hredo hover => ?_⟩
    · rw [if_pos hq]
    · rw [if_neg (not_not_intro hq), if_pos hcheck]
    · rw [if_neg (not_not_intro hq), if_neg (not_not_intro hcheck), if_pos ⟨hself, hredo, hover⟩]
  · rintro t c s u k rfl hl hk hrun
    exact ⟨exec_todStart_stops hl t c hk hrun, exec_todStart_empty hl t c hk hrun⟩

/-! ### TOD_COMPLETE -/

/-- A step of a sequencer waits for a scratchpad that is being cleared (R144). -/
theorem State.todAccess_held {c k : Nat} {b : List Byte} (hrun : (s.core c).run = some b)
    (h : (todReach b c).find? s.padClearing = some k) (f : State → State) : s.todAccess c f = s.holdPad k (.tod c) := by
  simp only [State.todAccess, hrun, h]

/-- Else it comes after the cycles of the ports (log 68). -/
theorem State.todAccess_open {c : Nat} {b : List Byte} (hrun : (s.core c).run = some b)
    (h : (todReach b c).find? s.padClearing = none) (f : State → State) :
    s.todAccess c f = f ((todReach b c).foldl State.padRun s) := by
  simp only [State.todAccess, hrun, h]

theorem exec_todComplete (hl : s.live = true) (t : Nat) (c : CoreId) :
    exec (.todComplete t c) s = .next ((s.at t).todAccess c.val (fun v => v.todComplete c.val)) :=
  whileLive_of_live hl t fun v => v.todAccess c.val (fun v => v.todComplete c.val)

section

variable {c : Nat} {b : List Byte} {k : Task} (hrun : (s.core c).run = some b) (hk : s.coreTask c = some k)
include hrun hk

theorem State.todComplete_flagWait (hty : todType b = 0x20) :
    s.todComplete c = if (s.core c).wait = 1 ∨ (s.core c).wait = 2 then s else (s.countTod c work0).afterTod c b := by
  simp only [State.todComplete, hrun, hk, hty, true_and, Nat.reduceEqDiff, if_true, if_false]

theorem State.todComplete_knownAnswer (hty : todType b = 0x30) : s.todComplete c = s.knownAnswerEnd c b := by
  simp only [State.todComplete, hrun, hk, hty, Nat.reduceEqDiff, false_and, if_true, if_false]

/-- A TOD that computes: refused at a remote core, stopped by a withdrawn row, or done (R166, R451). -/
theorem State.todComplete_compute (hflag : todType b ≠ 0x20) (hknown : todType b ≠ 0x30) {w : State} (hw : w = (s.remoteCheck c k.part b).1) :
    s.todComplete c = if (s.remoteCheck c k.part b).2 ≠ 0 then w.coreFinish c (s.remoteCheck c k.part b).2
      else if (w.todWork c b).spans.any (fun e => w.spanWithdrawn (todCore b c e.1) (todHandle b e.1) e.2.1 e.2.2) then
        w.coreFinish c stRetired
      else w.todOutputs c k b (w.todWork c b) := by
  subst hw
  simp only [State.todComplete, hrun, hk, hflag, hknown, false_and, if_false]

end

/-- What follows a TOD of a task that is no self-test slot and is not to stop (R116). -/
theorem State.afterTod_of_goesOn {c : Nat} {k : Task} {b : List Byte} {v : State} (hk : s.coreTask c = some k) (hself : k.selfTest = false)
    (hstop : (s.core c).stop = 0) (hv : v = s.setCore c { s.core c with run := none, lastTod := b, wait := 0, ran := 0 }) :
    s.afterTod c b = if todLast b = true then v.coreFinish c stOk else v := by
  subst hv
  have hkv : (s.setCore c { s.core c with run := none, lastTod := b, wait := 0, ran := 0 }).coreTask c = some k := by
    rwa [State.coreTask_setCore (by rfl)]
  unfold State.afterTod
  simp only [hkv, hself, Bool.false_and, Bool.false_eq_true, if_false]
  rw [if_neg (not_not_intro hstop)]

/-- Settles O36, by the type of the TOD. -/
theorem todCompletesWithItsOutputs : Obligations.TodCompletesWithItsOutputs := by
  refine ⟨?_, ?_, ?_⟩
  · rintro t k c s u b rfl hl hrun hclear
    rw [exec_todComplete hl, State.todAccess_held (s := s.at t) hrun hclear]
  · rintro t c s u v w k b rfl hl hrun hclear hv hrunv hk hw
    rw [exec_todComplete hl, State.todAccess_open (s := s.at t) hrun hclear, ← hv]
    refine ⟨fun h20 h30 hok hrows => ?_, fun h20 h30 hok hrows => ?_, fun h20 h30 hbad => ?_, fun h20 hwait => ?_, fun h20 h1 h2 => ?_,
      fun h30 => ?_⟩
    · rw [State.todComplete_compute hrunv hk h20 h30 hw, if_neg (not_not_intro hok), if_neg (by simp [hrows])]
    · rw [State.todComplete_compute hrunv hk h20 h30 hw, if_neg (not_not_intro hok), if_pos hrows]
    · rw [State.todComplete_compute hrunv hk h20 h30 hw, if_pos hbad]
    · rw [State.todComplete_flagWait hrunv hk h20, if_pos hwait]
    · rw [State.todComplete_flagWait hrunv hk h20, if_neg (not_or.mpr ⟨h1, h2⟩)]
    · rw [State.todComplete_knownAnswer hrunv hk h30]
  · intro c s k b hk hself hstop
    rw [State.afterTod_of_goesOn hk hself hstop rfl]
    exact ⟨fun h => if_neg (by simp [h]), fun h => if_pos h⟩

end Sys2Proof.Machine
end

section
/-! PROOFS. Flag waits of the tensor sequencers: polled, expired, and their copy (R144, R299–R302, R451). -/

namespace Sys2Proof.Machine

variable {s : State}

@[simp] theorem State.modTask_core (id c : Nat) (f : Task → Task) : (s.modTask id f).core c = s.core c := rfl

/-! ### FLAG_WAIT_POLL, FLAG_WAIT_EXPIRED -/

/-- A poll of the flag word `f`: the wait goes on, ends the task, or is over for the TOD (R302). -/
theorem exec_flagWaitPoll (hl : s.live = true) (t : Nat) (c : CoreId) {f : Nat} {k : Task} {b : List Byte} {ready : Bool}
    (hk : (s.at t).coreTask c.val = some k) (hrun : (s.core c.val).run = some b) (hwait : (s.core c.val).wait = 1)
    (hf : f = leNat ((s.at t).scrRead (flagAddr (df b 4 11 0)) 8))
    (hready : ready = (decide (f % 2 ^ 44 = flagTick k b)
      && (f.testBit 58 || (decide (0 < df b 4 29 16) && decide (df b 4 29 16 ≤ fld f 57 44))))) :
    exec (.flagWaitPoll t c) s = .next
      (if ready = false then s.at t
      else if f.testBit 59 = true then ((s.at t).modTask k.id (fun u => { u with absent := true })).coreFinish c.val stOk
      else ((s.at t).modTask k.id (fun u => { u with inCorrupt := u.inCorrupt || f.testBit 61, inLate := u.inLate || f.testBit 60 })).setCore
        c.val { s.core c.val with wait := if (wordAt b 4).testBit 30 then 2 else 0 }) := by
  have hcore : (s.at t).core c.val = s.core c.val := rfl
  change execFlagWaitPoll t c s = _
  simp only [execFlagWaitPoll, whileLive_of_live hl, hk, hcore, hrun, hwait, ← hf, ← hready, State.modTask_core, ne_eq, not_true_eq_false,
    if_false, Bool.not_eq_true']

/-- A wait ends its task at the second edge after its node's tick (R302). -/
theorem exec_flagWaitExpired (hl : s.live = true) (t : Nat) (c : CoreId) {k : Task} (hk : (s.at t).coreTask c.val = some k)
    (hwait : (s.core c.val).wait = 1) :
    exec (.flagWaitExpired t c) s = .next
      (if k.tick + 2 ≤ s.tickCount then ((s.at t).bump 32 0x6010 7 1).coreFinish c.val stTaskAborted else s.at t) := by
  have hcore : (s.at t).core c.val = s.core c.val := rfl
  have htick : (s.at t).tickCount = s.tickCount := rfl
  change execFlagWaitExpired t c s = _
  simp only [execFlagWaitExpired, whileLive_of_live hl, hk, hcore, hwait, htick, true_and]

/-! ### FLAG_WAIT_COPY_DONE -/

theorem exec_flagWaitCopyDone (hl : s.live = true) (t : Nat) (c : CoreId) :
    exec (.flagWaitCopyDone t c) s = .next ((s.at t).todAccess c.val (fun v => v.flagCopy c.val)) :=
  whileLive_of_live hl t fun v => v.todAccess c.val (fun v => v.flagCopy c.val)

/-- The copy of a wait that is over: refused, stopped by a withdrawn row, or landed (R302, R451). -/
theorem State.flagCopy_eq {c src dst n : Nat} {b : List Byte} {k : Task} {w x : State} (hrun : (s.core c).run = some b)
    (hk : s.coreTask c = some k) (hwait : (s.core c).wait = 2) (hsrc : src = df b 5 22 0) (hdst : dst = 8 * df b 7 19 0)
    (hn : n = 8 * df b 6 23 0) (hw : w = s.guardSpan c (todHandle b 0) dst n 5)
    (hx : x = w.padPuts c (todHandle b 0) (writesAt dst (w.scrRead src n))) :
    s.flagCopy c =
      if s.scrOwned k.part src n = false then (s.firewallRefuse c k.part false 4 0).coreFinish c stAccessDenied
      else if s.spanWithdrawn c (todHandle b 0) dst n = true then s.coreFinish c stRetired
      else (x.modTask k.id (fun y => { y with wrote := true })).setCore c { x.core c with wait := 3 } := by
  subst hx hw hn hdst hsrc
  simp only [State.flagCopy, hrun, hk, hwait, ne_eq, not_true_eq_false, if_false, Bool.not_eq_true']

/-- Settles O38, by what the flag shows and by where the copy goes. -/
theorem flagWaitsEnd : Obligations.FlagWaitsEnd := by
  refine ⟨?_, ?_, ?_, ?_⟩
  · rintro t f c s u k b ready rfl hl hk hrun hwait hf hready
    rw [exec_flagWaitPoll hl t c hk hrun hwait hf hready]
    refine ⟨fun hr habs => ?_, fun hr habs => ?_, fun hr => ?_⟩
    · rw [if_neg (by simp [hr]), if_neg (by simp [habs])]
    · rw [if_neg (by simp [hr]), if_pos habs]
    · rw [if_pos hr]
  · rintro t c s u k rfl hl hk hwait
    rw [exec_flagWaitExpired hl t c hk hwait]
    exact ⟨fun h => by rw [if_pos h], fun h => by rw [if_neg (Nat.not_le.mpr h)]⟩
  · rintro t k c s u b rfl hl hrun hclear
    rw [exec_flagWaitCopyDone hl, State.todAccess_held (s := s.at t) hrun hclear]
  · rintro t src dst n c s u v w k b rfl hl hrun hclear hv hrunv hk hwait hsrc hdst hn hw
    rw [exec_flagWaitCopyDone hl, State.todAccess_open (s := s.at t) hrun hclear, ← hv,
      State.flagCopy_eq hrunv hk hwait hsrc hdst hn hw rfl]
    refine ⟨fun hown hrow => ⟨_, rfl, ?_⟩, fun hown hrow => ?_, fun hown => ?_⟩
    · rw [if_neg (by simp [hown]), if_neg (by simp [hrow])]
    · rw [if_neg (by simp [hown]), if_pos hrow]
    · rw [if_pos hown]

end Sys2Proof.Machine
end

section
/-! PROOFS. DMA channels: descriptors loaded and made active, network slots, data read and written (R144, R200–R203, R212–R217, R223). -/

namespace Sys2Proof.Machine

variable {s : State}

/-! ### DMA_DESCRIPTOR_LOAD, DMA_SHADOW_ACTIVATE -/

section

variable (hl : s.live = true) (t : Nat) (u : DmaId) (ch : ChanId) {x : Chan} {k : Task} (hx : x = s.chan u.val ch.val)
  (hk : (s.at t).chanTask u.val ch.val = some k)
include hl hx hk

/-- A channel that may take no descriptor leaves the chain as it is (R202). -/
theorem exec_dmaDescriptorLoad_closed (h : x.shadow.isSome = true ∨ k.stop = true ∨ x.halted = true ∨ x.chainOpen = false) :
    exec (.dmaDescriptorLoad t u ch) s = .next (s.at t) := by
  have hchan : (s.at t).chan u.val ch.val = x := hx.symm
  change execDmaDescriptorLoad t u ch s = _
  simp only [execDmaDescriptorLoad, whileLive_of_live hl, hk, hchan, h, or_true, if_true]

/-- The next descriptor of the chain, with the outcome of its checks; the first one becomes active at once (R202, R214). -/
theorem exec_dmaDescriptorLoad_open {st addr : Nat} {y : Chan} {b : List Byte} (hstage : k.stage = 2)
    (hkind : k.node.kind ≠ 9 ∨ k.maint.isSome = true) (hshadow : x.shadow = none) (hstop : k.stop = false) (hhalt : x.halted = false)
    (hopen : x.chainOpen = true) (haddr : addr = x.descAt + 64 * x.seq) (hb : b = if k.maint.isSome then k.desc else s.ddrRead addr 64)
    (hst : st = firstFail [if k.maint.isNone then (s.at t).fetchStatus addr else stOk, (s.at t).dmaCheck u.val b x.seq k.maint.isSome])
    (hy : y = { x with shadow := some (newDesc x.seq b), shadowSt := st, seq := x.seq + 1 }) :
    exec (.dmaDescriptorLoad t u ch) s = .next
      (if y.shadowReady = true ∧ x.live = [] then
        ((((s.at t).countLoad u.val k addr st).setChan u.val ch.val y).dmaActivate u.val ch.val).dmaAdvance u.val ch.val
      else (((s.at t).countLoad u.val k addr st).setChan u.val ch.val y).dmaAdvance u.val ch.val) := by
  have hchan : (s.at t).chan u.val ch.val = x := hx.symm
  have hread : (s.at t).ddrRead addr 64 = s.ddrRead addr 64 := rfl
  have hchain : ¬(k.node.kind = 9 ∧ k.maint.isNone = true) := by
    rintro ⟨h9, hnone⟩
    rcases hkind with h | h
    · exact h h9
    · simp [Option.isNone_iff_eq_none.mp hnone] at h
  have hgo : ¬(k.stage ≠ 2 ∨ (k.node.kind = 9 ∧ k.maint.isNone = true) ∨ x.shadow.isSome = true ∨ k.stop = true ∨ x.halted = true
      ∨ x.chainOpen = false) := by
    simp only [hstage, hchain, hshadow, hstop, hhalt, hopen, ne_eq, not_true_eq_false, Option.isSome_none, Bool.false_eq_true, reduceCtorEq,
      or_self, not_false_eq_true]
  change execDmaDescriptorLoad t u ch s = _
  simp only [execDmaDescriptorLoad, whileLive_of_live hl, hk, hchan, if_neg hgo, ← haddr, hread, ← hb, ← hst, ← hy]
  split <;> rfl

/-- A shadow descriptor whose checks are over, with no descriptor before it (R202). -/
theorem exec_dmaShadowActivate_first {b : Desc} (hshadow : x.shadow = some b) (hready : x.shadowReady = true) (hstop : k.stop = false)
    (hlive : x.live = []) :
    exec (.dmaShadowActivate t u ch) s = .next (((s.at t).dmaActivate u.val ch.val).dmaAdvance u.val ch.val) := by
  have hchan : (s.at t).chan u.val ch.val = x := hx.symm
  change execDmaShadowActivate t u ch s = _
  simp only [execDmaShadowActivate, whileLive_of_live hl, hk, hchan, hshadow, hready, hstop, hlive, List.getLast?_nil, and_self, if_true]

/-- Behind another one it waits for that one's last read, and a FENCE holds it until nothing is active (R202). -/
theorem exec_dmaShadowActivate_behind {b d : Desc} (hshadow : x.shadow = some b) (hready : x.shadowReady = true) (hstop : k.stop = false)
    (hlast : x.live.getLast? = some d) :
    exec (.dmaShadowActivate t u ch) s = .next
      (if dFence b.bytes = false ∧ d.readsOut = true then ((s.at t).dmaActivate u.val ch.val).dmaAdvance u.val ch.val else s.at t) := by
  have hchan : (s.at t).chan u.val ch.val = x := hx.symm
  change execDmaShadowActivate t u ch s = _
  simp only [execDmaShadowActivate, whileLive_of_live hl, hk, hchan, hshadow, hready, hstop, hlast, Bool.and_eq_true, Bool.not_eq_true', and_true,
    true_and]

end

/-! ### DMA_REQUEST_ISSUE -/

section

variable (hl : s.live = true) (t : Nat) (u : DmaId)
include hl

/-- A cycle has one network slot (R217). -/
theorem exec_dmaRequestIssue_taken (h : (s.dma u.val).slotAt = some (max s.now t)) : exec (.dmaRequestIssue t u) s = .next (s.at t) := by
  have hslot : ((s.at t).dma u.val).slotAt = some (s.at t).now := h
  change execDmaRequestIssue t u s = _
  simp only [execDmaRequestIssue, whileLive_of_live hl, if_pos hslot]

/-- A slot that nothing asks for stays free. -/
theorem exec_dmaRequestIssue_unasked (h : (s.at t).slotPick u.val = none) : exec (.dmaRequestIssue t u) s = .next (s.at t) := by
  change execDmaRequestIssue t u s = _
  simp only [execDmaRequestIssue, whileLive_of_live hl, h, ite_self]

/-- The slot goes to the channel that the weighted round robin picks (R217). -/
theorem exec_dmaRequestIssue_picked {c : Nat} {write : Bool} {w : State}
    (hw : w = (s.at t).setDma u.val { s.dma u.val with slotAt := some (max s.now t) })
    (hfree : (s.dma u.val).slotAt ≠ some (max s.now t)) (h : (s.at t).slotPick u.val = some (write, c)) :
    exec (.dmaRequestIssue t u) s = .next
      ((if write then w.issueWrite u.val c else w.issueRead u.val c).dmaAdvance u.val c) := by
  have hdma : (s.at t).dma u.val = s.dma u.val := rfl
  subst hw
  change execDmaRequestIssue t u s = _
  simp only [execDmaRequestIssue, whileLive_of_live hl, State.at_now, hdma, if_neg hfree, h]
  cases write <;> rfl

end

/-! ### DMA_READ_DATA, DMA_WRITE_LANDED -/

theorem exec_dmaReadData (hl : s.live = true) (t : Nat) (u : DmaId) (ch : ChanId) (hd : List Byte) :
    exec (.dmaReadData t u ch hd) s = .next ((s.at t).dmaAccess u.val ch.val false hd) :=
  whileLive_of_live hl t fun v => v.dmaAccess u.val ch.val false hd

theorem exec_dmaWriteLanded (hl : s.live = true) (t : Nat) (u : DmaId) (ch : ChanId) :
    exec (.dmaWriteLanded t u ch) s = .next ((s.at t).dmaAccess u.val ch.val true []) :=
  whileLive_of_live hl t fun v => v.dmaAccess u.val ch.val true []

/-- An access waits for a scratchpad that is being cleared (R144). -/
theorem State.dmaAccess_held {u c core : Nat} {write : Bool} (hpad : s.dmaPad u c write = some core) (h : s.padClearing core = true)
    (hd : List Byte) : s.dmaAccess u c write hd = s.holdPad core (.dma u c write) := by
  simp only [State.dmaAccess, hpad, h, if_true]

/-- `v` is `s` once an access of a channel finds its target ready: for a scratchpad, the cycles of its ports have passed (R144; log 68). -/
def State.ReadyFor (s : State) (u c : Nat) (write : Bool) (v : State) : Prop :=
  s.dmaPad u c write = none ∧ v = s
    ∨ ∃ core, s.dmaPad u c write = some core ∧ s.padClearing core = false ∧ v = s.padRun core

theorem State.ReadyFor.dmaAccess_eq {u c : Nat} {write : Bool} {v : State} (h : s.ReadyFor u c write v) (hd : List Byte) :
    s.dmaAccess u c write hd = if write then v.dmaLand u c else v.dmaRead u c hd := by
  obtain ⟨hpad, rfl⟩ | ⟨core, hpad, hopen, rfl⟩ := h
  · simp only [State.dmaAccess, hpad]
  · simp only [State.dmaAccess, hpad, hopen, Bool.false_eq_true, if_false]

section

variable {u c : Nat} {x : Chan} {k : Task} {r : DmaReq} {d : Desc} (hx : x = s.chan u c) (hk : s.chanTask u c = some k)
  (hr : x.oldest (fun q => !q.write) = some r) (hdesc : x.descOf r = some d)
include hx hk hr hdesc

theorem State.dmaRead_unanswered (h : s.answers k (reqSide d r) r = false) (hd : List Byte) : s.dmaRead u c hd = s := by
  simp only [State.dmaRead, ← hx, hk, hr, hdesc, h, Bool.not_false, if_true]

variable (ha : s.answers k (reqSide d r) r = true)
include ha

/-- The target refuses the read (R223). -/
theorem State.dmaRead_refused (h : s.dmaTarget k false (reqSide d r) r.addr r.len ≠ stOk) (hd : List Byte) :
    s.dmaRead u c hd = s.dmaRefuse u c k false (reqSide d r) (s.dmaTarget k false (reqSide d r) r.addr r.len) := by
  simp only [State.dmaRead, ← hx, hk, hr, hdesc, ha, Bool.not_true, Bool.false_eq_true, if_false, if_pos h]

variable (hok : s.dmaTarget k false (reqSide d r) r.addr r.len = stOk)
include hok

/-- A block of the read is poisoned (R223, R444). -/
theorem State.dmaRead_poisoned (hkind : (reqSide d r).kind = 3) (h : s.spanPoisoned r.addr r.len = true) (hd : List Byte) :
    s.dmaRead u c hd = (s.countPoison r.addr r.len (some (0x30 + u))).dmaAbort u c stTaskAborted := by
  simp only [State.dmaRead, ← hx, hk, hr, hdesc, ha, hok, hkind, h, Bool.not_true, Bool.false_eq_true, if_false, ne_eq, not_true_eq_false,
    and_self, if_true]

/-- The data enter the descriptor's buffer, or are a block of its index stream (R203, R212). -/
theorem State.dmaRead_data {hd bs : List Byte} {w : State} (h : (reqSide d r).kind ≠ 3 ∨ s.spanPoisoned r.addr r.len = false)
    (hw : s.dmaFetch k (reqSide d r) r.addr r.len hd = (w, bs)) :
    s.dmaRead u c hd = if r.index = true then (w.bump 64 (0x5410 + u) 1 r.len).indexIn u c d r bs
      else ((w.bump 64 (0x5410 + u) 1 r.len).setChan u c ((x.drop r).putDesc { d with
        rGot := d.rGot + r.len, buf := (List.range r.len).foldl (fun m i => kput m (r.pos + i) (bs.getD i 0)) d.buf })).dmaAdvance u c := by
  have hclean : ¬((reqSide d r).kind = 3 ∧ s.spanPoisoned r.addr r.len = true) := by
    rcases h with h | h <;> simp [h]
  simp only [State.dmaRead, ← hx, hk, hr, hdesc, ha, hok, if_neg hclean, hw, Bool.not_true, Bool.false_eq_true, if_false, ne_eq,
    not_true_eq_false]

end

section

variable {u c : Nat} {x : Chan} {k : Task} {r : DmaReq} {d : Desc} (hx : x = s.chan u c) (hk : s.chanTask u c = some k)
  (hr : x.oldest (fun q => q.write) = some r) (hdesc : x.descOf r = some d)
include hx hk hr hdesc

theorem State.dmaLand_unanswered (h : s.answers k (dstSide d.bytes) r = false) : s.dmaLand u c = s := by
  simp only [State.dmaLand, ← hx, hk, hr, hdesc, h, Bool.not_false, if_true]

variable (ha : s.answers k (dstSide d.bytes) r = true)
include ha

/-- The target refuses the write (R223). -/
theorem State.dmaLand_refused (h : s.dmaTarget k true (dstSide d.bytes) r.addr r.len ≠ stOk) :
    s.dmaLand u c = s.dmaRefuse u c k true (dstSide d.bytes) (s.dmaTarget k true (dstSide d.bytes) r.addr r.len) := by
  simp only [State.dmaLand, ← hx, hk, hr, hdesc, ha, Bool.not_true, Bool.false_eq_true, if_false, if_pos h]

/-- The write lands (R203). -/
theorem State.dmaLand_landed {w z : State} (hok : s.dmaTarget k true (dstSide d.bytes) r.addr r.len = stOk)
    (hw : w = if (dstSide d.bytes).kind = 3 then s.touchCtx (k.maint.isSome && decide (dType d.bytes = 5)) r.addr r.len else s)
    (hz : z = ((((w.dmaStore k (dstSide d.bytes) r.addr r.data).bump 64 (0x5410 + u) 2 (maskedBytes r.addr r.data).length).modTask k.id
      (fun a => { a with wrote := true })).setChan u c ((x.drop r).putDesc { d with landed := d.landed + r.len }))) :
    s.dmaLand u c = (if k.maint = some scrubFn then z.countScrub else z).dmaAdvance u c := by
  subst hz
  simp only [State.dmaLand, ← hx, hk, hr, hdesc, ha, hok, ← hw, Bool.not_true, Bool.false_eq_true, if_false, ne_eq, not_true_eq_false]

end

/-- Settles O40, by the command, and for an access by what its target answers. -/
theorem dmaChannelsLoadIssueAndLand : Obligations.DmaChannelsLoadIssueAndLand := by
  refine ⟨?_, ?_, ?_, ?_, ?_, ?_, ?_⟩
  · rintro t st addr u ch s v x y k b rfl hx hl hk hstage hkind hshadow hstop hhalt hopen haddr hb hst hy
    rw [exec_dmaDescriptorLoad_open hl t u ch hx hk hstage hkind hshadow hstop hhalt hopen haddr hb hst hy]
    refine ⟨fun hready hlive => ?_, fun h => ?_⟩
    · rw [if_pos ⟨hready, hlive⟩]
    · rw [if_neg (by rcases h with h | h <;> simp [h])]
  · rintro t u ch s v x k rfl hx hl hk h
    exact exec_dmaDescriptorLoad_closed hl t u ch hx hk h
  · rintro t u ch s v x k b rfl hx hl hk hshadow hready hstop
    exact ⟨exec_dmaShadowActivate_first hl t u ch hx hk hshadow hready hstop,
      fun d => exec_dmaShadowActivate_behind hl t u ch hx hk hshadow hready hstop⟩
  · rintro t c u s v w rfl hl hw
    exact ⟨exec_dmaRequestIssue_taken hl t u, exec_dmaRequestIssue_picked hl t u hw, exec_dmaRequestIssue_picked hl t u hw,
      exec_dmaRequestIssue_unasked hl t u⟩
  · rintro t core u ch s v rfl hl hclear
    refine ⟨fun hd hpad => ?_, fun hpad => ?_⟩
    · rw [exec_dmaReadData hl, State.dmaAccess_held hpad hclear]
    · rw [exec_dmaWriteLanded hl, State.dmaAccess_held hpad hclear]
  · rintro t u ch hd s v w x k r d bs hl hready hx hk hr hdesc
    have he := (exec_dmaReadData hl t u ch hd).trans (congrArg _ (State.ReadyFor.dmaAccess_eq hready hd))
    rw [if_neg Bool.false_ne_true] at he
    rw [he]
    refine ⟨fun h => ?_, fun ha h => ?_, fun ha hok hkind h => ?_, fun ha hok h hw => ?_⟩
    · rw [State.dmaRead_unanswered hx hk hr hdesc h]
    · rw [State.dmaRead_refused hx hk hr hdesc ha h]
    · rw [State.dmaRead_poisoned hx hk hr hdesc ha hok hkind h]
    · rw [State.dmaRead_data hx hk hr hdesc ha hok h hw]
      exact ⟨fun hi => by rw [if_pos hi], fun hi => by rw [if_neg (by simp [hi])]⟩
  · rintro t u ch s v w x k r d hl hready hx hk hr hdesc
    have he := (exec_dmaWriteLanded hl t u ch).trans (congrArg _ (State.ReadyFor.dmaAccess_eq hready []))
    rw [if_pos rfl] at he
    rw [he]
    refine ⟨fun h => ?_, fun ha h => ?_, fun ha hok hw z hz => ?_⟩
    · rw [State.dmaLand_unanswered hx hk hr hdesc h]
    · rw [State.dmaLand_refused hx hk hr hdesc ha h]
    · rw [State.dmaLand_landed hx hk hr hdesc ha hok hw hz]

end Sys2Proof.Machine
end

section
/-! PROOFS. Bus errors and their retries, maintenance requests that yield, and re-shard entries (R144, R180, R221, R222, R225). -/

namespace Sys2Proof.Machine

variable {s : State}

/-! ### A bus error -/

/-- While tries are left the request waits for its reissue (R222). -/
theorem State.busError_retries {u c : Nat} {r : DmaReq} (h : r.tries < s.reg 0x5400 6) (kind cause : Nat) :
    s.busError u c r kind cause = (s.bump 64 (0x5410 + u) 5 1).setChan u c { s.chan u c with
      reqs := (s.chan u c).reqs.map (fun q => if q = r then { q with retryAt := some (s.now + 256 * 2 ^ r.tries) } else q) } := by
  rw [← s.reg_bump_other (okey_ne_of_sub_mod (i := 0x5400) (j := 0x5410 + u) (a := 6) (b := 5) (by decide) (by decide) (by decide))
    (w := 64) (n := 1)] at h
  exact if_pos h

/-- With none left the channel halts (R222). -/
theorem State.busError_halts {u c : Nat} {r : DmaReq} {k : Task} (h : s.reg 0x5400 6 ≤ r.tries) (hk : s.chanTask u c = some k)
    (kind cause : Nat) :
    s.busError u c r kind cause
      = (s.bump 64 (0x5410 + u) 5 1).haltChan u c k.owner r kind cause (fun v => v.dmaAbort u c stBusError) := by
  have hk' : (s.bump 64 (0x5410 + u) 5 1).chanTask u c = some k := hk
  rw [← s.reg_bump_other (okey_ne_of_sub_mod (i := 0x5400) (j := 0x5410 + u) (a := 6) (b := 5) (by decide) (by decide) (by decide))
    (w := 64) (n := 1)] at h
  simp only [State.busError, if_neg (Nat.not_lt.mpr h), hk']

theorem exec_dmaBusError (hl : s.live = true) (t : Nat) (u : DmaId) (ch : ChanId) (cause : BitVec 8) :
    exec (.dmaBusError t u ch cause) s = .next ((s.at t).chanBusError u.val ch.val cause.toNat) :=
  whileLive_of_live hl t fun v => v.chanBusError u.val ch.val cause.toNat

/-- A cause befalls the oldest request that it fits (R221). -/
theorem State.chanBusError_befalls {u c cause : Nat} {k : Task} {p : DmaReq × Side} (hk : s.chanTask u c = some k)
    (hp : (s.chan u c).failing (fun y r => s.causeFits k y r cause) = some p) :
    s.chanBusError u c cause = s.busError u c p.1 p.2.kind cause := by
  simp only [State.chanBusError, hk, Option.bind_some, hp]

theorem State.chanBusError_idle {u c cause : Nat} (h : ∀ k, s.chanTask u c = some k →
    (s.chan u c).failing (fun y r => s.causeFits k y r cause) = none) : s.chanBusError u c cause = s := by
  have hnone := Option.bind_eq_none_iff.mpr h
  simp only [State.chanBusError, hnone]

/-! ### No response -/

section

variable (hl : s.live = true) (t : Nat) (u : DmaId) (ch : ChanId)
include hl

theorem exec_dmaBusTimeout_chan (hplan : ch.val ∈ planChans u.val) (h : (s.at t).reshardAt u.val ch.val = none) :
    exec (.dmaBusTimeout t u ch) s = .next ((s.at t).chanTimeout u.val ch.val) := by
  change execDmaBusTimeout t u ch s = _
  simp only [execDmaBusTimeout, whileLive_of_live hl, if_pos hplan, h, Option.isSome_none, Bool.false_eq_true, if_false]

theorem exec_dmaBusTimeout_reshard (hplan : ch.val ∈ planChans u.val) (h : ((s.at t).reshardAt u.val ch.val).isSome = true) :
    exec (.dmaBusTimeout t u ch) s = .next ((s.at t).reshardTimeout u.val ch.val) := by
  change execDmaBusTimeout t u ch s = _
  simp only [execDmaBusTimeout, whileLive_of_live hl, if_pos hplan, h, if_true]

/-- The work of an engine or of a front-end, none of whose requests has failed before (R221; log 24). -/
theorem exec_dmaBusTimeout_side {w : Nat × Nat} (hside : ch.val ∉ planChans u.val) (hw : (s.at t).sideWork u.val ch.val = some w)
    (hreqs : (s.chan u.val ch.val).reqs = []) :
    exec (.dmaBusTimeout t u ch) s = .next
      (if w.2 + 131072 ≤ max s.now t then (s.at t).sideError u.val ch.val w.1 else s.at t) := by
  have hreqs' : ((s.at t).chan u.val ch.val).reqs = [] := hreqs
  change execDmaBusTimeout t u ch s = _
  simp only [execDmaBusTimeout, whileLive_of_live hl, if_neg hside, hw, hreqs', List.find?_nil]
  rfl

end

theorem State.chanTimeout_befalls {u c : Nat} {p : DmaReq × Side} (hp : (s.chan u c).failing s.timedOut = some p) :
    s.chanTimeout u c = s.busError u c p.1 p.2.kind 4 := by
  simp only [State.chanTimeout, hp]

theorem State.chanTimeout_idle {u c : Nat} (hp : (s.chan u c).failing s.timedOut = none) : s.chanTimeout u c = s := by
  simp only [State.chanTimeout, hp]

/-- A re-shard entry, none of whose requests has failed before, runs out of time from its start (R179, R221). -/
theorem State.reshardTimeout_first {u c n : Nat} {x : Chan} {k : Task} {e : OwnerEntry} {r : DmaReq} {w : State} (hx : x = s.chan u c)
    (h : s.reshardAt u c = some (k, e, n)) (hreqs : x.reqs = []) (hr : s.sideReq u c x.entry none = (r, w)) :
    s.reshardTimeout u c = if x.entryAt + 131072 ≤ s.now then
        (w.setChan u c { x with reqs := [r] }).busError u c r (if r.write then 1 else if e.srcKind = 0 then 1 else if e.srcKind = 1 then 3 else 4) 4
      else s := by
  simp only [State.reshardTimeout, h, ← hx, hreqs, List.find?_nil, decide_eq_true_eq, hr]

/-! ### DMA_RETRY_REISSUE -/

@[simp] theorem State.dma_setChan (u c v : Nat) (x : Chan) : (s.setChan u c x).dma v = s.dma v := rfl

/-- Before any wait is over no retry is due (R222). -/
theorem State.retryDue_eq_none {u c : Nat} (h : ∀ q ∈ (s.chan u c).reqs, ∀ a, q.retryAt = some a → s.now < a) : s.retryDue u c = none := by
  refine List.find?_eq_none.mpr fun q hq => ?_
  cases hr : q.retryAt with
  | none => simp
  | some a => simpa using h q hq a hr

/-- A reissue takes the network slot and its turn, and spends its tokens; of the channel's requests it changes the one reissued (R200,
R217, R219, R222). -/
theorem State.reissue_eq (u c : Nat) (r : DmaReq) : ∃ y : Chan,
    s.reissue u c r = (s.setDma u { s.dma u with
      slotAt := some s.now, lastR := if r.write then (s.dma u).lastR else c, lastW := if r.write then c else (s.dma u).lastW }).setChan u c y
    ∧ y.reqs = (s.chan u c).reqs.map (fun q =>
      if q = r then { q with retryAt := none, issued := s.now, tries := q.tries + 1, waited := s.hostWaited } else q)
    ∧ y.live = (s.chan u c).live ∧ y.slots = (s.chan u c).slots := ⟨_, rfl, rfl, rfl, rfl⟩

theorem State.mayReissue_eq_false {u c : Nat} {r : DmaReq}
    (h : (s.dma u).slotAt = some s.now ∨ s.netSlot u (some (r.write, c)) ≠ some (r.write, c)) : s.mayReissue u c r = false := by
  rcases h with h | h <;> simp [State.mayReissue, h]

section

variable (hl : s.live = true) (t : Nat) (u : DmaId) (ch : ChanId)
include hl

theorem exec_dmaRetryReissue_due {r : DmaReq} (h : (s.at t).retryDue u.val ch.val = some r) :
    exec (.dmaRetryReissue t u ch) s = .next
      (if (s.at t).mayReissue u.val ch.val r = true then (s.at t).reissue u.val ch.val r else s.at t) := by
  change execDmaRetryReissue t u ch s = _
  simp only [execDmaRetryReissue, whileLive_of_live hl, h]

theorem exec_dmaRetryReissue_none (h : (s.at t).retryDue u.val ch.val = none) : exec (.dmaRetryReissue t u ch) s = .next (s.at t) := by
  change execDmaRetryReissue t u ch s = _
  simp only [execDmaRetryReissue, whileLive_of_live hl, h]

/-! ### MAINT_YIELD, MAINT_RESUME -/

/-- A maintenance request gives its channel up where a plan entry finds none for it (R225). -/
theorem exec_maintYield : exec (.maintYield t u ch) s = .next
    (if ((s.at t).maintChan u.val ch.val && (s.at t).yieldFor u.val ch.val) = true then
      (((s.at t).setDma u.val { s.dma u.val with saved := (s.dma u.val).saved ++ [s.chan u.val ch.val] }).setChan u.val ch.val chan0).bump 32
        (0x5410 + u.val) 12 1
    else s.at t) := by
  change execMaintYield t u ch s = _
  unfold execMaintYield
  rw [whileLive_of_live hl]
  rfl

/-- The oldest request that has yielded takes a channel that is free for it, and its requests in flight are made anew (R225). -/
theorem exec_maintResume {y : Chan} {ys : List Chan} (hsaved : (s.dma u.val).saved = y :: ys) : exec (.maintResume t u ch) s = .next
    (if (s.at t).resumes u.val ch.val y = true then
      ((s.at t).setDma u.val { s.dma u.val with saved := ys }).setChan u.val ch.val
        { y with reqs := y.reqs.map (fun r => { r with issued := max s.now t, waited := (s.at t).hostWaited }) }
    else s.at t) := by
  have hsaved' : ((s.at t).dma u.val).saved = y :: ys := hsaved
  change execMaintResume t u ch s = _
  simp only [execMaintResume, whileLive_of_live hl, hsaved']
  rfl

end

/-- A free channel of plans, where no plan entry waits, takes a request within its partition's share (R225, R403). -/
theorem State.resumes_iff_of_free {u c : Nat} (htask : (s.chan u c).task = none) (hhalt : (s.chan u c).halted = false) (hplan : c ∈ planChans u)
    (hwait : s.dmaWaiting u = false) (y : Chan) :
    s.resumes u c y = true ↔ ∀ p, (y.task.bind (fun id => s.task? id)).bind Task.owner = some p → (s.freeChan u p false).isSome = true := by
  unfold State.resumes
  dsimp only
  rw [htask, hhalt, hwait, decide_eq_true hplan]
  cases (y.task.bind (fun id => s.task? id)).bind Task.owner <;> simp

/-! ### RESHARD_ENTRY_END -/

theorem exec_reshardEntryEnd (hl : s.live = true) (t : Nat) (u : DmaId) (ch : ChanId) :
    exec (.reshardEntryEnd t u ch) s = .next ((s.at t).reshardEnd u.val ch.val) :=
  whileLive_of_live hl t fun v => v.reshardEnd u.val ch.val

/-- The cores whose scratchpads an entry reaches. -/
def OwnerEntry.cores (e : OwnerEntry) : List Nat := if e.srcKind = 0 then [e.srcCore, e.dstCore] else [e.dstCore]

section

variable {u c n : Nat} {k : Task} {e : OwnerEntry} (h : s.reshardAt u c = some (k, e, n))
include h

/-- While a request of it waits for its retry an entry goes on (R222). -/
theorem State.reshardEnd_retrying (hretry : (s.chan u c).reqs.any (fun r => r.retryAt.isSome) = true) : s.reshardEnd u c = s := by
  simp only [State.reshardEnd, h, hretry, if_true]

variable (hretry : (s.chan u c).reqs.any (fun r => r.retryAt.isSome) = false)
include hretry

/-- An entry whose stream has no frame is passed over (R180). -/
theorem State.reshardEnd_unframed (hbound : e.bound = true) (hframe : s.frameFor k.tick e.stream = none) :
    s.reshardEnd u c = (s.bump 64 (0x5150 + k.part) 3 1).reshardNext u c k (s.chan u c).entry n false := by
  simp only [State.reshardEnd, h, hretry, hbound, hframe, Bool.false_eq_true, if_false, Option.isNone_none, Bool.and_self, if_true]

/-- Any other entry waits for its scratchpads (R144), or moves its region after the cycles of their ports (R177; log 68). -/
theorem State.reshardEnd_framed (hframe : e.bound = false ∨ s.frameFor k.tick e.stream ≠ none) :
    s.reshardEnd u c = match e.cores.find? s.padClearing with
      | some d => s.holdPad d (.reshard u c)
      | none => (e.cores.foldl State.padRun s).reshardMove u c k e (s.chan u c) n := by
  have hgo : (e.bound && (s.frameFor k.tick e.stream).isNone) = false := by
    rcases hframe with hf | hf
    · rw [hf, Bool.false_and]
    · rw [Option.isNone_eq_false_iff.mpr (Option.isSome_iff_ne_none.mpr hf), Bool.and_false]
  simp only [State.reshardEnd, h, hretry, hgo, Bool.false_eq_true, if_false, OwnerEntry.cores]
  by_cases hsrc : e.srcKind = 0 <;> simp only [hsrc, if_true, if_false] <;> rfl

end

/-- Settles O41, by the command, and for each by whether what it asks for is there. -/
theorem busErrorsMaintenanceAndReshard : Obligations.BusErrorsMaintenanceAndReshard := by
  refine ⟨?_, ?_, ?_, ?_, ?_, ?_, ?_, ?_, ?_⟩
  · rintro s u c kind cause r x rfl
    exact ⟨fun h => State.busError_retries h kind cause, fun k h hk => State.busError_halts h hk kind cause⟩
  · rintro t u ch cause s v k rfl hl
    rw [exec_dmaBusError hl]
    refine ⟨fun p hk hp => ?_, fun h => ?_⟩
    · rw [State.chanBusError_befalls hk hp]
    · rw [State.chanBusError_idle]
      rintro k' hk'
      obtain hnone | ⟨hk, hidle⟩ := h
      · simp [hk'] at hnone
      · cases hk.symm.trans hk'
        exact hidle
  · rintro t u ch s v rfl hl hplan hres
    rw [exec_dmaBusTimeout_chan hl t u ch hplan hres]
    exact ⟨fun p hp => by rw [State.chanTimeout_befalls hp], fun hp => by rw [State.chanTimeout_idle hp]⟩
  · rintro t u ch s v w x k e n r rfl hx hl hplan hres hreqs hr
    rw [exec_dmaBusTimeout_reshard hl t u ch hplan (by rw [hres]; rfl), State.reshardTimeout_first (s := s.at t) hx hres hreqs hr]
    exact ⟨fun h => congrArg _ (if_pos h), fun h => congrArg _ (if_neg (Nat.not_le.mpr h))⟩
  · rintro t u ch s v w rfl hl hside hw hreqs
    rw [exec_dmaBusTimeout_side hl t u ch hside hw hreqs]
    exact ⟨fun h => congrArg _ (if_pos h), fun h => congrArg _ (if_neg (Nat.not_le.mpr h))⟩
  · rintro t u ch s v x rfl rfl hl
    refine ⟨fun r hr => ⟨fun hmay => ?_, fun hnot => ?_⟩, fun h => exec_dmaRetryReissue_none hl t u ch (State.retryDue_eq_none h)⟩
    · obtain ⟨y, he, hreqs, hlive, hslots⟩ := State.reissue_eq (s := s.at t) u.val ch.val r
      refine ⟨_, exec_dmaRetryReissue_due hl t u ch hr, ?_⟩
      rw [if_pos hmay, he, State.chan_setChan_same, State.dma_setChan, State.dma_setDma_same]
      exact ⟨hreqs, hlive, hslots, rfl, fun hw => ⟨if_pos hw, if_pos hw⟩, fun hw => ⟨if_neg (by simp [hw]), if_neg (by simp [hw])⟩,
        rfl, rfl, rfl, rfl⟩
    · rw [exec_dmaRetryReissue_due hl t u ch hr, State.mayReissue_eq_false hnot, if_neg Bool.false_ne_true]
  · rintro t u ch s v rfl hl
    rw [exec_maintYield hl]
    refine ⟨fun hm hy => ?_, fun h => ?_⟩
    · rw [if_pos (by rw [hm, hy]; rfl)]
    · rw [if_neg (by rcases h with h | h <;> simp [h])]
  · rintro t u ch s v y ys rfl hl hsaved htask hhalt hplan hwait
    have hiff := State.resumes_iff_of_free (s := s.at t) htask hhalt hplan hwait y
    rw [exec_maintResume hl t u ch hsaved]
    refine ⟨fun h => ?_, fun p hp h => ?_⟩
    · rw [if_pos (hiff.mpr h)]
    · rw [if_neg fun hres => by simpa [h] using hiff.mp hres p hp]
  · rintro t u ch s v k e n l rfl hl hres rfl
    rw [exec_reshardEntryEnd hl]
    refine ⟨fun hretry => ?_, fun hretry hbound hframe => ?_, fun c hretry hframe hclear => ?_, fun hretry hframe hclear => ?_⟩
    · rw [State.reshardEnd_retrying hres hretry]
    · rw [State.reshardEnd_unframed hres hretry hbound hframe]
      rfl
    · rw [State.reshardEnd_framed hres hretry hframe, OwnerEntry.cores, hclear]
    · rw [State.reshardEnd_framed hres hretry hframe, OwnerEntry.cores, hclear]
      rfl

end Sys2Proof.Machine
end

section
/-! PROOFS. Waiting entries become eligible: at a node's release, at the last condition, at the start of an engine's window; and a window's end
(R187, R188, R402). -/

namespace Sys2Proof.Machine

variable {s : State}

/-! ### Entries offered -/

/-- Each of the entries becomes eligible where the conditions of R187 hold for it. -/
def State.offerEach (s : State) (l : List Task) : State :=
  l.foldl (fun s k => match s.task? k.id with
    | some u => s.tryEligible u
    | none => s) s

/-- The waiting entries of a node. -/
def State.nodeWaiting (s : State) (p n : Nat) : List Task :=
  s.tasks.filter (fun x => decide (x.part = p) && decide (x.num = n) && decide (x.stage = 0) && x.maint.isNone && x.ring.isNone
    && decide (x.redo = 0))

/-- The waiting entries of a partition on an engine. -/
def State.engineWaiting (s : State) (p e : Nat) : List Task :=
  s.tasks.filter (fun x => decide (x.part = p) && decide (x.node.res = 0x20 + e) && decide (x.stage = 0))

/-- The only entry offered becomes eligible, and its resource's ready count follows (R188). -/
theorem State.offerEach_eligible {l : List Task} {k : Task} (hl : l = [k]) (hk : s.task? k.id = some k) (h : s.eligible k = true) :
    s.offerEach l = (s.putTask { k with stage := 1, eligAt := s.now }).countReady k.node.res := by
  subst hl
  simp only [State.offerEach, List.foldl_cons, List.foldl_nil, hk, State.tryEligible, h, if_true]

/-! ### The commands -/

theorem exec_nodeRelease (hl : s.live = true) (t : Nat) (p : Part) (n : Nat) :
    exec (.nodeRelease t p n) s = .next ((s.at t).offerEach (s.nodeWaiting p.val n)) :=
  whileLive_of_live hl t fun v => v.offerEach (v.nodeWaiting p.val n)

theorem exec_nodeEligible (hl : s.live = true) (t : Nat) (p : Part) (n : Nat) :
    exec (.nodeEligible t p n) s = .next ((s.at t).offerEach (s.nodeWaiting p.val n)) :=
  whileLive_of_live hl t fun v => v.offerEach (v.nodeWaiting p.val n)

theorem exec_engineWindowStart (hl : s.live = true) (t : Nat) (p : Part) (e : EngId) :
    exec (.engineWindowStart t p e) s = .next ((s.at t).offerEach (s.engineWaiting p.val e.val)) :=
  whileLive_of_live hl t fun v => v.offerEach (v.engineWaiting p.val e.val)

/-- A window that has an end, and whose end has come in this tick: what still runs is counted, once (R402). -/
theorem exec_engineWindowEnd (hl : s.live = true) (t : Nat) (p : Part) (e : EngId) {a b c : Nat} (hw : s.window p.val e.val = some (a, b))
    (hc : s.tick.lastEdge = some c) (hend : b ≠ 0xFFFFFFFF) (hover : b ≤ max s.now t - c) (hfirst : 16 * p.val + e.val ∉ s.winDone) :
    exec (.engineWindowEnd t p e) s = .next { ((s.at t).countWindow p.val e.val) with winDone := s.winDone ++ [16 * p.val + e.val] } := by
  have hw' : (s.at t).window p.val e.val = some (a, b) := hw
  have hsince : (s.at t).sinceEdge = max s.now t - c := by rw [State.sinceEdge, State.at_tick, hc]; rfl
  change execEngineWindowEnd t p e s = _
  rw [execEngineWindowEnd, whileLive_of_live hl, hw']
  exact congrArg _ (if_pos (by simp [hc, hsince, hend, hover, hfirst]))

/-- Settles O31: the entry is the only one offered. -/
theorem waitingEntriesBecomeEligible : Obligations.WaitingEntriesBecomeEligible := by
  refine ⟨?_, ?_, ?_⟩
  · rintro t p n s u k rfl hl hfilter hk helig
    rw [exec_nodeRelease hl, exec_nodeEligible hl, State.offerEach_eligible (l := s.nodeWaiting p.val n) hfilter hk helig]
    exact ⟨rfl, rfl⟩
  · rintro t p e s u k rfl hl hfilter hk helig
    rw [exec_engineWindowStart hl, State.offerEach_eligible (l := s.engineWaiting p.val e.val) hfilter hk helig]
  · rintro t a b c p e s hl hw hc hend hover hfirst
    exact exec_engineWindowEnd hl t p e hw hc hend hover hfirst

end Sys2Proof.Machine
end

section
/-! PROOFS. A resource that can take work takes the entry that its ready list puts first (R188, R190, R191, R200, R284, R437, R451). -/

namespace Sys2Proof.Machine

variable {s : State}

/-! ### What a resource is -/

theorem isCore_eq_true {r : Nat} (h : r < 32) : isCore r = true := decide_eq_true h

theorem isCore_of_isEngine {r : Nat} (h : isEngine r = true) : isCore r = false := by
  simp only [isEngine, isCore, Bool.and_eq_true, decide_eq_true_eq, decide_eq_false_iff_not] at h ⊢
  omega

theorem not_core_engine_of_isDma {r : Nat} (h : isDma r = true) : isCore r = false ∧ isEngine r = false := by
  simp only [isDma, isCore, isEngine, Bool.and_eq_true, decide_eq_true_eq, Bool.and_eq_false_iff, decide_eq_false_iff_not] at h ⊢
  omega

theorem not_core_engine_dma_of_isI3c {r : Nat} (h : isI3c r = true) : isCore r = false ∧ isEngine r = false ∧ isDma r = false := by
  simp only [isI3c, isCore, isEngine, isDma, Bool.and_eq_true, decide_eq_true_eq, Bool.and_eq_false_iff, decide_eq_false_iff_not] at h ⊢
  omega

theorem res_eq_of_isEngine {r : Nat} (h : isEngine r = true) : 0x20 + (r - 0x20) = r := by
  simp only [isEngine, Bool.and_eq_true, decide_eq_true_eq] at h
  omega

theorem res_eq_of_isDma {r : Nat} (h : isDma r = true) : 0x30 + (r - 0x30) = r := by
  simp only [isDma, Bool.and_eq_true, decide_eq_true_eq] at h
  omega

theorem res_eq_of_isI3c {r : Nat} (h : isI3c r = true) : 0x40 + (r - 0x40) = r := by
  simp only [isI3c, Bool.and_eq_true, decide_eq_true_eq] at h
  omega

/-! ### TASK_SELECT by the kind of its resource -/

section
variable (hl : s.live = true) (t : Nat) {r : Res}
include hl

/-- A retired resource takes nothing (R451). -/
theorem exec_taskSelect_retired (hret : (s.at t).resRetired r.val = true) : exec (.taskSelect t r) s = .next (s.at t) := by
  change execTaskSelect t r s = _
  rw [execTaskSelect, whileLive_of_live hl, hret, if_pos rfl]

variable (hret : (s.at t).resRetired r.val = false)
include hret

theorem exec_taskSelect_core (h : r.val < 32) : exec (.taskSelect t r) s = .next ((s.at t).selectCore r.val) := by
  change execTaskSelect t r s = _
  simp only [execTaskSelect, whileLive_of_live hl, hret, isCore_eq_true h, Bool.false_eq_true, if_false, if_true]

theorem exec_taskSelect_engine (h : isEngine r.val = true) : exec (.taskSelect t r) s = .next ((s.at t).selectEngine (r.val - 0x20)) := by
  change execTaskSelect t r s = _
  simp only [execTaskSelect, whileLive_of_live hl, hret, isCore_of_isEngine h, h, Bool.false_eq_true, if_false, if_true]

theorem exec_taskSelect_dma (h : isDma r.val = true) : exec (.taskSelect t r) s = .next ((s.at t).selectDma (r.val - 0x30)) := by
  obtain ⟨hcore, heng⟩ := not_core_engine_of_isDma h
  change execTaskSelect t r s = _
  simp only [execTaskSelect, whileLive_of_live hl, hret, hcore, heng, h, Bool.false_eq_true, if_false, if_true]

theorem exec_taskSelect_i3c (h : isI3c r.val = true) : exec (.taskSelect t r) s = .next ((s.at t).selectI3c (r.val - 0x40)) := by
  obtain ⟨hcore, heng, hdma⟩ := not_core_engine_dma_of_isI3c h
  change execTaskSelect t r s = _
  simp only [execTaskSelect, whileLive_of_live hl, hret, hcore, heng, hdma, h, Bool.false_eq_true, if_false, if_true]

end

/-! ### A core -/

/-- A core that runs nothing takes the entry that its list puts first (R188). -/
theorem State.selectCore_first {c : Nat} {k : Task} (htask : (s.core c).task = none) (hbudget : (s.core c).budget = none)
    (hpaused : (s.core c).paused = none)
    (hfirst : firstTask ((s.readyList c).filter (fun x => !(x.selfTest && s.away (3 + c / 8)))) = some k) (hnode : s.isBudget k = false) :
    s.selectCore c = s.coreStart c k := by
  simp only [State.selectCore, htask, hbudget, hpaused, hfirst, hnode, Option.bind_none, ite_self, Bool.false_eq_true, if_false]

/-- A budget node's core takes its next host entry (R191). -/
theorem State.selectCore_budget {c id : Nat} {k : Task} (htask : (s.core c).task = none) (hbudget : (s.core c).budget = some id)
    (hk : s.task? id = some k) : s.selectCore c = s.hostSelect c k := by
  simp only [State.selectCore, htask, hbudget, hk, Option.bind_some]

/-! ### An engine -/

section
variable {e : Nat} {k : Task} (hfirst : firstTask (s.readyList (0x20 + e)) = some k)
include hfirst

/-- An engine that runs nothing takes its first entry. -/
theorem State.selectEngine_first (htask : (s.eng e).task = none) :
    s.selectEngine e = (s.startTask k.id).setEng e
      { s.eng e with task := some k.id, next := none, seq := 0, run := none, pre := none, loaded := none } := by
  simp only [State.selectEngine, hfirst, htask, Option.isNone_none, if_true]

variable (htask : (s.eng e).task ≠ none)
include htask

/-- One that runs takes a second entry, with its first descriptor loaded (R190, R284). -/
theorem State.selectEngine_second (hnext : (s.eng e).next = none) :
    s.selectEngine e = ((s.countReady (0x20 + e)).loadSecond e k).countReady (0x20 + e) := by
  simp only [State.selectEngine, hfirst, Option.isNone_eq_false_iff.mpr (Option.isSome_iff_ne_none.mpr htask), hnext, Bool.false_eq_true,
    if_false, Option.isNone_none, if_true]

/-- One that holds a second entry takes none. -/
theorem State.selectEngine_full (hnext : (s.eng e).next ≠ none) : s.selectEngine e = s := by
  simp only [State.selectEngine, hfirst, Option.isNone_eq_false_iff.mpr (Option.isSome_iff_ne_none.mpr htask),
    Option.isNone_eq_false_iff.mpr (Option.isSome_iff_ne_none.mpr hnext), Bool.false_eq_true, if_false]

end

theorem State.selectEngine_empty {e : Nat} (h : s.readyList (0x20 + e) = []) : s.selectEngine e = s := by
  simp only [State.selectEngine, h, firstTask, List.foldl_nil]

/-! ### A DMA unit -/

/-- An entry started on a DMA unit; a maintenance request shows that it runs (R200, R225). -/
def State.dmaStart (s : State) (k : Task) : State :=
  match k.maint with
  | some f => if f = scrubFn then s.startTask k.id else (s.startTask k.id).setRegF f 0x5420 3 2
  | none => s.startTask k.id

section
variable {u : Nat} {k : Task}
  (hfirst : firstTask ((s.readyList (0x30 + u)).filter (fun x => x.maint.isNone || decide (s.reg 0x2071 11 = 0))) = some k)
include hfirst

/-- Without a free channel the entry stays in its list (R190). -/
theorem State.selectDma_full (hfree : s.freeChan u k.part k.owner.isNone = none) : s.selectDma u = s := by
  simp only [State.selectDma, hfirst, hfree]

/-- With one, the entry holds it; a re-shard node takes the generations of its handles (R179, R200). -/
theorem State.selectDma_takes {c : Nat} {v : State} (hfree : s.freeChan u k.part k.owner.isNone = some c) (hv : v = s.dmaStart k) :
    s.selectDma u = v.setChan u c { chan0 with
      task := some k.id, descAt := k.prog, rTok := (0, v.now), wTok := (0, v.now), entryAt := v.now,
      gens := if k.node.kind = 9 ∧ k.maint = none then v.reshardGens (v.reshardEntries k) else [] } := by
  subst hv
  simp only [State.selectDma, hfirst, hfree, Option.isNone_iff_eq_none]
  rfl

end

theorem State.selectDma_empty {u : Nat} (h : s.readyList (0x30 + u) = []) : s.selectDma u = s := by
  simp only [State.selectDma, h, List.filter_nil, firstTask, List.foldl_nil]

/-! ### An I3C controller -/

theorem State.selectI3c_first {n : Nat} {k : Task} (hfirst : firstTask (s.readyList (0x40 + n)) = some k) :
    s.selectI3c n = if (s.i3c n).task = none then (s.startTask k.id).i3cStart n k.id else s := by
  cases htask : (s.i3c n).task <;> simp [State.selectI3c, hfirst, htask]

theorem State.selectI3c_empty {n : Nat} (h : s.readyList (0x40 + n) = []) : s.selectI3c n = s := by
  simp only [State.selectI3c, h, firstTask, List.foldl_nil]

/-! ### The command -/

/-- An engine, a DMA unit and a controller take nothing from an empty list. -/
theorem exec_taskSelect_empty (hl : s.live = true) (t : Nat) {r : Res}
    (hr : isEngine r.val = true ∨ isDma r.val = true ∨ isI3c r.val = true) (h : (s.at t).readyList r.val = []) :
    exec (.taskSelect t r) s = .next (s.at t) := by
  by_cases hret : (s.at t).resRetired r.val = true
  · exact exec_taskSelect_retired hl t hret
  · rw [Bool.not_eq_true] at hret
    rcases hr with hr | hr | hr
    · rw [exec_taskSelect_engine hl t hret hr, State.selectEngine_empty (by rwa [res_eq_of_isEngine hr])]
    · rw [exec_taskSelect_dma hl t hret hr, State.selectDma_empty (by rwa [res_eq_of_isDma hr])]
    · rw [exec_taskSelect_i3c hl t hret hr, State.selectI3c_empty (by rwa [res_eq_of_isI3c hr])]

/-- Settles O32, by the kind of the resource. -/
theorem resourcesTakeTheFirstReadyEntry : Obligations.ResourcesTakeTheFirstReadyEntry := by
  refine ⟨?_, ?_, ?_, ?_, ?_, ?_, ?_⟩
  · rintro t r s hl hret
    exact exec_taskSelect_retired hl t hret
  · rintro t r s u k rfl hl hret hr htask hbudget hpaused hfirst hnode
    rw [exec_taskSelect_core hl t hret hr, State.selectCore_first (s := s.at t) htask hbudget hpaused hfirst hnode]
  · rintro t id r s u k rfl hl hret hr htask hbudget hk
    rw [exec_taskSelect_core hl t hret hr, State.selectCore_budget (s := s.at t) htask hbudget hk]
  · rintro t r s u k rfl hl hret hr hfirst
    rw [← res_eq_of_isEngine hr] at hfirst
    rw [exec_taskSelect_engine hl t hret hr]
    refine ⟨fun htask => ?_, fun htask hnext => ?_, fun htask hnext => ?_⟩
    · exact congrArg _ (State.selectEngine_first hfirst htask)
    · rw [State.selectEngine_second hfirst htask hnext, res_eq_of_isEngine hr]
    · rw [State.selectEngine_full hfirst htask hnext]
  · rintro t r s u k rfl hl hret hr hfirst
    rw [← res_eq_of_isDma hr] at hfirst
    rw [exec_taskSelect_dma hl t hret hr]
    refine ⟨fun hfree => ?_, fun c v hfree hv => ?_⟩
    · rw [State.selectDma_full hfirst hfree]
    · rw [State.selectDma_takes hfirst hfree hv]
  · rintro t r s u k rfl hl hret hr hfirst
    rw [← res_eq_of_isI3c hr] at hfirst
    rw [exec_taskSelect_i3c hl t hret hr, State.selectI3c_first hfirst]
    rfl
  · rintro t r s u rfl hl hr h
    exact exec_taskSelect_empty hl t hr h

end Sys2Proof.Machine
end

section
/-! PROOFS. A host task stops at its limit (R191, R196). -/

namespace Sys2Proof.Machine

variable {s : State}

/-- A core marked to stop because its host task has used its cycles; a stop that it has already keeps its cause. -/
def State.markLimit (s : State) (c : Nat) : State :=
  if (s.core c).stop = 0 then s.setCore c { s.core c with stop := 2 } else s

theorem State.markLimit_run (s : State) (c : Nat) : ((s.markLimit c).core c).run = (s.core c).run := by
  unfold State.markLimit
  split
  · rw [State.core_setCore_same]
  · rfl

section
variable (hl : s.live = true) (t : Nat) (c : CoreId) {k : Task} (hk : (s.at t).coreTask c.val = some k)
include hl hk

theorem exec_hostTaskMaxCycles_within (hmax : max s.now t < k.startAt + k.maxCyc) : exec (.hostTaskMaxCycles t c) s = .next (s.at t) := by
  change execHostTaskMaxCycles t c s = _
  simp only [execHostTaskMaxCycles, whileLive_of_live hl, hk]
  exact congrArg _ (if_neg fun h => absurd h.2.2 (Nat.not_le.mpr hmax))

variable (hring : k.ring.isSome = true) (hstart : k.started = true)
include hring hstart

/-- Past its MAX_CYCLES a host task is marked, and stops at once where no TOD runs (R191). -/
theorem exec_hostTaskMaxCycles_over (hmax : k.startAt + k.maxCyc ≤ max s.now t) :
    exec (.hostTaskMaxCycles t c) s = .next
      (if (s.core c.val).run = none then ((s.at t).markLimit c.val).coreStop c.val else (s.at t).markLimit c.val) := by
  have hrun : (((s.at t).markLimit c.val).core c.val).run = (s.core c.val).run := State.markLimit_run _ _
  change execHostTaskMaxCycles t c s = _
  simp only [execHostTaskMaxCycles, whileLive_of_live hl, hk]
  rw [if_pos ⟨hring, hstart, hmax⟩, ← State.markLimit, hrun]
  simp only [Option.isNone_iff_eq_none]

end

/-- Settles O37, by the task's cycles and by whether a TOD runs. -/
theorem hostTaskStopsAtItsLimit : Obligations.HostTaskStopsAtItsLimit := by
  rintro t c s u v k rfl hl hk hring hstart hv
  have hv' : v = (s.at t).markLimit c.val := hv
  subst hv'
  refine ⟨fun hmax hrun => ?_, fun hmax hrun => ?_, fun hmax => ?_⟩
  · rw [exec_hostTaskMaxCycles_over hl t c hk hring hstart hmax, if_pos hrun]
  · rw [exec_hostTaskMaxCycles_over hl t c hk hring hstart hmax, if_neg hrun]
  · exact exec_hostTaskMaxCycles_within hl t c hk hmax

end Sys2Proof.Machine
end

section
/-! PROOFS. What the host writes to a function that it reaches: the mailbox, the doorbells, the ring registers; and the function's overflow entry
and vectors (R193, R359, R360, R362, R365, R367). -/

namespace Sys2Proof.Machine

variable {s : State}

/-! ### A write by whether it reaches its function -/

theorem hostWriteRow_reached (hl : s.live = true) {t : Nat} {f : Fn} (hr : (s.at t).reaches f.val = true) (g : State → State) :
    hostWriteRow t f s g = .next (g (s.at t)) := by
  rw [hostWriteRow, whileLive_of_live hl, if_pos hr]

/-- A write that reaches no function is dropped. -/
theorem hostWriteRow_dropped (hl : s.live = true) {t : Nat} {f : Fn} (hr : (s.at t).reaches f.val = false) (g : State → State) :
    hostWriteRow t f s g = .next (s.at t) := by
  rw [hostWriteRow, whileLive_of_live hl, if_neg (by simp [hr])]

/-! ### The mailbox -/

section
variable (hl : s.live = true) {t : Nat} {f : Fn} (hr : (s.at t).reaches f.val = true)
include hl hr

/-- REQ_SEQ makes an idle mailbox PENDING, and overruns another (R359). -/
theorem exec_reqSeq (v : BitVec 16) :
    exec (.reqSeq t f v) s = .next ((s.at t).setFn f.val (if (s.fnSt f.val).mbState = 0 then
      { s.fnSt f.val with mbState := 1, reqSeq := v.toNat, answer := none } else { s.fnSt f.val with overrun := true })) := by
  change execReqSeq t f v s = _
  unfold execReqSeq
  rw [apply_ite ((s.at t).setFn f.val)]
  exact hostWriteRow_reached hl hr _

theorem exec_ack (v : BitVec 32) :
    exec (.ack t f v) s = .next (if (s.fnSt f.val).mbState = 2 ∧ v.getLsbD 0 = true then
      (s.at t).setFn f.val { s.fnSt f.val with mbState := 0 } else s.at t) := by
  change execAck t f v s = _
  unfold execAck
  exact hostWriteRow_reached hl hr _

theorem exec_overrunClear (v : BitVec 32) :
    exec (.overrunClear t f v) s = .next (if v.getLsbD 2 = true then (s.at t).setFn f.val { s.fnSt f.val with overrun := false }
      else s.at t) := by
  change execOverrunClear t f v s = _
  unfold execOverrunClear
  exact hostWriteRow_reached hl hr _

end

/-- The pending request of a function answered: with the answer that is there, else once the request is served (R360). -/
def State.answerPending (s : State) (f : Nat) : State :=
  let q := reqOfBytes (s.fnSt f).reqBuf
  match (s.fnSt f).answer with
  | some a => s.mailboxAnswer f a
  | none =>
    let v := s.serve f q.1 q.2
    match (v.fnSt f).answer with
    | some a => v.mailboxAnswer f a
    | none => v

theorem State.answerPending_answered {f : Nat} {a : Resp} (h : (s.fnSt f).answer = some a) :
    s.answerPending f = s.mailboxAnswer f a := by
  simp only [State.answerPending, h]

theorem State.answerPending_served {f : Nat} {v : State} {a : Resp} (hnone : (s.fnSt f).answer = none)
    (hv : v = s.serve f (reqOfBytes (s.fnSt f).reqBuf).1 (reqOfBytes (s.fnSt f).reqBuf).2) (ha : (v.fnSt f).answer = some a) :
    s.answerPending f = v.mailboxAnswer f a := by
  subst hv
  simp only [State.answerPending, hnone, ha]

section
variable (hl : s.live = true) (t : Nat) (f : Fn)
include hl

/-- Nothing answers a mailbox that is not PENDING, or whose COMMIT is under way (R360). -/
theorem exec_mailboxDone_waits (h : (s.fnSt f.val).mbState ≠ 1
      ∨ s.dict.commits.any (fun c => decide (c.fn = f.val) && !c.silent) = true) : exec (.mailboxDone t f) s = .next (s.at t) := by
  change execMailboxDone t f s = _
  rw [execMailboxDone, whileLive_of_live hl]
  exact congrArg _ (if_pos (h.imp_right .inr))

/-- While SCH serves, a pending request is answered (R360). -/
theorem exec_mailboxDone_serves (hready : s.reg 0x2050 1 = 3) (hsch : s.proc 2 = 1) (hpend : (s.fnSt f.val).mbState = 1)
    (hcommit : s.dict.commits.any (fun c => decide (c.fn = f.val) && !c.silent) = false) :
    exec (.mailboxDone t f) s = .next ((s.at t).answerPending f.val) := by
  have hfn : (s.at t).fnSt f.val = s.fnSt f.val := rfl
  have hsch' : (s.at t).proc 2 = 1 := hsch
  change execMailboxDone t f s = _
  rw [execMailboxDone, whileLive_of_live hl]
  refine congrArg _ ((if_neg ?_).trans (if_neg ?_))
  · simp [hfn, hpend, hready, hcommit]
  · simp [hsch']

end

/-! ### Doorbells -/

theorem Binding.depth_pos (b : Binding) : 0 < b.depth := Nat.two_pow_pos _

/-- The depth by which a doorbell of a queue counts: 1 for one that nothing binds. -/
def QueueSt.doorbellDepth (x : QueueSt) : Nat := (x.bind.map Binding.depth).getD 1

theorem QueueSt.doorbellDepth_pos (x : QueueSt) : 0 < x.doorbellDepth := by
  unfold QueueSt.doorbellDepth
  cases x.bind with
  | none => exact Nat.one_pos
  | some b => exact b.depth_pos

theorem aheadOf_lt {d : Nat} (hd : 0 < d) (base v : Nat) : aheadOf d base v < 2 * d := Nat.mod_lt _ (by omega)

/-- An index of a ring moved on by twice the depth where it is less than `held`, so that `held` entries can lie behind it. -/
def atLeastHeld (d held i : Nat) : Nat := if i < held then i + 2 * d else i

theorem atLeastHeld_mod (d held i : Nat) : atLeastHeld d held i % (2 * d) = i % (2 * d) := by
  unfold atLeastHeld
  split
  · exact Nat.add_mod_right i (2 * d)
  · rfl

theorem le_atLeastHeld {d held : Nat} (h : held < 2 * d) (i : Nat) : held ≤ atLeastHeld d held i := by
  unfold atLeastHeld
  split <;> omega

section
variable (hl : s.live = true) {t : Nat} {f : Fn} (hr : (s.at t).reaches f.val = true) (q : QueueId) (v : BitVec 32)
include hl hr

/-- SQ_TAIL submits entries up to the new tail, or is refused: by the doorbell's own checks first, then beyond the depth (R193). -/
theorem exec_sqTail {n st : Nat} (hn : n = aheadOf (s.queue q.val).doorbellDepth (s.queue q.val).sqHead v.toNat)
    (hst : firstFail [(s.at t).doorbellCheck f.val q.val, need (decide (n ≤ (s.queue q.val).doorbellDepth)) stQueueFull] = st) :
    exec (.sqTail t f q v) s = .next
      (if st ≠ stOk then (s.at t).refuseDoorbell f.val q.val st
      else (s.at t).setQueue q.val { s.queue q.val with
        sqTail := (s.queue q.val).sqHead + n,
        sqTimes := (s.queue q.val).sqTimes.take n ++ List.replicate (n - ((s.queue q.val).sqTimes.take n).length) (max s.now t),
        aborted := (s.queue q.val).aborted.filter (fun i => decide (i < (s.queue q.val).sqHead + n)) }) := by
  subst hn hst
  change execSqTail t f q v s = _
  unfold execSqTail
  exact hostWriteRow_reached hl hr _

theorem exec_sqTail_submits {n : Nat} (hn : n = aheadOf (s.queue q.val).doorbellDepth (s.queue q.val).sqHead v.toNat)
    (hst : (s.at t).doorbellCheck f.val q.val = stOk) (hle : n ≤ (s.queue q.val).doorbellDepth) :
    exec (.sqTail t f q v) s = .next ((s.at t).setQueue q.val { s.queue q.val with
      sqTail := (s.queue q.val).sqHead + n,
      sqTimes := (s.queue q.val).sqTimes.take n ++ List.replicate (n - ((s.queue q.val).sqTimes.take n).length) (max s.now t),
      aborted := (s.queue q.val).aborted.filter (fun i => decide (i < (s.queue q.val).sqHead + n)) }) := by
  rw [exec_sqTail hl hr q v hn (st := stOk) (by rw [firstFail_pair, if_pos hst, need, if_pos (decide_eq_true hle)]; rfl),
    if_neg (not_not_intro rfl)]

theorem exec_sqTail_full (hst : (s.at t).doorbellCheck f.val q.val = stOk)
    (hlt : (s.queue q.val).doorbellDepth < aheadOf (s.queue q.val).doorbellDepth (s.queue q.val).sqHead v.toNat) :
    exec (.sqTail t f q v) s = .next ((s.at t).refuseDoorbell f.val q.val stQueueFull) := by
  rw [exec_sqTail hl hr q v rfl (st := stQueueFull) (by rw [firstFail_pair, if_pos hst, need, if_neg (by simpa using hlt)]),
    if_pos (by decide)]

theorem exec_sqTail_refused (hst : (s.at t).doorbellCheck f.val q.val ≠ stOk) :
    exec (.sqTail t f q v) s = .next ((s.at t).refuseDoorbell f.val q.val ((s.at t).doorbellCheck f.val q.val)) := by
  rw [exec_sqTail hl hr q v rfl (by rw [firstFail_pair, if_neg hst]), if_pos hst]

/-- CQ_HEAD of a queue whose doorbells are the function's frees the records up to the new head (R193). -/
theorem exec_cqHead {held : Nat} (hheld : held = aheadOf (s.queue q.val).doorbellDepth v.toNat (s.queue q.val).cqTail)
    (hst : (s.at t).doorbellCheck f.val q.val = stOk) :
    exec (.cqHead t f q v) s = .next ((s.at t).setQueue q.val { s.queue q.val with
      cqTail := atLeastHeld (s.queue q.val).doorbellDepth held (s.queue q.val).cqTail,
      cqHead := atLeastHeld (s.queue q.val).doorbellDepth held (s.queue q.val).cqTail - held }) := by
  subst hheld
  change execCqHead t f q v s = _
  unfold execCqHead
  rw [hostWriteRow_reached hl hr]
  exact congrArg _ (if_neg (not_not_intro hst))

theorem exec_cqHead_refused (hst : (s.at t).doorbellCheck f.val q.val ≠ stOk) :
    exec (.cqHead t f q v) s = .next ((s.at t).refuseDoorbell f.val q.val ((s.at t).doorbellCheck f.val q.val)) := by
  change execCqHead t f q v s = _
  unfold execCqHead
  rw [hostWriteRow_reached hl hr]
  exact congrArg _ (if_pos hst)

end

/-! ### Ring registers -/

section
variable (hl : s.live = true) {t : Nat} {f : Fn} (hr : (s.at t).reaches f.val = true) (v : BitVec 32)
include hl hr

theorem exec_evTail :
    exec (.evTail t f v) s = .next ((s.at t).setFn f.val { s.fnSt f.val with evTail := tailTaken (s.fnSt f.val).evHead v.toNat }) := by
  change execEvTail t f v s = _
  unfold execEvTail
  exact hostWriteRow_reached hl hr _

theorem exec_resTail :
    exec (.resTail t f v) s = .next ((s.at t).setFn f.val { s.fnSt f.val with resTail := tailTaken (s.fnSt f.val).resHead v.toNat }) := by
  change execResTail t f v s = _
  unfold execResTail
  exact hostWriteRow_reached hl hr _

end

/-! ### Vectors -/

section
variable (hl : s.live = true) (t : Nat) (f : Fn)
include hl

/-- A coalesced vector with something new fires when its period is over (R362). -/
theorem exec_msixCoalesceExpiry (v : Vec) :
    exec (.msixCoalesceExpiry t f v) s = .next (if kget false (s.fnSt f.val).fresh v.val = true ∧ (s.at t).coalesceOver f.val v.val = true
      then (s.at t).fire f.val v.val else s.at t) := by
  change execMsixCoalesceExpiry t f v s = _
  rw [execMsixCoalesceExpiry, whileLive_of_live hl]
  simp only [Bool.and_eq_true]
  rfl

variable {e : Nat} (he : s.tick.lastEdge = some e)
include he

/-- Vector 2 fires at every OD 1106.01-th edge, once for an edge (R362). -/
theorem exec_tickVector_fires (hn : s.regF f.val 0x1106 1 ≠ 0) (hdiv : s.tickCount % s.regF f.val 0x1106 1 = 0)
    (hnew : ∀ l, klook (s.fnSt f.val).lastFire 2 = some l → l < e) : exec (.tickVector t f) s = .next ((s.at t).fire f.val 2) := by
  have hfn : (s.at t).fnSt f.val = s.fnSt f.val := rfl
  change execTickVector t f s = _
  rw [execTickVector, whileLive_of_live hl]
  refine congrArg _ (if_pos ⟨hn, hdiv, ?_⟩)
  rw [hfn, State.at_tick, he]
  cases hlast : klook (s.fnSt f.val).lastFire 2 with
  | none => rfl
  | some l => exact decide_eq_true (hnew l hlast)

theorem exec_tickVector_stays (h : s.regF f.val 0x1106 1 = 0 ∨ s.tickCount % s.regF f.val 0x1106 1 ≠ 0
      ∨ ∃ l, klook (s.fnSt f.val).lastFire 2 = some l ∧ e ≤ l) : exec (.tickVector t f) s = .next (s.at t) := by
  have hfn : (s.at t).fnSt f.val = s.fnSt f.val := rfl
  change execTickVector t f s = _
  rw [execTickVector, whileLive_of_live hl]
  refine congrArg _ (if_neg ?_)
  rintro ⟨hn, hdiv, hnew⟩
  obtain ⟨l, hlast, hel⟩ := (h.resolve_left hn).resolve_left (not_not_intro hdiv)
  rw [hfn, State.at_tick, he, hlast] at hnew
  exact absurd (of_decide_eq_true hnew) (Nat.not_lt.mpr hel)

end

/-- Settles O48, register by register. -/
theorem hostMailboxDoorbellsRingsAndVectors : Obligations.HostMailboxDoorbellsRingsAndVectors := by
  refine ⟨?_, ?_, ?_, ?_, ?_, ?_, ?_, ?_, ?_, ?_, ?_, ?_, ?_⟩
  · rintro t f v s u rfl hl hr
    exact exec_reqSeq hl hr v
  · rintro t f v s u rfl hl hr
    exact exec_ack hl hr v
  · rintro t f v s u rfl hl hr
    exact exec_overrunClear hl hr v
  · rintro t f s u rfl hl hready hsch hpend hcommit
    rw [exec_mailboxDone_serves hl t f hready hsch hpend hcommit]
    refine ⟨fun a ha => ?_, fun v a hnone hv ha => ?_⟩
    · rw [State.answerPending_answered (s := s.at t) ha]
    · rw [State.answerPending_served (s := s.at t) hnone hv ha]
  · rintro t f s u rfl hl h
    exact exec_mailboxDone_waits hl t f h
  · rintro s f a
    exact ⟨_, rfl, rfl⟩
  · rintro t d n f q v s u rfl hl hr hd rfl
    subst hd
    exact ⟨fun hst hle => exec_sqTail_submits hl hr q v rfl hst hle, fun hst hlt => exec_sqTail_full hl hr q v hst hlt,
      fun hst => exec_sqTail_refused hl hr q v hst⟩
  · rintro t d f q v s u rfl hl hr rfl
    refine ⟨fun hst => ?_, fun hst => exec_cqHead_refused hl hr q v hst⟩
    refine ⟨_, _, exec_cqHead hl hr q v rfl hst, atLeastHeld_mod _ _ _, ?_⟩
    exact (Nat.sub_add_cancel (le_atLeastHeld (aheadOf_lt (QueueSt.doorbellDepth_pos _) _ _) _)).symm
  · rintro t f v s u rfl hl hr
    exact ⟨exec_evTail hl hr v, exec_resTail hl hr v⟩
  · rintro t f q v x s u rfl hl hr
    have hdrop := hostWriteRow_dropped hl hr
    change execReqSeq t f x s = _ ∧ execAck t f v s = _ ∧ execOverrunClear t f v s = _ ∧ execSqTail t f q v s = _
      ∧ execCqHead t f q v s = _ ∧ execEvTail t f v s = _ ∧ execResTail t f v s = _
    unfold execReqSeq execAck execOverrunClear execSqTail execCqHead execEvTail execResTail
    exact ⟨hdrop _, hdrop _, hdrop _, hdrop _, hdrop _, hdrop _, hdrop _⟩
  · rintro t f s u rfl hl
    exact whileLive_of_live hl t fun v => v.evOverflow f.val
  · rintro t f v s u rfl hl
    exact exec_msixCoalesceExpiry hl t f v
  · rintro t e f s u rfl hl he
    exact ⟨exec_tickVector_fires hl t f he, exec_tickVector_stays hl t f he⟩

end Sys2Proof.Machine
end

section
/-! PROOFS. BAR0 of a function: reads of the register window and beyond it, the refused writes of the window, the other registers
(R193, R354, R358, R359, R362). -/

namespace Sys2Proof.Machine

variable {s : State}

/-- A read that reaches its function. -/
theorem hostReadRow_reached (hl : s.live = true) {t : Nat} {f : Fn} (hr : (s.at t).reaches f.val = true) (g : State → State) :
    hostReadRow t f s g = .next (g (s.at t)) := by
  rw [hostReadRow, whileLive_of_live hl, if_pos hr]

/-- A read that reaches no function is unsupported. -/
theorem hostReadRow_unsupported (hl : s.live = true) {t : Nat} {f : Fn} (hr : (s.at t).reaches f.val = false) (g : State → State) :
    hostReadRow t f s g = .next ((s.at t).complete .unsupported) := by
  rw [hostReadRow, whileLive_of_live hl, if_neg (by simp [hr])]

/-! ### A refused access of the window -/

/-- A refused access is latched and counted, and touches neither LPDDR5 nor a function (R358). -/
theorem State.refuseWindow_spec (s : State) (f off st : Nat) :
    (s.refuseWindow f off st).regF f 0x1102 1 = st + 65536 * (off / 8 % 8192)
      ∧ (s.refuseWindow f off st).regF f 0x1102 2 = satAdd 32 (s.regF f 0x1102 2) 1
      ∧ (s.refuseWindow f off st).ddr = s.ddr ∧ (s.refuseWindow f off st).fns = s.fns := by
  refine ⟨?_, ?_, rfl, rfl⟩
  · rw [State.refuseWindow, State.regF_bumpF_other _ (okey_ne_of_sub (by decide) (by decide) (by decide)), State.regF_setRegF_same]
  · rw [State.refuseWindow, State.bumpF, State.regF_setRegF_same,
      State.regF_setRegF_other _ (okey_ne_of_sub (by decide) (by decide) (by decide))]

/-! ### Reads -/

section
variable (hl : s.live = true) {t : Nat} {f : Fn} (hr : (s.at t).reaches f.val = true) {off : Nat} (len : Nat)
include hl hr

/-- From offset 0x10000 on a read answers what BAR0 holds there (log 72). -/
theorem exec_registerWindowRead_beyond (hoff : 0x10000 ≤ off) :
    exec (.registerWindowRead t f off len) s
      = .next ((s.at t).complete (.data ((s.at t).bar0Read f.val ((off + 0x10000) % 0x40000) len))) := by
  change execRegisterWindowRead t f off len s = _
  unfold execRegisterWindowRead
  rw [hostReadRow_reached hl hr, if_pos hoff]

variable (hoff : off < 0x10000)
include hoff

/-- A refused read of the window answers all ones (R358). -/
theorem exec_registerWindowRead_refused (hst : (s.at t).windowCheck f.val off len ≠ stOk) :
    exec (.registerWindowRead t f off len) s
      = .next (((s.at t).refuseWindow f.val off ((s.at t).windowCheck f.val off len)).complete (.data (List.replicate len 0xFF))) := by
  change execRegisterWindowRead t f off len s = _
  unfold execRegisterWindowRead
  rw [hostReadRow_reached hl hr, if_neg (Nat.not_le.mpr hoff)]
  exact congrArg _ (if_pos hst)

variable {len} {idx sub : Nat} {x : Option Nat} {o : ObjRow}

/-- A read of a served slot answers the bytes of its object (R358). -/
theorem exec_registerWindowRead_served (hst : (s.at t).windowCheck f.val off len = stOk) (hslot : windowSlot off = some (idx, sub, x))
    (ho : objRow idx sub = some o) :
    exec (.registerWindowRead t f off len) s = .next ((s.at t).complete
      (.data (slice (slice (valBytes o.ty ((s.at t).objValue f.val o idx sub)) 0 8) (off % 8) len))) := by
  change execRegisterWindowRead t f off len s = _
  unfold execRegisterWindowRead
  rw [hostReadRow_reached hl hr, if_neg (Nat.not_le.mpr hoff)]
  simp only [hst, hslot, ho, ne_eq, not_true_eq_false, if_false]

end

/-! ### Writes -/

section
variable (hl : s.live = true) {t : Nat} {f : Fn} (hr : (s.at t).reaches f.val = true) {off : Nat}
include hl hr

/-- A write of the window is refused with READ_ONLY (R358). -/
theorem exec_registerWindowWrite : exec (.registerWindowWrite t f off) s = .next ((s.at t).refuseWindow f.val off stReadOnly) := by
  change execRegisterWindowWrite t f off s = _
  unfold execRegisterWindowWrite
  exact hostWriteRow_reached hl hr _

variable (bs : List Byte)

/-- The request buffer takes a write unless a request is pending (R359). -/
theorem exec_registerWrite_reqBuf (hlo : 0x20000 ≤ off) (hhi : off < 0x21014) :
    exec (.registerWrite t f off bs) s = .next (if (s.fnSt f.val).mbState = 1 then s.at t
      else (s.at t).setFn f.val { s.fnSt f.val with
        reqBuf := (overlay (slice (s.fnSt f.val).reqBuf 0 4116) (off - 0x20000) bs).take 4116 }) := by
  change execRegisterWrite t f off bs s = _
  unfold execRegisterWrite
  rw [hostWriteRow_reached hl hr]
  exact congrArg _ (if_pos ⟨hlo, hhi⟩)

/-- The MSI-X table takes a write, and messages that it unmasks are sent (R354, R362). -/
theorem exec_registerWrite_msix (hlo : 0x30000 ≤ off) (hhi : off < 0x30080) :
    exec (.registerWrite t f off bs) s = .next (((s.at t).setFn f.val { s.fnSt f.val with
      msixTable := (overlay (s.fnSt f.val).msixTable (off - 0x30000) bs).take 128 }).sendPending f.val) := by
  change execRegisterWrite t f off bs s = _
  unfold execRegisterWrite
  rw [hostWriteRow_reached hl hr]
  exact congrArg _ ((if_neg (by omega)).trans (if_pos ⟨hlo, hhi⟩))

/-- Any other write is dropped. -/
theorem exec_registerWrite_other (h : off < 0x20000 ∨ (0x21014 ≤ off ∧ off < 0x30000) ∨ 0x30080 ≤ off) :
    exec (.registerWrite t f off bs) s = .next (s.at t) := by
  change execRegisterWrite t f off bs s = _
  unfold execRegisterWrite
  rw [hostWriteRow_reached hl hr]
  exact congrArg _ ((if_neg (by omega)).trans (if_neg (by omega)))

end

/-- Settles O49: reads by their offset and the slot's check, writes by the register that they name. -/
theorem registerWindowIsReadOnly : Obligations.RegisterWindowIsReadOnly := by
  refine ⟨?_, ?_, ?_, ?_, ?_, ?_⟩
  · rintro t off len idx sub x f s u o rfl hl hr hoff hst hslot ho
    exact exec_registerWindowRead_served hl hr hoff hst hslot ho
  · rintro t off len f s u rfl hl hr hoff hst
    exact exec_registerWindowRead_refused hl hr len hoff hst
  · rintro t off len f s u rfl hl hr hoff
    exact exec_registerWindowRead_beyond hl hr len hoff
  · rintro t off f s hl hr
    exact ⟨_, exec_registerWindowWrite hl hr, State.refuseWindow_spec _ _ _ _⟩
  · rintro t off f bs s u rfl hl hr
    exact ⟨exec_registerWrite_reqBuf hl hr bs, exec_registerWrite_msix hl hr bs, exec_registerWrite_other hl hr bs⟩
  · rintro t off len f bs s u rfl hl hr
    have hdrop := hostWriteRow_dropped hl hr
    change execRegisterWindowRead t f off len s = _ ∧ execRegisterWindowWrite t f off s = _ ∧ execRegisterWrite t f off bs s = _
    unfold execRegisterWindowRead execRegisterWindowWrite execRegisterWrite
    exact ⟨hostReadRow_unsupported hl hr _, hdrop _, hdrop _⟩

end Sys2Proof.Machine
end

section
/-! PROOFS. The lanes of a port follow its state and its faults (R232, R235, R236, R240). -/

namespace Sys2Proof.Machine

variable {s : State} {t : Nat} {n : PortId}

@[simp] theorem State.at_portState (t n : Nat) : (s.at t).portState n = s.portState n := rfl

/-! ### A high-speed request -/

/-- The clock lane's activity seen: OK where the configuration uses the lane (R235). -/
def State.seeClock (s : State) (n : Nat) : State :=
  s.setReg (0x2030 + n) 8 (if laneUsed (s.phy n) 0 then setLane (s.reg (0x2030 + n) 8) 0 0 else s.reg (0x2030 + n) 8)

/-- Time moves no lane's code. -/
theorem State.at_seeClock (n : Nat) : (s.at t).seeClock n = (s.at t).setReg (0x2030 + n) 8
    (if laneUsed ((s.at t).phy n) 0 then setLane (s.reg (0x2030 + n) 8) 0 0 else s.reg (0x2030 + n) 8) := by
  rw [State.seeClock, State.at_reg]

/-- The clock lane's code is OD 203n.08 alone. -/
theorem State.reg_seeClock {sub : Nat} (h : sub ≠ 8) (hs : sub < 256) :
    (s.seeClock n.val).reg (0x2030 + n.val) sub = s.reg (0x2030 + n.val) sub :=
  State.reg_setReg_other _ (okey_ne_of_sub h hs (by decide))

/-- A port that neither was LOCKED nor locks writes its state to the dictionary and nothing else. -/
theorem State.reg_enterPort_unlocked {n v : Nat} (h : s.portState n ≠ 3) (hv : v ≠ 3) (idx sub : Nat) :
    (s.enterPort n v).reg idx sub = (s.setReg (0x2030 + n) 6 v).reg idx sub := by
  simp only [State.enterPort, h, hv, false_and, if_false]
  rfl

/-- An ACQUIRING port locks with the written map under MAP_LOCK (R232). -/
theorem State.mapWritten_locks {n : Nat} (hlock : s.reg (0x2030 + n) 3 = 1) (hst : s.portState n = 2) :
    s.mapWritten n = ((s.seeLanes n).setReg (0x2030 + n) 7 (s.reg (0x2030 + n) 4)).enterPort n 3 :=
  (if_neg (not_not.mpr hlock)).trans (if_pos hst)

/-- Without MAP_LOCK the written map is not in force. -/
theorem State.mapWritten_unlocked {n : Nat} (h : s.reg (0x2030 + n) 3 ≠ 1) : s.mapWritten n = s := if_pos h

theorem exec_portHsRequest_idle (hl : s.live = true) (h : s.portState n.val ≠ 1) : exec (.portHsRequest t n) s = .next (s.at t) := by
  change execPortHsRequest t n s = _
  unfold execPortHsRequest
  rw [whileLive_of_live hl]
  exact congrArg _ (if_pos h)

theorem exec_portHsRequest_down (hl : s.live = true) (h : s.portState n.val = 1) :
    exec (.portHsRequest t n) s = .next ((((s.at t).seeClock n.val).enterPort n.val 2).mapWritten n.val) := by
  change execPortHsRequest t n s = _
  unfold execPortHsRequest
  rw [whileLive_of_live hl]
  exact congrArg _ (if_neg (not_not.mpr h))

section
variable (h : s.portState n.val = 1)
include h

/-- The clock's code leaves a DOWN port's state. -/
theorem State.portState_seeClock_ne_locked : ((s.at t).seeClock n.val).portState n.val ≠ 3 := by
  rw [State.portState, State.reg_seeClock (by decide) (by decide)]
  exact ne_of_eq_of_ne h (by decide)

/-- Between a request and the locking under MAP_LOCK the port's other objects stay. -/
theorem State.reg_acquiring {sub : Nat} (h6 : sub ≠ 6) (h8 : sub ≠ 8) (hs : sub < 256) :
    (((s.at t).seeClock n.val).enterPort n.val 2).reg (0x2030 + n.val) sub = s.reg (0x2030 + n.val) sub := by
  rw [State.reg_enterPort_unlocked (State.portState_seeClock_ne_locked h) (by decide),
    State.reg_setReg_other _ (okey_ne_of_sub h6 hs (by decide)), State.reg_seeClock h8 hs, State.at_reg]

theorem State.portState_acquiring : (((s.at t).seeClock n.val).enterPort n.val 2).portState n.val = 2 := by
  rw [State.portState, State.reg_enterPort_unlocked (State.portState_seeClock_ne_locked h) (by decide), State.reg_setReg_same]

/-- A DOWN port goes to ACQUIRING, and under MAP_LOCK on to LOCKED (R232, R240). -/
theorem exec_portHsRequest_mapLock {w : State} (hl : s.live = true) (hw : w = ((s.at t).seeClock n.val).enterPort n.val 2) :
    (s.reg (0x2030 + n.val) 3 = 1 → exec (.portHsRequest t n) s
      = .next (((w.seeLanes n.val).setReg (0x2030 + n.val) 7 (s.reg (0x2030 + n.val) 4)).enterPort n.val 3))
    ∧ (s.reg (0x2030 + n.val) 3 ≠ 1 → exec (.portHsRequest t n) s = .next w) := by
  have hmode : w.reg (0x2030 + n.val) 3 = s.reg (0x2030 + n.val) 3 := hw ▸ State.reg_acquiring h (by decide) (by decide) (by decide)
  have hmap : w.reg (0x2030 + n.val) 4 = s.reg (0x2030 + n.val) 4 := hw ▸ State.reg_acquiring h (by decide) (by decide) (by decide)
  have hst : w.portState n.val = 2 := hw ▸ State.portState_acquiring h
  rw [exec_portHsRequest_down hl h, ← hw]
  constructor
  · intro hlock
    rw [State.mapWritten_locks (hmode.trans hlock) hst, hmap]
  · intro hfree
    rw [State.mapWritten_unlocked (hmode ▸ hfree)]

end

/-! ### Entry to ULPS and a recovery -/

theorem exec_ulpsEntry (hl : s.live = true) (t : Nat) (n : PortId) :
    exec (.ulpsEntry t n) s = .next (if s.portState n.val = 3 then (s.at t).enterPort n.val 1 else s.at t) :=
  whileLive_of_live hl t fun v => if v.portState n.val = 3 then v.enterPort n.val 1 else v

/-- LANE_STATE with the fault codes of the lanes in use cleared (R236). -/
def recoverLanes (cfg w : Nat) : Nat :=
  (List.range 5).foldl (fun w k => if laneUsed cfg k ∧ 1 ≤ laneCode w k ∧ laneCode w k ≤ 4 then setLane w k 0 else w) w

theorem exec_portRecover_idle (hl : s.live = true) (h : s.portState n.val ≠ 4) : exec (.portRecover t n) s = .next (s.at t) := by
  change execPortRecover t n s = _
  unfold execPortRecover
  rw [whileLive_of_live hl]
  exact congrArg _ (if_pos h)

theorem exec_portRecover_faulted (hl : s.live = true) (h : s.portState n.val = 4) :
    exec (.portRecover t n) s = .next (((s.at t).setReg (0x2030 + n.val) 8
      (recoverLanes (s.phy n.val) (s.reg (0x2030 + n.val) 8))).enterPort n.val 1) := by
  change execPortRecover t n s = _
  unfold execPortRecover
  rw [whileLive_of_live hl]
  exact congrArg _ (if_neg (not_not.mpr h))

/-! ### Faults of lanes -/

/-- LANE_STATE of a port shows code `c` at a position. -/
def State.showLane (s : State) (n pos c : Nat) : State := s.setReg (0x2030 + n) 8 (setLane (s.reg (0x2030 + n) 8) pos c)

/-- What a lane shows is not its port's state. -/
theorem State.portState_showLane (pos c : Nat) : (s.showLane n.val pos c).portState n.val = s.portState n.val :=
  State.reg_setReg_other _ (okey_ne_of_sub (by decide) (by decide) (by decide))

/-- A port whose lane in use has failed: counted, the streams' link lost, the port in FAULT, and announced (R236). -/
def State.failPort (s : State) (n : Nat) : State :=
  let w := ((s.bump 32 (0x2030 + n) 12 1).linkLost n).enterPort n 4
  w.raiseEvent 0x40 (w.portPart n) n (w.reg (0x2030 + n) 8) 0 0

/-- A fault that a lane shows: it fails the port unless the lane is unused or the port in FAULT already. -/
def State.faultShown (s : State) (n pos : Nat) : State :=
  if !laneUsed (s.phy n) pos || decide (s.portState n = 4) then s else s.failPort n

theorem State.faultShown_only {n pos : Nat} (h : laneUsed (s.phy n) pos = false ∨ s.portState n = 4) : s.faultShown n pos = s :=
  if_pos (by simpa using h)

theorem State.faultShown_fails {n pos : Nat} (hused : laneUsed (s.phy n) pos = true) (hst : s.portState n ≠ 4) :
    s.faultShown n pos = s.failPort n := if_neg (by simp [hused, hst])

theorem State.clearLane_unfaulted {n pos : Nat} (h : laneCode (s.reg (0x2030 + n) 8) pos = 0 ∨ 5 ≤ laneCode (s.reg (0x2030 + n) 8) pos) :
    s.clearLane n pos = s := if_pos h

/-- The end of a lane's fault shows, and takes a port whose lanes are all clear out of FAULT (R235, R236). -/
theorem State.clearLane_faulted {n pos : Nat} {w : State} (hlo : 1 ≤ laneCode (s.reg (0x2030 + n) 8) pos)
    (hhi : laneCode (s.reg (0x2030 + n) 8) pos ≤ 4) (hw : w = s.showLane n pos (if laneUsed (s.phy n) pos then 0 else 5)) :
    s.clearLane n pos = if w.portState n = 4 ∧ w.lanesClear n = true then w.enterPort n 1 else w := by
  subst hw
  exact if_neg (by omega)

variable {pos : Fin 5} {code : Fin 8}

/-- LANE_FAULT by its code: no fault or a port that is off, the end of a fault, and a fault (R235, R236). -/
theorem exec_laneFault (hl : s.live = true) (t : Nat) (n : PortId) (pos : Fin 5) (code : Fin 8) :
    exec (.laneFault t n pos code) s = .next (if 5 ≤ code.val ∨ s.portState n.val = 0 then s.at t
      else if code.val = 0 then (s.at t).clearLane n.val pos.val
      else ((s.at t).showLane n.val pos.val code.val).faultShown n.val pos.val) := by
  change execLaneFault t n pos code s = _
  unfold execLaneFault
  rw [whileLive_of_live hl]
  rfl

theorem exec_laneFault_noFault (hl : s.live = true) (h : 5 ≤ code.val ∨ s.portState n.val = 0) :
    exec (.laneFault t n pos code) s = .next (s.at t) := by
  rw [exec_laneFault hl, if_pos h]

theorem exec_laneFault_ends (hl : s.live = true) (hcode : code.val = 0) (hst : s.portState n.val ≠ 0) :
    exec (.laneFault t n pos code) s = .next ((s.at t).clearLane n.val pos.val) := by
  rw [exec_laneFault hl, if_neg (by omega), if_pos hcode]

theorem exec_laneFault_shows (hl : s.live = true) (hlo : 1 ≤ code.val) (hhi : code.val ≤ 4) (hst : s.portState n.val ≠ 0) :
    exec (.laneFault t n pos code) s = .next (((s.at t).showLane n.val pos.val code.val).faultShown n.val pos.val) := by
  rw [exec_laneFault hl, if_neg (by omega), if_neg (by omega)]

/-- Settles O44: the requests by the state of the port, a lane's fault by its code and by what uses the lane. -/
theorem portLanesFollowTheirStates : Obligations.PortLanesFollowTheirStates := by
  refine ⟨?_, ?_, ?_⟩
  · rintro t n s u v w rfl hl hst hv hw
    rw [State.at_portState] at hst
    rw [hv, ← State.at_seeClock] at hw
    exact exec_portHsRequest_mapLock hst hl hw
  · rintro t n s u rfl hl
    simp only [State.at_portState]
    refine ⟨exec_portHsRequest_idle hl, fun hst => ?_, fun hst => ?_, exec_portRecover_faulted hl, exec_portRecover_idle hl⟩
    · rw [exec_ulpsEntry hl]
      exact congrArg _ (if_pos hst)
    · rw [exec_ulpsEntry hl]
      exact congrArg _ (if_neg hst)
  · rintro t n pos code s u v rfl hl hv
    have hstate : v.portState n.val = s.portState n.val := hv ▸ State.portState_showLane pos.val code.val
    have hreg := State.at_reg s t (0x2030 + n.val) 8
    simp only [State.at_portState]
    rw [← hreg] at hv ⊢
    refine ⟨fun hlo hhi hst h => ?_, ?_, exec_laneFault_noFault hl, ?_, fun hcode h => ?_⟩
    · rw [exec_laneFault_shows hl hlo hhi hst, State.showLane, ← hv, State.faultShown_only (hstate ▸ h)]
    · rintro w hlo hhi hst hused hnot rfl
      rw [exec_laneFault_shows hl hlo hhi hst, State.showLane, ← hv, State.faultShown_fails hused (hstate ▸ hnot)]
      rfl
    · intro w hcode hst hlo hhi hw
      rw [exec_laneFault_ends hl hcode hst, State.clearLane_faulted hlo hhi hw]
    · by_cases hst : s.portState n.val = 0
      · exact exec_laneFault_noFault hl (.inr hst)
      · rw [exec_laneFault_ends hl hcode hst, State.clearLane_unfaulted h]

end Sys2Proof.Machine
end

section
/-! PROOFS. The front-end's rows, its statistics records, its glint checks and the stalls of its ring (R249, R252, R259, R260, R265–R267). -/

namespace Sys2Proof.Machine

variable {s : State} {t : Nat}

@[simp] theorem State.at_stream (t st : Nat) : (s.at t).stream st = s.stream st := rfl
@[simp] theorem State.at_chan (t u c : Nat) : (s.at t).chan u c = s.chan u c := rfl
@[simp] theorem State.at_dma (t u : Nat) : (s.at t).dma u = s.dma u := rfl

/-! ### Rows -/

section
variable (hl : s.live = true) {st : StreamId}
include hl

theorem exec_feRowDone_empty (h : (s.port (st.val / 4)).work = []) : exec (.feRowDone t st) s = .next (s.at t) := by
  change execFeRowDone t st s = _
  unfold execFeRowDone
  rw [whileLive_of_live hl]
  simp only [State.at_port, h]

/-- The row at the head of the queue is taken where it is the stream's and the front-end can take it (R254, R267). -/
theorem exec_feRowDone_row {j : RowJob} {l : List RowJob} (h : (s.port (st.val / 4)).work = j :: l) :
    exec (.feRowDone t st) s = .next (if j.stream ≠ st.val ∨ (s.port (st.val / 4)).stalled.isSome = true
      ∨ (s.chan 5 (st.val / 4)).halted = true then s.at t else (s.at t).feTake (st.val / 4)) := by
  change execFeRowDone t st s = _
  unfold execFeRowDone
  rw [whileLive_of_live hl]
  simp only [State.at_port, State.at_chan, h]
  rfl

end

/-! ### The statistics record -/

/-- The frame whose record is due: the oldest that has ended with all its rows out of the front-end (R260, R261). -/
def State.recordDue (s : State) (st : Nat) : Option Frame :=
  ((s.stream st).late ++ (s.stream st).cur.toList).find? (fun f => f.ended && decide (f.coef.h ≤ f.done) && !f.record)

/-- A frame's record put in its buffer, where it has one. -/
def State.recordPut (s : State) (st : Nat) (f : Frame) : State :=
  if f.statsAt = 0 then s else s.fePut f.statsAt (statsRecord st f)

/-- A frame's record written: to its buffer and to the objects of the stream (R260). -/
def State.recordWritten (s : State) (st : Nat) (f : Frame) : State :=
  (((((s.recordPut st f).setBlob (stIdx st 0x0B) 5 (statsRecord st f)).setReg (stIdx st 0x0B) 4 f.number).setReg (stIdx st 9) 6
    f.defects).putFrame st { f with record := true }).dropOver st

/-- A write that passes by the context cache leaves LPDDR5 to its own bytes. -/
@[simp] theorem State.touchCtx_ddr (fill : Bool) (addr len : Nat) : (s.touchCtx fill addr len).ddr = s.ddr := by
  refine List.foldlRecOn (motive := fun v : State => v.ddr = s.ddr) _ _ rfl fun v hv p _ => ?_
  dsimp only
  split
  · exact hv
  · exact List.foldlRecOn (motive := fun w : State => w.ddr = s.ddr) _ _ hv fun w hw _ _ => hw

/-- A front-end writes no byte of LPDDR5 but those of its row or record. -/
theorem State.fePut_ddr (addr : Nat) (bs : List Byte) : (s.fePut addr bs).ddr = (s.ddrWrite addr bs).ddr := by
  change ksets memDefault (s.touchCtx false addr bs.length).ddr addr bs = _
  rw [State.touchCtx_ddr]
  rfl

theorem State.recordPut_ddr (st : Nat) (f : Frame) :
    (s.recordPut st f).ddr = if f.statsAt = 0 then s.ddr else (s.ddrWrite f.statsAt (statsRecord st f)).ddr := by
  unfold State.recordPut
  split_ifs
  · rfl
  · exact s.fePut_ddr _ _

@[simp] theorem State.reg_putFrame (st idx sub : Nat) (f : Frame) : (s.putFrame st f).reg idx sub = s.reg idx sub := rfl
@[simp] theorem State.blob_putFrame (st idx sub : Nat) (f : Frame) : (s.putFrame st f).blob idx sub = s.blob idx sub := rfl
@[simp] theorem State.ddr_putFrame (st : Nat) (f : Frame) : (s.putFrame st f).ddr = s.ddr := rfl
@[simp] theorem State.reg_dropOver (st idx sub : Nat) : (s.dropOver st).reg idx sub = s.reg idx sub := rfl
@[simp] theorem State.blob_dropOver (st idx sub : Nat) : (s.dropOver st).blob idx sub = s.blob idx sub := rfl
@[simp] theorem State.ddr_dropOver (st : Nat) : (s.dropOver st).ddr = s.ddr := rfl

/-- A record shows in the stream's objects and in its buffer, and in no other byte of LPDDR5 (R260). -/
theorem State.recordWritten_spec (st : StreamId) (f : Frame) :
    (s.recordWritten st.val f).reg (stIdx st.val 0x0B) 4 = f.number ∧ (s.recordWritten st.val f).reg (stIdx st.val 9) 6 = f.defects
      ∧ (s.recordWritten st.val f).blob (stIdx st.val 0x0B) 5 = statsRecord st.val f
      ∧ (s.recordWritten st.val f).ddr = if f.statsAt = 0 then s.ddr else (s.ddrWrite f.statsAt (statsRecord st.val f)).ddr := by
  unfold State.recordWritten
  refine ⟨?_, ?_, ?_, ?_⟩
  · rw [State.reg_dropOver, State.reg_putFrame, State.reg_setReg_other _ (okey_ne_of_sub_mod (by decide) (by decide) (by decide)),
      State.reg_setReg_same]
  · simp
  · simp
  · simpa using s.recordPut_ddr st.val f

section
variable (hl : s.live = true) {st : StreamId}
include hl

theorem exec_statsRecordWrite_none (h : s.recordDue st.val = none) : exec (.statsRecordWrite t st) s = .next (s.at t) := by
  unfold State.recordDue at h
  change execStatsRecordWrite t st s = _
  unfold execStatsRecordWrite
  rw [whileLive_of_live hl]
  simp only [State.at_stream, h]

/-- A record that is due waits while the front-end's channel of DMA5 is halted (R222, R260). -/
theorem exec_statsRecordWrite_due {f : Frame} (h : s.recordDue st.val = some f) : exec (.statsRecordWrite t st) s
    = .next (if (s.chan 5 (st.val / 4)).halted = true then s.at t else (s.at t).recordWritten st.val f) := by
  unfold State.recordDue at h
  change execStatsRecordWrite t st s = _
  unfold execStatsRecordWrite
  rw [whileLive_of_live hl]
  simp only [State.at_stream, State.at_chan, h]
  rfl

end

/-! ### The glint check -/

/-- The frame whose glint rows have left the front-end and whose signature is to be compared (R249). -/
def State.glintDue (s : State) (st : Nat) : Option Frame :=
  ((s.stream st).late ++ (s.stream st).cur.toList).find? (fun f => decide (f.glint = 2))

/-- A glint check that reads as expected closes. -/
def State.glintClosed (s : State) (st : Nat) (f : Frame) : State := (s.putFrame st { f with glint := 3 }).dropOver st

/-- A glint check that reads otherwise: flag 11 where the frame's status stands, the count, both values and the tick (R249). -/
def State.glintMissed (s : State) (st seen : Nat) (f : Frame) : State :=
  (((((s.putFrame st { f with glint := 3, flags := putBit f.flags 11 true }).restatus st f (fun w => putBit w 11 true)).bump 64
    (stIdx st 3) 1 1).setReg (stIdx st 3) 2 (glintExpected f.coef st f.tick)).setReg (stIdx st 3) 3 seen).setReg (stIdx st 3) 4 f.tick

section
variable (hl : s.live = true) {st : StreamId} {seen : BitVec 32}
include hl

theorem exec_glintCheckLatch_none (h : s.glintDue st.val = none) : exec (.glintCheckLatch t st seen) s = .next (s.at t) := by
  unfold State.glintDue at h
  change execGlintCheckLatch t st seen s = _
  unfold execGlintCheckLatch
  rw [whileLive_of_live hl]
  simp only [State.at_stream, h]

/-- A frame's check by what it reads (R249). -/
theorem exec_glintCheckLatch_due {f : Frame} {v : State} (h : s.glintDue st.val = some f)
    (hv : v = (s.at t).glintMissed st.val seen.toNat f) :
    exec (.glintCheckLatch t st seen) s = .next (if glintExpected f.coef st.val f.tick = seen.toNat then (s.at t).glintClosed st.val f
      else (v.raiseEvent 0x43 (v.streamPart st.val) st.val (glintExpected f.coef st.val f.tick) seen.toNat f.number).dropOver st.val) := by
  unfold State.glintDue at h
  change execGlintCheckLatch t st seen s = _
  unfold execGlintCheckLatch
  rw [whileLive_of_live hl]
  simp only [State.at_stream, h, hv]
  rfl

end

/-! ### The in-line window and its ring -/

section
variable (hl : s.live = true) {ch : ChanId}
include hl

theorem exec_inlineWindowRead_none (h : (s.at t).readReady 5 ch.val = none) : exec (.inlineWindowRead t ch) s = .next (s.at t) := by
  change execInlineWindowRead t ch s = _
  unfold execInlineWindowRead
  rw [whileLive_of_live hl]
  simp only [h]

/-- A read of the in-line window issues where the cycle's slot is free (R217, R267). -/
theorem exec_inlineWindowRead_window {d : Desc} {a k : Nat} (h : (s.at t).readReady 5 ch.val = some (.data d false a k))
    (hk : (srcSide d.bytes).kind = 6) :
    exec (.inlineWindowRead t ch) s = .next (if (s.dma 5).slotAt = some (max s.now t) then s.at t
      else ((s.at t).setDma 5 { s.dma 5 with slotAt := some (max s.now t) }).issueRead 5 ch.val) := by
  change execInlineWindowRead t ch s = _
  unfold execInlineWindowRead
  rw [whileLive_of_live hl]
  simp only [h, hk, true_and, State.at_dma, State.at_now, ite_not]

end

/-- A stalled front-end takes rows again: the wait since cycle `e` counts for the stream in line (R252, R267). -/
def State.ringResume (s : State) (n e : Nat) : State :=
  let v := s.setPort n { s.port n with stalled := none }
  match v.inlineOf n with
  | some x => v.bump 64 (stIdx x.1 0x0C) 9 (v.now - e)
  | none => v

theorem State.ringResume_counts {n e : Nat} {v : State} {x : Nat × Slot} (hv : v = s.setPort n { s.port n with stalled := none })
    (hx : v.inlineOf n = some x) : s.ringResume n e = v.bump 64 (stIdx x.1 0x0C) 9 (v.now - e) := by
  simp only [State.ringResume, ← hv, hx]

theorem State.ringResume_uncounted {n e : Nat} {v : State} (hv : v = s.setPort n { s.port n with stalled := none })
    (hx : v.inlineOf n = none) : s.ringResume n e = v := by
  simp only [State.ringResume, ← hv, hx]

/-- A stall ends when the trimmed ring has room (R267). -/
theorem exec_inlineRingRoom_stalled (hl : s.live = true) {n : PortId} {e : Nat} {u : State} (hu : u = (s.at t).trimRing n.val)
    (he : (u.port n.val).stalled = some e) :
    exec (.inlineRingRoom t n) s = .next (if 32 ≤ (u.port n.val).ring.length then u else u.ringResume n.val e) := by
  change execInlineRingRoom t n s = _
  unfold execInlineRingRoom
  rw [whileLive_of_live hl]
  simp only [← hu, he]
  rfl

/-- Settles O46: a row by the head of its queue, a record and a check by the frame that is due, a stall by the ring's room. -/
theorem frontEndRowsRecordsAndGlints : Obligations.FrontEndRowsRecordsAndGlints := by
  refine ⟨?_, ?_, ?_, ?_, ?_, ?_, ?_, ?_, ?_⟩
  · rintro t st s u rfl hl
    refine ⟨fun j l hw hst hstall hch => ?_, fun j l hw h => ?_, exec_feRowDone_empty hl⟩
    · rw [exec_feRowDone_row hl hw, if_neg (by simp [hst, hstall, hch])]
    · rw [exec_feRowDone_row hl hw, if_pos (by simpa [Option.isSome_iff_ne_none] using h)]
  · intro t st s f hl hf hch
    refine ⟨_, ?_, State.recordWritten_spec (s := s.at t) st f⟩
    rw [exec_statsRecordWrite_due hl hf, if_neg (by simp [hch])]
  · intro t st s hl h
    cases hf : s.recordDue st.val with
    | none => exact exec_statsRecordWrite_none hl hf
    | some f =>
      have hch : (s.chan 5 (st.val / 4)).halted = true := h.resolve_left (ne_of_eq_of_ne hf (Option.some_ne_none f))
      rw [exec_statsRecordWrite_due hl hf, if_pos hch]
  · rintro t st seen s u f rfl hl hf heq
    rw [exec_glintCheckLatch_due hl hf rfl, if_pos heq]
    rfl
  · rintro t st seen s u v f rfl hl hf hne hv
    rw [exec_glintCheckLatch_due hl hf hv, if_neg hne]
  · intro t st seen s hl hf
    exact exec_glintCheckLatch_none hl hf
  · rintro t a k ch s u d rfl hl h hk
    exact exec_inlineWindowRead_window hl h hk
  · rintro t ch s u rfl hl h
    exact exec_inlineWindowRead_none hl h
  · rintro t e n s u v hu hl he hv
    rw [exec_inlineRingRoom_stalled hl hu he]
    refine ⟨fun x hroom hx => ?_, fun hroom hx => ?_, fun hfull => ?_⟩
    · rw [if_neg (Nat.not_le.mpr hroom), State.ringResume_counts hv hx]
    · rw [if_neg (Nat.not_le.mpr hroom), State.ringResume_uncounted hv hx]
    · rw [if_pos hfull]

end Sys2Proof.Machine
end

section
/-! PROOFS. The camera loop: serial frame numbers and the events of an I3C controller (R262, R274–R277, R279). -/

namespace Sys2Proof.Machine

variable {s : State}

/-! ### Serial frame numbers -/

/-- The distance that `newerFn` tests is the 32-bit difference (R262). -/
theorem serialDistance_eq_toNat_sub (a b : BitVec 32) : (a.toNat + 2 ^ 32 - b.toNat) % 2 ^ 32 = (a - b).toNat := by
  rw [BitVec.toNat_sub, Nat.add_sub_assoc b.isLt.le, Nat.add_comm]

/-- Settles O56: both sides test the same distance. -/
theorem newerFrameNumbersAreSerial : Obligations.NewerFrameNumbersAreSerial := by
  intro a b
  simp only [newerFn, serialDistance_eq_toNat_sub, Bool.and_eq_true, decide_eq_true_eq]

/-! ### What a task's end and a stream's counters leave -/

/-- An object of a higher index written leaves those below it. -/
theorem State.reg_setReg_above {idx sub idx' : Nat} (sub' v : Nat) (h : idx < idx') (hs : sub < 256) :
    (s.setReg idx' sub' v).reg idx sub = s.reg idx sub := State.reg_setReg_other _ (by unfold okey; omega)

/-- A counter of a higher index raised leaves the objects below it. -/
theorem State.reg_bump_above {idx sub idx' : Nat} (w sub' k : Nat) (h : idx < idx') (hs : sub < 256) :
    (s.bump w idx' sub' k).reg idx sub = s.reg idx sub := State.reg_setReg_above _ _ h hs

/-- A stream's objects stand above OD 3100 to 3107, where the partitions hold their ports, so that a counter there moves no stream. -/
theorem State.streamPart_bump_stIdx (w st off sub k x : Nat) : (s.bump w (stIdx st off) sub k).streamPart x = s.streamPart x := by
  unfold State.streamPart State.portPart partOf
  refine List.find?_congr fun p hp => ?_
  have habove : 0x3100 + p < stIdx st off := by
    have := List.mem_range.mp hp
    unfold stIdx
    omega
  rw [State.portIn, State.portIn, State.reg_bump_above _ _ _ habove (by decide)]

theorem State.countStripe_i3cs (k : Task) (ran : Bool) : (s.countStripe k ran).i3cs = s.i3cs := by
  unfold State.countStripe
  split_ifs <;> rfl

theorem State.countEnd_i3cs (k : Task) : (s.countEnd k).i3cs = s.i3cs := by
  unfold State.countEnd
  dsimp only
  split_ifs <;> rfl

/-- The end of a task leaves the I3C controllers. -/
theorem State.endTask_i3cs (id st : Nat) : (s.endTask id st).i3cs = s.i3cs := by
  unfold State.endTask
  split
  · rfl
  · rw [State.countEnd_i3cs, State.countStripe_i3cs]
    rfl

section
variable {idx sub : Nat} (hi : idx < 0x2130) (hs : sub < 256)
include hi hs

theorem State.reg_closeTask (k : Task) (st : Nat) : (s.closeTask k st).reg idx sub = s.reg idx sub := by
  change ((s.bump 64 (0x5300 + k.node.res) 5 _).bump 64 (0x5300 + k.node.res) 6 _).reg idx sub = _
  rw [State.reg_bump_above _ _ _ (by omega) hs, State.reg_bump_above _ _ _ (by omega) hs]

theorem State.reg_countStripe (k : Task) (ran : Bool) : (s.countStripe k ran).reg idx sub = s.reg idx sub := by
  have habove : idx < stIdx k.node.stream 0x0C := by
    unfold stIdx
    omega
  unfold State.countStripe
  dsimp only
  split_ifs <;> simp only [State.reg_bump_above _ _ _ habove hs]

theorem State.reg_countEnd (k : Task) : (s.countEnd k).reg idx sub = s.reg idx sub := by
  have habove : idx < 0x2130 + k.part := by omega
  unfold State.countEnd
  dsimp only
  split_ifs <;> simp only [State.reg_bump_above _ _ _ habove hs, State.reg_setReg_above _ _ habove hs]

/-- The end of a task counts in OD 213p, in its stream's objects and in OD 53rr, and writes no object below them (R58, R61, R197). -/
theorem State.reg_endTask (id st : Nat) : (s.endTask id st).reg idx sub = s.reg idx sub := by
  unfold State.endTask
  split
  · rfl
  · rw [State.reg_countEnd hi hs, State.reg_countStripe hi hs, State.reg_closeTask hi hs]

end

/-! ### The write on the bus -/

@[simp] theorem State.at_i3c (t n : Nat) : (s.at t).i3c n = s.i3c n := rfl

section
variable (hl : s.live = true) {t : Nat} {n : PortId}
include hl

section
variable {w : BusWrite} {l : List BusWrite} {x : LoopTurn} (hw : (s.i3c n.val).writes = w :: l) (hx : (s.i3c n.val).turn = some x)
include hw hx

theorem exec_i3cWriteDone : exec (.i3cWriteDone t n) s = .next (if (s.at t).i3cBusy n.val = false then s.at t
    else ((((s.at t).drives w.bytes).2.bump 64 (stIdx x.stream 0x0F) 2 1).setI3c n.val
      { s.i3c n.val with last := some { w with bytes := ((s.at t).drives w.bytes).1 } }).i3cStep n.val) := by
  change execI3cWriteDone t n s = _
  unfold execI3cWriteDone
  simp only [whileLive_of_live hl, State.at_i3c, hw, hx, Bool.not_eq_true']

/-- A NACK on a free bus by whether the write was NACKed before; the event names the stream's partition as the count leaves it. -/
theorem exec_i3cNack {v : State} (hv : v = (s.at t).draw.2.bump 64 (stIdx x.stream 0x0F) 5 1) :
    exec (.i3cNack t n) s = .next (if (s.at t).i3cBusy n.val = false then s.at t
      else if (s.i3c n.val).nacked = false then (s.at t).setI3c n.val { s.i3c n.val with nacked := true }
      else (v.raiseEvent 0x50 (v.streamPart x.stream) x.stream (Config.freeNat (s.at t).draw.1) w.entry 0).i3cStep n.val) := by
  have hpart : v.streamPart x.stream = (s.at t).streamPart x.stream := hv ▸ State.streamPart_bump_stIdx _ _ _ _ _ _
  change execI3cNack t n s = _
  unfold execI3cNack
  simp only [whileLive_of_live hl, State.at_i3c, hw, hx, Bool.not_eq_true', hpart, ← hv]

end

theorem exec_i3cWriteDone_empty (hw : (s.i3c n.val).writes = []) : exec (.i3cWriteDone t n) s = .next (s.at t) := by
  change execI3cWriteDone t n s = _
  unfold execI3cWriteDone
  simp only [whileLive_of_live hl, State.at_i3c, hw]

theorem exec_i3cNack_empty (hw : (s.i3c n.val).writes = []) : exec (.i3cNack t n) s = .next (s.at t) := by
  change execI3cNack t n s = _
  unfold execI3cNack
  simp only [whileLive_of_live hl, State.at_i3c, hw]

/-! ### The bus's recovery -/

theorem exec_i3cBusStuck : exec (.i3cBusStuck t n) s
    = .next (if (s.i3c n.val).recover ≠ none ∨ ((s.i3c n.val).writes = [] ∧ (s.i3c n.val).dasa = false) then s.at t
      else (((s.at t).bump 32 (0x2040 + n.val) 5 1).setBus n.val 2).setI3c n.val
        { s.i3c n.val with recover := some (max s.now t), pattern := false }) := by
  change execI3cBusStuck t n s = _
  unfold execI3cBusStuck
  simp only [whileLive_of_live hl, State.at_i3c, Option.isSome_iff_ne_none, List.isEmpty_iff]
  rfl

theorem exec_i3cSdaHigh {e : Nat} (he : (s.i3c n.val).recover = some e) : ∃ pattern : Bool, exec (.i3cSdaHigh t n) s
    = .next (((s.at t).setI3c n.val { s.i3c n.val with recover := none, pattern := pattern, dasa := (s.i3c n.val).dasa || pattern }).setBus
      n.val (if (s.i3c n.val).task.isSome then 1 else 0)) := by
  refine ⟨decide (e + 16 * (s.at t).sclCycles n.val < max s.now t), ?_⟩
  change execI3cSdaHigh t n s = _
  unfold execI3cSdaHigh
  simp only [whileLive_of_live hl, State.at_i3c, he]
  rfl

theorem exec_i3cSdaHigh_free (he : (s.i3c n.val).recover = none) : exec (.i3cSdaHigh t n) s = .next (s.at t) := by
  change execI3cSdaHigh t n s = _
  unfold execI3cSdaHigh
  simp only [whileLive_of_live hl, State.at_i3c, he]

theorem exec_i3cRecoveryTimeout_free (he : (s.i3c n.val).recover = none) : exec (.i3cRecoveryTimeout t n) s = .next (s.at t) := by
  change execI3cRecoveryTimeout t n s = _
  unfold execI3cRecoveryTimeout
  simp only [whileLive_of_live hl, State.at_i3c, he]

end

/-- A controller whose bus stays stuck: counted, BUS_STATE stuck, and the node's turns and writes dropped (R277). -/
def State.busLost (s : State) (n : Nat) : State :=
  ((s.bump 32 (0x2040 + n) 6 1).setBus n 3).setI3c n { s.i3c n with
    recover := none, pattern := true, dasa := true, task := none, turns := [], turn := none, writes := [], record := [] }

/-- The node that a controller ran, if any, ends with TASK_ABORTED. -/
def State.abortNode (s : State) (task : Option Nat) : State :=
  match task with
  | some id => s.endTask id stTaskAborted
  | none => s

theorem State.abortNode_i3cs (task : Option Nat) : (s.abortNode task).i3cs = s.i3cs := by
  cases task with
  | none => rfl
  | some id => exact State.endTask_i3cs id stTaskAborted

theorem State.reg_abortNode {idx sub : Nat} (hi : idx < 0x2130) (hs : sub < 256) (task : Option Nat) :
    (s.abortNode task).reg idx sub = s.reg idx sub := by
  cases task with
  | none => rfl
  | some id => exact State.reg_endTask hi hs id stTaskAborted

/-- Recovery given up: the bus lost, the node aborted, and an event with the template entry that was next (R277, R364). -/
def State.giveUpBus (s : State) (n : Nat) : State :=
  let v := (s.busLost n).abortNode (s.i3c n).task
  v.raiseEvent 0x50 (v.portPart n) (64 + n) stTaskAborted (((s.i3c n).writes.map (fun w => w.entry)).headD 0) 0

/-- The controller is as `busLost` leaves it: neither the node's end nor the event touches it. -/
theorem State.giveUpBus_i3c (n : Nat) : (s.giveUpBus n).i3c n = (s.busLost n).i3c n := by
  rw [State.i3c, State.giveUpBus, State.raiseEvent_i3cs, State.abortNode_i3cs]
  rfl

/-- BUS_STATE shows a bus given up as stuck. -/
theorem State.reg_giveUpBus (n : PortId) : (s.giveUpBus n.val).reg (0x2040 + n.val) 4 = 3 := by
  have hn := n.isLt
  calc (s.giveUpBus n.val).reg (0x2040 + n.val) 4
      = ((s.busLost n.val).abortNode (s.i3c n.val).task).reg (0x2040 + n.val) 4 :=
        State.regF_raiseEvent _ (by omega) (by omega) (by omega) (by omega) (by decide)
    _ = (s.busLost n.val).reg (0x2040 + n.val) 4 := State.reg_abortNode (by omega) (by decide) _
    _ = 3 := State.reg_setReg_same _ _ _ _

section
variable (hl : s.live = true) {t : Nat} {n : PortId}
include hl

/-- A recovery is given up 100 µs after its start, and not before. -/
theorem exec_i3cRecoveryTimeout {e : Nat} (he : (s.i3c n.val).recover = some e) : exec (.i3cRecoveryTimeout t n) s
    = .next (if max s.now t < e + usCycles 100 then s.at t else (s.at t).giveUpBus n.val) := by
  change execI3cRecoveryTimeout t n s = _
  unfold execI3cRecoveryTimeout
  simp only [whileLive_of_live hl, State.at_i3c, he]
  rfl

/-! ### In-band interrupts and dynamic addresses -/

theorem exec_i3cIbi (hot : Bool) : exec (.i3cIbi t n hot) s = .next ((s.at t).bump 32 (0x2040 + n.val) 7 1) :=
  whileLive_of_live hl t fun v => v.bump 32 (0x2040 + n.val) 7 1

theorem exec_dasaAssignment : exec (.dasaAssignment t n) s
    = .next (if (s.i3c n.val).dasa = false ∨ s.reg (0x2040 + n.val) 4 = 2 ∨ s.proc 8 ≠ 1 then s.at t
      else (s.at t).setI3c n.val { s.i3c n.val with dasa := false, dyn := dasaPairs (s.blob (0x2040 + n.val) 3) }) := by
  change execDasaAssignment t n s = _
  unfold execDasaAssignment
  rw [whileLive_of_live hl]
  rfl

end

/-- Settles O47: the bus writes by whether the bus is free, the recovery by its start, the assignment by what holds it up. -/
theorem i3cControllerEvents : Obligations.I3cControllerEvents := by
  refine ⟨?_, ?_, ?_, ?_, ?_, ?_, ?_, ?_, ?_⟩
  · rintro t n s u v w l x rfl hl hw hx hv
    rw [exec_i3cWriteDone hl hw hx, exec_i3cNack hl hw hx hv]
    refine ⟨fun hbusy => ?_, fun hbusy hfirst => ?_, fun hbusy hagain => ?_, fun hfree => ?_⟩
    · rw [if_neg (by simp [hbusy])]
    · rw [if_neg (by simp [hbusy]), if_pos hfirst]
    · rw [if_neg (by simp [hbusy]), if_neg (by simp [hagain])]
    · rw [if_pos hfree, if_pos hfree]
      exact ⟨rfl, rfl⟩
  · intro t n s hl hw
    exact ⟨exec_i3cWriteDone_empty hl hw, exec_i3cNack_empty hl hw⟩
  · rintro t n s u rfl hl
    rw [exec_i3cBusStuck hl]
    refine ⟨fun hrec hdue => congrArg _ (if_neg ?_), fun h => congrArg _ (if_pos h)⟩
    rintro (h | ⟨hw, hd⟩)
    · exact h hrec
    · exact hdue.elim (· hw) (by simp [hd])
  · intro t e n s hl he
    obtain ⟨pattern, hexec⟩ := exec_i3cSdaHigh hl he
    refine ⟨_, hexec, ?_, State.reg_setReg_same _ _ _ _, rfl, rfl⟩
    exact congrArg I3cSt.recover (State.i3c_setI3c_same _ _ _)
  · intro t e n s hl he hover
    refine ⟨_, (exec_i3cRecoveryTimeout hl he).trans (congrArg _ (if_neg (Nat.not_lt.mpr hover))), ?_, ?_, ?_, State.reg_giveUpBus n⟩
    all_goals rw [State.giveUpBus_i3c, State.busLost, State.i3c_setI3c_same]
  · intro t e n s hl he hbefore
    rw [exec_i3cRecoveryTimeout hl he, if_pos hbefore]
  · intro t n s hl he
    exact ⟨exec_i3cSdaHigh_free hl he, exec_i3cRecoveryTimeout_free hl he⟩
  · intro t n hot s hl
    exact exec_i3cIbi hl hot
  · intro t n s hl
    rw [exec_dasaAssignment hl]
    refine ⟨fun hd hbus hproc => congrArg _ (if_neg ?_), fun h => congrArg _ (if_pos h)⟩
    simp [hd, hbus, hproc]

end Sys2Proof.Machine
end

section
/-! PROOFS. The descriptors of a Facet engine's chain: taken, flagged by rows, ended (R196, R284, R288, R300, R313, R322). -/

namespace Sys2Proof.Machine

variable {s : State}

@[simp] theorem State.at_eng (t e : Nat) : (s.at t).eng e = s.eng e := rfl

/-! ### A descriptor taken, refused or begun -/

/-- The next descriptor of an entry's chain with the outcome of its load checks, and the state in which the engine has it: the one loaded
before, or the one read now (R284, R288). -/
def State.takeDesc (s : State) (e : Nat) (k : Task) : (List Byte × Nat) × State :=
  let x := s.eng e
  let addr := k.prog + 64 * x.seq
  let d := x.loaded.getD (s.ddrRead addr 64, s.facetLoad e k (s.ddrRead addr 64) x.seq)
  (d, if x.loaded.isNone then s.countFetch addr d.2 (some (0x20 + e)) k.id else s.setEng e { x with loaded := none })

theorem State.takeDesc_read {e : Nat} (k : Task) (h : (s.eng e).loaded = none) {addr : Nat} (ha : addr = k.prog + 64 * (s.eng e).seq)
    {d : List Byte × Nat} (hd : d = (s.ddrRead addr 64, s.facetLoad e k (s.ddrRead addr 64) (s.eng e).seq)) :
    s.takeDesc e k = (d, s.countFetch addr d.2 (some (0x20 + e)) k.id) := by
  simp [State.takeDesc, h, hd, ha]

theorem State.takeDesc_loaded {e : Nat} (k : Task) {d : List Byte × Nat} (h : (s.eng e).loaded = some d) :
    s.takeDesc e k = (d, s.setEng e { s.eng e with loaded := none }) := by
  simp [State.takeDesc, h]

/-- A descriptor taken is refused by its load checks or by step 5 of R288, or becomes active. -/
def State.judgeDesc (s : State) (e : Nat) (k : Task) (d : List Byte × Nat) : State :=
  let b := s.pictured k d.1
  let st := firstFail [d.2, s.facetOpen k b]
  if st ≠ stOk then s.facetRefuse e k b st else s.facetBegin e k b

/-- The count of a refusal moves neither the pages and blocks that a fetch meets nor the engine. -/
theorem State.facetRefuse_eq (e : Nat) (k : Task) (b : List Byte) (st : Nat) : s.facetRefuse e k b st
    = (if s.fetchStatus (k.prog + 64 * (s.eng e).seq) = stOk ∧ fFlag b / 512 = k.part then
        (s.bump 32 (engIdx e) (refusedSub e) 1).descFlag k b 0 true true
      else s.bump 32 (engIdx e) (refusedSub e) 1).engFinish e st := rfl

/-- The engines' counters stand above the tick counter, OD 2001.01. -/
@[simp] theorem State.tickCount_bump_engIdx (w e sub n : Nat) : (s.bump w (engIdx e) sub n).tickCount = s.tickCount :=
  State.reg_bump_above _ _ _ (by unfold engIdx; omega) (by decide)

/-- A FLOW and a STEREO take no map in, so that only their prediction is judged (R313). -/
theorem State.facetBegin_match (e : Nat) (k : Task) {b : List Byte} (hm : isMatch b = true) (hp : mPred b ≠ 0) : s.facetBegin e k b
    = ((if s.predGood k b = false then s.bump 32 (engIdx e) 12 1 else s).setRun e (newRun b s.now s.tickCount (s.predGood k b))).stageUse b := by
  have hwarp : fType b ≠ 2 := by
    simp only [isMatch, Bool.or_eq_true, decide_eq_true_eq] at hm
    omega
  cases hg : s.predGood k b <;> simp [State.facetBegin, hm, hp, hg, hwarp]

/-! ### What the end of a descriptor's rows writes -/

/-- Rows up to `n` land, and the flag of the active descriptor reports them (R300). -/
def State.landFlag (s : State) (e : Nat) (k : Task) (n : Nat) : State :=
  match ((s.landTo e n).eng e).run with
  | none => s.landTo e n
  | some q => ((s.landTo e n).descFlag k q.bytes q.progress false false).setRun e { q with flagged := n }

theorem State.landFlag_of_run {e n : Nat} {k : Task} {q : FacetRun} (h : ((s.landTo e n).eng e).run = some q) :
    s.landFlag e k n = ((s.landTo e n).descFlag k q.bytes q.progress false false).setRun e { q with flagged := n } := by
  rw [State.landFlag, h]

/-- What remains of the active descriptor lands, and the engine goes on or ends the task (R300). -/
def State.landDone (s : State) (e : Nat) (k : Task) : State :=
  match ((s.landRest e k).eng e).run with
  | none => s.landRest e k
  | some q => (s.landRest e k).facetDone e k q

theorem State.landDone_of_run {e : Nat} {k : Task} {q : FacetRun} (h : ((s.landRest e k).eng e).run = some q) :
    s.landDone e k = (s.landRest e k).facetDone e k q := by
  rw [State.landDone, h]

/-! ### The three commands -/

section
variable (hl : s.live = true) {t : Nat} {e : EngId} {k : Task} (hk : (s.at t).engTask e.val = some k)
include hl hk

/-- An idle engine stops where a stop is asked for, and takes the next descriptor otherwise (R196, R288). -/
theorem exec_facetDescriptorActivate : exec (.facetDescriptorActivate t e) s
    = .next (if (s.eng e.val).run.isSome = true ∨ (s.at t).engWaits e.val = true then s.at t
      else if k.stop = true then (s.at t).facetStop e.val
      else ((s.at t).takeDesc e.val k).2.judgeDesc e.val k ((s.at t).takeDesc e.val k).1) := by
  change execFacetDescriptorActivate t e s = _
  unfold execFacetDescriptorActivate
  simp only [whileLive_of_live hl, hk]
  rfl

variable {r : FacetRun} (hr : (s.eng e.val).run = some r)
include hr

/-- Rows are reported where the descriptor flags them and a further multiple of FLAG_EVERY is left; a stop of a match comes before its
fault, and a fault before the rows land (R300, R322). -/
theorem exec_facetProgressFlag : exec (.facetProgressFlag t e) s
    = .next (if fSetFlag r.bytes = false ∨ fEvery r.bytes = 0 ∨ r.stage ≠ 0 ∨ facetRows r.bytes < nextFlagRow r.bytes r.flagged
        ∨ (s.at t).engWaits e.val = true then s.at t
      else if k.stop = true ∧ isMatch r.bytes = true then (s.at t).facetStop e.val
      else if (s.at t).facetFault e.val ≠ stOk then (s.at t).facetAbort e.val ((s.at t).facetFault e.val)
      else (s.at t).landFlag e.val k (nextFlagRow r.bytes r.flagged)) := by
  change execFacetProgressFlag t e s = _
  unfold execFacetProgressFlag
  simp only [whileLive_of_live hl, hk, State.at_eng, hr, Bool.and_eq_true]
  rfl

/-- A fault ends the task before a stop does, and a stop before the descriptor's own end (R196, R300, R322). -/
theorem exec_facetDescriptorEnd : exec (.facetDescriptorEnd t e) s
    = .next (if (s.at t).engWaits e.val = true then s.at t
      else if (s.at t).facetFault e.val ≠ stOk then ((s.at t).facetAbort e.val ((s.at t).facetFault e.val)).quotaAfter k.part
      else if k.stop = true ∧ (isMatch r.bytes = true ∨ fType r.bytes = 0x21) then ((s.at t).facetStop e.val).quotaAfter k.part
      else if (s.at t).facetReady k r = false ∨ (s.at t).stalling e.val r = true then s.at t
      else (s.at t).landDone e.val k) := by
  change execFacetDescriptorEnd t e s = _
  unfold execFacetDescriptorEnd
  simp only [whileLive_of_live hl, hk, State.at_eng, hr, Bool.and_eq_true, Bool.or_eq_true, decide_eq_true_eq, Bool.not_eq_true']
  rfl

end

/-- Settles O42: the descriptor is `takeDesc`'s and its verdict `judgeDesc`'s; a flag and an end by what stands before them. -/
theorem facetDescriptorsRunToTheirEnd : Obligations.FacetDescriptorsRunToTheirEnd := by
  refine ⟨?_, ?_, ?_, ?_, ?_⟩
  · rintro t addr e s u v k d rfl hl hk hrun hwaits hstop haddr htaken
    have htake : (s.at t).takeDesc e.val k = (d, v) := by
      obtain ⟨hload, hd, rfl⟩ | ⟨hload, rfl⟩ := htaken
      · exact State.takeDesc_read (s := s.at t) k hload haddr hd
      · exact State.takeDesc_loaded k hload
    rw [exec_facetDescriptorActivate hl hk, if_neg (by simp [hrun, hwaits]), if_neg (by simp [hstop]), htake]
    refine ⟨fun hok => congrArg _ (if_neg (not_not_intro hok)), ?_⟩
    rintro st rfl hst
    exact congrArg _ ((if_pos hst).trans (State.facetRefuse_eq ..))
  · rintro t e s u k rfl hl hk
    rw [exec_facetDescriptorActivate hl hk]
    refine ⟨fun hbusy => congrArg _ (if_pos hbusy), fun hrun hwaits hstop => ?_⟩
    rw [if_neg (by simp [hrun, hwaits]), if_pos hstop]
  · intro s e k b hm hp
    rw [State.facetBegin_match e k hm hp]
    constructor <;> intro hg <;> simp [hg]
  · rintro t n e s u k r rfl hl hk hr hstage hset hevery rfl hrows hwaits
    rw [exec_facetProgressFlag hl hk hr, if_neg (by simp [hstage, hset, hevery, hwaits, hrows])]
    refine ⟨fun q hgo hfault hq => ?_, fun hstop hm => congrArg _ (if_pos ⟨hstop, hm⟩), fun hgo hfault => ?_⟩
    all_goals rw [if_neg (by rcases hgo with h | h <;> simp [h])]
    · rw [if_neg (not_not_intro hfault), State.landFlag_of_run hq]
    · rw [if_pos hfault]
  · rintro t e s u k r rfl hl hk hr
    rw [exec_facetProgressFlag hl hk hr, exec_facetDescriptorEnd hl hk hr]
    refine ⟨fun h => congrArg _ (if_pos h), fun hwaits => congrArg _ (if_pos hwaits), fun hwaits hfault => ?_,
      fun hwaits hfault hstop hty => ?_, fun hwaits hfault hgo hnot => ?_, fun q hwaits hfault hgo hready hstall hq => ?_⟩
    all_goals rw [if_neg (by simp [hwaits])]
    · rw [if_pos hfault]
    · rw [if_neg (not_not_intro hfault), if_pos ⟨hstop, hty⟩]
    · rw [if_neg (not_not_intro hfault), if_neg (by simp [hgo]), if_pos hnot]
    · rw [if_neg (not_not_intro hfault), if_neg (by simp [hgo]), if_neg (by simp [hready, hstall]), State.landDone_of_run hq]

end Sys2Proof.Machine
end

section
/-! PROOFS. The refine pass of a match, and the updates and new tracks of a TRACK (R319–R322, R338–R341, R344). -/

namespace Sys2Proof.Machine

variable {s : State}

/-! ### The refine pass -/

/-- The coarse rows land, and the tiles are selected (R319). -/
def State.refineOpen (s : State) (e n : Nat) : State :=
  match ((s.landTo e n).eng e).run with
  | none => s.landTo e n
  | some q => (s.landTo e n).refineSelect e q

theorem State.refineOpen_of_run {e n : Nat} {q : FacetRun} (h : ((s.landTo e n).eng e).run = some q) :
    s.refineOpen e n = (s.landTo e n).refineSelect e q := by
  rw [State.refineOpen, h]

/-- Every tile left is cut, and the pass is over (R319, R322). -/
def State.refineCut (s : State) (e : Nat) (r : FacetRun) : State :=
  (s.cutTiles e r.bytes r.todo).setRun e { r with stage := 2, todo := [], tiles := putTiles r.tiles 2 r.todo }

/-- Tile `i` is refined, from a free number of bytes read, and `rest` are left (R319). -/
def State.refineOne (s : State) (e : Nat) (r : FacetRun) (i : Nat) (rest : List Nat) : State :=
  let v := s.draw.2.engGot (mImgA r.bytes).kind (Config.freeNat s.draw.1)
  ((v.facetPuts (mOutKind r.bytes) (refineTile v.facetRd r.bytes i)).bump 64 (engIdx e) 7 1).setRun e
    { r with stage := if rest.isEmpty then 2 else 1, todo := rest, tiles := kput r.tiles i 1 }

/-- A tick edge, which counts, or the end of the pass's cycles cuts what is left; else the next tile is refined (R319, R322). -/
def State.refineNext (s : State) (e : Nat) (r : FacetRun) (i : Nat) (rest : List Nat) : State :=
  if r.tickAt ≠ s.tickCount ∨ mRefineCycles r.bytes < s.now - r.refineAt + matchTile r.bytes then
    (if r.tickAt ≠ s.tickCount then s.bump 32 (engIdx e) 13 1 else s).refineCut e r
  else s.refineOne e r i rest

section
variable {e : Nat} {r : FacetRun} {i : Nat} {rest : List Nat}

theorem State.refineNext_of_tick (htick : r.tickAt ≠ s.tickCount) :
    s.refineNext e r i rest = (s.bump 32 (engIdx e) 13 1).refineCut e r := by
  rw [State.refineNext, if_pos (.inl htick), if_pos htick]

theorem State.refineNext_of_over (htick : r.tickAt = s.tickCount)
    (hover : mRefineCycles r.bytes < s.now - r.refineAt + matchTile r.bytes) : s.refineNext e r i rest = s.refineCut e r := by
  rw [State.refineNext, if_pos (.inr hover), if_neg (not_not_intro htick)]

theorem State.refineNext_of_fits (htick : r.tickAt = s.tickCount)
    (hfits : s.now - r.refineAt + matchTile r.bytes ≤ mRefineCycles r.bytes) : s.refineNext e r i rest = s.refineOne e r i rest := by
  rw [State.refineNext, if_neg (by simp [htick, hfits])]

end

section
variable (hl : s.live = true) {t : Nat} {e : EngId} {k : Task} (hk : (s.at t).engTask e.val = some k)
  {r : FacetRun} (hr : (s.eng e.val).run = some r)
include hl hk hr

/-- A stop comes before a fault, and a fault before the rows land (R319, R322). -/
theorem exec_refinePassStart (hm : isMatch r.bytes = true) (hstage : r.stage = 0) : exec (.refinePassStart t e) s
    = .next (if k.stop = true then (s.at t).facetStop e.val
      else if (s.at t).facetFault e.val ≠ stOk then (s.at t).facetAbort e.val ((s.at t).facetFault e.val)
      else (s.at t).refineOpen e.val (facetRows r.bytes)) := by
  change execRefinePassStart t e s = _
  unfold execRefinePassStart
  simp only [whileLive_of_live hl, hk, State.at_eng, hr, hm, hstage]
  rfl

/-- A stop comes before a fault, and a fault before the next tile (R319, R322). -/
theorem exec_refineTileStart (hstage : r.stage = 1) {i : Nat} {rest : List Nat} (htodo : r.todo = i :: rest) :
    exec (.refineTileStart t e) s
    = .next (if k.stop = true then (s.at t).facetStop e.val
      else if (s.at t).facetFault e.val ≠ stOk then (s.at t).facetAbort e.val ((s.at t).facetFault e.val)
      else (s.at t).refineNext e.val r i rest) := by
  change execRefineTileStart t e s = _
  unfold execRefineTileStart State.refineNext State.refineCut
  simp only [whileLive_of_live hl, hk, State.at_eng, hr, htodo, hstage, Bool.or_eq_true, Bool.not_eq_true', decide_eq_true_eq,
    decide_eq_false_iff_not, Nat.not_le]
  rfl

end

/-! ### The updates and new tracks of a TRACK -/

/-- The lowest free context of a TRACK's stream: not live, and freed neither by the descriptor nor in this tick (R335, R340). -/
def State.freeCtx (s : State) (p : Nat) (r : FacetRun) : Option Nat :=
  (s.ctxRange (tStream r.bytes)).find? (fun x => !(ctxOf (s.ctxShown p x)).live && !decide (x ∈ r.freed) && !decide (x ∈ s.ctxFreed))

/-- A context of the descriptor that cannot be read aborts the task; else it is used by `f` (R344). -/
def State.ctxUse (s : State) (k : Task) (x : Nat) (f : State) : State :=
  if s.ctxStatus k.part x ≠ stOk then (s.facetAbort 14 (s.ctxStatus k.part x)).quotaAfter k.part else f

theorem State.ctxUse_of_ok {k : Task} {x : Nat} (f : State) (h : s.ctxStatus k.part x = stOk) : s.ctxUse k x f = f :=
  if_neg (not_not_intro h)

theorem State.ctxUse_of_fault {k : Task} {x : Nat} (f : State) (h : s.ctxStatus k.part x ≠ stOk) :
    s.ctxUse k x f = (s.facetAbort 14 (s.ctxStatus k.part x)).quotaAfter k.part :=
  if_pos h

/-- Feature `i` takes the lowest free context; with none free, it and every unclaimed one after it count in ALLOC_FAILED (R340). -/
def State.trackPlace (s : State) (k : Task) (r : FacetRun) (i : Nat) : State :=
  match s.freeCtx k.part r with
  | none =>
    (s.bump 64 (0x6040 + tStream r.bytes) 6
      ((List.range (s.featCount r.bytes)).filter (fun j => decide (i ≤ j) && !decide (j ∈ r.claimed))).length).setRun 14
        { r with feature := s.featCount r.bytes }
  | some x => s.ctxUse k x (s.trackNew k r i x)

theorem State.trackPlace_of_free {k : Task} {r : FacetRun} {i x : Nat} (h : s.freeCtx k.part r = some x) :
    s.trackPlace k r i = s.ctxUse k x (s.trackNew k r i x) := by
  rw [State.trackPlace, h]

theorem State.trackPlace_of_full {k : Task} {r : FacetRun} {i : Nat} (h : s.freeCtx k.part r = none) :
    s.trackPlace k r i = (s.bump 64 (0x6040 + tStream r.bytes) 6
      ((List.range (s.featCount r.bytes)).filter (fun j => decide (i ≤ j) && !decide (j ∈ r.claimed))).length).setRun 14
        { r with feature := s.featCount r.bytes } := by
  rw [State.trackPlace, h]

section
variable (hl : s.live = true) {t : Nat} {k : Task} (hk : (s.at t).engTask 14 = some k) {r : FacetRun} (hr : (s.eng 14).run = some r)
include hl hk hr

/-- While an update is left, nothing is allocated (R340). -/
theorem exec_trackAllocate_updating (hleft : r.updates < tUpdateMax r.bytes) (hx : (s.at t).nextCtx k.part r.bytes r.cursor ≠ none) :
    exec (.trackAllocate t) s = .next (s.at t) := by
  change execTrackAllocate t s = _
  unfold execTrackAllocate
  simp [whileLive_of_live hl, hk, hr, hleft, Option.isSome_iff_ne_none.mpr hx]

variable (hty : fType r.bytes = 0x21)
include hty

/-- A TRACK waits for its requests, and then opens (R338). -/
theorem exec_trackActivate (hstage : r.stage = 0) : exec (.trackActivate t) s
    = .next (if (s.at t).engWaits 14 = true then s.at t else (s.at t).trackOpen k r) := by
  change execTrackActivate t s = _
  unfold execTrackActivate
  simp [whileLive_of_live hl, hk, hr, hty, hstage]

variable (hstage : r.stage = 1) (hhold : r.hold = false) (hstop : k.stop = false)
include hstage hhold hstop

/-- The next live context sets TRUNCATED once UPDATE_MAX is reached, and is updated before (R339, R341). -/
theorem exec_trackContextUpdate {x : Nat} (hx : (s.at t).nextCtx k.part r.bytes r.cursor = some x) : exec (.trackContextUpdate t) s
    = .next (if tUpdateMax r.bytes ≤ r.updates then (s.at t).setRun 14 { r with trunc := true }
      else (s.at t).ctxUse k x ((s.at t).trackUpdate k r x)) := by
  change execTrackContextUpdate t s = _
  unfold execTrackContextUpdate
  simp only [whileLive_of_live hl, hk, State.at_eng, hr, hty, hstage, hhold, hstop, hx]
  rfl

/-- After the updates the next feature is placed, where one is left (R340). -/
theorem exec_trackAllocate (hx : (s.at t).nextCtx k.part r.bytes r.cursor = none) : exec (.trackAllocate t) s
    = .next ((nextFeat r ((s.at t).featCount r.bytes)).elim (s.at t) ((s.at t).trackPlace k r)) := by
  change execTrackAllocate t s = _
  unfold execTrackAllocate
  simp only [whileLive_of_live hl, hk, State.at_eng, hr]
  rw [if_neg (by simp [hty, hstage, hhold, hstop, hx])]
  cases nextFeat r ((s.at t).featCount r.bytes) <;> rfl

end

/-- Settles O43: a pass by its stop and fault, a tile by the tick and the cycles, a context by UPDATE_MAX and its reading, a feature by the
lowest free context. -/
theorem refineAndTrackGoInOrder : Obligations.RefineAndTrackGoInOrder := by
  refine ⟨?_, ?_, ?_, ?_, ?_⟩
  · rintro t e s u k r rfl hl hk hr hm hstage
    rw [exec_refinePassStart hl hk hr hm hstage]
    refine ⟨fun q hgo hfault hq => ?_, fun hgo hfault => ?_, fun hstop => congrArg _ (if_pos hstop)⟩
    all_goals rw [if_neg (by simp [hgo])]
    · rw [if_neg (not_not_intro hfault), State.refineOpen_of_run hq]
    · rw [if_pos hfault]
  · rintro t i e s u v k r rest rfl hl hk hr hstage htodo
    rw [exec_refineTileStart hl hk hr hstage htodo]
    refine ⟨fun hgo hfault htick hfits hv => ?_, fun hgo hfault htick => ?_, fun hgo hfault htick hover => ?_, fun hgo hfault => ?_,
      fun hstop => congrArg _ (if_pos hstop)⟩
    all_goals rw [if_neg (by simp [hgo])]
    · rw [if_neg (not_not_intro hfault), State.refineNext_of_fits (s := s.at t) htick hfits, hv]
      rfl
    · rw [if_neg (not_not_intro hfault), State.refineNext_of_tick (s := s.at t) htick]
      rfl
    · rw [if_neg (not_not_intro hfault), State.refineNext_of_over (s := s.at t) htick hover]
      rfl
    · rw [if_pos hfault]
  · rintro t s u k r rfl hl hk hr hty hstage
    exact exec_trackActivate hl hk hr hty hstage
  · rintro t x s u k r rfl hl hk hr hty hstage hhold hstop hx
    rw [exec_trackContextUpdate hl hk hr hty hstage hhold hstop hx]
    refine ⟨fun hmax => congrArg _ (if_pos hmax), fun hleft hok => ?_, fun hleft hbad => ?_⟩
    all_goals rw [if_neg (Nat.not_le.mpr hleft)]
    · rw [State.ctxUse_of_ok _ hok]
    · rw [State.ctxUse_of_fault _ hbad]
  · rintro t i s u k r free rfl hl hk hr hty hstage hhold hstop rfl
    refine ⟨fun hleft hx => exec_trackAllocate_updating hl hk hr hleft hx, fun hx hfeat => ?_,
      fun x hx hfeat hfree hok => ?_, fun x hx hfeat hfree hbad => ?_, fun hx hfeat hfull => ?_⟩
    all_goals rw [exec_trackAllocate hl hk hr hty hstage hhold hstop hx, hfeat]
    · rfl
    · rw [Option.elim_some, State.trackPlace_of_free hfree, State.ctxUse_of_ok _ hok]
    · rw [Option.elim_some, State.trackPlace_of_free hfree, State.ctxUse_of_fault _ hbad]
    · rw [Option.elim_some, State.trackPlace_of_full hfull]

end Sys2Proof.Machine
end

section
/-! PROOFS. The die-to-die link: training, the data link layer, retrains (R348–R350, R415). -/

namespace Sys2Proof.Machine

variable (s : State) (t : Nat)

/-! ### What the link's operations write -/

/-- The wait's bookkeeping writes the two times of the link and nothing else. -/
theorem State.noteWait_eq : ∃ a w, s.noteWait = { s with link := { s.link with waitAt := a, waited := w } } := by
  unfold State.noteWait
  split <;> exact ⟨_, _, rfl⟩

@[simp] theorem State.noteWait_dict : s.noteWait.dict = s.dict := by
  obtain ⟨a, w, h⟩ := s.noteWait_eq
  rw [h]

@[simp] theorem State.reg_noteWait (idx sub : Nat) : s.noteWait.reg idx sub = s.reg idx sub :=
  State.regF_congr (by rw [s.noteWait_dict]) 0 idx sub

@[simp] theorem State.reg_flushHost (idx sub : Nat) : s.flushHost.reg idx sub = s.reg idx sub := by
  have hland (l : List HostWrite) : ∀ u : State, (l.foldl (fun s w => s.hostLand w.fn w.addr w.bytes) u).reg idx sub = u.reg idx sub := by
    induction l with
    | nil => exact fun _ => rfl
    | cons w l ih => exact fun u => (ih _).trans (u.regF_hostLand 0 idx sub w.fn w.addr w.bytes)
  have hnote := s.reg_noteWait idx sub
  generalize h : s.noteWait = v at hnote
  simp only [State.flushHost, h]
  split
  · exact (hland _ _).trans hnote
  · exact hnote

/-- A report leaves what the modules and the data link layer have become. -/
theorem ReportsOnly.link {s s' : State} (h : ReportsOnly s s') :
    s'.link = { s.link with waiting := s'.link.waiting, waitAt := s'.link.waitAt, waited := s'.link.waited } := by
  rw [ReportsOnly] at h
  rw [h]

theorem ReportsOnly.drops {s s' : State} (h : ReportsOnly s s') : s'.link.drop0 = s.link.drop0 ∧ s'.link.drop1 = s.link.drop1 := by
  rw [h.link]
  exact ⟨rfl, rfl⟩

/-- LINK_STATE, RATE and WIDTH after they are set together. -/
theorem State.reg_setLink (state rate width : Nat) : (s.setLink state rate width).reg 0x1100 1 = state
    ∧ (s.setLink state rate width).reg 0x1100 3 = rate ∧ (s.setLink state rate width).reg 0x1100 4 = width := by
  unfold State.setLink
  refine ⟨?_, ?_, ?_⟩ <;> rw [State.reg_noteWait]
  · rw [State.reg_setReg_other _ (by decide), State.reg_setReg_other _ (by decide), State.reg_setReg_same]
  · rw [State.reg_setReg_other _ (by decide), State.reg_setReg_same]
  · exact State.reg_setReg_same _ _ _ _

theorem State.reg_setLink_other {idx sub : Nat} (h : okey 0 idx sub ≠ okey 0 0x1100 1) (h' : okey 0 idx sub ≠ okey 0 0x1100 3)
    (h'' : okey 0 idx sub ≠ okey 0 0x1100 4) (state rate width : Nat) : (s.setLink state rate width).reg idx sub = s.reg idx sub := by
  unfold State.setLink
  rw [State.reg_noteWait, State.reg_setReg_other _ h'', State.reg_setReg_other _ h', State.reg_setReg_other _ h]

theorem State.setLink_eq (state rate width : Nat) : ∃ d a w, s.setLink state rate width
    = { s with dict := { s.dict with num := d }, link := { s.link with waitAt := a, waited := w } } := by
  obtain ⟨a, w, h⟩ := (((s.setReg 0x1100 1 state).setReg 0x1100 3 rate).setReg 0x1100 4 width).noteWait_eq
  exact ⟨_, a, w, h⟩

/-- Training leaves LINK_STATE 1 with no module, no data link layer and no failure (R348, R350). -/
theorem State.startTraining_eq : ∃ d a w, s.startTraining = { s with
    dict := { s.dict with num := d },
    link := { s.link with u0 := none, u1 := none, dlUp := false, failedAt := none, waitAt := a, waited := w } } := State.setLink_eq _ 1 0 0

theorem State.reg_startTraining : s.startTraining.reg 0x1100 1 = 1 := (State.reg_setLink _ 1 0 0).1

theorem State.reg_startTraining_other {idx : Nat} (sub : Nat) (h : idx ≠ 0x1100) (hi : idx < 65536) (hs : sub < 256) :
    s.startTraining.reg idx sub = s.reg idx sub :=
  State.reg_setLink_other { s with link := _ } (okey_ne_of_idx h hi (by omega) hs (by omega)) (okey_ne_of_idx h hi (by omega) hs (by omega))
    (okey_ne_of_idx h hi (by omega) hs (by omega)) 1 0 0

variable {s}

theorem State.linkUp_bump (s : State) (w sub n : Nat) (h : okey 0 0x1100 1 ≠ okey 0 0x1100 sub) : (s.bump w 0x1100 sub n).linkUp = s.linkUp := by
  simp only [State.linkUp, State.reg_bump_other _ h]

theorem State.startRetrain_reg (h : s.linkUp = true) :
    s.startRetrain.reg 0x1100 1 = 5 ∧ s.startRetrain.reg 0x1100 5 = satAdd 32 (s.reg 0x1100 5) 1 := by
  unfold State.startRetrain
  rw [if_pos h, State.reg_noteWait, State.reg_noteWait]
  refine ⟨State.reg_setReg_same _ _ _ _, ?_⟩
  rw [State.reg_setReg_other _ (by decide), State.reg_bump_same]

theorem State.startRetrain_reg_other (h : s.linkUp = true) {idx sub : Nat} (h1 : okey 0 idx sub ≠ okey 0 0x1100 1)
    (h5 : okey 0 idx sub ≠ okey 0 0x1100 5) : s.startRetrain.reg idx sub = s.reg idx sub := by
  unfold State.startRetrain
  rw [if_pos h, State.reg_noteWait, State.reg_setReg_other _ h1, State.reg_bump_other _ h5]

/-! ### The state that training settles -/

theorem State.settleLink_module0 {x : Nat} (hd : s.link.drop0 = false) (h : s.link.u0 = some x) (h1 : s.link.drop1 = true ∨ s.link.u1 = none) :
    s.settleLink = (s.setLink 3 x 64).flushHost := by
  have hb : (if s.link.drop1 then none else s.link.u1) = none := by
    rcases h1 with h1 | h1 <;> simp [h1]
  unfold State.settleLink
  simp only [hb, hd, h]
  rfl

theorem State.settleLink_module1 {x : Nat} (hd : s.link.drop1 = false) (h : s.link.u1 = some x) (h0 : s.link.drop0 = true ∨ s.link.u0 = none) :
    s.settleLink = (s.setLink 4 x 64).flushHost := by
  have ha : (if s.link.drop0 then none else s.link.u0) = none := by
    rcases h0 with h0 | h0 <;> simp [h0]
  unfold State.settleLink
  simp only [ha, hd, h]
  rfl

theorem State.settleLink_both {x y : Nat} (h0 : s.link.drop0 = false) (h1 : s.link.drop1 = false) (hx : s.link.u0 = some x)
    (hy : s.link.u1 = some y) : s.settleLink
      = (State.setLink { s with link := { s.link with u0 := some (min x y), u1 := some (min x y) } } 2 (min x y) 128).flushHost := by
  unfold State.settleLink
  simp only [h0, h1, hx, hy]
  rfl

theorem State.reg_setLink_flushHost (state rate width : Nat) : (s.setLink state rate width).flushHost.reg 0x1100 1 = state
    ∧ (s.setLink state rate width).flushHost.reg 0x1100 3 = rate ∧ (s.setLink state rate width).flushHost.reg 0x1100 4 = width := by
  simp only [State.reg_flushHost]
  exact s.reg_setLink state rate width

theorem State.setLink_flushHost_drops (state rate width : Nat) : (s.setLink state rate width).flushHost.link.drop0 = s.link.drop0
    ∧ (s.setLink state rate width).flushHost.link.drop1 = s.link.drop1 := by
  obtain ⟨d, a, w, h⟩ := s.setLink_eq state rate width
  obtain ⟨h0, h1⟩ := (s.setLink state rate width).flushHost_reports.drops
  rw [h0, h1, h]
  exact ⟨rfl, rfl⟩

/-! ### The end of a retrain reported -/

theorem State.reportRetrain_reports (a b : Bool) : ReportsOnly s (s.reportRetrain a b) := by
  unfold State.reportRetrain State.retrainEvent
  dsimp only
  split
  · exact (s.raiseEvent_reports _ _ _ _ _ _).trans (State.raiseEvent_reports _ _ _ _ _ _ _)
  · exact s.raiseEvent_reports _ _ _ _ _ _

theorem State.reg_reportRetrain {sub : Nat} (hs : sub < 256) (a b : Bool) : (s.reportRetrain a b).reg 0x1100 sub = s.reg 0x1100 sub := by
  have hevent (u : State) (code src x : Nat) : (u.raiseEvent code none src x 0 0).reg 0x1100 sub = u.reg 0x1100 sub :=
    u.regF_raiseEvent (by decide) (by decide) (by decide) (by decide) hs
  unfold State.reportRetrain State.retrainEvent
  dsimp only
  split
  · rw [hevent, hevent]
  · exact hevent _ _ _ _

/-! ### The rows -/

section

variable (hl : s.live = true)

include hl

theorem exec_ucieModuleTrained (m : Fin 2) (rate : Fin 3) : exec (.ucieModuleTrained t m rate) s
    = .next (if (decide (s.reg 0x1100 1 = 1) || (decide (s.reg 0x1100 1 = 3 ∨ s.reg 0x1100 1 = 4) && !s.link.dlUp))
        && !(if m.val = 0 then s.link.drop0 else s.link.drop1) && !s.modUp m.val && decide (rate.val ≤ s.reg 0x1100 2)
      then (if m.val = 0 then { s.at t with link := { s.link with u0 := some rate.val } }
        else { s.at t with link := { s.link with u1 := some rate.val } }).settleLink
      else s.at t) := whileLive_of_live hl t _

/-- Outside training, of a module in service, or above OD 1100.02 no module joins. -/
theorem exec_ucieModuleTrained_stays {m : Fin 2} {rate : Fin 3}
    (h : s.reg 0x1100 2 < rate.val ∨ s.modUp m.val = true ∨ (s.link.dlUp = true ∧ s.reg 0x1100 1 ≠ 1)) :
    exec (.ucieModuleTrained t m rate) s = .next (s.at t) := by
  rw [exec_ucieModuleTrained t hl, if_neg]
  rcases h with h | h | ⟨hup, hst⟩
  · simp [Nat.not_le.mpr h]
  · simp [h]
  · simp [hup, hst]

/-- A module that trains while training is open and has not been dropped. -/
theorem exec_ucieModuleTrained_joins {m : Fin 2} {rate : Fin 3}
    (hopen : s.reg 0x1100 1 = 1 ∨ ((s.reg 0x1100 1 = 3 ∨ s.reg 0x1100 1 = 4) ∧ s.link.dlUp = false)) (hrate : rate.val ≤ s.reg 0x1100 2)
    (hdrop : (if m.val = 0 then s.link.drop0 else s.link.drop1) = false) (hup : s.modUp m.val = false) :
    exec (.ucieModuleTrained t m rate) s = .next (if m.val = 0 then { s.at t with link := { s.link with u0 := some rate.val } }
        else { s.at t with link := { s.link with u1 := some rate.val } }).settleLink := by
  rw [exec_ucieModuleTrained t hl, if_pos]
  rw [hdrop, hup]
  rcases hopen with hst | ⟨hst, hdl⟩
  · simp [hst, hrate]
  · simp [hst, hdl, hrate]

theorem exec_linkTrainingRetry {k : Nat} (hk : s.link.failedAt = some k) : exec (.linkTrainingRetry t) s
    = .next (if s.reg 0x1100 1 = 6 ∧ k + msCycles 100 ≤ max s.now t then (s.at t).startTraining else s.at t) := by
  show execLinkTrainingRetry t s = _
  unfold execLinkTrainingRetry
  simp only [whileLive_of_live hl, State.at_link, hk]
  rfl

theorem exec_linkTrainingRetry_failed (hk : s.link.failedAt = none) (hst : s.reg 0x1100 1 = 1) (h0 : s.modUp 0 = false) (h1 : s.modUp 1 = false) :
    exec (.linkTrainingRetry t) s = .next (s.at t).settleLink := by
  have hnone : (s.at t).reg 0x1100 1 = 1 ∧ (s.at t).modUp 0 = false ∧ (s.at t).modUp 1 = false := ⟨hst, h0, h1⟩
  show execLinkTrainingRetry t s = _
  unfold execLinkTrainingRetry
  simp only [whileLive_of_live hl, State.at_link, hk, if_pos hnone]

theorem exec_linkRetrain_up (hup : s.linkUp = true) : exec (.linkRetrain t) s
    = .next ((s.at t).draw.2.bump 64 0x1100 6 (1 + Config.freeNat s.free)).startRetrain :=
  (whileLive_of_live hl t _).trans (congrArg _ (if_pos hup))

theorem exec_linkRetrain_down (hdown : s.linkUp = false) : exec (.linkRetrain t) s = .next (s.at t) :=
  (whileLive_of_live hl t _).trans (congrArg _ (if_neg (Bool.eq_false_iff.mp hdown)))

/-- What DL_UP does once the link is in service and no DL_Down is due. -/
theorem exec_dlUp {v : State} (hv : v = { s.at t with link := { s.link with dlUp := true, again := false, was0 := false, was1 := false } }) :
    exec (.dlUp t) s = .next (if s.linkUp && !s.link.dlUp && !s.downDue
      then (if s.link.again then (v.dropModules (s.link.was0 && !s.modUp 0) (s.link.was1 && !s.modUp 1)).reportRetrain
          (s.link.was0 && !s.modUp 0) (s.link.was1 && !s.modUp 1) else v)
      else s.at t) := by
  subst hv
  exact whileLive_of_live hl t _

theorem exec_linkRetrainDone_idle (x y : Bool) (hst : s.reg 0x1100 1 ≠ 5) : exec (.linkRetrainDone t x y) s = .next (s.at t) :=
  (whileLive_of_live hl t _).trans (congrArg _ (if_neg hst))

theorem exec_linkRetrainDone_lost {x y : Bool} (hst : s.reg 0x1100 1 = 5) (h0 : (s.modUp 0 && x) = false) (h1 : (s.modUp 1 && y) = false) :
    exec (.linkRetrainDone t x y) s = .next (State.retrainEvent (State.settleLink
      { s.at t with link := { s.link with u0 := none, u1 := none, was0 := s.modUp 0, was1 := s.modUp 1 } })) := by
  refine (whileLive_of_live hl t _).trans (congrArg _ ((if_pos hst).trans (if_pos ?_)))
  show (!(s.modUp 0 && x) && !(s.modUp 1 && y)) = true
  rw [h0, h1]
  rfl

theorem exec_linkRetrainDone_goesOn {x y : Bool} (hst : s.reg 0x1100 1 = 5) (h : (s.modUp 0 && x) = true ∨ (s.modUp 1 && y) = true) :
    exec (.linkRetrainDone t x y) s = .next (((s.at t).dropModules (s.modUp 0 && !x) (s.modUp 1 && !y)).settleLink.reportRetrain
      (s.modUp 0 && !x) (s.modUp 1 && !y)) := by
  have hlost (a b : Bool) : (a && !(a && b)) = (a && !b) := by cases a <;> rfl
  have hleft : ¬ (!(s.modUp 0 && x) && !(s.modUp 1 && y)) = true := by
    rcases h with h | h <;> simp [h]
  rw [← hlost (s.modUp 0) x, ← hlost (s.modUp 1) y]
  exact (whileLive_of_live hl t _).trans (congrArg _ ((if_pos hst).trans (if_neg hleft)))

end

theorem State.drop_of_modUp : (s.modUp 0 = true → s.link.drop0 = false ∧ s.link.u0.isSome = true)
    ∧ (s.modUp 1 = true → s.link.drop1 = false ∧ s.link.u1.isSome = true) := by
  simp +contextual [State.modUp]

/-- The second module dropped at the end of a retrain: the first goes on alone (R350). -/
theorem State.dropModule1_settles (h : s.modUp 0 = true) : ∃ x, ((s.dropModules false true).settleLink)
    = ((s.dropModules false true).setLink 3 x 64).flushHost ∧ (s.dropModules false true).link.drop1 = true := by
  obtain ⟨hdrop, hsome⟩ := State.drop_of_modUp.1 h
  obtain ⟨x, hx⟩ := Option.isSome_iff_exists.mp hsome
  have h0 : (s.dropModules false true).link.drop0 = (s.link.drop0 || false) := rfl
  have h1 : (s.dropModules false true).link.drop1 = true := Bool.or_true _
  refine ⟨x, State.settleLink_module0 ?_ hx (.inl h1), h1⟩
  rw [h0, hdrop]
  rfl

theorem State.hostPath_spec (s : State) :
    (s.reg 0x1100 1 = 0 ∨ s.reg 0x1100 1 = 1 ∨ s.reg 0x1100 1 = 5 → s.hostPath = .waits)
    ∧ (s.reg 0x1100 1 = 2 ∨ s.reg 0x1100 1 = 3 ∨ s.reg 0x1100 1 = 4 → s.reg 0x9001 1 ≠ 1 ∨ s.reg 0x9001 2 = 1 → s.hostPath = .sent)
    ∧ (s.reg 0x1100 1 = 6 → s.hostPath = .fails) := by
  unfold State.hostPath
  refine ⟨fun h => ?_, fun h hide => ?_, fun h => if_pos h⟩
  · dsimp only
    rw [if_neg (by omega), if_neg (by omega)]
  · dsimp only
    rw [if_neg (by omega), if_pos h, if_neg (by omega)]

/-- Settles O52, row by row; a settled link by the modules in service. -/
theorem linkStatesDecideOnHostRequests : Obligations.LinkStatesDecideOnHostRequests := by
  refine ⟨State.hostPath_spec, ?_, ?_, ?_, ?_, ?_, ?_, ?_, ?_, ?_, ?_, ?_, ?_⟩
  · rintro t rate s u rfl hl hopen hrate
    refine ⟨fun hd hu => ?_, fun hd hu => ?_⟩
    · exact exec_ucieModuleTrained_joins t hl hopen hrate hd (by simp [State.modUp, hu])
    · exact exec_ucieModuleTrained_joins t hl hopen hrate hd (by simp [State.modUp, hu])
  · exact fun t m rate s hl h => exec_ucieModuleTrained_stays t hl h
  · intro s x hd hx h1
    rw [State.settleLink_module0 hd hx h1]
    exact s.reg_setLink_flushHost 3 x 64
  · intro s x hd hx h0
    rw [State.settleLink_module1 hd hx h0]
    exact s.reg_setLink_flushHost 4 x 64
  · intro s x y h0 h1 hx hy
    rw [State.settleLink_both h0 h1 hx hy]
    exact State.reg_setLink_flushHost 2 (min x y) 128
  · rintro t k s u rfl hl hk
    rw [exec_linkTrainingRetry t hl hk]
    exact ⟨fun hst hdue => by rw [if_pos ⟨hst, hdue⟩], fun h => by rw [if_neg (by omega)]⟩
  · rintro t s u rfl hl hk hst h0 h1
    exact exec_linkTrainingRetry_failed t hl hk hst h0 h1
  · rintro t s u v a b rfl hl rfl rfl hv
    rw [exec_dlUp t hl hv]
    exact ⟨fun hup hdl hdue => by rw [if_pos (by simp [hup, hdl, hdue])], fun h => by
      rw [if_neg (by rcases h with h | h | h <;> simp [h])]⟩
  · intro t s hl hup
    have hup' : ((s.at t).draw.2.bump 64 0x1100 6 (1 + Config.freeNat s.free)).linkUp = true :=
      ((s.at t).draw.2.linkUp_bump 64 6 (1 + Config.freeNat s.free) (by decide)).trans hup
    obtain ⟨hst, hcount⟩ := State.startRetrain_reg hup'
    refine ⟨_, exec_linkRetrain_up t hl hup, hst, hcount.trans ?_, Config.freeNat s.free, ?_⟩
    · rw [State.reg_bump_other _ (by decide)]
      rfl
    · rw [State.startRetrain_reg_other hup' (by decide) (by decide), State.reg_bump_same]
      rfl
  · exact fun t s hl hdown => exec_linkRetrain_down t hl hdown
  · rintro t x y a b s u rfl hl rfl rfl
    exact ⟨fun hst h => exec_linkRetrainDone_goesOn t hl hst h, fun hst h0 h1 => exec_linkRetrainDone_lost t hl hst h0 h1,
      fun hst => exec_linkRetrainDone_idle t hl x y hst⟩
  · intro t s hl hst h0 h1
    have hexec : exec (.linkRetrainDone t true false) s
        = .next (((s.at t).dropModules false true).settleLink.reportRetrain false true) := by
      simpa [h0, h1] using exec_linkRetrainDone_goesOn t hl (x := true) (y := false) hst (.inl (by simp [h0]))
    obtain ⟨x, hx, hdrop⟩ := State.dropModule1_settles (s := s.at t) h0
    rw [hx] at hexec
    refine ⟨_, hexec, ?_⟩
    obtain ⟨hstate, -, hwidth⟩ := State.reg_setLink_flushHost (s := (s.at t).dropModules false true) 3 x 64
    obtain ⟨-, hdrops⟩ := State.setLink_flushHost_drops (s := (s.at t).dropModules false true) 3 x 64
    have hdegraded : (((s.at t).dropModules false true).setLink 3 x 64).flushHost.reg 0x1100 7 = 1 := by
      rw [State.reg_flushHost, State.reg_setLink_other _ (by decide) (by decide) (by decide)]
      exact State.reg_setReg_same _ _ _ _
    generalize (((s.at t).dropModules false true).setLink 3 x 64).flushHost = w at *
    obtain ⟨-, hkept⟩ := (w.reportRetrain_reports false true).drops
    have hreg (sub : Nat) (hs : sub < 256) := State.reg_reportRetrain (s := w) hs false true
    exact ⟨hkept.trans (hdrops.trans hdrop), (hreg 1 (by decide)).trans hstate, (hreg 4 (by decide)).trans hwidth,
      (hreg 7 (by decide)).trans hdegraded⟩

end Sys2Proof.Machine
end

section
/-! PROOFS. One step, the reset state, a die that does not run, its stops, its reset and its TAP (R12, R386, R472, R475–R478, R496). -/

namespace Sys2Proof.Machine

variable {s s' : State}

/-! ### One step -/

/-- Settles O1: the command at the front is what `step` takes. -/
theorem stepRunsTheFrontCommand : Obligations.StepRunsTheFrontCommand := fun _ _ _ hp => step_of_pending_cons hp

/-- Settles O2: with an empty queue `step` moves time by one cycle. -/
theorem idleStepLetsOneCyclePass : Obligations.IdleStepLetsOneCyclePass := fun _ hp => step_of_pending_nil hp

/-- RESET_N's edges and the TAP's clock do not ask whether the die runs; every other row is a `whileLive`, or ends in one. -/
theorem exec_next (i : Instr) (s : State) : ∃ s', exec i s = .next s' := by
  cases i with
  | jtagTapClock t tms tdi trstN =>
    obtain ⟨s', he, -⟩ := execJtagTapClock_standsStill t tms tdi trstN s
    exact ⟨s', he⟩
  | _ => exact ⟨_, rfl⟩

/-- Settles O4: no row faults and none is refused. -/
theorem everyCommandAnswersANextState : Obligations.EveryCommandAnswersANextState := exec_next

/-! ### The reset state -/

/-- Settles O3: every object reads its default, and OD 1111.03's is FF. -/
theorem resetLeavesTheDocumentedState : Obligations.ResetLeavesTheDocumentedState := by
  refine ⟨rfl, rfl, rfl, rfl, rfl, rfl, rfl, rfl, rfl, rfl, rfl, ?_, rfl, rfl⟩
  decide

/-- Settles O8: the reset state has the reset values, and no release waits. -/
theorem resetIsHeldInReset : Obligations.ResetIsHeldInReset := ⟨rfl, rfl⟩

/-! ### A die that does not run -/

/-- Settles O5: what stands still keeps its queue too, so `Frozen` follows. -/
theorem dieThatDoesNotRunStandsStill : Obligations.DieThatDoesNotRunStandsStill := by
  intro i s hl hi
  obtain ⟨s', he, hfrozen, -⟩ := exec_standsStill hl i hi
  exact ⟨s', he, hfrozen⟩

theorem Stopped.not_live (h : Stopped s) : s.live = false := by
  obtain ⟨hstop, -⟩ := h
  simp [State.live, hstop]

theorem Stopped.of_standsStill (h : Stopped s) (hs : StandsStill s s') : Stopped s' := by
  obtain ⟨hstop, hreset, hsafe, hfsync, hq⟩ := h
  obtain ⟨hf, hp⟩ := hs
  unfold Frozen at hf
  refine ⟨?_, ?_, ?_, ?_, hp ▸ hq⟩ <;> rw [hf]
  · exact hstop
  · exact hreset
  · exact hsafe
  · exact hfsync

/-- The command at the front of a stopped die's queue is no edge of RESET_N, and without it the die is stopped all the same. -/
theorem Stopped.front {c : Instr} {rest : List Instr} (h : Stopped s) (hp : s.pending = c :: rest) :
    resetEdge c = false ∧ Stopped { s with pending := rest } := by
  obtain ⟨hstop, hreset, hsafe, hfsync, hq⟩ := h
  rw [hp, List.all_cons, Bool.and_eq_true, Bool.not_eq_true'] at hq
  obtain ⟨hc, hrest⟩ := hq
  exact ⟨hc, hstop, hreset, hsafe, hfsync, hrest⟩

/-- Settles O6: an idle cycle moves time alone; a command at the front is no edge of RESET_N, and any other finds the die standing still. -/
theorem stoppedDieStaysStopped : Obligations.StoppedDieStaysStopped := by
  intro s s' h he
  cases hp : s.pending with
  | nil =>
    rw [step_of_pending_nil hp] at he
    cases he
    exact h.of_standsStill ⟨rfl, rfl⟩
  | cons c rest =>
    obtain ⟨hc, hfront⟩ := h.front hp
    obtain ⟨s'', he', hs''⟩ := exec_standsStill hfront.not_live c hc
    rw [step_of_pending_cons hp, he'] at he
    cases he
    exact hfront.of_standsStill hs''

/-! ### Stops -/

theorem klook_map {α : Type} (f : α → α) (m : KMap α) (n : Nat) :
    klook (m.map (fun e => (e.1, f e.2))) n = (klook m n).map f := by
  induction m with
  | nil => rfl
  | cons e m ih =>
    rw [List.map_cons, klook, klook]
    split
    · rfl
    · exact ih

theorem State.pinsLow_fsync (s : State) (n : Nat) : (s.pinsLow.port n).fsync = false := by
  unfold State.port kget State.pinsLow
  dsimp only
  rw [klook_map (α := PortSt) (fun x => { x with fsync := false, term := false })]
  cases klook s.ports n <;> rfl

/-- What a stop leaves (R478): outputs low, no link, LPDDR5 no longer refreshed. -/
theorem State.stopDie_spec (s : State) : s.stopDie.stopped = true ∧ s.stopDie.umbra.safeN = false
    ∧ (∀ n, n < 16 → (s.stopDie.port n).fsync = false) ∧ s.stopDie.link.dlUp = false ∧ s.stopDie.ddr = []
    ∧ (s.railBad = false → s.stopDie.outPins = resetPins) := by
  refine ⟨rfl, rfl, fun n _ => s.pinsLow_fsync n, rfl, rfl, fun hrail => ?_⟩
  have hrail' : s.stopDie.railBad = false := hrail
  have hstop : s.stopDie.stopped = true := rfl
  simp [State.outPins, hrail', hstop]

/-- Settles O9: the trip and the core's and memory's PLLs end in `stopDie`, the UCIe PLL in a retrain. -/
theorem tripsAndLostClocksStopTheDie : Obligations.TripsAndLostClocksStopTheDie := by
  refine ⟨fun t x s hl => ?_, fun t p s hl hp => ?_, fun t s hl => whileLive_of_live hl t _⟩
  · exact ⟨_, whileLive_of_live hl t _, (s.at t).stopDie_spec⟩
  · refine ⟨(s.at t).stopDie, ?_, (s.at t).stopDie_spec⟩
    cases p with
    | ucie => exact absurd rfl hp
    | _ => exact whileLive_of_live hl t _

/-! ### The reset pin -/

theorem slice_length (bs : List Byte) (off len : Nat) : (slice bs off len).length = len := by
  simp only [slice, zeros, List.length_append, List.length_take, List.length_drop, List.length_replicate]
  omega

theorem State.tornFlash_of_none (h : s.fw.dirWrite = none) : s.tornFlash = s := by
  unfold State.tornFlash
  rw [h]

/-- The cut finds the first copy of the directory being written. -/
theorem State.tornFlash_of_first {c first : Nat} {old : List Byte} (h : s.fw.dirWrite = some (c, first, old)) (hnow : s.now < c + Config.dirCycles) :
    s.tornFlash = (s.draw.2.flashWrite (0x1000 * first) (slice (Config.freeBytes s.draw.1 64) 0 64)).flashWrite (0x1000 * (1 - first)) old := by
  unfold State.tornFlash
  simp only [h]
  rw [if_pos hnow]

/-- A cut directory write draws and writes flash, and nothing else. -/
theorem State.tornFlash_eq (s : State) : s.tornFlash = { s with fw := { s.fw with flash := s.tornFlash.fw.flash }, free := s.tornFlash.free } := by
  unfold State.tornFlash
  split
  · rfl
  · dsimp only
    split_ifs <;> rfl

/-- What RESET_N falling leaves of a state that the cut `v` has met (R475–R477). -/
def State.resetFrom (v : State) : State :=
  { State.reset with
    now := v.now, fw := { fwReset with flash := v.fw.flash, floors := v.fw.floors }, tick := { tickReset with tickIn := v.tick.tickIn },
    jtag := if v.railBad then State.reset.jtag else v.jtag, hostMem := v.hostMem, free := v.free, railBad := v.railBad, pending := v.pending }

theorem exec_resetNAssert (t : Nat) (s : State) : exec (.resetNAssert t) s = .next (s.at t).tornFlash.resetFrom := rfl

theorem State.resetFrom_outPins (v : State) : v.resetFrom.outPins = if v.railBad then undefinedPins else resetPins := by
  have hlow : v.resetFrom.resetN = false ∨ v.resetFrom.stopped = true := .inl rfl
  have hrail : v.resetFrom.railBad = v.railBad := rfl
  simp only [State.outPins, hrail, if_pos hlow]

/-- What RESET_N rising does before the link trains (R475): the die runs, with every rail in range; EXTEST gives way to BYPASS. -/
def State.released (v : State) : State :=
  { v with resetN := true, railBad := false, jtag := if v.jtag.ir = 0 then { v.jtag with ir := 15 } else v.jtag }

theorem exec_resetNRelease (t : Nat) (h : s.resetN = false) : exec (.resetNRelease t) s = .next (s.at t).released.startTraining := by
  have hlow : ¬ (s.at t).resetN = true := by simp [h]
  show execResetNRelease t s = _
  unfold execResetNRelease
  dsimp only
  rw [if_neg hlow]
  rfl

/-- Settles O10: RESET_N falling is the cut of a directory write and `resetFrom`; rising, it starts training on what was kept. -/
theorem resetPinResetsAndReleases : Obligations.ResetPinResetsAndReleases := by
  refine ⟨fun t s => ⟨_, exec_resetNAssert t s, ?_⟩, fun t c first old s hdir hnow => ?_, fun t s hreset => ?_⟩
  · have hpins := (s.at t).tornFlash.resetFrom_outPins
    have hflash : s.fw.dirWrite = none → (s.at t).tornFlash.fw.flash = s.fw.flash := fun h => by
      rw [State.tornFlash_of_none (s := s.at t) h]
      rfl
    rw [(s.at t).tornFlash_eq] at hpins ⊢
    exact ⟨rfl, rfl, rfl, rfl, rfl, rfl, rfl, rfl, rfl, rfl, rfl, hflash, rfl, rfl, rfl, rfl, hpins⟩
  · have hflash : (s.at t).tornFlash.resetFrom.fw.flash = (s.at t).tornFlash.fw.flash := rfl
    refine ⟨_, slice (Config.freeBytes (s.at t).draw.1 64) 0 64, exec_resetNAssert t s, slice_length _ 0 64, ?_⟩
    rw [hflash, State.tornFlash_of_first (s := s.at t) hdir hnow]
    rfl
  · refine ⟨_, exec_resetNRelease t hreset, ?_⟩
    obtain ⟨d, a, w, htraining⟩ := ((s.at t).released).startTraining_eq
    refine ⟨?_, State.reg_startTraining _, ?_, ?_, ?_⟩ <;> rw [htraining] <;> rfl

/-! ### The TAP -/

theorem exec_jtagTapClock_reset (t : Nat) (tms tdi : Bool) (s : State) :
    exec (.jtagTapClock t tms tdi false) s = .next { (s.at t) with jtag := { s.jtag with tap := 0, ir := 1 } } := rfl

theorem State.withJtag_congr {u v : State} (h : u = v) (j : JtagSt) : { u with jtag := j } = { v with jtag := j } := by rw [h]

/-- Outside Capture-DR a clock's work is on the TAP alone. -/
theorem exec_jtagTapClock_work (t : Nat) (tms tdi : Bool) (h : s.jtag.tap ≠ 3) : ∃ s', exec (.jtagTapClock t tms tdi true) s = .next s'
    ∧ s'.jtag.tap = tapNext s.jtag.tap tms ∧ s' = { (s.at t) with jtag := s'.jtag } := by
  have htap : ¬ (s.at t).jtag.tap = 3 := h
  refine ⟨_, rfl, rfl, State.withJtag_congr ?_ _⟩
  dsimp only
  rw [if_neg htap]
  split_ifs <;> rfl

/-- Settles O11: by the level on JTAG_TRST_N. -/
theorem tapClockMovesTheTapAlone : Obligations.TapClockMovesTheTapAlone :=
  ⟨fun t tms tdi s => ⟨_, exec_jtagTapClock_reset t tms tdi s, rfl, rfl, rfl⟩, fun t tms tdi _ h => exec_jtagTapClock_work t tms tdi h⟩

/-! ### Roles that are closed -/

/-- A request of a closed role, or before the ROM has released SEC, changes nothing. -/
theorem State.serve_closed {fn : Nat} (h : s.reg 0x2050 1 = 0 ∨ s.roleOpen fn = false) (op : Nat) (r : Req) : s.serve fn op r = s := if_pos h

/-- Settles O15: all six rows are `serve`, which a closed role does not pass. -/
theorem closedRolesAreNotServed : Obligations.ClosedRolesAreNotServed := by
  rintro t c r s u rfl hl h
  have hclosed : (s.at t).reg 0x2050 1 = 0 ∨ (s.at t).roleOpen (callerFn c) = false := by
    refine h.imp_right fun ⟨hrole, hoff⟩ => ?_
    have hoff' : ((s.at t).fnSt (callerFn c)).enabled = false := hoff
    simp [State.roleOpen, hrole, hoff']
  have hrow (op : Nat) : serveRow t c op r s = .next (s.at t) := by
    rw [serveRow, whileLive_of_live hl, State.serve_closed hclosed]
  exact ⟨hrow 1, hrow 2, hrow 3, hrow 4, hrow 5, hrow 6⟩

end Sys2Proof.Machine
end

section
/-! PROOFS. The apertures of the host (R355, R356, R407, R444, R452). -/

namespace Sys2Proof.Machine

variable {s : State} {t addr : Nat} {f : Fn} {a : Access}

/-! ### Bytes laid over bytes -/

theorem mergeBytes_length (bs : List (Option Byte)) : ∀ old, (mergeBytes old bs).length = bs.length := by
  induction bs with
  | nil => exact fun _ => by simp [mergeBytes]
  | cons b bs ih =>
    intro old
    cases old <;> simp [mergeBytes, ih]

/-- A byte that is given lies over the old one. -/
theorem mergeBytes_getD (bs : List (Option Byte)) (d : Byte) : ∀ (old : List Byte) (i : Nat), i < bs.length → i < old.length →
    (mergeBytes old bs).getD i d = (bs.getD i none).getD (old.getD i d) := by
  induction bs with
  | nil => exact fun _ _ h => absurd h (Nat.not_lt_zero _)
  | cons b bs ih =>
    intro old i hi ho
    cases old with
    | nil => exact absurd ho (Nat.not_lt_zero _)
    | cons o old =>
      cases i with
      | zero => rfl
      | succ i => exact ih old i (Nat.lt_of_succ_lt_succ hi) (Nat.lt_of_succ_lt_succ ho)

theorem kgets_length {α : Type} (d : α) (m : KMap α) (n : Nat) : ∀ k, (kgets d m k n).length = n := by
  induction n with
  | zero => exact fun _ => rfl
  | succ n ih => exact fun k => congrArg (· + 1) (ih (k + 1))

theorem kgets_getD {α : Type} (d : α) (m : KMap α) (n : Nat) : ∀ (k i : Nat), i < n → (kgets d m k n).getD i d = kget d m (k + i) := by
  induction n with
  | zero => exact fun _ _ h => absurd h (Nat.not_lt_zero _)
  | succ n ih =>
    intro k i hi
    cases i with
    | zero => rfl
    | succ i => exact (ih (k + 1) i (Nat.lt_of_succ_lt_succ hi)).trans (congrArg (kget d m) (by omega))

/-- A read inside the keys that a list was stored under. -/
theorem kget_ksets_inside {α : Type} [DecidableEq α] (d : α) (m : KMap α) (k i : Nat) (vs : List α) (h : i < vs.length) :
    kget d (ksets d m k vs) (k + i) = vs.getD i d := by
  rw [← kgets_getD d (ksets d m k vs) vs.length k i h, kgets_ksets]

theorem State.ddrRead_one (s : State) (a : Nat) : s.ddrRead a 1 = [kget memDefault s.ddr a] := rfl

theorem State.ddrMerge_ddr (s : State) (addr : Nat) (bs : List (Option Byte)) :
    (s.ddrMerge addr bs).ddr = ksets memDefault s.ddr addr (mergeBytes (s.ddrRead addr bs.length) bs) := rfl

/-- Outside the span a merge leaves LPDDR5 as it was. -/
theorem State.kget_ddrMerge_outside (bs : List (Option Byte)) {b : Nat} (h : b < addr ∨ addr + bs.length ≤ b) :
    kget memDefault (s.ddrMerge addr bs).ddr b = kget memDefault s.ddr b := by
  rw [State.ddrMerge_ddr, kget_ksets_outside _ _ _ _ _ (by rwa [mergeBytes_length])]

/-- Inside the span a byte that is given is stored, and one that is not stays. -/
theorem State.kget_ddrMerge_inside (bs : List (Option Byte)) {i : Nat} (h : i < bs.length) :
    kget memDefault (s.ddrMerge addr bs).ddr (addr + i) = (bs.getD i none).getD (kget memDefault s.ddr (addr + i)) := by
  have hlen : (s.ddrRead addr bs.length).length = bs.length := kgets_length _ _ _ _
  rw [State.ddrMerge_ddr, kget_ksets_inside _ _ _ _ _ (by rwa [mergeBytes_length]), mergeBytes_getD bs _ _ i h (by rwa [hlen]),
    State.ddrRead, kgets_getD _ _ _ _ _ h]

/-- The contexts that a write touches are bookkeeping: no byte of a memory moves. -/
theorem State.touchCtx_memories (s : State) (fill : Bool) (addr len : Nat) :
    (s.touchCtx fill addr len).fscratch = s.fscratch ∧ (s.touchCtx fill addr len).pads = s.pads := by
  refine List.foldlRecOn (motive := fun v : State => v.fscratch = s.fscratch ∧ v.pads = s.pads) _ _ ⟨rfl, rfl⟩ fun v hv p _ => ?_
  dsimp only
  split
  · exact hv
  · exact List.foldlRecOn (motive := fun w : State => w.fscratch = s.fscratch ∧ w.pads = s.pads) _ _ hv fun w hw _ _ => hw

/-! ### Refusals -/

theorem State.complete_eq (s : State) (x : Completion) : ∃ y n, s.complete x = { s with seen := y, free := n } := by
  unfold State.complete
  split
  · unfold State.drives
    dsimp only
    split <;> exact ⟨_, _, rfl⟩
  · exact ⟨_, _, rfl⟩

/-- A refused access counts in OD 1102.03 of its function and reaches no memory. -/
theorem State.refuseAperture_spec (s : State) (g : Nat) (a : Access) : (s.refuseAperture g a).pads = s.pads ∧ (s.refuseAperture g a).ddr = s.ddr
    ∧ (s.refuseAperture g a).regF g 0x1102 3 = satAdd 32 (s.regF g 0x1102 3) 1 := by
  have hcount : (s.bumpF 32 g 0x1102 3 1).regF g 0x1102 3 = satAdd 32 (s.regF g 0x1102 3) 1 := State.regF_setRegF_same _ _ _ _ _
  unfold State.refuseAperture
  dsimp only
  split
  · exact ⟨rfl, rfl, hcount⟩
  · obtain ⟨y, n, h⟩ := (s.bumpF 32 g 0x1102 3 1).complete_eq .unsupported
    rw [h]
    exact ⟨rfl, rfl, hcount⟩

theorem State.firewallRefuse_regF {idx sub : Nat} (s : State) (g init tag kind target : Nat) (write : Bool) (h : idx ≠ 0x3000) (hi : idx < 65536)
    (hs : sub < 256) : (s.firewallRefuse init tag write kind target).regF g idx sub = s.regF g idx sub :=
  (State.regF_setRegF_other _ (okey_ne_of_idx h hi (by omega) hs (by omega))).trans
    (State.regF_bumpF_other s (okey_ne_of_idx h hi (by omega) hs (by omega)))

/-! ### The LPDDR5 aperture -/

/-- Does an access of function `g` stay within the caller's memory: a VF's own granules (R407)? -/
def State.apertureMine (s : State) (g addr n : Nat) : Bool :=
  decide (g = 0) || (s.granuleIn (g - 1) (addr / 67108864) && s.granuleIn (g - 1) ((addr + n - 1) / 67108864))

theorem State.apertureMine_of {g n : Nat} (h : g = 0 ∨ (s.granuleIn (g - 1) (addr / 67108864) = true
    ∧ s.granuleIn (g - 1) ((addr + n - 1) / 67108864) = true)) : s.apertureMine g addr n = true := by
  rcases h with h | ⟨h, h'⟩
  · simp [State.apertureMine, h]
  · simp [State.apertureMine, h, h']

theorem State.not_apertureMine_of {g n : Nat} (hg : g ≠ 0) (h : s.granuleIn (g - 1) (addr / 67108864) = false
    ∨ s.granuleIn (g - 1) ((addr + n - 1) / 67108864) = false) : s.apertureMine g addr n = false := by
  rcases h with h | h <;> simp [State.apertureMine, hg, h]

/-- What an access of the LPDDR5 aperture does that no check refuses. -/
def State.apertureAccess (s : State) (g addr : Nat) : Access → State
  | .rd k =>
    if 4096 < k then s.refuseAperture g (.rd k)
    else if s.spanPoisoned addr k then (s.countPoison addr k (some (0x70 + g))).refuseAperture g (.rd k)
    else s.complete (.data (s.ddrRead addr k))
  | .wr bs => (s.touchCtx false addr bs.length).ddrMerge addr bs

section

variable (hl : s.live = true)

include hl

theorem exec_lpddr5ApertureAccess : exec (.lpddr5ApertureAccess t f addr a) s
    = .next (if (s.at t).reaches f.val = false then (if accessWrites a then s.at t else (s.at t).complete .unsupported)
      else if (s.at t).apertureMine f.val addr (accessLen a) = false then
        ((s.at t).firewallRefuse (0x70 + f.val) (f.val - 1) (accessWrites a) 3 0).refuseAperture f.val a
      else if decide (addr + accessLen a ≤ (s.at t).capacityUsed) = false ∨ (s.at t).spanRetired addr (accessLen a) = true then
        (s.at t).refuseAperture f.val a
      else (s.at t).apertureAccess f.val addr a) := by
  show execLpddr5ApertureAccess t f addr a s = _
  unfold execLpddr5ApertureAccess
  rw [whileLive_of_live hl]
  cases a <;> rfl

theorem exec_lpddr5ApertureAccess_unreached (hr : (s.at t).reaches f.val = false) : exec (.lpddr5ApertureAccess t f addr a) s
    = .next (if accessWrites a = true then s.at t else (s.at t).complete .unsupported) := by
  rw [exec_lpddr5ApertureAccess hl, if_pos hr]

variable (hr : (s.at t).reaches f.val = true)

include hr

theorem exec_lpddr5ApertureAccess_foreign (hm : (s.at t).apertureMine f.val addr (accessLen a) = false) :
    exec (.lpddr5ApertureAccess t f addr a) s
      = .next (((s.at t).firewallRefuse (0x70 + f.val) (f.val - 1) (accessWrites a) 3 0).refuseAperture f.val a) := by
  rw [exec_lpddr5ApertureAccess hl, if_neg (by simp [hr]), if_pos hm]

variable (hm : (s.at t).apertureMine f.val addr (accessLen a) = true)

include hm

theorem exec_lpddr5ApertureAccess_refused (h : (s.at t).capacityUsed < addr + accessLen a ∨ (s.at t).spanRetired addr (accessLen a) = true) :
    exec (.lpddr5ApertureAccess t f addr a) s = .next ((s.at t).refuseAperture f.val a) := by
  rw [exec_lpddr5ApertureAccess hl, if_neg (by simp [hr]), if_neg (by simp [hm]),
    if_pos (h.imp_left fun h => decide_eq_false (Nat.not_le.mpr h))]

theorem exec_lpddr5ApertureAccess_taken (hc : addr + accessLen a ≤ (s.at t).capacityUsed)
    (hret : (s.at t).spanRetired addr (accessLen a) = false) :
    exec (.lpddr5ApertureAccess t f addr a) s = .next ((s.at t).apertureAccess f.val addr a) := by
  rw [exec_lpddr5ApertureAccess hl, if_neg (by simp [hr]), if_neg (by simp [hm]), if_neg (by simp [hc, hret])]

end

/-! ### The scratchpad aperture -/

/-- Is an access raw? -/
def padRaw (addr : Nat) : Bool := decide (0x10000000 ≤ addr % 0x20000000) && decide (addr % 0x20000000 < 0x10280000)

/-- Does an access begin in a scratchpad, by handle or raw (R356)? -/
def padInside (addr : Nat) : Bool := decide (addr / 0x20000000 < 32) && (decide (addr % 0x20000000 < 0x10000000) || padRaw addr)

/-- Does an access of `n` bytes stay within one word (R356)? -/
def padWord (addr n : Nat) : Bool := decide (1 ≤ n) && decide (addr % 0x20000000 % 8 + n ≤ 8)

theorem padInside_and_padWord {n : Nat} (hc : addr / 0x20000000 < 32) (ho : addr % 0x20000000 < 0x10280000) (h1 : 1 ≤ n)
    (h8 : addr % 0x20000000 % 8 + n ≤ 8) : padInside addr = true ∧ padWord addr n = true := by
  simp only [padInside, padRaw, padWord, Bool.and_eq_true, Bool.or_eq_true, decide_eq_true_eq]
  omega

theorem not_padInside_or_padWord {n : Nat}
    (h : 32 ≤ addr / 0x20000000 ∨ 0x10280000 ≤ addr % 0x20000000 ∨ n = 0 ∨ 8 < addr % 0x20000000 % 8 + n) :
    padInside addr = false ∨ padWord addr n = false := by
  simp only [padInside, padRaw, padWord, Bool.and_eq_false_iff, Bool.or_eq_false_iff, decide_eq_false_iff_not]
  omega

section

variable (hl : s.live = true)

include hl

theorem exec_scratchpadApertureAccess : exec (.scratchpadApertureAccess t f addr a) s
    = .next (if (s.at t).reaches f.val = false then (if accessWrites a then s.at t else (s.at t).complete .unsupported)
      else if padInside addr = false ∨ padWord addr (accessLen a) = false then (s.at t).refuseAperture f.val a
      else if f.val ≠ 0 ∧ (padRaw addr = true ∨ s.corePart (addr / 0x20000000) ≠ some (f.val - 1)) then
        ((((s.at t).firewallRefuse (0x70 + f.val) (f.val - 1) (accessWrites a) (if padRaw addr then 2 else 1)
          (addr / 0x20000000)).bump 64 (0x5100 + addr / 0x20000000) 4 1).refuseAperture f.val a)
      else (s.at t).padServe (addr / 0x20000000) [.host f.val (padRaw addr) (addr % 0x20000000 / 0x400000)
        (if padRaw addr then (addr % 0x20000000 - 0x10000000) / 8 else addr % 0x20000000 % 0x400000 / 8) (addr % 0x20000000 % 8) a]) := by
  show execScratchpadApertureAccess t f addr a s = _
  unfold execScratchpadApertureAccess
  rw [whileLive_of_live hl]
  rfl

theorem exec_scratchpadApertureAccess_unreached (hr : (s.at t).reaches f.val = false) : exec (.scratchpadApertureAccess t f addr a) s
    = .next (if accessWrites a = true then s.at t else (s.at t).complete .unsupported) := by
  rw [exec_scratchpadApertureAccess hl, if_pos hr]

variable (hr : (s.at t).reaches f.val = true)

include hr

theorem exec_scratchpadApertureAccess_nowhere (hp : padInside addr = false ∨ padWord addr (accessLen a) = false) :
    exec (.scratchpadApertureAccess t f addr a) s = .next ((s.at t).refuseAperture f.val a) := by
  rw [exec_scratchpadApertureAccess hl, if_neg (by simp [hr]), if_pos hp]

variable (hp : padInside addr = true ∧ padWord addr (accessLen a) = true)

include hp

theorem exec_scratchpadApertureAccess_foreign (h : f.val ≠ 0 ∧ (padRaw addr = true ∨ s.corePart (addr / 0x20000000) ≠ some (f.val - 1))) :
    exec (.scratchpadApertureAccess t f addr a) s = .next
      ((((s.at t).firewallRefuse (0x70 + f.val) (f.val - 1) (accessWrites a) (if padRaw addr then 2 else 1)
        (addr / 0x20000000)).bump 64 (0x5100 + addr / 0x20000000) 4 1).refuseAperture f.val a) := by
  rw [exec_scratchpadApertureAccess hl, if_neg (by simp [hr]), if_neg (by simp [hp]), if_pos h]

theorem exec_scratchpadApertureAccess_handle (ho : addr % 0x20000000 < 0x10000000)
    (h : f.val = 0 ∨ s.corePart (addr / 0x20000000) = some (f.val - 1)) : exec (.scratchpadApertureAccess t f addr a) s
      = .next ((s.at t).padServe (addr / 0x20000000) [.host f.val false (addr % 0x20000000 / 0x400000)
        (addr % 0x20000000 % 0x400000 / 8) (addr % 0x20000000 % 8) a]) := by
  have hraw : padRaw addr = false := by simp [padRaw, Nat.not_le.mpr ho]
  rw [exec_scratchpadApertureAccess hl, if_neg (by simp [hr]), if_neg (by simp [hp]), hraw, if_neg (by rcases h with h | h <;> simp [h]),
    if_neg Bool.false_ne_true]

theorem exec_scratchpadApertureAccess_raw (hlo : 0x10000000 ≤ addr % 0x20000000) (hhi : addr % 0x20000000 < 0x10280000) (h : f.val = 0) :
    exec (.scratchpadApertureAccess t f addr a) s
      = .next ((s.at t).padServe (addr / 0x20000000) [.host f.val true (addr % 0x20000000 / 0x400000)
        ((addr % 0x20000000 - 0x10000000) / 8) (addr % 0x20000000 % 8) a]) := by
  have hraw : padRaw addr = true := by simp [padRaw, hlo, hhi]
  rw [exec_scratchpadApertureAccess hl, if_neg (by simp [hr]), if_neg (by simp [hp]), hraw, if_neg (by simp [h]), if_pos rfl]

end

/-- Settles O50: by the aperture, and for each by the check that refuses the access. -/
theorem aperturesReachTheirMemoryAlone : Obligations.AperturesReachTheirMemoryAlone := by
  refine ⟨?_, ?_, ?_, ?_, ?_, ?_, ?_, ?_⟩
  · rintro t addr f bs s u rfl hl hr hm hc hret
    refine ⟨_, exec_lpddr5ApertureAccess_taken hl hr (a := .wr bs) (State.apertureMine_of hm) hc hret, fun b hb => ?_, fun i hi => ?_, ?_⟩
    · rw [State.ddrRead_one, State.ddrRead_one, State.apertureAccess, State.kget_ddrMerge_outside bs hb, State.touchCtx_ddr]
      rfl
    · rw [State.ddrRead_one, State.apertureAccess, State.kget_ddrMerge_inside bs hi, State.touchCtx_ddr]
      rfl
    · exact (s.at t).touchCtx_memories false addr bs.length
  · rintro t addr n f s u rfl hl hr hm hc hret
    have htaken := exec_lpddr5ApertureAccess_taken hl hr (a := .rd n) (State.apertureMine_of hm) hc hret
    refine ⟨fun hn hp => htaken.trans ?_, fun hn hp => htaken.trans ?_, fun hn => htaken.trans ?_⟩ <;> rw [State.apertureAccess]
    · rw [if_neg (Nat.not_lt.mpr hn), hp]
      rfl
    · rw [if_neg (Nat.not_lt.mpr hn), hp]
      rfl
    · rw [if_pos hn]
  · rintro t addr f a s u rfl hl hr hm h
    exact exec_lpddr5ApertureAccess_refused hl hr (State.apertureMine_of hm) h
  · rintro t addr f a s u rfl hl hr hf h
    refine ⟨_, exec_lpddr5ApertureAccess_foreign hl hr (State.not_apertureMine_of hf h), ?_⟩
    obtain ⟨hpads, hddr, hcount⟩ :=
      ((s.at t).firewallRefuse (0x70 + f.val) (f.val - 1) (accessWrites a) 3 0).refuseAperture_spec f.val a
    refine ⟨hddr, hpads, hcount.trans ?_⟩
    rw [State.firewallRefuse_regF _ _ _ _ _ _ _ (by decide) (by decide) (by decide)]
    rfl
  · rintro t addr c o f a s u rfl hl hr rfl rfl hc h1 h8
    refine ⟨fun ho h => ?_, fun hlo hhi hf => ?_⟩
    · exact exec_scratchpadApertureAccess_handle hl hr (padInside_and_padWord hc (by omega) h1 h8) ho h
    · exact exec_scratchpadApertureAccess_raw hl hr (padInside_and_padWord hc hhi h1 h8) hlo hhi hf
  · rintro t addr c o f a s hl hr hf rfl rfl hc ho h1 h8 h
    refine ⟨_, exec_scratchpadApertureAccess_foreign hl hr (padInside_and_padWord hc ho h1 h8)
      ⟨hf, h.imp_left fun hlo => by simp [padRaw, hlo, ho]⟩, ?_⟩
    obtain ⟨hpads, hddr, hcount⟩ := (((s.at t).firewallRefuse (0x70 + f.val) (f.val - 1) (accessWrites a)
      (if padRaw addr then 2 else 1) (addr / 0x20000000)).bump 64 (0x5100 + addr / 0x20000000) 4 1).refuseAperture_spec f.val a
    refine ⟨hpads, hddr, hcount.trans ?_⟩
    rw [State.bump, State.regF_bumpF_other _ (okey_ne_of_idx (by omega) (by decide) (by omega) (by decide) (by decide)),
      State.firewallRefuse_regF _ _ _ _ _ _ _ (by decide) (by decide) (by decide)]
    rfl
  · rintro t addr f a s u rfl hl hr h
    exact exec_scratchpadApertureAccess_nowhere hl hr (not_padInside_or_padWord h)
  · rintro t addr f a s u rfl hl hr
    exact ⟨exec_lpddr5ApertureAccess_unreached hl hr, exec_scratchpadApertureAccess_unreached hl hr⟩

end Sys2Proof.Machine
end

section
/-! PROOFS. The PCIe functions: configuration, VF Enable, D3hot, the resets of functions and of the link (R348–R353, R415). -/

namespace Sys2Proof.Machine

variable (s : State) (t : Nat)

/-! ### A number object that the device makes 0 -/

theorem State.deviceClear_fns (fn idx sub : Nat) (part : Option Nat) : (s.deviceClear fn idx sub part).fns = s.fns := by
  unfold State.deviceClear
  split <;> rfl

theorem State.regF_deviceSetF_same {fn idx sub : Nat} (h : idx ≠ 0x1020) (hi : idx < 65536) (hs : sub < 256) (v : Nat) (part : Option Nat) :
    (s.deviceSetF fn idx sub v part).regF fn idx sub = v := by
  unfold State.deviceSetF
  dsimp only
  rw [State.regF_changed, State.regF_journalAdd _ h hi hs, State.regF_setRegF_same]

theorem State.regF_deviceSetF_other {fn idx sub g idx' sub' : Nat} (hk : okey g idx' sub' ≠ okey fn idx sub) (h : idx' ≠ 0x1020) (hi : idx' < 65536)
    (hs : sub' < 256) (v : Nat) (part : Option Nat) : (s.deviceSetF fn idx sub v part).regF g idx' sub' = s.regF g idx' sub' := by
  unfold State.deviceSetF
  dsimp only
  rw [State.regF_changed, State.regF_journalAdd _ h hi hs, State.regF_setRegF_other _ hk]

theorem State.regF_deviceClear_same {fn idx sub : Nat} (h : idx ≠ 0x1020) (hi : idx < 65536) (hs : sub < 256) (part : Option Nat) :
    (s.deviceClear fn idx sub part).regF fn idx sub = 0 := by
  unfold State.deviceClear
  split
  · assumption
  · exact s.regF_deviceSetF_same h hi hs 0 part

theorem State.regF_deviceClear_other {fn idx sub g idx' sub' : Nat} (hk : okey g idx' sub' ≠ okey fn idx sub) (h : idx' ≠ 0x1020)
    (hi : idx' < 65536) (hs : sub' < 256) (part : Option Nat) : (s.deviceClear fn idx sub part).regF g idx' sub' = s.regF g idx' sub' := by
  unfold State.deviceClear
  split
  · rfl
  · exact s.regF_deviceSetF_other hk h hi hs 0 part

/-! ### An FLR -/

/-- The last steps of an FLR: the function's own state, its rings and its window's latch (R353). -/
def State.flrEnd (s : State) (f : Nat) : State :=
  (((s.setFn f { s.fnSt f with
      mbState := 0, answer := none, d3 := false, memSpace := false, busMaster := false, bars := [0, 0, 0], msixTable := zeros 128
      msixPend := 0, fresh := [] }).deviceClear f 0x1104 3 (callerScope f)).deviceClear f 0x1105 3 (callerScope f)).setRegF f 0x1102 1 0

/-- An FLR ends so, whatever came of a request that was pending and of the function's transactions. -/
theorem State.flr_eq_flrEnd (f : Nat) : ∃ v : State, s.flr f = v.flrEnd f := ⟨_, rfl⟩

theorem State.flrEnd_spec (f : Nat) : ((s.flrEnd f).fnSt f).mbState = 0 ∧ ((s.flrEnd f).fnSt f).d3 = false ∧ (s.flrEnd f).regF f 0x1104 3 = 0
    ∧ (s.flrEnd f).regF f 0x1105 3 = 0 ∧ (s.flrEnd f).regF f 0x1102 1 = 0 := by
  have hfn : (s.flrEnd f).fnSt f = { s.fnSt f with
      mbState := 0, answer := none, d3 := false, memSpace := false, busMaster := false, bars := [0, 0, 0], msixTable := zeros 128
      msixPend := 0, fresh := [] } := by
    refine (State.fnSt_congr ?_ f).trans (s.fnSt_setFn_same f _)
    unfold State.flrEnd
    rw [State.setRegF_fns, State.deviceClear_fns, State.deviceClear_fns]
  refine ⟨by rw [hfn], by rw [hfn], ?_, ?_, State.regF_setRegF_same _ _ _ _ _⟩ <;> unfold State.flrEnd
  · rw [State.regF_setRegF_other _ (okey_ne_of_idx (by decide) (by decide) (by decide) (by decide) (by decide)),
      State.regF_deviceClear_other _ (okey_ne_of_idx (by decide) (by decide) (by decide) (by decide) (by decide)) (by decide) (by decide) (by decide),
      State.regF_deviceClear_same _ (by decide) (by decide) (by decide)]
  · rw [State.regF_setRegF_other _ (okey_ne_of_idx (by decide) (by decide) (by decide) (by decide) (by decide)),
      State.regF_deviceClear_same _ (by decide) (by decide) (by decide)]

/-! ### VF Enable -/

/-- The enabling of VF1 to VF`k` by NumVFs `n`. -/
def State.enableUpTo (s : State) (n k : Nat) : State :=
  (List.range k).foldl (fun s v => s.setFn (v + 1) { s.fnSt (v + 1) with enabled := decide (v < n) }) s

theorem State.enableUpTo_succ (n k : Nat) : s.enableUpTo n (k + 1)
    = (s.enableUpTo n k).setFn (k + 1) { (s.enableUpTo n k).fnSt (k + 1) with enabled := decide (k < n) } := by
  rw [State.enableUpTo, List.range_succ, List.foldl_append]
  rfl

theorem State.enableUpTo_link (n k : Nat) : (s.enableUpTo n k).link = s.link := by
  induction k with
  | zero => rfl
  | succ k ih => rw [State.enableUpTo_succ, State.setFn_link, ih]

theorem State.enableUpTo_enabled (n : Nat) {v k : Nat} (h : v < k) : ((s.enableUpTo n k).fnSt (v + 1)).enabled = decide (v < n) := by
  induction k with
  | zero => exact absurd h (Nat.not_lt_zero v)
  | succ k ih =>
    rw [State.enableUpTo_succ]
    rcases Nat.lt_succ_iff_lt_or_eq.mp h with h | rfl
    · rw [State.fnSt_setFn_other _ (by omega), ih h]
    · rw [State.fnSt_setFn_same]

theorem State.enableVfs_of_ne_zero {n : Nat} (h : n ≠ 0) : s.enableVfs n = s.enableUpTo n 8 := if_neg h

/-! ### A hot reset -/

/-- What a hot reset or DL_Down leaves of the state `v` in which every function has been reset (R353, R415). -/
def State.linkReset (v : State) (dlDown : Bool) : State :=
  if dlDown then { v.linkSecOff.startTraining with link := { v.linkSecOff.startTraining.link with again := false, was0 := false, was1 := false } }
  else { (v.linkSecOff.bump 32 0x1100 5 1).startTraining with
    link := { (v.linkSecOff.bump 32 0x1100 5 1).startTraining.link with
      again := true, was0 := v.linkSecOff.link.was0 || v.linkSecOff.modUp 0, was1 := v.linkSecOff.link.was1 || v.linkSecOff.modUp 1 } }

theorem State.startTraining_sec : s.startTraining.sec = s.sec := by
  obtain ⟨d, a, w, h⟩ := s.startTraining_eq
  rw [h]

theorem State.startTraining_dlUp : s.startTraining.link.dlUp = false := by
  obtain ⟨d, a, w, h⟩ := s.startTraining_eq
  rw [h]

theorem State.linkReset_spec (v : State) (dlDown : Bool) : (v.linkReset dlDown).sec.keys = []
    ∧ (v.linkReset dlDown).sec.sessions = [] ∧ (v.linkReset dlDown).reg 0x9001 2 = 0
    ∧ (v.linkReset dlDown).reg 0x1100 1 = 1 ∧ (v.linkReset dlDown).link.dlUp = false
    ∧ (v.linkReset dlDown).link.again = !dlDown := by
  have hide : v.linkSecOff.reg 0x9001 2 = 0 := State.reg_setReg_same _ _ _ _
  have hkeys : v.linkSecOff.sec.keys = [] ∧ v.linkSecOff.sec.sessions = [] := ⟨rfl, rfl⟩
  unfold State.linkReset
  cases dlDown with
  | true =>
    generalize v.linkSecOff = w at hide hkeys
    rw [if_pos rfl]
    refine ⟨?_, ?_, (w.reg_startTraining_other 2 (by decide) (by decide) (by decide)).trans hide, w.reg_startTraining, w.startTraining_dlUp, rfl⟩
    · exact (congrArg _ w.startTraining_sec).trans hkeys.1
    · exact (congrArg _ w.startTraining_sec).trans hkeys.2
  | false =>
    have hide' : (v.linkSecOff.bump 32 0x1100 5 1).reg 0x9001 2 = 0 := (State.reg_bump_other _ (by decide)).trans hide
    have hkeys' : (v.linkSecOff.bump 32 0x1100 5 1).sec.keys = [] ∧ (v.linkSecOff.bump 32 0x1100 5 1).sec.sessions = [] := hkeys
    generalize v.linkSecOff.bump 32 0x1100 5 1 = w at hide' hkeys'
    rw [if_neg Bool.false_ne_true]
    refine ⟨?_, ?_, (w.reg_startTraining_other 2 (by decide) (by decide) (by decide)).trans hide', w.reg_startTraining, w.startTraining_dlUp, rfl⟩
    · exact (congrArg _ w.startTraining_sec).trans hkeys'.1
    · exact (congrArg _ w.startTraining_sec).trans hkeys'.2

/-! ### The rows -/

section

variable {s} (hl : s.live = true)

include hl

theorem exec_configRequest (f : Fn) (r : ConfigReq) : exec (.configRequest t f r) s
    = .next (if s.link.dlUp && (s.fnSt f.val).enabled then (s.at t).configOp f.val r else (s.at t).complete .unsupported) :=
  whileLive_of_live hl t fun v => if v.link.dlUp && (v.fnSt f.val).enabled then v.configOp f.val r else v.complete .unsupported

theorem exec_vfEnable (n : Fin 9) : exec (.vfEnable t n) s
    = .next (if s.link.dlUp then State.enableVfs { s.at t with link := { s.link with numVfs := n.val } } n.val else s.at t) :=
  whileLive_of_live hl t fun v => if v.link.dlUp then State.enableVfs { v with link := { v.link with numVfs := n.val } } n.val else v

theorem exec_d3hotEntry (f : Fn) : exec (.d3hotEntry t f) s
    = .next (if s.link.dlUp && (s.fnSt f.val).enabled then (s.at t).setFn f.val { s.fnSt f.val with d3 := true } else s.at t) :=
  whileLive_of_live hl t fun v => if v.link.dlUp && (v.fnSt f.val).enabled then v.setFn f.val { v.fnSt f.val with d3 := true } else v

theorem exec_flrVf (v : Part) : exec (.flrVf t v) s
    = .next (if s.link.dlUp && (s.fnSt (v.val + 1)).enabled then (s.at t).flr (v.val + 1) else s.at t) :=
  whileLive_of_live hl t fun u => if u.link.dlUp && (u.fnSt (v.val + 1)).enabled then u.flr (v.val + 1) else u

theorem exec_flrPf : exec (.flrPf t) s = .next (if s.link.dlUp then ((s.at t).flr 0).vfsOff.endSessions else s.at t) :=
  whileLive_of_live hl t fun u => if u.link.dlUp then (u.flr 0).vfsOff.endSessions else u

theorem exec_hotReset (d : Bool) : exec (.hotReset t d) s
    = .next (if s.link.dlUp || (d && (s.downDue || s.link.was0 || s.link.was1)) then ((s.at t).flr 0).vfsOff.linkReset d else s.at t) := by
  show execHotReset t d s = _
  unfold execHotReset
  rw [whileLive_of_live hl]
  rfl

end

/-- Settles O51: by the data link layer and by whether the function is enabled. -/
theorem functionsResetAndConfigure : Obligations.FunctionsResetAndConfigure := by
  refine ⟨?_, ?_, ?_, ?_, ?_, ?_, ?_, ?_, ?_, ?_⟩
  · rintro t f r s u rfl hl
    rw [exec_configRequest t hl]
    exact ⟨fun hdl hen => by rw [if_pos (by simp [hdl, hen])], fun h => by rw [if_neg (by rcases h with h | h <;> simp [h])]⟩
  · exact fun s f => ⟨rfl, rfl, rfl, rfl, rfl, rfl, rfl, rfl, rfl⟩
  · intro t n s hl hdl hn
    refine ⟨_, exec_vfEnable t hl n, ?_⟩
    rw [if_pos hdl, State.enableVfs_of_ne_zero _ hn]
    exact ⟨by rw [State.enableUpTo_link], fun v hv => State.enableUpTo_enabled _ n.val hv⟩
  · rintro t s u rfl hl hdl
    rw [exec_vfEnable t hl, if_pos hdl]
    rfl
  · intro t f s hl hdl hen
    refine ⟨_, exec_d3hotEntry t hl f, ?_⟩
    rw [if_pos (by simp [hdl, hen])]
    simp [State.reaches]
  · rintro t v s u rfl hl hdl hen
    rw [exec_flrVf t hl, if_pos (by simp [hdl, hen])]
  · intro s f _
    obtain ⟨v, hv⟩ := s.flr_eq_flrEnd f
    rw [hv]
    exact v.flrEnd_spec f
  · rintro t s u rfl hl hdl
    rw [exec_flrPf t hl, if_pos hdl]
  · intro t d s hl hdl
    refine ⟨_, exec_hotReset t hl d, ?_⟩
    rw [if_pos (by simp [hdl])]
    exact State.linkReset_spec _ d
  · rintro t n v f s u rfl hl hdl
    rw [exec_vfEnable t hl, exec_d3hotEntry t hl, exec_flrVf t hl, exec_flrPf t hl, hdl]
    refine ⟨rfl, rfl, rfl, rfl, fun d hd => ?_⟩
    rw [exec_hotReset t hl, if_neg]
    rcases hd with hd | ⟨hide, h0, h1⟩
    · simp [hdl, hd]
    · simp [hdl, h0, h1, State.downDue, hide]

end Sys2Proof.Machine
end

section
/-! PROOFS. The CAN FD field port and Aedsy (R369, R371, R373–R377). -/

namespace Sys2Proof.Machine

variable {s : State} {t : Nat}

/-! ### The controller's counters -/

theorem State.canCounts_reg (s : State) (tec rec' : Nat) : (s.canCounts tec rec').reg 0x1110 9 = (if 127 < tec ∨ 127 < rec' then 2 else 1)
    ∧ (s.canCounts tec rec').reg 0x1110 10 = tec ∧ (s.canCounts tec rec').reg 0x1110 11 = rec' := by
  unfold State.canCounts
  refine ⟨State.reg_setReg_same _ _ _ _, ?_, ?_⟩
  · rw [State.reg_setReg_other _ (by decide), State.reg_setReg_other _ (by decide), State.reg_setReg_same]
  · rw [State.reg_setReg_other _ (by decide), State.reg_setReg_same]

theorem State.canCounts_reg_other {idx sub : Nat} (s : State) (tec rec' : Nat) (h : okey 0 idx sub ≠ okey 0 0x1110 9)
    (h' : okey 0 idx sub ≠ okey 0 0x1110 10) (h'' : okey 0 idx sub ≠ okey 0 0x1110 11) : (s.canCounts tec rec').reg idx sub = s.reg idx sub := by
  unfold State.canCounts
  rw [State.reg_setReg_other _ h, State.reg_setReg_other _ h'', State.reg_setReg_other _ h']

/-! ### Frames queued and sent -/

theorem State.canQueueOwn_eq (s : State) (f : CanTx) : ∃ q, s.canQueueOwn f = { s with can := { s.can with queue := q } } := by
  unfold State.canQueueOwn
  split
  · dsimp only
    split <;> exact ⟨_, rfl⟩
  · exact ⟨_, rfl⟩

theorem State.canStatus_canSend_eq (s : State) (fs : List CanTx) :
    ∃ q w, s.canStatus.canSend fs = { s with can := { s.can with queue := q, waiting := w } } := by
  obtain ⟨q, h⟩ := s.canQueueOwn_eq { idOff := 5, ty := 4, seg := 0, count := 1, body := s.statusBody }
  exact ⟨_, _, by rw [State.canStatus, h, State.canSend]⟩

/-- A report reaches the field port through its transmit queue alone. -/
theorem ReportsOnly.can {s s' : State} (h : ReportsOnly s s') : s'.can = { s.can with queue := s'.can.queue } := by
  rw [ReportsOnly] at h
  rw [h]

theorem State.raiseEvent_busOffAt (s : State) (code : Nat) (part : Option Nat) (src a b c : Nat) :
    (s.raiseEvent code part src a b c).can.busOffAt = s.can.busOffAt := by
  rw [(s.raiseEvent_reports code part src a b c).can]

theorem State.reg_raiseEvent_can (s : State) {sub code : Nat} {part : Option Nat} {src a b c : Nat} (hs : sub < 256) :
    (s.raiseEvent code part src a b c).reg 0x1110 sub = s.reg 0x1110 sub :=
  s.regF_raiseEvent (by decide) (by decide) (by decide) (by decide) hs

/-- What a pin drives costs at most a draw. -/
theorem State.drives_eq (s : State) (b : List Byte) : ∃ n, (s.drives b).2 = { s with free := n } := by
  unfold State.drives
  dsimp only
  split <;> exact ⟨_, rfl⟩

/-- The first frame `f` of the queue has gone out, with `l` behind it (R371, R374). -/
def State.frameSent (s : State) (f : CanTx) (l : List CanTx) : State :=
  let v := s.setReg 0x1111 5 (s.reg 0x1111 5 + 1)
  let d := v.drives (v.txBytes f)
  let w := { d.2 with can := { v.can with queue := l, lastTx := d.1 } }
  ((w.bump 64 0x1110 14 1).canCounts (w.reg 0x1110 10 - 1) (w.reg 0x1110 11)).canSend []

theorem State.frameSent_reg (s : State) (f : CanTx) (l : List CanTx) : (s.frameSent f l).reg 0x1111 5 = s.reg 0x1111 5 + 1
    ∧ (s.frameSent f l).reg 0x1110 14 = satAdd 64 (s.reg 0x1110 14) 1 ∧ (s.frameSent f l).reg 0x1110 10 = s.reg 0x1110 10 - 1 := by
  have hset : (s.setReg 0x1111 5 (s.reg 0x1111 5 + 1)).reg 0x1111 5 = s.reg 0x1111 5 + 1 := State.reg_setReg_same _ _ _ _
  have hkeep (sub : Nat) (h : okey 0 0x1110 sub ≠ okey 0 0x1111 5) : (s.setReg 0x1111 5 (s.reg 0x1111 5 + 1)).reg 0x1110 sub = s.reg 0x1110 sub :=
    State.reg_setReg_other _ h
  unfold State.frameSent
  generalize s.setReg 0x1111 5 (s.reg 0x1111 5 + 1) = v at hset hkeep
  obtain ⟨n, hn⟩ := v.drives_eq (v.txBytes f)
  dsimp only
  rw [hn]
  refine ⟨?_, ?_, ?_⟩
  · exact (State.canCounts_reg_other _ _ _ (by decide) (by decide) (by decide)).trans ((State.reg_bump_other _ (by decide)).trans hset)
  · refine (State.canCounts_reg_other _ _ _ (by decide) (by decide) (by decide)).trans ((State.reg_bump_same _ _ _ _ _).trans ?_)
    exact congrArg (satAdd 64 · 1) (hkeep 14 (by decide))
  · exact (State.canCounts_reg _ _ _).2.1.trans (congrArg (· - 1) (hkeep 10 (by decide)))

/-! ### A frame past step 1 of R373 -/

section

variable {id : Nat} {ext : Bool} {b key : List Byte}

theorem State.dictRequestOp_foreign (h : byteOf b 1 % 2 ≠ s.reg 0x1111 3) : s.dictRequestOp id ext b = s.bump 32 0x1111 11 1 := by
  unfold State.dictRequestOp
  dsimp only
  rw [if_pos h]
  rfl

theorem State.keySwitchOp_active (h : byteOf b 1 % 2 = s.reg 0x1111 3) : s.keySwitchOp id ext b = s.bump 32 0x1111 11 1 := by
  unfold State.keySwitchOp
  dsimp only
  rw [if_pos h]
  rfl

variable (hk : s.canKey (byteOf b 1 % 2) = some key)

include hk

theorem State.dictRequestOp_keyed (h : byteOf b 1 % 2 = s.reg 0x1111 3) : s.dictRequestOp id ext b
    = if frameMac key id ext b ≠ slice b 56 8 then s.aedsyRefuse stAuthFailed (frameFresh b)
      else if ¬(s.reg 0x1111 4 < frameFresh b ∧ frameFresh b ≤ s.reg 0x1111 4 + 1048576) then s.aedsyRefuse stFreshness (frameFresh b)
      else ((s.setReg 0x1111 4 (frameFresh b)).bump 64 0x1110 13 1).fieldSegment b := by
  unfold State.dictRequestOp
  dsimp only
  rw [if_neg (not_not.mpr h), hk]

/-- The state in which a KEY_SWITCH has made the other slot active, its counters new and the old key erased (R375). -/
def State.switchSlot (s : State) (slot : Nat) : State :=
  { ((s.setReg 0x1111 3 slot).setReg 0x1111 4 1).setReg 0x1111 5 0 with can := { s.can with
    key0 := if slot = 0 then s.can.key0 else none, key1 := if slot = 0 then none else s.can.key1, queue := [], dueRaised := false } }

theorem State.keySwitchOp_keyed (h : byteOf b 1 % 2 ≠ s.reg 0x1111 3) : s.keySwitchOp id ext b
    = if frameMac key id ext b ≠ slice b 56 8 then s.aedsyRefuse stAuthFailed (frameFresh b)
      else if frameFresh b ≠ 1 then s.aedsyRefuse stFreshness (frameFresh b)
      else ((s.switchSlot (byteOf b 1 % 2)).bump 64 0x1110 13 1).canStatus.canSend [] := by
  unfold State.keySwitchOp
  dsimp only
  rw [if_neg h, hk]
  rfl

end

theorem State.reg_switchSlot (s : State) (slot : Nat) : (s.switchSlot slot).reg 0x1111 3 = slot ∧ (s.switchSlot slot).reg 0x1111 4 = 1 := by
  refine ⟨?_, ?_⟩
  · refine (State.reg_setReg_other _ (by decide)).trans ((State.reg_setReg_other _ (by decide)).trans (State.reg_setReg_same _ _ _ _))
  · exact (State.reg_setReg_other _ (by decide)).trans (State.reg_setReg_same _ _ _ _)

theorem State.canKey_switchSlot (s : State) (x : Nat) : (s.switchSlot (x % 2)).canKey (x % 2) = s.canKey (x % 2)
    ∧ (s.switchSlot (x % 2)).canKey (1 - x % 2) = none := by
  rcases Nat.mod_two_eq_zero_or_one x with h | h <;> rw [h] <;> exact ⟨rfl, rfl⟩

/-- A good KEY_SWITCH leaves its slot active with its key, and no key in the other. -/
theorem State.keySwitched (s : State) (x : Nat) (fs : List CanTx) : ∃ s', ((s.switchSlot (x % 2)).bump 64 0x1110 13 1).canStatus.canSend fs = s'
    ∧ s'.reg 0x1111 3 = x % 2 ∧ s'.reg 0x1111 4 = 1 ∧ s'.canKey (x % 2) = s.canKey (x % 2) ∧ s'.canKey (1 - x % 2) = none := by
  obtain ⟨q, w, h⟩ := ((s.switchSlot (x % 2)).bump 64 0x1110 13 1).canStatus_canSend_eq fs
  obtain ⟨h3, h4⟩ := s.reg_switchSlot (x % 2)
  obtain ⟨hk, hk'⟩ := s.canKey_switchSlot x
  exact ⟨_, h, (State.reg_bump_other _ (by decide)).trans h3, (State.reg_bump_other _ (by decide)).trans h4, hk, hk'⟩

/-! ### Bus-off (R371) -/

/-- The controller bus-off with the error counter `tec`. -/
def State.busOff (s : State) (tec : Nat) : State :=
  let v := (((s.setReg 0x1110 10 (min tec 255)).setReg 0x1110 9 3).bump 32 0x1110 12 1).raiseEvent 0x60 none 0 tec 0 0
  { v with can := { v.can with busOffAt := some v.now, recovering := false } }

theorem State.busOff_spec (s : State) (tec : Nat) : (s.busOff tec).reg 0x1110 9 = 3
    ∧ (s.busOff tec).reg 0x1110 12 = satAdd 32 (s.reg 0x1110 12) 1 ∧ (s.busOff tec).can.busOffAt = some s.now := by
  refine ⟨?_, ?_, congrArg some (State.raiseEvent_now _ _ _ _ _ _ _)⟩
  · refine (State.reg_raiseEvent_can _ (by decide)).trans ?_
    rw [State.reg_bump_other _ (by decide), State.reg_setReg_same]
  · refine (State.reg_raiseEvent_can _ (by decide)).trans ?_
    rw [State.reg_bump_same, State.reg_setReg_other _ (by decide), State.reg_setReg_other _ (by decide)]

/-- The controller error active again after its recovery. -/
def State.recovered (s : State) : State :=
  let v := State.canCounts { s with can := { s.can with busOffAt := none, recovering := false } } 0 0
  v.raiseEvent 0x61 none 0 (v.reg 0x1110 12) 0 0

theorem State.recovered_spec (s : State) : s.recovered.reg 0x1110 9 = 1 ∧ s.recovered.reg 0x1110 10 = 0 ∧ s.recovered.reg 0x1110 11 = 0
    ∧ s.recovered.can.busOffAt = none := by
  obtain ⟨h9, h10, h11⟩ := State.canCounts_reg { s with can := { s.can with busOffAt := none, recovering := false } } 0 0
  exact ⟨(State.reg_raiseEvent_can _ (by decide)).trans h9, (State.reg_raiseEvent_can _ (by decide)).trans h10,
    (State.reg_raiseEvent_can _ (by decide)).trans h11, State.raiseEvent_busOffAt _ _ _ _ _ _ _⟩

/-! ### A frame from the bus -/

section

variable {id : BitVec 29} {ext : Bool} {b : List Byte} (hc : s.canOn = true)

include hc

theorem State.canFrame_other (h : s.canReceived.aedsyId id ext = none) : s.canFrame id ext b = s.canReceived := by
  unfold State.canFrame
  rw [if_neg (by simp [hc])]
  dsimp only
  rw [h]

theorem State.canFrame_dropped {k : Nat} (h : s.canReceived.aedsyId id ext = some k)
    (hd : s.canReceived.canKeyed = false ∨ aedsyForm k b = false) : s.canFrame id ext b = s.canReceived.bump 32 0x1111 11 1 := by
  unfold State.canFrame
  rw [if_neg (by simp [hc])]
  dsimp only
  rw [h]
  dsimp only
  rw [if_pos hd]
  rfl

theorem State.canFrame_formed {k : Nat} (h : s.canReceived.aedsyId id ext = some k) (hkey : s.canReceived.canKeyed = true)
    (hform : aedsyForm k b = true) : s.canFrame id ext b
      = if k = 3 then s.canReceived.keySwitchOp id.toNat ext b else s.canReceived.dictRequestOp id.toNat ext b := by
  unfold State.canFrame
  rw [if_neg (by simp [hc])]
  dsimp only
  rw [h]
  dsimp only
  rw [if_neg (by simp [hkey, hform])]

/-- A frame is dropped and counted at the form checks, and where its slot is the wrong one. -/
theorem State.canFrame_refused {k : Nat} {P : Prop} (h : s.canReceived.aedsyId id ext = some k)
    (hd : s.canReceived.canKeyed = false ∨ aedsyForm k b = false ∨ P)
    (hP : P → (if k = 3 then s.canReceived.keySwitchOp id.toNat ext b else s.canReceived.dictRequestOp id.toNat ext b)
      = s.canReceived.bump 32 0x1111 11 1) : s.canFrame id ext b = s.canReceived.bump 32 0x1111 11 1 := by
  by_cases hform : s.canReceived.canKeyed = false ∨ aedsyForm k b = false
  · exact State.canFrame_dropped hc h hform
  · obtain ⟨hkeyed, hf⟩ := not_or.mp hform
    rw [State.canFrame_formed hc h (Bool.of_not_eq_false hkeyed) (Bool.of_not_eq_false hf)]
    exact hP ((hd.resolve_left hkeyed).resolve_left hf)

end

theorem State.canFrame_off {id : BitVec 29} {ext : Bool} {b : List Byte} (hc : s.canOn = false) : s.canFrame id ext b = s := by
  unfold State.canFrame
  rw [if_pos hc]

/-! ### The rows -/

section

variable (hl : s.live = true)

include hl

theorem exec_dictRequest (id : BitVec 29) (ext : Bool) (b : List Byte) : exec (.dictRequest t id ext b) s = .next ((s.at t).canFrame id ext b) :=
  whileLive_of_live hl t fun v => v.canFrame id ext b

theorem exec_keySwitch (id : BitVec 29) (ext : Bool) (b : List Byte) : exec (.keySwitch t id ext b) s = .next ((s.at t).canFrame id ext b) :=
  whileLive_of_live hl t fun v => v.canFrame id ext b

theorem exec_canFrameIgnored (id : BitVec 29) (ext : Bool) : exec (.canFrameIgnored t id ext) s
    = .next (if s.canOn && ((s.at t).aedsyId id ext).isNone then (s.at t).canReceived else s.at t) :=
  whileLive_of_live hl t fun v => if v.canOn && (v.aedsyId id ext).isNone then v.canReceived else v

theorem exec_aedsyPartialTimeout {m : CanPartial} (hm : s.can.msg = some m) : exec (.aedsyPartialTimeout t) s
    = .next (if m.lastAt + msCycles 100 ≤ max s.now t then { s.at t with can := { s.can with msg := none } } else s.at t) := by
  show execAedsyPartialTimeout t s = _
  unfold execAedsyPartialTimeout
  rw [whileLive_of_live hl]
  simp only [show (s.at t).can.msg = some m from hm]
  rfl

theorem exec_aedsyRekeyDue : exec (.aedsyRekeyDue t) s = .next (if s.canKeyed && s.rekeyDue && !s.can.dueRaised then
    State.raiseEvent { s.at t with can := { s.can with dueRaised := true } } 0x63 none 0 (s.reg 0x1111 4) (s.reg 0x1111 5) 0 else s.at t) :=
  whileLive_of_live hl t fun v => if v.canKeyed && v.rekeyDue && !v.can.dueRaised then
    State.raiseEvent { v with can := { v.can with dueRaised := true } } 0x63 none 0 (v.reg 0x1111 4) (v.reg 0x1111 5) 0 else v

theorem exec_aedsyFreshLimit : exec (.aedsyFreshLimit t) s = .next (State.canSend { s.at t with can := { s.can with
    queue := s.can.queue.filter (canMaySend (s.reg 0x1111 5)), waiting := s.can.waiting.filter (canMaySend (s.reg 0x1111 5)) } } []) := by
  show execAedsyFreshLimit t s = _
  unfold execAedsyFreshLimit
  rw [whileLive_of_live hl]
  rfl

theorem exec_aedsyStatusFrame : exec (.aedsyStatusFrame t) s
    = .next (if s.reg 0x1111 8 ≠ 0 ∧ s.tickCount % s.reg 0x1111 8 = 0 ∧ s.can.statusAt < s.tickCount
      then State.canStatus { s.at t with can := { s.can with statusAt := s.tickCount } } else s.at t) := by
  show execAedsyStatusFrame t s = _
  unfold execAedsyStatusFrame
  rw [whileLive_of_live hl]
  rfl

theorem exec_canTxComplete_sent {f : CanTx} {l : List CanTx} (hq : s.can.queue = f :: l) (hc : s.canOn = true) (hk : s.canKeyed = true)
    (hf : canMaySend (s.reg 0x1111 5) f = true) : exec (.canTxComplete t) s = .next ((s.at t).frameSent f l) := by
  show execCanTxComplete t s = _
  unfold execCanTxComplete
  rw [whileLive_of_live hl]
  dsimp only
  split
  next hn => exact absurd (hn.symm.trans hq).symm (List.cons_ne_nil f l)
  next g gs hg =>
    cases hg.symm.trans hq
    exact congrArg _ (if_pos (by simpa using ⟨⟨hc, hk⟩, hf⟩))

theorem exec_canTxComplete_kept (h : s.can.queue = [] ∨ s.canOn = false ∨ s.canKeyed = false) : exec (.canTxComplete t) s = .next (s.at t) := by
  show execCanTxComplete t s = _
  unfold execCanTxComplete
  rw [whileLive_of_live hl]
  cases hq : (s.at t).can.queue with
  | nil => rfl
  | cons f l =>
    have hoff : s.canOn = false ∨ s.canKeyed = false := h.resolve_left fun h => List.cons_ne_nil f l (hq.symm.trans h)
    dsimp only
    rw [if_neg]
    rw [show (s.at t).canOn = s.canOn from rfl, show (s.at t).canKeyed = s.canKeyed from rfl]
    rcases hoff with h | h <;> simp [h]

theorem exec_canBusOff (tec : Nat) : exec (.canBusOff t tec) s = .next (if s.canOn then (s.at t).busOff tec else s.at t) := by
  show execCanBusOff t tec s = _
  unfold execCanBusOff
  rw [whileLive_of_live hl]
  rfl

theorem exec_busoffDelayExpiry_due {k : Nat} (hb : s.can.busOffAt = some k) (h3 : s.reg 0x1110 9 = 3)
    (hk : k + msCycles (s.reg 0x1110 8) ≤ max s.now t) :
    exec (.busoffDelayExpiry t) s = .next (State.setReg { s.at t with can := { s.can with recovering := true } } 0x1110 9 4) := by
  show execBusoffDelayExpiry t s = _
  unfold execBusoffDelayExpiry
  rw [whileLive_of_live hl]
  dsimp only
  split
  next c hc =>
    cases hc.symm.trans hb
    exact congrArg _ (if_pos ⟨h3, hk⟩)
  next hc => cases hc.symm.trans hb

theorem exec_busoffDelayExpiry_kept (h3 : s.reg 0x1110 9 ≠ 3) : exec (.busoffDelayExpiry t) s = .next (s.at t) := by
  show execBusoffDelayExpiry t s = _
  unfold execBusoffDelayExpiry
  rw [whileLive_of_live hl]
  cases (s.at t).can.busOffAt with
  | none => rfl
  | some k =>
    dsimp only
    rw [if_neg fun h => h3 h.1]

theorem exec_canRecovered : exec (.canRecovered t) s = .next (if s.reg 0x1110 9 = 4 then (s.at t).recovered else s.at t) := by
  show execCanRecovered t s = _
  unfold execCanRecovered
  rw [whileLive_of_live hl]
  rfl

theorem exec_canErrorPassive (e : CanErrors) : exec (.canErrorPassive t e) s
    = .next (if s.canOn && decide (e.tecCount ≤ 255) && decide (e.recCount ≤ 255) then (s.at t).canCounts e.tecCount e.recCount else s.at t) :=
  whileLive_of_live hl t fun v => if v.canOn && decide (e.tecCount ≤ 255) && decide (e.recCount ≤ 255) then v.canCounts e.tecCount e.recCount else v

end

/-- Settles O55: by the row, and for a frame by the checks of R373 in their order. -/
theorem fieldPortTakesAuthenticFramesAndKeepsItsTimers : Obligations.FieldPortTakesAuthenticFramesAndKeepsItsTimers := by
  refine ⟨?_, ?_, ?_, ?_, ?_, ?_, ?_, ?_, ?_, ?_, ?_, ?_, ?_⟩
  · rintro t id ext b key s v hl hc rfl hid hkeyed hform hslot hkey
    rw [exec_dictRequest hl, State.canFrame_formed (s := s.at t) hc hid hkeyed hform, if_neg (by decide), State.dictRequestOp_keyed hkey hslot]
    refine ⟨fun hmac hlo hhi => ?_, fun hmac => ?_, fun hmac hfresh => ?_⟩
    · rw [if_neg (not_not.mpr hmac), if_neg (not_not.mpr ⟨hlo, hhi⟩)]
    · rw [if_pos hmac]
    · rw [if_neg (not_not.mpr hmac), if_pos (by omega)]
  · rintro t id ext b key s v hl hc rfl hid hkeyed hform hslot hkey
    rw [exec_keySwitch hl, State.canFrame_formed (s := s.at t) hc hid hkeyed hform, if_pos rfl, State.keySwitchOp_keyed hkey hslot]
    refine ⟨fun hmac hfresh => ?_, fun hmac => ?_, fun hmac hfresh => ?_⟩
    · rw [if_neg (not_not.mpr hmac), if_neg (not_not.mpr hfresh)]
      obtain ⟨s', hs', h3, h4, hnew, hold⟩ := (s.at t).canReceived.keySwitched (byteOf b 1) []
      exact ⟨s', congrArg _ hs', h3, h4, hnew.trans hkey, hold⟩
    · rw [if_pos hmac]
    · rw [if_neg (not_not.mpr hmac), if_pos hfresh]
  · rintro t id ext b s v hl hc rfl
    rw [exec_dictRequest hl, exec_keySwitch hl]
    refine ⟨fun hid hd => congrArg _ ?_, fun hid hd => congrArg _ ?_, fun hid => ?_⟩
    · exact State.canFrame_refused hc hid hd State.dictRequestOp_foreign
    · exact State.canFrame_refused hc hid hd State.keySwitchOp_active
    · rw [State.canFrame_other (s := s.at t) hc hid]
      exact ⟨rfl, rfl⟩
  · rintro t id ext b s u rfl hl
    rw [exec_canFrameIgnored hl, exec_dictRequest hl, exec_keySwitch hl]
    refine ⟨fun hc hid => by rw [if_pos (by simp [hc, hid])], fun hc => ?_⟩
    rw [State.canFrame_off (s := s.at t) hc, if_neg (by simp [hc])]
    exact ⟨rfl, rfl, rfl⟩
  · rintro t m s u rfl hl hm
    exact exec_aedsyPartialTimeout hl hm
  · rintro t s u rfl hl
    refine ⟨fun hk hd hr => ?_, fun h => ?_, exec_aedsyFreshLimit hl, exec_aedsyStatusFrame hl⟩
    · rw [exec_aedsyRekeyDue hl, if_pos (by simp [hk, hd, hr])]
    · rw [exec_aedsyRekeyDue hl, if_neg (by rcases h with h | h | h <;> simp [h])]
  · intro t f l s hl hq hc hk hf
    exact ⟨_, exec_canTxComplete_sent hl hq hc hk hf, (s.at t).frameSent_reg f l⟩
  · intro t s hl h
    exact exec_canTxComplete_kept hl h
  · intro t tec s hl hc
    refine ⟨_, exec_canBusOff hl tec, ?_⟩
    rw [if_pos hc]
    exact (s.at t).busOff_spec tec
  · intro t k s hl hb h3 hk
    exact ⟨_, exec_busoffDelayExpiry_due hl hb h3 hk, State.reg_setReg_same _ _ _ _, rfl⟩
  · intro t s hl h4
    refine ⟨_, exec_canRecovered hl, ?_⟩
    rw [if_pos h4]
    exact (s.at t).recovered_spec
  · rintro t tec s u rfl hl
    refine ⟨fun hc => ?_, exec_busoffDelayExpiry_kept hl, fun h4 => ?_⟩
    · rw [exec_canBusOff hl, if_neg (by simp [hc])]
    · rw [exec_canRecovered hl, if_neg h4]
  · intro t e s hl hc ht hr
    refine ⟨_, exec_canErrorPassive hl e, ?_⟩
    rw [if_pos (by simp [hc, ht, hr])]
    obtain ⟨h9, h10, h11⟩ := (s.at t).canCounts_reg e.tecCount e.recCount
    exact ⟨h10, h11, h9⟩

end Sys2Proof.Machine
end

section
/-! PROOFS. AVSBus, the service window, a rail out of range (R458, R466–R469). -/

namespace Sys2Proof.Machine

variable {s : State} {t : Nat}

/-! ### Requests on AVSBus -/

theorem State.avsLate_of (h : s.avs.sentAt + 10000 ≤ s.now) : s.avsLate = true := decide_eq_true h

theorem State.not_avsLate_of (h : s.now < s.avs.sentAt + 10000) : s.avsLate = false := decide_eq_false (Nat.not_le.mpr h)

theorem State.avsFail_first (h : s.avs.second = false) :
    s.avsFail = State.bump { s with avs := { s.avs with second := true, sentAt := s.now } } 64 0x2070 7 1 := by
  unfold State.avsFail
  rw [if_neg (by simp [h])]

/-- The next request in order is on the bus, and nothing else of the requests moves. -/
theorem State.avsNext_spec (s : State) : s.avsNext.avs.flight = s.avs.queue.head?.map (fun v => v.1) ∧ s.avsNext.avs.hold = s.avs.hold
    ∧ s.avsNext.reg 0x2070 6 = s.reg 0x2070 6 := by
  unfold State.avsNext
  cases h : s.avs.queue with
  | nil => exact ⟨rfl, rfl, rfl⟩
  | cons v vs => exact ⟨rfl, rfl, State.reg_bump_other _ (by decide)⟩

/-- The state in which a request has failed for the second time, before what waits is sent (R469). -/
def State.avsGivenUp (s : State) : State :=
  ((s.draw.2.bump 32 0x2070 6 1).setReg 0x8030 6 (s.reg 0x2070 1)).logAdd 1 0 none (Config.freeNat s.draw.1 % 65536) []

theorem State.avsGivenUp_spec (s : State) : s.avsGivenUp.avs = s.avs ∧ s.avsGivenUp.tickCount = s.tickCount
    ∧ s.avsGivenUp.reg 0x2070 6 = satAdd 32 (s.reg 0x2070 6) 1 := by
  unfold State.avsGivenUp
  refine ⟨State.logAdd_avs _ _ _ _ _ _, ?_, ?_⟩
  · refine (State.regF_logAdd _ (by decide) (by decide) (by decide)).trans ?_
    exact (State.reg_setReg_other _ (by decide)).trans (State.reg_bump_other _ (by decide))
  · refine (State.regF_logAdd _ (by decide) (by decide) (by decide)).trans ?_
    exact (State.reg_setReg_other _ (by decide)).trans (State.reg_bump_same _ _ _ _ _)

theorem State.avsFail_second (h : s.avs.second = true) : s.avsFail = State.avsNext { s.avsGivenUp with
    avs := { s.avsGivenUp.avs with queue := s.avsGivenUp.avs.queue.filter (fun v => v.2), hold := some s.avsGivenUp.tickCount } } := by
  unfold State.avsFail
  rw [if_pos h]
  rfl

theorem State.avsFail_second_spec (h : s.avs.second = true) : s.avsFail.avs.hold = some s.tickCount
    ∧ s.avsFail.avs.flight = ((s.avs.queue.filter (fun v => v.2)).head?.map (fun v => v.1))
    ∧ s.avsFail.reg 0x2070 6 = satAdd 32 (s.reg 0x2070 6) 1 := by
  rw [State.avsFail_second h]
  obtain ⟨havs, htick, hcount⟩ := s.avsGivenUp_spec
  generalize s.avsGivenUp = v at havs htick hcount
  obtain ⟨hflight, hhold, hreg⟩ := State.avsNext_spec
    { v with avs := { v.avs with queue := v.avs.queue.filter (fun v => v.2), hold := some v.tickCount } }
  exact ⟨hhold.trans (congrArg some htick), hflight.trans (by rw [← havs]), hreg.trans hcount⟩

/-! ### The service window -/

/-- Is a service window due: PMC runs, an edge has been, and a window is asked for or OD 8030.01's (R458)? -/
def State.windowDue (s : State) : Bool := decide (s.proc 1 = 1) && s.tick.lastEdge.isSome
  && (s.avs.asked.any (fun k => decide (k < s.tickCount))
    || (decide (s.reg 0x8030 1 ≠ 0) && decide (0 < s.tickCount) && decide (s.tickCount % s.reg 0x8030 1 = 0)
      && decide (s.reg 0x8030 7 ≠ s.tickCount)))

theorem State.windowDue_iff : s.windowDue = true ↔ s.proc 1 = 1 ∧ s.tick.lastEdge.isSome = true
    ∧ ((∃ k, s.avs.asked = some k ∧ k < s.tickCount)
      ∨ (s.reg 0x8030 1 ≠ 0 ∧ 0 < s.tickCount ∧ s.tickCount % s.reg 0x8030 1 = 0 ∧ s.reg 0x8030 7 ≠ s.tickCount)) := by
  simp [State.windowDue, Option.any_eq_true, and_assoc]

/-- The target of a re-plan: the highest of the units' needs (R458). -/
def State.replanGoal (s : State) : Nat := (s.avs.proj.map s.needOf).foldl max 650

theorem State.reg_marginEvent (s : State) {idx sub : Nat} (u action target : Nat) (h : idx ≠ 0x1104) (h' : idx ≠ 0x1111) (h'' : idx ≠ 0x2054)
    (hi : idx < 65536) (hs : sub < 256) : (s.marginEvent u action target).reg idx sub = s.reg idx sub :=
  s.regF_raiseEvent h h' h'' hi hs

theorem State.marginEvent_avs (s : State) (u action target : Nat) : (s.marginEvent u action target).avs = s.avs :=
  State.raiseEvent_avs _ _ _ _ _ _ _

/-- The smallest readings begin anew. -/
def State.clearSmallest (s : State) (l : List (Nat × Int)) : State := l.foldl (fun s e => s.setReg (0x8100 + e.1) 2 0) s

theorem State.clearSmallest_avs (l : List (Nat × Int)) : ∀ s : State, (s.clearSmallest l).avs = s.avs := by
  induction l with
  | nil => exact fun _ => rfl
  | cons e l ih => exact fun s => ih _

theorem State.reg_clearSmallest {idx sub : Nat} (h : sub ≠ 2) (hs : sub < 256) (l : List (Nat × Int)) :
    ∀ s : State, (s.clearSmallest l).reg idx sub = s.reg idx sub := by
  induction l with
  | nil => exact fun _ => rfl
  | cons e l ih => exact fun s => (ih _).trans (State.reg_setReg_other _ (okey_ne_of_sub_mod h hs (by decide)))

/-- The state that a re-plan takes its goal in: the event, the smallest readings and the tick of the last window (R458). -/
def State.windowed (s : State) : State :=
  let u := (smallest ((s.avs.proj.filter (fun e => s.unitServes e.1)).map (fun e => (e.1, (s.reg (0x8100 + e.1) 2 : Int))))).getD 0
  let v := (s.marginEvent u 0 s.replanGoal).clearSmallest (s.marginEvent u 0 s.replanGoal).avs.proj
  v.setReg 0x8030 7 v.tickCount

theorem State.windowed_spec (s : State) : s.windowed.avs = s.avs ∧ s.windowed.avsTarget = s.avsTarget
    ∧ s.windowed.reg 0x8030 7 = s.tickCount := by
  unfold State.windowed
  dsimp only
  generalize (smallest ((s.avs.proj.filter (fun e => s.unitServes e.1)).map (fun e => (e.1, (s.reg (0x8100 + e.1) 2 : Int))))).getD 0 = u
  have havs := s.marginEvent_avs u 0 s.replanGoal
  have hreg {idx sub : Nat} (h : idx ≠ 0x1104) (h' : idx ≠ 0x1111) (h'' : idx ≠ 0x2054) (hi : idx < 65536) (hs : sub < 256) :=
    s.reg_marginEvent (idx := idx) (sub := sub) u 0 s.replanGoal h h' h'' hi hs
  generalize s.marginEvent u 0 s.replanGoal = v at havs hreg
  have hclear : (v.clearSmallest v.avs.proj).avs = s.avs := (State.clearSmallest_avs _ v).trans havs
  have htick : (v.clearSmallest v.avs.proj).tickCount = s.tickCount :=
    (State.reg_clearSmallest (by decide) (by decide) _ v).trans (hreg (by decide) (by decide) (by decide) (by decide) (by decide))
  have hgoal : (v.clearSmallest v.avs.proj).reg 0x8030 6 = s.reg 0x8030 6 :=
    (State.reg_clearSmallest (by decide) (by decide) _ v).trans (hreg (by decide) (by decide) (by decide) (by decide) (by decide))
  generalize v.clearSmallest v.avs.proj = w at hclear htick hgoal
  have hset : (w.setReg 0x8030 7 w.tickCount).avs = s.avs := hclear
  refine ⟨hset, ?_, (State.reg_setReg_same _ _ _ _).trans htick⟩
  simp only [State.avsTarget, hset, State.reg_setReg_other _ (show okey 0 0x8030 6 ≠ okey 0 0x8030 7 by decide), hgoal]

/-- A re-plan at the goal `goal`: a rise under way completes first (R458). -/
def State.replan (s : State) (goal : Nat) : State :=
  let rising := s.avs.goal.filter (fun g => decide (s.avsTarget < g) && decide (goal < g))
  { s with avs := { s.avs with goal := some (rising.getD goal), next := rising.map (fun _ => goal), proj := [], asked := none } }

theorem State.replan_leaves (s : State) (goal : Nat) : (∀ idx sub, (s.replan goal).reg idx sub = s.reg idx sub)
    ∧ (s.replan goal).avs.asked = none ∧ (s.replan goal).avs.proj = [] := ⟨fun _ _ => rfl, rfl, rfl⟩

theorem State.replan_none (goal : Nat) (h : s.avs.goal = none) : (s.replan goal).avs.goal = some goal ∧ (s.replan goal).avs.next = none := by
  simp [State.replan, h]

theorem State.replan_rising {goal g : Nat} (h : s.avs.goal = some g) (hg : s.avsTarget < g) (hgoal : goal < g) :
    (s.replan goal).avs.goal = some g ∧ (s.replan goal).avs.next = some goal := by
  simp [State.replan, h, Option.filter, hg, hgoal]

theorem State.replan_reached {goal g : Nat} (h : s.avs.goal = some g) (hg : g ≤ s.avsTarget ∨ g ≤ goal) :
    (s.replan goal).avs.goal = some goal ∧ (s.replan goal).avs.next = none := by
  have hno : ¬(s.avsTarget < g ∧ goal < g) := by omega
  simp [State.replan, h, Option.filter, hno]

/-! ### The rows -/

section

variable (hl : s.live = true)

include hl

section

variable (hp : s.proc 1 = 1)

include hp

theorem exec_avsResponse_status (a : AvsReply) (hst : s.avs.status = true) : exec (.avsResponse t a) s
    = .next (if a.crcOk && a.alert && !(s.at t).avsLate then (s.at t).avsStatus true else (s.at t).avsStatus false) := by
  show execAvsResponse t a s = _
  unfold execAvsResponse
  rw [whileLive_of_live hl]
  dsimp only
  have hp' : (s.at t).proc 1 = 1 := hp
  have hst' : (s.at t).avs.status = true := hst
  rw [if_neg (not_not.mpr hp'), if_pos hst']

section

variable (hst : s.avs.status = false)

include hst

theorem exec_avsResponse_taken {v : Nat} (a : AvsReply) (hf : s.avs.flight = some v) : exec (.avsResponse t a) s
    = .next (if a.crcOk = false ∨ (s.at t).avsLate = true then (s.at t).avsFail
      else if a.readback ≤ v + 10 ∧ v ≤ a.readback + 10 then
        (if a.alert then State.avsStatus { ((s.at t).setReg 0x2070 1 a.readback).setReg 0x8030 6 v with
          avs := { s.avs with flight := none, second := false } } true
        else (((s.at t).setReg 0x2070 1 a.readback).setReg 0x8030 6 v).avsNext)
      else if a.alert then ((s.at t).setReg 0x2070 1 a.readback).avsFail.avsStatus true
      else ((s.at t).setReg 0x2070 1 a.readback).avsFail) := by
  show execAvsResponse t a s = _
  unfold execAvsResponse
  rw [whileLive_of_live hl]
  dsimp only
  have hp' : (s.at t).proc 1 = 1 := hp
  have hst' : (s.at t).avs.status = false := hst
  rw [if_neg (not_not.mpr hp'), if_neg (Bool.eq_false_iff.mp hst')]
  split
  next hn => cases hn.symm.trans hf
  next w hw =>
    cases hw.symm.trans hf
    simp only [Bool.and_eq_true, decide_eq_true_eq]
    rfl

theorem exec_avsResponse_idle (a : AvsReply) (hf : s.avs.flight = none) : exec (.avsResponse t a) s = .next (s.at t) := by
  show execAvsResponse t a s = _
  unfold execAvsResponse
  rw [whileLive_of_live hl]
  dsimp only
  have hp' : (s.at t).proc 1 = 1 := hp
  have hst' : (s.at t).avs.status = false := hst
  rw [if_neg (not_not.mpr hp'), if_neg (Bool.eq_false_iff.mp hst')]
  split
  next => rfl
  next w hw => cases hw.symm.trans hf

end

end

theorem exec_avsResponse_off (a : AvsReply) (hp : s.proc 1 ≠ 1) : exec (.avsResponse t a) s = .next (s.at t) := by
  show execAvsResponse t a s = _
  unfold execAvsResponse
  rw [whileLive_of_live hl]
  dsimp only
  exact congrArg _ (if_pos hp)

theorem exec_avsTimeout : exec (.avsTimeout t) s
    = .next (if s.proc 1 ≠ 1 ∨ (s.at t).avsLate = false then s.at t
      else if s.avs.status then (s.at t).avsStatus false
      else if s.avs.flight.isSome then (s.at t).avsFail
      else s.at t) :=
  whileLive_of_live hl t fun v => if v.proc 1 ≠ 1 ∨ v.avsLate = false then v
    else if v.avs.status then v.avsStatus false
    else if v.avs.flight.isSome then v.avsFail
    else v

theorem exec_avsHoldExpiry {k : Nat} (hk : s.avs.hold = some k) : exec (.avsHoldExpiry t) s
    = .next (if k + 100 ≤ s.tickCount then { s.at t with avs := { s.avs with hold := none } } else s.at t) := by
  show execAvsHoldExpiry t s = _
  unfold execAvsHoldExpiry
  rw [whileLive_of_live hl]
  dsimp only
  split
  next c hc =>
    cases hc.symm.trans hk
    rfl
  next hc => cases hc.symm.trans hk

/-- Where a window is due the re-plan is made, and where none is nothing is (R458). -/
theorem exec_serviceWindow : exec (.serviceWindow t) s
    = .next (if s.windowDue then (s.at t).windowed.replan s.replanGoal else s.at t) := by
  show execServiceWindow t s = _
  unfold execServiceWindow
  rw [whileLive_of_live hl]
  unfold State.replan State.windowed State.clearSmallest State.replanGoal
  dsimp only
  refine congrArg _ (ite_congr (propext ?_) (fun _ => rfl) (fun _ => rfl))
  refine Iff.trans (and_congr Iff.rfl (and_congr Iff.rfl (Bool.or_eq_true_iff.trans (or_congr ?_ ?_)))) State.windowDue_iff.symm
  · cases (s.at t).avs.asked <;> simp
  · simp only [Bool.and_eq_true, decide_eq_true_eq, and_assoc]

end

/-- Settles O59: by what is on the bus and what comes of it, and by whether a window is due. -/
theorem voltageRequestsAreConfirmed : Obligations.VoltageRequestsAreConfirmed := by
  refine ⟨?_, ?_, ?_, ?_, fun s => State.avsFail_first, fun s => State.avsFail_second_spec, ?_, ?_, ?_, ?_⟩
  · rintro t v a s u rfl hl hf hp hst hin
    have hlate : (s.at t).avsLate = false := State.not_avsLate_of hin
    rw [exec_avsResponse_taken hl hp hst a hf, exec_avsTimeout hl, hlate]
    refine ⟨fun hcrc hal hlo hhi => ?_, fun hcrc hal hlo hhi => ⟨_, rfl, ?_⟩, fun hcrc => ?_, fun hcrc hal hoff => ?_, fun hcrc hal hoff => ?_, ?_⟩
    · rw [if_neg (by simp [hcrc]), if_pos ⟨hlo, hhi⟩, if_neg (by simp [hal])]
    · rw [if_neg (by simp [hcrc]), if_pos ⟨hlo, hhi⟩, if_pos hal]
      refine ⟨?_, State.reg_setReg_same _ _ _ _, rfl, rfl, rfl⟩
      exact (State.reg_setReg_other _ (by decide)).trans (State.reg_setReg_same _ _ _ _)
    · rw [if_pos (.inl hcrc)]
    · rw [if_neg (by simp [hcrc]), if_neg (by omega), if_neg (by simp [hal])]
    · rw [if_neg (by simp [hcrc]), if_neg (by omega), if_pos hal]
    · rw [if_pos (.inr rfl)]
  · rintro t v a s u rfl hl hf hp hst hover
    have hlate : (s.at t).avsLate = true := State.avsLate_of hover
    rw [exec_avsResponse_taken hl hp hst a hf, exec_avsTimeout hl, hlate]
    exact ⟨by rw [if_pos (.inr rfl)], by rw [if_neg (by simp [hp]), if_neg (by simp [hst]), if_pos (by simp [hf])]⟩
  · rintro t a s u rfl hl hp hst
    rw [exec_avsResponse_status hl hp a hst, exec_avsTimeout hl]
    refine ⟨fun hin => ?_, fun hover => ?_⟩
    · rw [State.not_avsLate_of (s := s.at t) hin, if_pos (.inr rfl)]
      refine ⟨rfl, ?_⟩
      cases a.crcOk && a.alert <;> rfl
    · rw [State.avsLate_of (s := s.at t) hover, if_neg (by simp [hp]), if_pos hst, if_neg (by simp)]
      exact ⟨rfl, rfl⟩
  · rintro t a s u rfl hl h
    by_cases hp : s.proc 1 = 1
    · obtain ⟨hf, hst⟩ := h.resolve_right (not_not.mpr hp)
      refine ⟨exec_avsResponse_idle hl hp hst a hf, ?_⟩
      rw [exec_avsTimeout hl, hst, hf]
      exact congrArg _ (ite_self _)
    · exact ⟨exec_avsResponse_off hl a hp, by rw [exec_avsTimeout hl, if_pos (.inl hp)]⟩
  · rintro t k s u rfl hl hk
    exact exec_avsHoldExpiry hl hk
  · intro t s hl hp he hdue
    refine ⟨_, exec_serviceWindow hl, ?_⟩
    rw [if_pos]
    · obtain ⟨havs, htarget, htick⟩ := (s.at t).windowed_spec
      have hgoal : (s.at t).windowed.avs.goal = s.avs.goal := congrArg _ havs
      have htarget' : (s.at t).windowed.avsTarget = s.avsTarget := htarget
      generalize (s.at t).windowed = w at htick hgoal htarget'
      obtain ⟨hreg, hasked, hproj⟩ := w.replan_leaves s.replanGoal
      refine ⟨(hreg _ _).trans htick, hasked, hproj, fun h => State.replan_none _ (hgoal.trans h), fun g h hg hlt => ?_, fun g h hg => ?_⟩
      · exact State.replan_rising (hgoal.trans h) (htarget'.trans_lt hg) hlt
      · exact State.replan_reached (hgoal.trans h) (by rwa [htarget'])
    · exact State.windowDue_iff.mpr ⟨hp, he, hdue⟩
  · intro t s hl h
    rw [exec_serviceWindow hl, if_neg]
    intro hwin
    obtain ⟨hp, he, hdue⟩ := State.windowDue_iff.mp hwin
    rcases h with h | h | ⟨ha, hn⟩
    · exact h hp
    · simp [h] at he
    · obtain ⟨k, hk, -⟩ | ⟨h1, -⟩ := hdue
      · exact Option.some_ne_none k (hk.symm.trans ha)
      · exact h1 hn
  · rintro t r s u rfl hl
    exact whileLive_of_live hl t fun v => { v with railBad := true }

end Sys2Proof.Machine
end

section
/-! PROOFS. The link's security: scrubbing, IDE, the SPDM responder in SEC (R411, R414–R419). -/

namespace Sys2Proof.Machine

variable {s : State} {t : Nat}

/-! ### A request of SPDM at SEC -/

theorem State.spdm_serves (h : s.proc 0 = 1) (i : Instr) (f : State → State) : s.spdm i f = f { s with sec := { s.sec with deferred := none } } :=
  if_pos h

theorem State.spdm_restarts (h : s.proc 0 = 2) (i : Instr) (f : State → State) :
    s.spdm i f = { s with sec := { s.sec with resp := .notReady 18, deferred := some i } } := by
  unfold State.spdm
  rw [if_neg (by omega), if_pos h]

theorem State.spdm_off (h : s.proc 0 ≠ 1) (h' : s.proc 0 ≠ 2) (i : Instr) (f : State → State) : s.spdm i f = s := by
  unfold State.spdm
  rw [if_neg h, if_neg h']

/-- The rows of the responder, each with what a serving SEC does. -/
inductive SpdmRow (t : Nat) : Instr → (State → State) → Prop
  | version : SpdmRow t (.getVersion t) State.spdmVersion
  | capabilities : SpdmRow t (.getCapabilities t) State.spdmCapabilities
  | algorithms (a b c d : Bool) : SpdmRow t (.negotiateAlgorithms t a b c d) fun s => s.spdmAlgorithms a b c d
  | digests : SpdmRow t (.getDigests t) State.spdmDigests
  | certificate (k : Fin 8) (off len : Nat) : SpdmRow t (.getCertificate t k off len) fun s => s.spdmCertificate k.val off len
  | challenge (k : Fin 8) (n : List Byte) : SpdmRow t (.challenge t k n) fun s => s.spdmChallenge k.val n
  | measurements (i : BitVec 8) : SpdmRow t (.getMeasurements t i) fun s => s.spdmMeasurements i.toNat
  | keyExchange (n : Nat) : SpdmRow t (.keyExchange t n) fun s => s.spdmKeyExchange n
  | finish (n : Nat) (ok : Bool) : SpdmRow t (.finish t n ok) fun s => s.spdmFinish n ok
  | keyUpdate (n : Nat) : SpdmRow t (.keyUpdate t n) fun s => s.spdmKeyUpdate n
  | heartbeat (n : Nat) : SpdmRow t (.heartbeat t n) fun s => s.spdmHeartbeat n
  | endSession (n : Nat) : SpdmRow t (.endSession t n) fun s => s.spdmEnd n
  | keyProgram (n : Nat) (set : Fin 2) (sub : Fin 3) (tx : Bool) (key : List Byte) :
      SpdmRow t (.ideKeyProgram t n set sub tx key) fun s => s.takeKey n set.val sub.val tx key
  | keySetGo (n : Nat) (set : Fin 2) : SpdmRow t (.kSetGo t n set) fun s => s.keySetGo n set.val

section

variable (hl : s.live = true)

include hl

theorem SpdmRow.exec {i : Instr} {f : State → State} (h : SpdmRow t i f) : exec i s = .next ((s.at t).spdm i f) := by
  cases h <;> exact whileLive_of_live hl t fun v => v.spdm _ _

theorem SpdmRow.exec_serves {i : Instr} {f : State → State} (h : SpdmRow t i f) (h0 : s.proc 0 = 1) :
    Sys2Proof.Machine.exec i s = .next (f { s.at t with sec := { s.sec with deferred := none } }) :=
  (h.exec hl).trans (congrArg _ (State.spdm_serves (s := s.at t) h0 i f))

theorem SpdmRow.exec_restarts {i : Instr} {f : State → State} (h : SpdmRow t i f) (h0 : s.proc 0 = 2) :
    Sys2Proof.Machine.exec i s = .next { s.at t with sec := { s.sec with resp := .notReady 18, deferred := some i } } :=
  (h.exec hl).trans (congrArg _ (State.spdm_restarts (s := s.at t) h0 i f))

theorem SpdmRow.exec_off {i : Instr} {f : State → State} (h : SpdmRow t i f) (h1 : s.proc 0 ≠ 1) (h2 : s.proc 0 ≠ 2) :
    Sys2Proof.Machine.exec i s = .next (s.at t) :=
  (h.exec hl).trans (congrArg _ (State.spdm_off (s := s.at t) h1 h2 i f))

theorem exec_respondIfReady_deferred {i : Instr} (h0 : s.proc 0 = 1) (hd : s.sec.deferred = some i) : exec (.respondIfReady t) s
    = .next (State.spdmDeferred { s.at t with sec := { s.sec with deferred := none } } i) := by
  have hd' : (s.at t).sec.deferred = some i := hd
  show execRespondIfReady t s = _
  unfold execRespondIfReady
  rw [whileLive_of_live hl, hd']
  exact congrArg _ (if_pos h0)

theorem exec_respondIfReady_idle (h0 : s.proc 0 = 1) (hd : s.sec.deferred = none) :
    exec (.respondIfReady t) s = .next ((s.at t).spdmSay (.error spdmUnexpected)) := by
  have hd' : (s.at t).sec.deferred = none := hd
  show execRespondIfReady t s = _
  unfold execRespondIfReady
  rw [whileLive_of_live hl, hd']
  exact congrArg _ (if_pos h0)

theorem exec_respondIfReady_away (h0 : s.proc 0 ≠ 1) : exec (.respondIfReady t) s
    = .next (if s.proc 0 = 2 then (s.at t).spdmSay (.notReady 18) else s.at t) := by
  show execRespondIfReady t s = _
  unfold execRespondIfReady
  rw [whileLive_of_live hl]
  exact congrArg _ (if_neg h0)

end

/-! ### What SEC answers -/

theorem State.spdmAfter_reached {n : Nat} (h : n ≤ s.sec.phase) (f : State → State) : s.spdmAfter n f = f s := if_pos h

theorem State.spdmAfter_early {n : Nat} (h : s.sec.phase < n) (f : State → State) : s.spdmAfter n f = s.spdmSay (.error spdmUnexpected) :=
  if_neg (Nat.not_le.mpr h)

theorem State.spdmCertificate_resp (off len : Nat) (h : 3 ≤ s.sec.phase) : (s.spdmCertificate 0 off len).sec.resp =
    if (Config.certChain s.fw.layers).length ≤ off then .error spdmInvalid else .certificate 0 (((Config.certChain s.fw.layers).drop off).take len)
      ((Config.certChain s.fw.layers).length - off - (((Config.certChain s.fw.layers).drop off).take len).length) := by
  rw [State.spdmCertificate, State.spdmAfter_reached h]
  by_cases hoff : (Config.certChain s.fw.layers).length ≤ off
  · rw [if_pos (.inr hoff), if_pos hoff]
    rfl
  · rw [if_neg (by simpa using hoff), if_neg hoff]
    rfl

theorem State.spdmKeyExchange_full (n : Nat) (h : 3 ≤ s.sec.phase) (h2 : 2 ≤ s.sec.sessions.length) :
    (s.spdmKeyExchange n).sec.sessions = s.sec.sessions := by
  rw [State.spdmKeyExchange, State.spdmAfter_reached h, if_pos h2]
  rfl

theorem State.spdmKeyExchange_new (n : Nat) (h : 3 ≤ s.sec.phase) (h2 : s.sec.sessions.length < 2) (hn : ∀ e ∈ s.sec.sessions, e.1 ≠ n) :
    (s.spdmKeyExchange n).sec.sessions = s.sec.sessions ++ [(n, false, 0)] := by
  rw [State.spdmKeyExchange, State.spdmAfter_reached h, if_neg (Nat.not_le.mpr h2), if_neg]
  · rfl
  · intro hany
    obtain ⟨e, he, hid⟩ := List.any_eq_true.mp hany
    exact hn e he (of_decide_eq_true hid)

theorem State.sessionUp_iff (n : Nat) : s.sessionUp n = true ↔ ∃ e ∈ s.sec.sessions, e.1 = n ∧ e.2.1 = true := by
  simp [State.sessionUp]

/-- FINISH with a good MAC brings the session up. -/
theorem State.sessionUp_spdmFinish (n : Nat) (h : s.sec.sessions.find? (fun e => decide (e.1 = n)) = some (n, false, 0)) :
    (s.spdmFinish n true).sessionUp n = true := by
  have hmem : (n, false, 0) ∈ s.sec.sessions := List.mem_of_find?_eq_some h
  rw [State.spdmFinish, h]
  refine (State.sessionUp_iff n).mpr ⟨(n, true, 0), List.mem_map.mpr ⟨_, hmem, ?_⟩, rfl, rfl⟩
  exact if_pos rfl

theorem State.sessionUp_spdmEnd (n : Nat) (h : s.sessionUp n = true) : (s.spdmEnd n).sessionUp n = false := by
  rw [State.spdmEnd, State.spdmInSession, if_pos h]
  refine Bool.eq_false_iff.mpr fun hup => ?_
  obtain ⟨e, he, rfl, -⟩ := (State.sessionUp_iff n).mp hup
  exact of_decide_eq_true (List.mem_filter.mp he).2 rfl

/-- Settles O54: by what SEC is, and for each request by its own answer. -/
theorem spdmResponderAnswers : Obligations.SpdmResponderAnswers := by
  refine ⟨?_, ?_, fun s off len => State.spdmCertificate_resp off len, fun s n => State.spdmKeyExchange_full n,
    fun s n => State.spdmKeyExchange_new n, fun s n => State.sessionUp_spdmFinish n, fun s n => State.sessionUp_spdmEnd n, ?_, ?_⟩
  · rintro t s v hl h0 rfl
    exact ⟨SpdmRow.version.exec_serves hl h0, SpdmRow.capabilities.exec_serves hl h0,
      fun a b c d => (SpdmRow.algorithms a b c d).exec_serves hl h0, SpdmRow.digests.exec_serves hl h0,
      fun k off len => (SpdmRow.certificate k off len).exec_serves hl h0, fun k n => (SpdmRow.challenge k n).exec_serves hl h0,
      fun i => (SpdmRow.measurements i).exec_serves hl h0, fun n => (SpdmRow.keyExchange n).exec_serves hl h0,
      fun n ok => (SpdmRow.finish n ok).exec_serves hl h0, fun n => (SpdmRow.keyUpdate n).exec_serves hl h0,
      fun n => (SpdmRow.heartbeat n).exec_serves hl h0, fun n => (SpdmRow.endSession n).exec_serves hl h0⟩
  · intro s
    refine ⟨fun h => ?_, fun h => ?_, fun h a b c d => ?_, fun h a b c d => ?_, fun h => ?_, fun h => ?_⟩
    · rw [State.spdmCapabilities, State.spdmAfter_early (by omega)]
      rfl
    · rw [State.spdmCapabilities, State.spdmAfter_reached h]
    · rw [State.spdmAlgorithms, State.spdmAfter_early h]
      rfl
    · rw [State.spdmAlgorithms, State.spdmAfter_reached h]
      exact ⟨rfl, rfl⟩
    · rw [State.spdmDigests, State.spdmAfter_early h]
      rfl
    · rw [State.spdmDigests, State.spdmAfter_reached h]
      rfl
  · rintro t i s u rfl hl h0 (rfl | rfl | ⟨a, b, c, d, rfl⟩ | rfl | ⟨k, off, len, rfl⟩ | ⟨k, n, rfl⟩ | ⟨x, rfl⟩ | ⟨n, rfl⟩ | ⟨n, ok, rfl⟩
      | ⟨n, rfl⟩ | ⟨n, rfl⟩ | ⟨n, rfl⟩)
    · exact SpdmRow.version.exec_restarts hl h0
    · exact SpdmRow.capabilities.exec_restarts hl h0
    · exact (SpdmRow.algorithms a b c d).exec_restarts hl h0
    · exact SpdmRow.digests.exec_restarts hl h0
    · exact (SpdmRow.certificate k off len).exec_restarts hl h0
    · exact (SpdmRow.challenge k n).exec_restarts hl h0
    · exact (SpdmRow.measurements x).exec_restarts hl h0
    · exact (SpdmRow.keyExchange n).exec_restarts hl h0
    · exact (SpdmRow.finish n ok).exec_restarts hl h0
    · exact (SpdmRow.keyUpdate n).exec_restarts hl h0
    · exact (SpdmRow.heartbeat n).exec_restarts hl h0
    · exact (SpdmRow.endSession n).exec_restarts hl h0
  · rintro t s u rfl hl
    refine ⟨fun h2 => ?_, fun i h1 hd => ?_, fun h1 hd => ?_, fun h1 h2 => ⟨SpdmRow.version.exec_off hl h1 h2, ?_⟩⟩
    · rw [exec_respondIfReady_away hl (by omega), if_pos h2]
      rfl
    · exact exec_respondIfReady_deferred hl h1 hd
    · exact exec_respondIfReady_idle hl h1 hd
    · rw [exec_respondIfReady_away hl h1, if_neg h2]

/-! ### IDE -/

/-- INSECURE: no key, IDE_STATE 2, the data link layer down. -/
theorem State.insecure_spec (s : State) : s.insecure.sec.keys = [] ∧ s.insecure.reg 0x9001 2 = 2 ∧ s.insecure.link.dlUp = false := by
  have hide : (State.setReg { s with sec := { s.sec with keys := [] } } 0x9001 2 2).reg 0x9001 2 = 2 := State.reg_setReg_same _ _ _ _
  have hkeys : (State.setReg { s with sec := { s.sec with keys := [] } } 0x9001 2 2).sec.keys = [] := rfl
  unfold State.insecure
  generalize State.setReg { s with sec := { s.sec with keys := [] } } 0x9001 2 2 = v at hide hkeys
  exact ⟨(congrArg _ v.startTraining_sec).trans hkeys, (v.reg_startTraining_other 2 (by decide) (by decide) (by decide)).trans hide,
    v.startTraining_dlUp⟩

/-- The state in which a key set is in force, before what waited for IDE goes (R415, R416). -/
def State.keySetOn (s : State) (set : Nat) : State :=
  ((({ s with sec := { s.sec with keyAt := s.now } }.setReg 0x9001 2 1).setReg 0x9001 3 set).setReg 0x9001 4 0).bump 32 0x9001 7 1

theorem State.keySetOn_spec (s : State) (set : Nat) : (s.keySetOn set).reg 0x9001 2 = 1 ∧ (s.keySetOn set).reg 0x9001 3 = set
    ∧ (s.keySetOn set).reg 0x9001 4 = 0 ∧ (s.keySetOn set).reg 0x9001 7 = satAdd 32 (s.reg 0x9001 7) 1 := by
  unfold State.keySetOn
  refine ⟨?_, ?_, ?_, ?_⟩
  · rw [State.reg_bump_other _ (by decide), State.reg_setReg_other _ (by decide), State.reg_setReg_other _ (by decide), State.reg_setReg_same]
  · rw [State.reg_bump_other _ (by decide), State.reg_setReg_other _ (by decide), State.reg_setReg_same]
  · rw [State.reg_bump_other _ (by decide), State.reg_setReg_same]
  · rw [State.reg_bump_same, State.reg_setReg_other _ (by decide), State.reg_setReg_other _ (by decide), State.reg_setReg_other _ (by decide)]
    rfl

theorem State.keySetGo_whole {n set : Nat} (hn : s.sessionUp n = true) (hw : s.setWhole set = true) :
    s.keySetGo n set = (s.keySetOn set).flushHost := if_pos ⟨hn, hw⟩

section

variable (hl : s.live = true)

include hl

theorem exec_ideMacFailure : exec (.ideMacFailure t) s
    = .next (if s.reg 0x9001 2 = 1 then ((s.at t).bump 32 0x9001 8 1).insecure else s.at t) :=
  whileLive_of_live hl t fun v => if v.reg 0x9001 2 = 1 then (v.bump 32 0x9001 8 1).insecure else v

theorem exec_ideHardLimit (sub : Fin 3) : exec (.ideHardLimit t sub) s
    = .next (if s.reg 0x9001 2 = 1 then ((s.at t).setReg 0x9001 4 (2 ^ 52)).insecure else s.at t) :=
  whileLive_of_live hl t fun v => if v.reg 0x9001 2 = 1 then (v.setReg 0x9001 4 (2 ^ 52)).insecure else v

theorem exec_ideRekey (sub : Fin 3) : exec (.ideRekey t sub) s = .next (if s.reg 0x9001 2 = 1 ∧ s.reg 0x9001 4 < 2 ^ 48 then
    ((s.at t).setReg 0x9001 4 (2 ^ 48)).raiseEvent 0xA0 none sub.val (s.reg 0x9001 3) (2 ^ 48 / 2 ^ 32) 0 else s.at t) := by
  show execIdeRekey t sub s = _
  unfold execIdeRekey
  rw [whileLive_of_live hl]
  rfl

end

/-! ### Scrubbing -/

/-- A span taken out of a sparse memory reads as its default, and no other entry changes. -/
theorem kget_outside {α : Type} (d : α) (m : KMap α) (lo len k : Nat) :
    kget d (outside m lo len) k = if k < lo ∨ lo + len ≤ k then kget d m k else d := by
  induction m with
  | nil => simp [outside, kget, klook]
  | cons e m ih =>
    unfold kget outside at ih
    unfold kget outside
    rw [List.filter_cons]
    by_cases hk : k = e.1
    · subst hk
      by_cases hin : e.1 < lo ∨ lo + len ≤ e.1
      · simp [hin, klook]
      · simp only [hin, decide_false, if_false] at ih ⊢
        exact ih
    · by_cases hin : e.1 < lo ∨ lo + len ≤ e.1
      · simpa [hin, klook, hk] using ih
      · simpa [hin, klook, hk] using ih

/-- Do two states have the same LPDDR5 and the same scratch? -/
def SameMemory (s s' : State) : Prop := s'.ddr = s.ddr ∧ s'.fscratch = s.fscratch

theorem State.countReady_leaves (s : State) (r : Nat) : (s.countReady r).scrubs = s.scrubs ∧ SameMemory s (s.countReady r) := by
  unfold State.countReady
  dsimp only
  split <;> exact ⟨rfl, rfl, rfl⟩

theorem State.scrubNext_leaves (s : State) : s.scrubNext.scrubs = s.scrubs ∧ SameMemory s s.scrubNext := by
  unfold State.scrubNext
  split
  · exact ⟨rfl, rfl, rfl⟩
  · split
    · exact ⟨rfl, rfl, rfl⟩
    · exact State.countReady_leaves _ _

theorem State.scrubEnd_leaves {x : Scrub} {l : List Scrub} (h : s.scrubs = x :: l) : s.scrubEnd.scrubs = l ∧ SameMemory s s.scrubEnd := by
  unfold State.scrubEnd
  rw [h]
  dsimp only
  split <;> exact ⟨rfl, rfl, rfl⟩

/-- A scrub's fill that ends well takes its place from the list. -/
theorem State.dmaFinish_scrub {u c : Nat} {k : Task} {x : Scrub} {l : List Scrub} (hk : s.chanTask u c = some k) (hm : k.maint = some scrubFn)
    (hs : s.scrubs = x :: l) : (s.dmaFinish u c stOk).scrubs = l ∧ SameMemory s (s.dmaFinish u c stOk) := by
  unfold State.dmaFinish
  rw [hk]
  dsimp only
  rw [if_pos (by simp [hm])]
  unfold State.maintEnd
  rw [hm]
  dsimp only
  rw [if_pos rfl, if_pos rfl]
  generalize hv : ({ (s.setChan u c (s.chan u c).clear).settleRes k.node.res with
      tasks := _, chans := _ } : State) = v
  have hvs : v.scrubs = x :: l := by rw [← hv]; exact hs
  have hvm : SameMemory s v := by rw [← hv]; exact ⟨rfl, rfl⟩
  obtain ⟨hend, hendD, hendF⟩ := State.scrubEnd_leaves hvs
  obtain ⟨hnext, hnextD, hnextF⟩ := v.scrubEnd.scrubNext_leaves
  exact ⟨hnext.trans hend, hnextD.trans (hendD.trans hvm.1), hnextF.trans (hendF.trans hvm.2)⟩

theorem State.fillRest_leaves (s : State) (x : Scrub) : (s.fillRest x).scrubs = s.scrubs ∧ (s.fillRest x).chans = s.chans
    ∧ (s.fillRest x).tasks = s.tasks ∧ SameMemory (s.zeroPlace x) (s.fillRest x) := by
  unfold State.fillRest State.zeroPlace
  split <;> exact ⟨rfl, rfl, rfl, rfl, rfl⟩

theorem State.chanTask_of_scrubChan {c : Nat} (h : s.scrubChan = some c) : ∃ k, s.chanTask 4 c = some k ∧ k.maint = some scrubFn := by
  have hk := List.find?_some h
  obtain ⟨k, hk, hm⟩ := (Option.any_eq_true _ _).mp hk
  exact ⟨k, hk, of_decide_eq_true hm⟩

/-- The fill of the first place ends: the place is zero and leaves the list (R411). -/
theorem State.fillRest_dmaFinish {c : Nat} {x : Scrub} {l : List Scrub} (hs : s.scrubs = x :: l) (hc : s.scrubChan = some c) :
    ((s.fillRest x).dmaFinish 4 c stOk).scrubs = l ∧ SameMemory (s.zeroPlace x) ((s.fillRest x).dmaFinish 4 c stOk) := by
  obtain ⟨k, hk, hm⟩ := State.chanTask_of_scrubChan hc
  obtain ⟨hscr, hch, htask, hddr, hscratch⟩ := s.fillRest_leaves x
  have hk' : (s.fillRest x).chanTask 4 c = some k := by
    rw [← hk]
    unfold State.chanTask State.chan State.task?
    rw [hch, htask]
  obtain ⟨hend, hendD, hendF⟩ := State.dmaFinish_scrub hk' hm (hscr.trans hs)
  exact ⟨hend, hendD.trans hddr, hendF.trans hscratch⟩

section

variable (hl : s.live = true)

include hl

theorem exec_scrubFillDone_runs {c : Nat} {x : Scrub} {l : List Scrub} (hs : s.scrubs = x :: l) (hc : s.scrubChan = some c) :
    exec (.scrubFillDone t) s = .next (((s.at t).fillRest x).dmaFinish 4 c stOk) := by
  have hs' : (s.at t).scrubs = x :: l := hs
  have hc' : (s.at t).scrubChan = some c := hc
  show execScrubFillDone t s = _
  unfold execScrubFillDone
  rw [whileLive_of_live hl, hs', hc']

theorem exec_scrubFillDone_idle (h : s.scrubs = [] ∨ s.scrubChan = none) : exec (.scrubFillDone t) s = .next (s.at t) := by
  show execScrubFillDone t s = _
  unfold execScrubFillDone
  rw [whileLive_of_live hl]
  split
  next x l c hs hc => exact (h.elim (fun h => List.cons_ne_nil x l (hs.symm.trans h)) fun h => Option.some_ne_none c (hc.symm.trans h)).elim
  next => rfl

end

/-- Settles O53: IDE by the state of SEC and of the stream, scrubbing by the memory of the place. -/
theorem ideStreamAndScrubbing : Obligations.IdeStreamAndScrubbing := by
  refine ⟨?_, ?_, ?_, fun s => s.insecure_spec, ?_, ?_, fun t s hl h => exec_scrubFillDone_idle hl h⟩
  · rintro t n set sub tx key s u v rfl hl rfl
    have hprog := SpdmRow.keyProgram (t := t) n set sub tx key
    have hgo := SpdmRow.keySetGo (t := t) n set
    refine ⟨fun h0 hn hk => ?_, fun h0 h => ?_, fun h0 h => ?_, fun h0 => ?_, fun h1 h2 => ?_⟩
    · exact (hprog.exec_serves hl h0).trans (congrArg _ (if_pos ⟨hn, hk⟩))
    · refine (hprog.exec_serves hl h0).trans (congrArg _ (if_neg ?_))
      rintro ⟨hn, hk⟩
      exact h.elim (fun h => Bool.false_ne_true (h.symm.trans hn)) fun h => h hk
    · refine (hgo.exec_serves hl h0).trans (congrArg _ (if_neg ?_))
      rintro ⟨hn, hw⟩
      exact h.elim (fun h => Bool.false_ne_true (h.symm.trans hn)) fun h => Bool.false_ne_true (h.symm.trans hw)
    · exact ⟨hprog.exec_restarts hl h0, hgo.exec_restarts hl h0⟩
    · exact ⟨hprog.exec_off hl h1 h2, hgo.exec_off hl h1 h2⟩
  · intro t n set s hl h0 hn hw
    refine ⟨_, ((SpdmRow.keySetGo n set).exec_serves hl h0).trans (congrArg _ (State.keySetGo_whole hn hw)), ?_⟩
    obtain ⟨h2, h3, h4, h7⟩ := State.keySetOn_spec { s.at t with sec := { s.sec with deferred := none } } set.val
    have hsec : (State.keySetOn { s.at t with sec := { s.sec with deferred := none } } set.val).sec
        = { s.sec with deferred := none, keyAt := max s.now t } := rfl
    have hddr : (State.keySetOn { s.at t with sec := { s.sec with deferred := none } } set.val).ddr = s.ddr := rfl
    generalize State.keySetOn { s.at t with sec := { s.sec with deferred := none } } set.val = w at h2 h3 h4 h7 hsec hddr
    exact ⟨(w.reg_flushHost _ _).trans h2, (w.reg_flushHost _ _).trans h3, (w.reg_flushHost _ _).trans h4, (w.reg_flushHost _ _).trans h7,
      w.flushHost_reports.sec.trans hsec, w.flushHost_reports.ddr.trans hddr⟩
  · rintro t s u rfl hl
    refine ⟨fun h1 => ⟨?_, fun sub => ?_⟩, fun h1 => ⟨?_, fun sub => ?_⟩⟩
    · rw [exec_ideMacFailure hl, if_pos h1]
    · rw [exec_ideHardLimit hl, if_pos h1]
    · rw [exec_ideMacFailure hl, if_neg h1]
    · rw [exec_ideHardLimit hl, if_neg h1]
  · rintro t sub s u rfl hl
    rw [exec_ideRekey hl]
    refine ⟨fun h1 hlt => by rw [if_pos ⟨h1, hlt⟩], fun h => ?_⟩
    rw [if_neg]
    rintro ⟨h1, hlt⟩
    exact h.elim (fun h => h h1) fun h => absurd hlt (Nat.not_lt.mpr h)
  · intro t c x l s hl hs hc
    obtain ⟨hscr, hddr, hscratch⟩ := State.fillRest_dmaFinish (s := s.at t) hs hc
    refine ⟨_, exec_scrubFillDone_runs hl hs hc, hscr, fun hx => ?_, fun hx => ?_⟩
    · rw [hddr, hscratch, State.zeroPlace, if_pos hx]
      refine ⟨fun a hlo hhi => ?_, fun a ha => ?_, rfl⟩
      · exact (kget_outside _ _ _ _ _).trans (if_neg (by omega))
      · exact (kget_outside _ _ _ _ _).trans (if_pos ha)
    · rw [hddr, hscratch, State.zeroPlace, if_neg (by simp [hx])]
      refine ⟨fun a hlo hhi => ?_, fun a ha => ?_, rfl⟩
      · exact (kget_outside _ _ _ _ _).trans (if_neg (by omega))
      · exact (kget_outside _ _ _ _ _).trans (if_pos ha)

end Sys2Proof.Machine
end

section
/-! PROOFS. Detection errors, their retries and the list in flash (R444–R447, R453, R461). -/

namespace Sys2Proof.Machine

variable {s : State} {t : Nat}

section

variable (hl : s.live = true)

include hl

theorem exec_detectionCheckFail (x : ErrSite) (r : ErrReader) : exec (.detectionCheckFail t x r) s = .next (if (s.at t).sitePoisoned x then
      ((((s.at t).bump 64 0x8000 4 1).hitReader { site := x, reader := r } none).1.addRecord x ((s.at t).readerId r) 2 2)
    else { s.at t with faults := { s.faults with failing := s.faults.failing ++ [{ site := x, reader := r }] } }) := by
  show execDetectionCheckFail t x r s = _
  unfold execDetectionCheckFail
  rw [whileLive_of_live hl]
  rfl

theorem exec_detectionRetryResult {f : Failing} {l : List Failing} (b : Bool) (hf : s.faults.failing = f :: l) :
    exec (.detectionRetryResult t b) s = .next (if b then State.transient { s.at t with faults := { s.faults with failing := l } } f
      else State.lastingError { s.at t with faults := { s.faults with failing := l } } f) := by
  have hf' : (s.at t).faults.failing = f :: l := hf
  show execDetectionRetryResult t b s = _
  unfold execDetectionRetryResult
  rw [whileLive_of_live hl, hf']
  rfl

theorem exec_detectionRetryResult_idle (b : Bool) (hf : s.faults.failing = []) : exec (.detectionRetryResult t b) s = .next (s.at t) := by
  have hf' : (s.at t).faults.failing = [] := hf
  show execDetectionRetryResult t b s = _
  unfold execDetectionRetryResult
  rw [whileLive_of_live hl, hf']

theorem exec_retirementListAppend {b : List Byte} {l : List (List Byte)} (hb : s.faults.toList = b :: l) (h0 : s.proc 0 = 1) :
    exec (.retirementListAppend t) s = .next { ((s.at t).flashWrite (0x110000 + 8 * s.listRecords) b).setReg 0x8010 3 (s.reg 0x8010 3 + 1) with
      faults := { s.faults with toList := l } } := by
  have hb' : (s.at t).faults.toList = b :: l := hb
  show execRetirementListAppend t s = _
  unfold execRetirementListAppend
  rw [whileLive_of_live hl, hb']
  exact congrArg _ (if_neg (not_not.mpr h0))

theorem exec_retirementListAppend_idle (h : s.faults.toList = [] ∨ s.proc 0 ≠ 1) : exec (.retirementListAppend t) s = .next (s.at t) := by
  show execRetirementListAppend t s = _
  unfold execRetirementListAppend
  rw [whileLive_of_live hl]
  cases hb : (s.at t).faults.toList with
  | nil => rfl
  | cons b l => exact congrArg _ (if_pos (h.resolve_left fun h => List.cons_ne_nil b l (hb.symm.trans h)))

end

/-- Settles O58: by what waits, the retry's result, and whether SEC runs. -/
theorem detectionErrorsAreRetriedAndCharged : Obligations.DetectionErrorsAreRetriedAndCharged := by
  refine ⟨?_, ?_, ?_, ?_, ?_⟩
  · rintro t x r s u rfl hl
    rw [exec_detectionCheckFail hl]
    refine ⟨fun h => ?_, fun h => ?_⟩
    · rw [if_neg (Bool.eq_false_iff.mp h)]
    · rw [if_pos h]
  · rintro t s v f l hl hf rfl
    rw [exec_detectionRetryResult hl _ hf, exec_detectionRetryResult hl _ hf]
    exact ⟨rfl, rfl⟩
  · exact fun t b s hl hf => exec_detectionRetryResult_idle hl b hf
  · exact fun t s b l hl hb h0 => ⟨_, exec_retirementListAppend hl hb h0, rfl, State.reg_setReg_same _ _ _ _, rfl⟩
  · exact fun t s hl h => exec_retirementListAppend_idle hl h

end Sys2Proof.Machine
end

section
/-! PROOFS. The start sequence, restarts of the processors, crash dumps (R385, R386, R392, R393, R398, R453). -/

namespace Sys2Proof.Machine

variable {s : State} {t : Nat}

/-! ### The list applied at boot -/

/-- A record of the list writes no object with subindex 7. -/
theorem State.reg_applyRecord_seven (s : State) (b : List Byte) (idx : Nat) : (s.applyRecord b).reg idx 7 = s.reg idx 7 := by
  have hset (u : State) {i j : Nat} (v : Nat) (h : 7 ≠ j) (hj : j < 256) : (u.setReg i j v).reg idx 7 = u.reg idx 7 :=
    State.reg_setReg_other _ (okey_ne_of_sub_mod h (by decide) hj)
  have hbump (u : State) {w i j : Nat} (h : 7 ≠ j) (hj : j < 256) : (u.bump w i j 1).reg idx 7 = u.reg idx 7 :=
    State.reg_bump_other _ (okey_ne_of_sub_mod h (by decide) hj)
  unfold State.applyRecord
  dsimp only
  split
  · exact hbump _ (by decide) (by decide)
  · have hcount := hbump s (w := 16) (i := 0x8010) (j := 3) (by decide) (by decide)
    generalize s.bump 16 0x8010 3 1 = u at hcount
    split
    · split
      · exact (hbump u (by decide) (by decide)).trans hcount
      · exact (hset _ _ (by decide) (by decide)).trans ((hbump u (by decide) (by decide)).trans hcount)
    · split
      · exact (hset _ _ (by decide) (by decide)).trans hcount
      · split
        · exact (hset _ _ (by decide) (by decide)).trans ((hset u _ (by decide) (by decide)).trans hcount)
        · split
          · exact (hset _ _ (by decide) (by decide)).trans ((hset u _ (by decide) (by decide)).trans hcount)
          · exact hcount

theorem State.applyRecord_memories (s : State) (b : List Byte) : (s.applyRecord b).ddr = s.ddr ∧ (s.applyRecord b).fscratch = s.fscratch := by
  unfold State.applyRecord
  dsimp only
  split
  · exact ⟨rfl, rfl⟩
  · split
    · split <;> exact ⟨rfl, rfl⟩
    · split
      · exact ⟨rfl, rfl⟩
      · split
        · exact ⟨rfl, rfl⟩
        · split <;> exact ⟨rfl, rfl⟩

theorem State.applyList_spec (l : List (List Byte)) : ∀ s : State, (l.foldl State.applyRecord s).ddr = s.ddr
    ∧ (l.foldl State.applyRecord s).fscratch = s.fscratch ∧ ∀ idx, (l.foldl State.applyRecord s).reg idx 7 = s.reg idx 7 := by
  induction l with
  | nil => exact fun _ => ⟨rfl, rfl, fun _ => rfl⟩
  | cons b l ih =>
    intro s
    obtain ⟨hd, hf, hr⟩ := ih (s.applyRecord b)
    obtain ⟨hd', hf'⟩ := s.applyRecord_memories b
    exact ⟨hd.trans hd', hf.trans hf', fun idx => (hr idx).trans (s.reg_applyRecord_seven b idx)⟩

/-- The state that LPDDR5's training leaves with the capacity `n` found (R386, R412, R453). -/
def State.trained (s : State) (n : Nat) : State :=
  let v := State.setReg { s with ddr := [], fscratch := [] } 0x1002 7 n
  let w := v.setReg 0x3100 7 (v.capacityUsed / 67108864 - 4)
  ((listUpTo 8192 (w.flashRead 0x110000 65536)).foldl State.applyRecord w).setReg 0x2050 1 2

theorem State.trained_spec (s : State) (n : Nat) : (s.trained n).ddr = [] ∧ (s.trained n).fscratch = [] ∧ (s.trained n).reg 0x1002 7 = n
    ∧ (s.trained n).reg 0x2050 1 = 2 := by
  unfold State.trained
  dsimp only
  have hcap (k : Nat) : ((State.setReg { s with ddr := [], fscratch := [] } 0x1002 7 n).setReg 0x3100 7 k).reg 0x1002 7 = n :=
    (State.reg_setReg_other _ (by decide)).trans (State.reg_setReg_same _ _ _ _)
  have hmem (k : Nat) : ((State.setReg { s with ddr := [], fscratch := [] } 0x1002 7 n).setReg 0x3100 7 k).ddr = []
      ∧ ((State.setReg { s with ddr := [], fscratch := [] } 0x1002 7 n).setReg 0x3100 7 k).fscratch = [] := ⟨rfl, rfl⟩
  specialize hcap ((State.setReg { s with ddr := [], fscratch := [] } 0x1002 7 n).capacityUsed / 67108864 - 4)
  specialize hmem ((State.setReg { s with ddr := [], fscratch := [] } 0x1002 7 n).capacityUsed / 67108864 - 4)
  generalize (State.setReg { s with ddr := [], fscratch := [] } 0x1002 7 n).setReg 0x3100 7 _ = w at hcap hmem
  obtain ⟨hd, hf, hr⟩ := State.applyList_spec (listUpTo 8192 (w.flashRead 0x110000 65536)) w
  exact ⟨hd.trans hmem.1, hf.trans hmem.2, (State.reg_setReg_other _ (by decide)).trans ((hr _).trans hcap), State.reg_setReg_same _ _ _ _⟩

/-! ### A restart -/

/-- COMMITs that are cut off answer the field port, and leave the objects but for its counters, the firmware and LPDDR5. -/
theorem State.cutAdmission_leaves (s : State) (status : Nat) (payload : List Byte) (which : Txn → Bool) :
    (s.cutAdmission status payload which).fw = s.fw ∧ (s.cutAdmission status payload which).ddr = s.ddr
    ∧ ∀ idx sub, idx ≠ 0x1012 → idx < 65536 → sub < 256 → (s.cutAdmission status payload which).reg idx sub = s.reg idx sub := by
  unfold State.cutAdmission
  refine List.foldlRecOn (motive := fun v : State => v.fw = s.fw ∧ v.ddr = s.ddr
    ∧ ∀ idx sub, idx ≠ 0x1012 → idx < 65536 → sub < 256 → v.reg idx sub = s.reg idx sub) _ _ ⟨rfl, rfl, fun _ _ _ _ _ => rfl⟩ ?_
  rintro v ⟨hfw, hddr, hreg⟩ c -
  unfold State.deliverRun
  split
  · exact ⟨hfw, hddr, hreg⟩
  · exact ⟨(State.deliver_fw _ _ _).trans hfw, (State.deliver_ddr _ _ _).trans hddr,
      fun idx sub h hi hs => (State.regF_deliver _ h hi hs).trans (hreg idx sub h hi hs)⟩

/-- The marks of a restart of processor `x` (R392). -/
def State.restartMarks (s : State) (x cause : Nat) : State :=
  { ((s.setReg (0x2060 + x) 1 2).bump 32 (0x2060 + x) 2 1).setReg (0x2060 + x) 3 cause with fw := { s.fw with
    restartAt := kput s.fw.restartAt x s.now, restarts := kmod [] s.fw.restarts x (· ++ [s.now]),
    watchdog := kdel s.fw.watchdog x,
    dumpDue := if cause = 1 ∨ cause = 2 then kput s.fw.dumpDue x cause else s.fw.dumpDue } }

theorem State.restartMarks_reg (s : State) (x cause : Nat) : (s.restartMarks x cause).proc x = 2
    ∧ (s.restartMarks x cause).reg (0x2060 + x) 3 = cause ∧ (s.restartMarks x cause).reg (0x2060 + x) 2 = satAdd 32 (s.reg (0x2060 + x) 2) 1 := by
  have hsub {a b : Nat} (h : a ≠ b) (ha : a < 256) (hb : b < 256) : okey 0 (0x2060 + x) a ≠ okey 0 (0x2060 + x) b := okey_ne_of_sub h ha hb
  refine ⟨?_, State.reg_setReg_same _ _ _ _, ?_⟩
  · refine (State.reg_setReg_other _ (hsub (by decide) (by decide) (by decide))).trans ?_
    rw [State.reg_bump_other _ (hsub (by decide) (by decide) (by decide)), State.reg_setReg_same]
  · refine (State.reg_setReg_other _ (hsub (by decide) (by decide) (by decide))).trans ?_
    rw [State.reg_bump_same, State.reg_setReg_other _ (hsub (by decide) (by decide) (by decide))]

/-- The restart of a processor that runs (R392). -/
theorem State.restartProc_runs {x cause : Nat} (hx : x < 9) (h : s.proc x = 1) : (s.restartProc x cause).proc x = 2
    ∧ (s.restartProc x cause).reg (0x2060 + x) 3 = cause ∧ (s.restartProc x cause).reg (0x2060 + x) 2 = satAdd 32 (s.reg (0x2060 + x) 2) 1
    ∧ (s.restartProc x cause).ddr = s.ddr ∧ (s.restartProc x cause).fw = (s.restartMarks x cause).fw := by
  obtain ⟨h1, h3, h2⟩ := s.restartMarks_reg x cause
  have hddr : (s.restartMarks x cause).ddr = s.ddr := rfl
  have hcut : ∃ v : State, v.proc x = 2 ∧ v.reg (0x2060 + x) 3 = cause ∧ v.reg (0x2060 + x) 2 = satAdd 32 (s.reg (0x2060 + x) 2) 1
      ∧ v.ddr = s.ddr ∧ v.fw = (s.restartMarks x cause).fw
      ∧ s.restartProc x cause = v.raiseEvent 0x90 none x cause (v.reg (0x2060 + x) 2) (restartMs x) := by
    obtain ⟨hfw, hddr', hreg⟩ := (s.restartMarks x cause).cutAdmission_leaves stBusy (retryPayload (restartMs 2)) (fun _ => true)
    by_cases hx2 : x = 2
    · refine ⟨(s.restartMarks x cause).cutAdmission stBusy (retryPayload (restartMs 2)) (fun _ => true), ?_, ?_, ?_, hddr'.trans hddr, hfw, ?_⟩
      · exact (hreg _ _ (by omega) (by omega) (by decide)).trans h1
      · exact (hreg _ _ (by omega) (by omega) (by decide)).trans h3
      · exact (hreg _ _ (by omega) (by omega) (by decide)).trans h2
      · unfold State.restartProc
        rw [if_neg (not_not.mpr h)]
        dsimp only
        rw [if_pos hx2]
        rfl
    · refine ⟨s.restartMarks x cause, h1, h3, h2, hddr, rfl, ?_⟩
      unfold State.restartProc
      rw [if_neg (not_not.mpr h)]
      dsimp only
      rw [if_neg hx2]
      rfl
  obtain ⟨v, h1, h3, h2, hddr, hfw, hv⟩ := hcut
  have hkeep (sub : Nat) (hs : sub < 256) : (s.restartProc x cause).reg (0x2060 + x) sub = v.reg (0x2060 + x) sub := by
    rw [hv]
    exact v.regF_raiseEvent (by omega) (by omega) (by omega) (by omega) hs
  refine ⟨(hkeep 1 (by decide)).trans h1, (hkeep 3 (by decide)).trans h3, (hkeep 2 (by decide)).trans h2, ?_, ?_⟩
  · rw [hv, State.raiseEvent_ddr, hddr]
  · rw [hv, State.raiseEvent_fw, hfw]

/-- A processor that does not run takes no cause (R392). -/
theorem State.restartProc_off {x : Nat} (cause : Nat) (h : s.proc x ≠ 1) : s.restartProc x cause = s := if_pos h

/-! ### A restart that is done -/

/-- Do the processors stand as they stood: their states, and the images that they run? -/
def KeepsProcessors (s s' : State) : Prop := (∀ x, x < 9 → s'.proc x = s.proc x) ∧ s'.fw.running = s.fw.running

theorem KeepsProcessors.refl (s : State) : KeepsProcessors s s := ⟨fun _ _ => rfl, rfl⟩

theorem KeepsProcessors.trans {s s' s'' : State} (h : KeepsProcessors s s') (h' : KeepsProcessors s' s'') : KeepsProcessors s s'' :=
  ⟨fun x hx => (h'.1 x hx).trans (h.1 x hx), h'.2.trans h.2⟩

theorem KeepsProcessors.foldl {α : Type} (f : State → α → State) (h : ∀ s a, KeepsProcessors s (f s a)) (l : List α) :
    ∀ s, KeepsProcessors s (l.foldl f s) := by
  induction l with
  | nil => exact KeepsProcessors.refl
  | cons a l ih => exact fun s => (h s a).trans (ih _)

theorem State.signDump_keeps (s : State) (i : Nat) : KeepsProcessors s (s.signDump i) := by
  unfold State.signDump
  split
  · exact .refl s
  · split
    · exact .refl s
    · refine ⟨fun x hx => ?_, ?_⟩
      · exact (State.regF_fire _ _ _ _ _ _).trans (State.regF_raiseEvent _ (by omega) (by omega) (by omega) (by omega) (by decide))
      · rw [State.fire_fw, State.raiseEvent_fw]
        rfl

theorem State.bindHandle_keeps (s : State) (x : Nat × Nat × Nat × Nat × Nat × Nat × Nat) : KeepsProcessors s (s.bindHandle x) := by
  unfold State.bindHandle
  dsimp only
  split
  · exact ⟨fun y hy => State.reg_bump_other _ (okey_ne_of_sub_mod (by decide) (by decide) (by decide)), rfl⟩
  · exact ⟨fun _ _ => rfl, rfl⟩

theorem State.trace_keeps (s : State) (proc : Nat) (part : Option Nat) (point : Nat) : KeepsProcessors s (s.trace proc part point) :=
  ⟨fun x hx => s.regF_trace (by omega) (by omega) (by decide), congrArg _ (s.trace_reports proc part point).fw⟩

theorem State.doDeferred_keeps (s : State) (x : Nat) : KeepsProcessors s (s.doDeferred x) := by
  have hsign : KeepsProcessors s (if x = 0 then (List.range 4).foldl State.signDump s else s) := by
    split
    · exact KeepsProcessors.foldl _ State.signDump_keeps _ s
    · exact .refl s
  unfold State.doDeferred
  dsimp only
  generalize (if x = 0 then (List.range 4).foldl State.signDump s else s) = v at hsign
  refine hsign.trans (KeepsProcessors.trans ?_ (KeepsProcessors.foldl _ (fun s b => s.bindHandle_keeps _) _ _))
  exact ⟨fun _ _ => rfl, rfl⟩

theorem State.procServe_spec (s : State) {x : Nat} (hx : x < 9) (image : List Byte) :
    (s.procServe x image).proc x = 1 ∧ klook (s.procServe x image).fw.running x = some image := by
  refine ⟨?_, klook_kput_same _ _ _⟩
  exact (State.reg_setReg_other _ (okey_ne_of_idx (by omega) (by omega) (by decide) (by decide) (by omega))).trans (State.reg_setReg_same _ _ _ _)

/-- The state in which processor `x` serves its image again (R392, R394). -/
def State.restarted (s : State) (x : Nat) : State :=
  let v := s.procServe x (s.reloadImage x)
  let w := if x = 2 then
      { v with dict := { v.dict with txns := v.dict.txns.map (fun (t : Txn) => { t with lastCmd := v.now - (kget 0 s.fw.restartAt x - t.lastCmd) }) } }
    else v
  (w.doDeferred x).trace x none 4

theorem State.restarted_spec (s : State) {x : Nat} (hx : x < 9) :
    (s.restarted x).proc x = 1 ∧ klook (s.restarted x).fw.running x = some (s.reloadImage x) := by
  obtain ⟨hproc, hrun⟩ := s.procServe_spec hx (s.reloadImage x)
  unfold State.restarted
  dsimp only
  generalize s.procServe x (s.reloadImage x) = v at hproc hrun
  have hidle (f : Txn → Txn) :
      KeepsProcessors v (if x = 2 then { v with dict := { v.dict with txns := v.dict.txns.map f } } else v) := by
    split
    · exact ⟨fun _ _ => rfl, rfl⟩
    · exact .refl v
  obtain ⟨hp, hr⟩ := ((hidle _).trans (State.doDeferred_keeps _ x)).trans (State.trace_keeps _ x none 4)
  exact ⟨(hp x hx).trans hproc, (congrArg (klook · x) hr).trans hrun⟩

theorem State.reloadGood_iff (x : Nat) : s.reloadGood x = true
    ↔ (x ≤ 1 → s.romSlot (s.reg 0x2050 5) = none) ∧ (1 < x → s.proc 0 = 1 ∧ s.copyGood x = true) := by
  unfold State.reloadGood
  split
  next h => simp [h, Nat.not_lt.mpr h]
  next h => simp [h, Nat.not_le.mp h]

/-! ### The rows -/

section

variable (hl : s.live = true)

include hl

theorem exec_romRelease : exec (.romRelease t) s = .next (if s.reg 0x2050 1 = 0 then (s.at t).romBoot else s.at t) :=
  whileLive_of_live hl t fun v => if v.reg 0x2050 1 = 0 then v.romBoot else v

theorem exec_schFirstRunsImage : exec (.schFirstRunsImage t) s
    = .next (if s.reg 0x2050 1 = 2 ∧ s.proc 2 = 1 then (s.at t).setReg 0x2050 1 3 else s.at t) :=
  whileLive_of_live hl t fun v => if v.reg 0x2050 1 = 2 ∧ v.proc 2 = 1 then v.setReg 0x2050 1 3 else v

theorem exec_lpddr5TrainingDone (n : Nat) (b : Bool) : exec (.lpddr5TrainingDone t n b) s
    = .next (if s.reg 0x2050 1 ≠ 1 ∨ s.proc 1 ≠ 1 ∨ s.fw.noDdr = true then s.at t
      else if b = true then (s.at t).trained n else { s.at t with fw := { s.fw with noDdr := true } }) := by
  show execLpddr5TrainingDone t n b s = _
  unfold execLpddr5TrainingDone
  rw [whileLive_of_live hl]
  rfl

theorem exec_watchdogExpiry {w : Nat} (x : ProcId) (hw : klook s.fw.watchdog x.val = some w) : exec (.watchdogExpiry t x) s
    = .next (if w + msCycles (wdtMs x.val) ≤ max s.now t then (s.at t).restartProc x.val 1 else s.at t) := by
  have hw' : klook (s.at t).fw.watchdog x.val = some w := hw
  show execWatchdogExpiry t x s = _
  unfold execWatchdogExpiry
  rw [whileLive_of_live hl, hw']
  rfl

theorem exec_watchdogExpiry_off (x : ProcId) (hp : s.proc x.val ≠ 1) : exec (.watchdogExpiry t x) s = .next (s.at t) := by
  show execWatchdogExpiry t x s = _
  unfold execWatchdogExpiry
  rw [whileLive_of_live hl, State.restartProc_off (s := s.at t) 1 hp]
  cases klook (s.at t).fw.watchdog x.val with
  | none => rfl
  | some w => exact congrArg _ (ite_self _)

theorem exec_firmwareFault (x : ProcId) : exec (.firmwareFault t x) s = .next ((s.at t).restartProc x.val 2) :=
  whileLive_of_live hl t fun v => v.restartProc x.val 2

theorem exec_processorFailed (x : ProcId) : exec (.processorFailed t x) s
    = .next (if s.proc x.val = 2 ∧ 3 ≤ s.recentRestarts x.val then (s.at t).setReg (0x2060 + x.val) 1 3 else s.at t) :=
  whileLive_of_live hl t fun v => if v.proc x.val = 2 ∧ 3 ≤ v.recentRestarts x.val then v.setReg (0x2060 + x.val) 1 3 else v

theorem exec_processorRestartDone (x : ProcId) : exec (.processorRestartDone t x) s
    = .next (if s.proc x.val = 2 ∧ s.recentRestarts x.val < 3 ∧ (klook s.fw.dumpDue x.val).isNone = true ∧ s.reloadGood x.val = true
      then (s.at t).restarted x.val else s.at t) := by
  show execProcessorRestartDone t x s = _
  unfold execProcessorRestartDone
  rw [whileLive_of_live hl]
  rfl

theorem exec_crashDumpCaptured {k : Nat} (x : ProcId) (hk : klook s.fw.dumpDue x.val = some k) : exec (.crashDumpCaptured t x) s
    = .next (if ((s.at t).captureDump x.val k).proc 0 = 1 then ((s.at t).captureDump x.val k).signDump (s.at t).dumpSlot
      else (s.at t).captureDump x.val k) := by
  show execCrashDumpCaptured t x s = _
  unfold execCrashDumpCaptured
  rw [whileLive_of_live hl]
  split
  next hn => cases hn.symm.trans hk
  next c hc =>
    cases hc.symm.trans hk
    rfl

end

theorem State.draw_eq (s : State) : ∃ n, s.draw.2 = { s with free := n } := ⟨_, rfl⟩

theorem State.ddrWrite_eq (s : State) (a : Nat) (b : List Byte) : ∃ d p, s.ddrWrite a b = { s with ddr := d, faults := p } := ⟨_, _, rfl⟩

theorem State.ddrWrite_draws (s : State) (a : Nat) (b : List Byte) : ∃ d p n,
    s.draw.2.draw.2.draw.2.ddrWrite a b = { s with ddr := d, faults := p, free := n } := by
  obtain ⟨n, h⟩ := s.draw_eq
  obtain ⟨n', h'⟩ := s.draw.2.draw_eq
  obtain ⟨n'', h''⟩ := s.draw.2.draw.2.draw_eq
  obtain ⟨d, p, hw⟩ := s.draw.2.draw.2.draw.2.ddrWrite_eq a b
  exact ⟨d, p, n'', by rw [hw, h'', h', h]⟩

/-- A dump is put into memory and into its slot, and counted; no other object moves. -/
theorem State.captureDump_eq (s : State) (x k : Nat) : ∃ d p w n,
    s.captureDump x k = State.setReg { s with ddr := d, faults := p, fw := w, free := n } 0x2055 4 (s.reg 0x2055 4 + 1) := by
  unfold State.captureDump
  dsimp only
  generalize dumpHeader _ _ _ ++ _ = bytes
  obtain ⟨d, p, n, h⟩ := s.ddrWrite_draws (dumpArea s.dumpSlot) bytes
  rw [h]
  exact ⟨_, _, _, _, rfl⟩

theorem State.captureDump_proc (s : State) (x k y : Nat) (hy : y < 9) : (s.captureDump x k).proc y = s.proc y := by
  obtain ⟨d, p, w, n, h⟩ := s.captureDump_eq x k
  rw [h]
  exact State.reg_setReg_other _ (okey_ne_of_idx (by omega) (by omega) (by decide) (by decide) (by decide))

/-- A dump that is captured is due no more, and not signed yet. -/
theorem State.captureDump_spec (s : State) (x k : Nat) : klook (s.captureDump x k).fw.dumpDue x = none
    ∧ (kget dump0 (s.captureDump x k).fw.dumps s.dumpSlot).done = false := by
  unfold State.captureDump
  exact ⟨klook_kdel_same _ _, congrArg DumpSlot.done (kget_kput_same _ _ _ _)⟩

/-- Settles O60: the start sequence by its state, a processor by its state and the dump that is due. -/
theorem processorsBootRestartAndFail : Obligations.ProcessorsBootRestartAndFail := by
  refine ⟨?_, ?_, ?_, ?_, ?_, ?_, ?_, ?_, ?_, ?_, ?_, ?_⟩
  · rintro t s u rfl hl
    exact ⟨exec_romRelease hl, exec_schFirstRunsImage hl⟩
  · intro t n s hl h1 hp hno
    refine ⟨_, exec_lpddr5TrainingDone hl n true, ?_⟩
    rw [if_neg (by simp [h1, hp, hno]), if_pos rfl]
    exact (s.at t).trained_spec n
  · rintro t n s u rfl hl h1 hp hno
    rw [exec_lpddr5TrainingDone hl, if_neg (by simp [h1, hp, hno]), if_neg Bool.false_ne_true]
  · rintro t n b s u rfl hl h
    rw [exec_lpddr5TrainingDone hl, if_pos h]
  · intro t w x s hl hp hw hdue
    refine ⟨_, exec_watchdogExpiry hl x hw, ?_⟩
    rw [if_pos hdue]
    obtain ⟨h1, h3, h2, hddr, -⟩ := State.restartProc_runs (s := s.at t) (cause := 1) x.isLt hp
    exact ⟨h1, h3, h2, hddr⟩
  · intro t w x s hl hw hin
    rw [exec_watchdogExpiry hl x hw, if_neg (Nat.not_le.mpr hin)]
  · intro t x s hl hp
    refine ⟨_, exec_firmwareFault hl x, ?_⟩
    obtain ⟨h1, h3, h2, -, hfw⟩ := State.restartProc_runs (s := s.at t) (cause := 2) x.isLt hp
    refine ⟨h1, h3, h2, ?_⟩
    rw [hfw]
    exact klook_kput_same _ _ _
  · intro t x s hl hp
    rw [exec_firmwareFault hl, State.restartProc_off (s := s.at t) 2 hp, exec_watchdogExpiry_off hl x hp]
    exact ⟨rfl, rfl⟩
  · rintro t x s u rfl hl
    exact exec_processorFailed hl x
  · intro t x s hl hp hrec hdump hrom hcopy
    refine ⟨_, exec_processorRestartDone hl x, ?_⟩
    rw [if_pos ⟨hp, hrec, by simp [hdump], (State.reloadGood_iff x.val).mpr ⟨hrom, hcopy⟩⟩]
    exact (s.at t).restarted_spec x.isLt
  · intro t x s hl h
    rw [exec_processorRestartDone hl, if_neg]
    rintro ⟨hp, hrec, hdump, hgood⟩
    obtain ⟨hrom, hcopy⟩ := (State.reloadGood_iff x.val).mp hgood
    rcases h with h | h | h | ⟨hx, h⟩ | ⟨hx, h⟩
    · exact h hp
    · omega
    · simp [Option.isNone_iff_eq_none.mp hdump] at h
    · simp [hrom hx] at h
    · obtain ⟨h0, hc⟩ := hcopy hx
      simp [h0, hc] at h
  · rintro t k i x s u rfl hl hk rfl
    obtain ⟨hdue, hdone⟩ := (s.at t).captureDump_spec x.val k
    refine ⟨?_, hdue, hdone⟩
    rw [exec_crashDumpCaptured hl x hk, State.captureDump_proc _ _ _ 0 (by decide)]
    rfl

end Sys2Proof.Machine
end

section
/-! PROOFS. What a WRITE outside a transaction leaves behind its response, and the requests that WRITEs make: keys, retrains, service windows,
maintenance, aborts (R196, R224, R350, R374, R375, R458). -/

namespace Sys2Proof.Machine

variable {s : State} {t : Nat} {c : Caller} {r : Req}

/-! ### Behind the response -/

/-- The state `s'` is `v` once its WRITE has been journalled and answered: what the effect left stands, but for the counters of requests and of
the journal. -/
structure Answered (v s' : State) : Prop where
  regF : ∀ g idx sub, idx ≠ 0x1012 → idx ≠ 0x1020 → idx < 65536 → sub < 256 → s'.regF g idx sub = v.regF g idx sub
  fw : s'.fw = v.fw
  avs : s'.avs = v.avs
  tasks : s'.tasks = v.tasks
  queues : s'.queues = v.queues
  key0 : s'.can.key0 = v.can.key0
  key1 : s'.can.key1 = v.can.key1

theorem Answered.of_written {u v : State} {fn : Nat} {o : ObjRow} {q : Req} (p : Resp) (hv : (u.takeWrite fn o q).1 = v) :
    Answered v ((u.written fn o q).deliver fn p) where
  regF g idx sub h h' hi hs := by rw [State.regF_deliver _ h hi hs, State.regF_written _ h' hi hs, hv]
  fw := by rw [State.deliver_fw, State.written_fw, hv]
  avs := by rw [State.deliver_avs, State.written_avs, hv]
  tasks := by rw [State.deliver_tasks, State.written_tasks, hv]
  queues := by rw [State.deliver_queues, State.written_queues, hv]
  key0 := by rw [(State.deliver_keys _ _ _).1, State.written_can, hv]
  key1 := by rw [(State.deliver_keys _ _ _).2, State.written_can, hv]

theorem Answered.reg {v s' : State} (h : Answered v s') {idx sub : Nat} (h1 : idx ≠ 0x1012) (h2 : idx ≠ 0x1020) (hi : idx < 65536)
    (hs : sub < 256) : s'.reg idx sub = v.reg idx sub := h.regF 0 idx sub h1 h2 hi hs

theorem State.reg_asked (s : State) (fn : Nat) {idx sub : Nat} (h : idx ≠ 0x2054) (h' : idx ≠ 0x1012) (hi : idx < 65536) (hs : sub < 256) :
    (s.asked fn).reg idx sub = s.reg idx sub := s.regF_asked h h' hi hs

/-- The row of a WRITE that passes its checks leaves what the WRITE takes, behind its response. -/
theorem serveRow_takes {i j : Nat} {o : ObjRow} {v : State} (h : WritePasses s t c (reqFor r i j)) (hi : i < 65536) (hj : j < 256)
    (ho : objRow i j = some o) (hv : (((s.at t).asked (callerFn c)).takeWrite (callerFn c) o (reqFor r i j)).1 = v) :
    ∃ s', serveRow t c 2 (reqFor r i j) s = .next s' ∧ Answered v s' := by
  obtain ⟨o', p, ho', -, he⟩ := serveRow_write h
  obtain ⟨e1, e2⟩ := reqFor_index r i j
  rw [e1, e2, Nat.mod_eq_of_lt hi, Nat.mod_eq_of_lt hj, ho] at ho'
  cases ho'
  exact ⟨_, he, .of_written p hv⟩

/-! ### Numbers -/

/-- The store of a number, which an object without a value of its own does not have. -/
def State.storeNum (u : State) (o : ObjRow) (fn i j n : Nat) : State := if storesValue o then u.setRegF (holdFn o fn) i j n else u

theorem State.regF_storeNum_other (u : State) (o : ObjRow) (fn i n g idx : Nat) {j sub : Nat} (h : sub ≠ j) (hs : sub < 256) (hj : j < 256) :
    (u.storeNum o fn i j n).regF g idx sub = u.regF g idx sub := by
  unfold State.storeNum
  split
  · exact State.regF_setRegF_other _ (okey_ne_of_sub_mod h hs hj)
  · rfl

theorem State.storeNum_fw (u : State) (o : ObjRow) (fn i j n : Nat) : (u.storeNum o fn i j n).fw = u.fw := by
  unfold State.storeNum
  split <;> rfl

/-- A number written at once to an object whose write answers OK. -/
theorem serveRow_takesNum {i j : Nat} (o : ObjRow) (h : WritePasses s t c (reqFor r i j)) (hi : i < 65536) (hj : j < 256)
    (ho : objRow i j = some o) (hty : tySize o.ty ≠ 0) (h0 : r.txn.toNat = 0) (hs : selects i j = none)
    (hw : ∀ u fn n, writeStatus u fn i j (.num n) = none) {v : State}
    (hv : ((s.at t).asked (callerFn c)).applyNum (((s.at t).asked (callerFn c)).storeNum o (callerFn c) i j (reqNum r)) (callerFn c) i j
      (reqNum r) = v) :
    ∃ s', serveRow t c 2 (reqFor r i j) s = .next s' ∧ Answered v s' := by
  obtain ⟨e1, e2⟩ := reqFor_index r i j
  rw [Nat.mod_eq_of_lt hi] at e1
  rw [Nat.mod_eq_of_lt hj] at e2
  refine serveRow_takes h hi hj ho ?_
  rw [State.takeWrite_num hty (r := reqFor r i j) h0 (by rw [e1, e2]; exact hs) (by rw [e1, e2]; exact hw _ _ _), e1, e2]
  exact hv

/-- A number whose write answers a status of its own. -/
theorem serveRow_takesNumStatus {i j : Nat} (o : ObjRow) (h : WritePasses s t c (reqFor r i j)) (hi : i < 65536) (hj : j < 256)
    (ho : objRow i j = some o) (hty : tySize o.ty ≠ 0) (h0 : r.txn.toNat = 0) {x : State × Nat}
    (hw : writeStatus ((s.at t).asked (callerFn c)) (callerFn c) i j (.num (reqNum r)) = some x) (hx : x.2 = stOk) :
    ∃ s', serveRow t c 2 (reqFor r i j) s = .next s' ∧ Answered x.1 s' := by
  obtain ⟨e1, e2⟩ := reqFor_index r i j
  rw [Nat.mod_eq_of_lt hi] at e1
  rw [Nat.mod_eq_of_lt hj] at e2
  have h0' : (reqFor r i j).txn.toNat = 0 := h0
  have hval : parseVal o.ty (((s.at t).asked (callerFn c)).offered (callerFn c) o (reqFor r i j)) = .num (reqNum r) := by
    rw [State.offered, if_pos (.inl hty), parseVal, if_neg hty]
    rfl
  refine serveRow_takes h hi hj ho ?_
  unfold State.takeWrite
  dsimp only
  rw [if_neg (by simp [hty]), if_neg hty, h0', if_neg (not_not.mpr rfl), hval, e1, e2, hw]
  dsimp only
  rw [if_pos hx]

/-! ### Byte strings -/

section

variable {i j : Nat} {o : ObjRow} (h : WritePasses s t c (reqFor r i j)) (hi : i < 65536) (hj : j < 256) (ho : objRow i j = some o)
  (hty : tySize o.ty = 0) (h0 : r.txn.toNat = 0) (hlast : reqLast r = true) (hoff : r.offset.toNat = 0) {u : State}
  (hu : u = ((s.at t).asked (callerFn c)).setSegment (callerFn c) i j 0 none)

include hi hj hty h0 hlast hoff hu

/-- A whole byte string written at once: the status of its own, or the object's store and what it adds. -/
theorem State.takeWrite_bytes {w : State} (hw : w = (s.at t).asked (callerFn c)) : w.takeWrite (callerFn c) o (reqFor r i j)
    = ((writeStatus u (callerFn c) i j (.bytes r.payload)).map fun x =>
        if x.2 = stOk then x else ({ x.1 with dict := { x.1.dict with segments := w.dict.segments } }, x.2)).getD
      ((if storesValue o then u.setBlobF (holdFn o (callerFn c)) i j r.payload else u).applyBytes i j r.payload, stOk) := by
  obtain ⟨e1, e2⟩ := reqFor_index r i j
  rw [Nat.mod_eq_of_lt hi] at e1
  rw [Nat.mod_eq_of_lt hj] at e2
  have h0' : (reqFor r i j).txn.toNat = 0 := h0
  have hlast' : reqLast (reqFor r i j) = true := hlast
  have hval : parseVal o.ty (w.offered (callerFn c) o (reqFor r i j)) = .bytes r.payload := by
    rw [State.offered, if_pos (.inr (show (reqFor r i j).offset.toNat = 0 from hoff)), parseVal, if_pos hty]
    rfl
  rw [← hw] at hu
  unfold State.takeWrite
  dsimp only
  rw [if_neg (by simp [hlast']), if_pos hty, h0', if_neg (not_not.mpr rfl), hval, e1, e2, ← hu]
  cases writeStatus u (callerFn c) i j (.bytes r.payload) <;> rfl

include h ho

theorem serveRow_takesBytes (hw : writeStatus u (callerFn c) i j (.bytes r.payload) = none) :
    ∃ s', serveRow t c 2 (reqFor r i j) s = .next s'
      ∧ Answered ((if storesValue o then u.setBlobF (holdFn o (callerFn c)) i j r.payload else u).applyBytes i j r.payload) s' := by
  refine serveRow_takes h hi hj ho ?_
  rw [State.takeWrite_bytes hi hj hty h0 hlast hoff hu rfl, hw]
  rfl

theorem serveRow_takesBytesStatus {x : State × Nat} (hw : writeStatus u (callerFn c) i j (.bytes r.payload) = some x) :
    ∃ s', serveRow t c 2 (reqFor r i j) s = .next s' ∧ Answered x.1 s' := by
  obtain ⟨s', he, ha⟩ := serveRow_takes h hi hj ho (congrArg Prod.fst (State.takeWrite_bytes hi hj hty h0 hlast hoff hu rfl))
  refine ⟨s', he, ?_⟩
  rw [hw, Option.map_some, Option.getD_some] at ha
  split at ha
  · exact ha
  · exact ⟨ha.regF, ha.fw, ha.avs, ha.tasks, ha.queues, ha.key0, ha.key1⟩

end

/-! ### What the requests do -/

theorem State.applyNum_retrain (was : State) (fn : Nat) : was.applyNum s fn 0x1100 8 1 = s.startRetrain := rfl

theorem State.applyNum_serviceNow (was : State) (fn : Nat) :
    was.applyNum s fn 0x8030 2 1 = { s with avs := { s.avs with asked := some s.tickCount } } := rfl

/-- The two key slots of OD 1111 are byte strings. -/
theorem objRow_keySlot : ∀ x : Fin 2, ∃ o, objRow 0x1111 (1 + x.val) = some o ∧ tySize o.ty = 0 :=
  Fin.forall_fin_two.mpr ⟨⟨_, rfl, rfl⟩, ⟨_, rfl, rfl⟩⟩

theorem State.applyBytes_keyWrite (slot : Nat) (b : List Byte) : s.applyBytes 0x1111 (1 + slot) b = s.keyWriteOp slot b := by
  rw [Nat.add_comm]
  rfl

theorem State.keyWriteOp_key (s : State) (x : Fin 2) (key : List Byte) :
    (if x.val = 0 then (s.keyWriteOp x.val key).can.key0 else (s.keyWriteOp x.val key).can.key1) = some key := by
  unfold State.keyWriteOp
  dsimp only
  split <;> split <;> rfl

/-- With no slot active the slot becomes the active one, both counters 0 (R375). -/
theorem State.keyWriteOp_first (slot : Nat) (key : List Byte) (h : s.reg 0x1111 3 = 0xFF) : (s.keyWriteOp slot key).reg 0x1111 3 = slot
    ∧ (s.keyWriteOp slot key).reg 0x1111 4 = 0 ∧ (s.keyWriteOp slot key).reg 0x1111 5 = 0 := by
  have h' (k : CanSt) : State.reg { s with can := k } 0x1111 3 = 0xFF := h
  unfold State.keyWriteOp
  dsimp only
  rw [if_pos (h' _)]
  refine ⟨?_, ?_, State.reg_setReg_same _ _ _ _⟩
  · exact (State.reg_setReg_other _ (by decide)).trans ((State.reg_setReg_other _ (by decide)).trans (State.reg_setReg_same _ _ _ _))
  · exact (State.reg_setReg_other _ (by decide)).trans (State.reg_setReg_same _ _ _ _)

theorem State.countReady_tasks (s : State) (x : Nat) : (s.countReady x).tasks = s.tasks := by
  unfold State.countReady
  dsimp only
  split <;> rfl

theorem State.regF_countReady (s : State) (x g idx : Nat) {sub : Nat} (h1 : sub ≠ 1) (h2 : sub ≠ 2) (hs : sub < 256) :
    (s.countReady x).regF g idx sub = s.regF g idx sub := by
  unfold State.countReady State.setReg
  dsimp only
  split
  · exact (State.regF_setRegF_other _ (okey_ne_of_sub_mod h2 hs (by decide))).trans
      (State.regF_setRegF_other _ (okey_ne_of_sub_mod h1 hs (by decide)))
  · exact State.regF_setRegF_other _ (okey_ne_of_sub_mod h1 hs (by decide))

/-- A maintenance request is pending, and its task stands in the ready list of the unit that was selected (R224). -/
theorem State.maintOp_spec (s : State) (fn : Nat) (b : List Byte) : (s.maintOp fn b).regF fn 0x5420 3 = 1
    ∧ ∃ k ∈ (s.maintOp fn b).tasks, k.maint = some fn ∧ k.desc = b ∧ k.stage = 1 ∧ k.node.res = 0x30 + s.regF fn 0x5420 2 := by
  unfold State.maintOp
  dsimp only
  rw [State.regF_countReady _ _ _ _ (by decide) (by decide) (by decide), State.countReady_tasks]
  refine ⟨State.regF_setRegF_same _ _ _ _ _, ?_⟩
  exact ⟨_, List.mem_append_right _ (List.mem_singleton.mpr rfl), rfl, rfl, rfl, rfl⟩

/-- Settles O24: each request by what its WRITE takes. -/
theorem requestWritesStartTheirWork : Obligations.RequestWritesStartTheirWork := by
  refine ⟨?_, ?_, ?_, ?_, ?_⟩
  · intro t c x r s h h0 hlast hoff
    obtain ⟨o, ho, hty⟩ := objRow_keySlot x
    obtain ⟨s', he, ha⟩ := serveRow_takesBytes h (by decide) (by omega) ho hty h0 hlast hoff rfl rfl
    rw [State.applyBytes_keyWrite] at ha
    refine ⟨s', he, ?_, fun hnone => ?_⟩
    · rw [ha.key0, ha.key1]
      exact State.keyWriteOp_key _ x r.payload
    · have hreg (sub : Nat) (hs : sub < 256) := ha.reg (idx := 0x1111) (sub := sub) (by decide) (by decide) (by decide) hs
      rw [hreg 3 (by decide), hreg 4 (by decide), hreg 5 (by decide)]
      refine State.keyWriteOp_first x.val r.payload (Eq.trans ?_ hnone)
      exact (apply_ite (fun u : State => u.reg 0x1111 3) _ _ _).trans ((ite_self _).trans
        ((s.at t).reg_asked (callerFn c) (by decide) (by decide) (by decide) (by decide)))
  · intro t c r s h h0 h1 hup
    obtain ⟨s', he, ha⟩ := serveRow_takesNum _ h (by decide) (by decide) rfl (by decide) h0 rfl (fun _ _ _ => rfl)
      (by rw [h1, State.applyNum_retrain])
    generalize hw : State.storeNum _ _ _ _ _ _ = w at ha
    have hstored (sub : Nat) (h8 : sub ≠ 8) (hs : sub < 256) : w.reg 0x1100 sub = s.reg 0x1100 sub := by
      rw [← hw]
      exact (State.regF_storeNum_other _ _ _ _ _ _ _ h8 hs (by decide)).trans
        ((s.at t).reg_asked (callerFn c) (by decide) (by decide) (by decide) hs)
    obtain ⟨hstate, hcount⟩ := State.startRetrain_reg (s := w) (by
      rw [State.linkUp, hstored 1 (by decide) (by decide)]
      exact hup)
    refine ⟨s', he, (ha.reg (by decide) (by decide) (by decide) (by decide)).trans hstate, ?_⟩
    rw [ha.reg (by decide) (by decide) (by decide) (by decide), hcount, hstored 5 (by decide) (by decide)]
  · intro t c r s h h0 h1
    obtain ⟨s', he, ha⟩ := serveRow_takesNum _ h (by decide) (by decide) rfl (by decide) h0 rfl (fun _ _ _ => rfl)
      (by rw [h1, State.applyNum_serviceNow])
    refine ⟨s', he, (congrArg AvsSt.asked ha.avs).trans (congrArg some ?_)⟩
    exact (State.regF_storeNum_other _ _ _ _ _ _ _ (by decide) (by decide) (by decide)).trans
      ((s.at t).reg_asked (callerFn c) (by decide) (by decide) (by decide) (by decide))
  · intro t c r s h h0 hlast hoff
    obtain ⟨s', he, ha⟩ := serveRow_takesBytesStatus h (by decide) (by decide) rfl (by decide) h0 hlast hoff rfl rfl
    obtain ⟨hpend, k, hk, hm, hd, hstage, hres⟩ := State.maintOp_spec
      (((s.at t).asked (callerFn c)).setSegment (callerFn c) 0x5420 1 0 none) (callerFn c) r.payload
    refine ⟨s', he, (ha.regF _ _ _ (by decide) (by decide) (by decide) (by decide)).trans hpend, k, ha.tasks ▸ hk, hm, hd, hstage, hres.trans ?_⟩
    exact congrArg (0x30 + ·) (State.regF_asked (s.at t) (by decide) (by decide) (by decide) (by decide))
  · rintro t c r s u rfl h h0 hlast hoff
    obtain ⟨s', he, ha⟩ := serveRow_takesBytesStatus h (by decide) (by decide) rfl (by decide) h0 hlast hoff rfl rfl
    exact ⟨s', he, ha.tasks, ha.queues⟩

end Sys2Proof.Machine
end

section
/-! PROOFS. The firmware's commands: images loaded and updated, START, SVN floors, dump slots, restarts (R383, R389, R391, R392, R398). -/

namespace Sys2Proof.Machine

variable {s : State} {t : Nat} {c : Caller} {r : Req}

/-! ### An image loaded (R389) -/

theorem testBit_putBit_true (x i : Nat) : (putBit x i true).testBit i = true := by
  unfold putBit
  split
  next h => exact h
  next h => rw [if_pos rfl, Nat.add_comm, Nat.testBit_two_pow_add_eq, Bool.eq_false_iff.mpr h, Bool.not_false]

/-- An image that passes its checks is installed and marked as verified. -/
theorem State.loadImageOp_passed {b : List Byte} (h : (s.loadCheck (b.getD 0 0).toNat (wordAt b 1)).2 = stOk) :
    (s.loadImageOp b).1.reg 0x2051 3 = stOk ∧ ((s.loadImageOp b).1.reg 0x2051 2).testBit (b.getD 0 0).toNat = true
      ∧ (klook (s.loadImageOp b).1.fw.images (b.getD 0 0).toNat).isSome = true := by
  unfold State.loadImageOp
  dsimp only
  rw [if_pos h, h]
  generalize (s.loadCheck (b.getD 0 0).toNat (wordAt b 1)).1 = k
  have h3 : ((s.setReg 0x2051 3 stOk).setReg 0x2051 4 k).reg 0x2051 3 = stOk :=
    (State.reg_setReg_other _ (by decide)).trans (State.reg_setReg_same _ _ _ _)
  generalize (s.setReg 0x2051 3 stOk).setReg 0x2051 4 k = v at h3
  obtain ⟨d, p, hw⟩ := v.ddrWrite_eq (imageCopy (b.getD 0 0).toNat)
    (s.ddrRead (s.reg 0x2050 3 + wordAt b 1) (imLength (s.ddrRead (s.reg 0x2050 3 + wordAt b 1) 64)))
  rw [hw]
  refine ⟨(State.reg_setReg_other _ (by decide)).trans h3, ?_, ?_⟩
  · rw [State.reg_setReg_same]
    exact testBit_putBit_true _ _
  · exact Option.isSome_of_eq_some (klook_kput_same _ _ _)

/-! ### START (R389) -/

/-- A loaded processor released: it serves its image. -/
def State.release (s : State) (x : Nat) : State := if s.proc x = 0 then s.procServe x (kget [] s.fw.images x) else s

theorem State.release_proc (s : State) {x y : Nat} (hx : x < 9) (hy : y < 9) :
    (s.release x).proc y = if y = x ∧ s.proc y = 0 then 1 else s.proc y := by
  have hother (h : y ≠ x) (im : List Byte) : (s.procServe x im).proc y = s.proc y :=
    (State.reg_setReg_other _ (okey_ne_of_idx (by omega) (by omega) (by decide) (by decide) (by omega))).trans
      (State.reg_setReg_other _ (okey_ne_of_idx (by omega) (by omega) (by omega) (by decide) (by decide)))
  unfold State.release
  by_cases hp : s.proc x = 0
  · rw [if_pos hp]
    by_cases h : y = x
    · rw [h, (s.procServe_spec hx _).1, if_pos ⟨rfl, hp⟩]
    · rw [hother h, if_neg fun hc => h hc.1]
  · rw [if_neg hp]
    split
    next h => exact absurd (h.1 ▸ h.2) hp
    next => rfl

theorem State.releaseAll_proc {y : Nat} (hy : y < 9) (l : List Nat) (hl : ∀ x ∈ l, x < 9) :
    ∀ s : State, (l.foldl State.release s).proc y = if y ∈ l ∧ s.proc y = 0 then 1 else s.proc y := by
  induction l with
  | nil => exact fun s => by simp
  | cons x l ih =>
    intro s
    rw [List.foldl_cons, ih (fun z hz => hl z (List.mem_cons_of_mem _ hz)), s.release_proc (hl x List.mem_cons_self) hy]
    by_cases hp : s.proc y = 0
    · rcases eq_or_ne y x with rfl | hne
      · simp [hp]
      · simp [hp, hne]
    · simp [hp]

theorem State.startOp_released (h : s.reg 0x2051 2 / 4 % 128 = 127) (h2 : s.reg 0x2050 1 = 2) :
    s.startOp 1 = ([2, 3, 4, 5, 6, 7, 8].foldl State.release s, stOk) := by
  unfold State.startOp
  rw [if_neg (not_not.mpr rfl), if_neg (not_not.mpr h), if_neg (not_not.mpr h2)]
  rfl

theorem State.startOp_proc (h : s.reg 0x2051 2 / 4 % 128 = 127) (h2 : s.reg 0x2050 1 = 2) {x : Nat} (hlo : 2 ≤ x) (hhi : x ≤ 8)
    (hp : s.proc x = 0) : (s.startOp 1).1.proc x = 1 := by
  have hx : x ∈ [2, 3, 4, 5, 6, 7, 8] := by
    simp only [List.mem_cons, List.not_mem_nil, or_false]
    omega
  rw [State.startOp_released h h2, State.releaseAll_proc (by omega) _ (by decide), if_pos ⟨hx, hp⟩]

/-! ### The flash updated (R391) -/

theorem State.updateImageOp_failed {b : List Byte} (h : s.updateCheck (b.getD 0 0).toNat (wordAt b 1) ≠ stOk) :
    (s.updateImageOp b).1.reg 0x2053 3 = 4 ∧ (s.updateImageOp b).1.fw.flash = s.fw.flash := by
  unfold State.updateImageOp
  dsimp only
  rw [if_pos h]
  exact ⟨State.reg_setReg_same _ _ _ _, rfl⟩

theorem State.updateImageOp_passed {b : List Byte} (h : s.updateCheck (b.getD 0 0).toNat (wordAt b 1) = stOk) :
    ((s.updateImageOp b).1.reg 0x2053 3 = 1 ∨ (s.updateImageOp b).1.reg 0x2053 3 = 2)
      ∧ klook (s.updateImageOp b).1.fw.update (0x40 + (b.getD 0 0).toNat)
        = some (s.updateParts (b.getD 0 0).toNat (wordAt b 1)).2 := by
  unfold State.updateImageOp
  dsimp only
  rw [if_neg (not_not.mpr h)]
  generalize (b.getD 0 0).toNat = kind
  generalize s.updateParts kind (wordAt b 1) = p
  dsimp only
  refine ⟨?_, ?_⟩
  · rw [State.reg_setReg_same]
    exact (ite_eq_or_eq _ 2 1).symm
  · obtain ⟨root, image⟩ := p
    cases root with
    | none => exact klook_kput_same _ _ _
    | some root => exact (klook_kput_other (by omega)).trans (klook_kput_same _ _ _)

/-- The GEN that an update's commit gives the directory: one above both copies'. -/
def State.nextGen (s : State) : Nat := max (((s.dirCopy 0).map (fun e => e.2)).getD 0) (((s.dirCopy 1).map (fun e => e.2)).getD 0) + 1

theorem State.lt_nextGen : ∀ e ∈ s.dirCopy 0, e.2 < s.nextGen := by
  intro e he
  have h0 : s.dirCopy 0 = some e := he
  unfold State.nextGen
  rw [h0]
  exact Nat.lt_succ_of_le (Nat.le_max_left _ _)

theorem State.dirFirst_lt (s : State) : s.dirFirst < 2 := by
  have hbit (b : Bool) : b2n b < 2 := by cases b <;> decide
  unfold State.dirFirst
  split
  · split_ifs
    · decide
    · decide
    · exact hbit _
  · decide
  · decide
  · exact hbit _

theorem State.dirFirst_both {a b : Nat × Nat} (ha : s.dirCopy 0 = some a) (hb : s.dirCopy 1 = some b) :
    (a.2 < b.2 → s.dirFirst = 0) ∧ (b.2 < a.2 → s.dirFirst = 1) := by
  unfold State.dirFirst
  rw [ha, hb]
  dsimp only
  exact ⟨fun h => if_pos h, fun h => by rw [if_neg (Nat.not_lt.mpr h.le), if_pos h]⟩

/-- A staged set is named by both copies of the directory, one after the other (R383, R391). -/
theorem State.updateCommitOp_staged (h : ∀ k, k < 3 → (klook s.fw.update k).isSome = true) :
    (s.updateCommitOp 1).2 = stOk ∧ (s.updateCommitOp 1).1.reg 0x2053 3 = 3
      ∧ (s.updateCommitOp 1).1.fw.dirWrite = some (s.now, s.dirFirst, s.flashRead (0x1000 * (1 - s.dirFirst)) 64)
      ∧ (s.updateCommitOp 1).1.fw.flash = ((s.flashWrite (0x1000 * s.dirFirst) (dirBytes (1 - s.reg 0x2050 5) s.nextGen)).flashWrite
          (0x1000 * (1 - s.dirFirst)) (dirBytes (1 - s.reg 0x2050 5) s.nextGen)).fw.flash := by
  have hwhole : ([0, 1, 2].any fun k => (klook s.fw.update k).isNone) = false := by
    have hk (k : Nat) (hk : k < 3) : (klook s.fw.update k).isNone = false := by
      rw [← Option.not_isSome, h k hk, Bool.not_true]
    simp [hk 0 (by decide), hk 1 (by decide), hk 2 (by decide)]
  unfold State.updateCommitOp
  rw [if_neg (not_not.mpr rfl), hwhole, if_neg Bool.false_ne_true]
  dsimp only
  exact ⟨rfl, State.reg_setReg_same _ _ _ _, rfl, rfl⟩

/-! ### SVN floors and dump slots (R391, R398) -/

/-- The floor of processor `x` raised to the SVN of its running image. -/
def raiseFloor (run : KMap (List Byte)) (m : KMap Nat) (x : Nat) : KMap Nat :=
  match klook run x with
  | some b => kput m x (max (kget 0 m x) (imSvn b))
  | none => m

theorem kget_raiseFloor_other (run : KMap (List Byte)) (m : KMap Nat) {x y : Nat} (h : y ≠ x) : kget 0 (raiseFloor run m x) y = kget 0 m y := by
  unfold raiseFloor
  split
  · exact kget_kput_other h
  · rfl

theorem kget_raiseFloors_other (run : KMap (List Byte)) {y : Nat} (l : List Nat) (h : y ∉ l) :
    ∀ m, kget 0 (l.foldl (raiseFloor run) m) y = kget 0 m y := by
  induction l with
  | nil => exact fun _ => rfl
  | cons x l ih =>
    obtain ⟨hx, hl⟩ := not_or.mp (mt List.mem_cons.mpr h)
    exact fun m => (ih hl _).trans (kget_raiseFloor_other run m hx)

/-- A floor is raised once, to the higher of itself and the image's SVN. -/
theorem kget_raiseFloors (run : KMap (List Byte)) {y : Nat} {b : List Byte} (hb : klook run y = some b) (l : List Nat) (hn : l.Nodup)
    (hy : y ∈ l) : ∀ m, kget 0 (l.foldl (raiseFloor run) m) y = max (kget 0 m y) (imSvn b) := by
  induction l with
  | nil => exact absurd hy List.not_mem_nil
  | cons x l ih =>
    intro m
    obtain ⟨hx, hl⟩ := List.nodup_cons.mp hn
    rw [List.foldl_cons]
    rcases List.mem_cons.mp hy with rfl | hy
    · rw [kget_raiseFloors_other run l hx, raiseFloor, hb]
      exact kget_kput_same _ _ _ _
    · rw [ih hl hy, kget_raiseFloor_other run m (ne_of_mem_of_not_mem hy hx)]

theorem State.svnRaiseOp_floors (s : State) : s.svnRaiseOp.fw.floors = (List.range 9).foldl (raiseFloor s.fw.running) s.fw.floors := rfl

theorem State.dumpReleaseOp_released (s : State) : (kget dump0 s.dumpReleaseOp.fw.dumps (s.reg 0x2055 1)).released = true :=
  congrArg DumpSlot.released (kget_kput_same _ _ _ _)

/-! ### What the writes of 1 do -/

theorem State.applyNum_svnRaise (was : State) (fn : Nat) : was.applyNum s fn 0x2053 4 1 = s.svnRaiseOp := rfl

theorem State.applyNum_dumpRelease (was : State) (fn : Nat) : was.applyNum s fn 0x2055 5 1 = s.dumpReleaseOp := rfl

/-- RESTART of each of the nine processors writes a number that has its own effect. -/
theorem objRow_restart : ∀ x : ProcId, ∃ o, objRow (0x2060 + x.val) 6 = some o ∧ tySize o.ty ≠ 0 ∧ selects (0x2060 + x.val) 6 = none
    ∧ (∀ u fn n, writeStatus u fn (0x2060 + x.val) 6 (.num n) = none)
    ∧ ∀ (was s : State) fn, was.applyNum s fn (0x2060 + x.val) 6 1 = s.restartProc x.val 3 := by
  intro x
  fin_cases x <;> exact ⟨_, rfl, by decide, rfl, fun _ _ _ => rfl, fun _ _ _ => rfl⟩

section

/-- An image that passes its checks is installed (R389). -/
theorem exec_loadImage_passed {u : State} (hu : u = ((s.at t).asked (callerFn c)).setSegment (callerFn c) 0x2051 1 0 none)
    (h : WritePasses s t c (reqFor r 0x2051 1)) (h0 : r.txn.toNat = 0) (hlast : reqLast r = true) (hoff : r.offset.toNat = 0)
    (hcheck : (u.loadCheck (r.payload.getD 0 0).toNat (wordAt r.payload 1)).2 = stOk) :
    ∃ s', exec (.loadImage t c r) s = .next s' ∧ s'.reg 0x2051 3 = stOk ∧ (s'.reg 0x2051 2).testBit (r.payload.getD 0 0).toNat = true
      ∧ (klook s'.fw.images (r.payload.getD 0 0).toNat).isSome = true := by
  obtain ⟨s', he, ha⟩ := serveRow_takesBytesStatus h (by decide) (by decide) rfl (by decide) h0 hlast hoff hu rfl
  obtain ⟨h3, h2, himg⟩ := State.loadImageOp_passed hcheck
  refine ⟨s', he, (ha.reg (by decide) (by decide) (by decide) (by decide)).trans h3, ?_, ?_⟩
  · rw [ha.reg (by decide) (by decide) (by decide) (by decide)]
    exact h2
  · rw [ha.fw]
    exact himg

/-- START releases every loaded processor (R389). -/
theorem exec_start_releases (h : WritePasses s t c (reqFor r 0x2050 2)) (h0 : r.txn.toNat = 0) (h1 : reqNum r = 1) (hst : s.reg 0x2050 1 = 2)
    (hall : s.reg 0x2051 2 / 4 % 128 = 127) :
    ∃ s', exec (.start t c r) s = .next s' ∧ ∀ x, 2 ≤ x → x ≤ 8 → s.proc x = 0 → s'.proc x = 1 := by
  have hreg {idx sub : Nat} (h : idx ≠ 0x2054) (h' : idx ≠ 0x1012) (hi : idx < 65536) (hs : sub < 256) :=
    (s.at t).reg_asked (callerFn c) (sub := sub) h h' hi hs
  have hst' := (hreg (by decide) (by decide) (by decide) (by decide)).trans hst
  have hall' := (congrArg (· / 4 % 128) (hreg (by decide) (by decide) (by decide) (by decide))).trans hall
  obtain ⟨s', he, ha⟩ := serveRow_takesNumStatus _ h (by decide) (by decide) rfl (by decide) h0
    (x := ((s.at t).asked (callerFn c)).startOp 1) (by rw [h1]; rfl) (by rw [State.startOp_released hall' hst'])
  refine ⟨s', he, fun x h2 h8 hp => (ha.reg (by omega) (by omega) (by omega) (by decide)).trans ?_⟩
  exact State.startOp_proc hall' hst' h2 h8 ((hreg (by omega) (by omega) (by omega) (by decide)).trans hp)

/-- An image of an update is staged where it passes its checks, and leaves flash as it was where it fails (R391). -/
theorem exec_updateImage {u : State} (hu : u = ((s.at t).asked (callerFn c)).setSegment (callerFn c) 0x2053 1 0 none)
    (h : WritePasses s t c (reqFor r 0x2053 1)) (h0 : r.txn.toNat = 0) (hlast : reqLast r = true) (hoff : r.offset.toNat = 0) :
    ∃ s', exec (.updateImage t c r) s = .next s'
      ∧ (u.updateCheck (r.payload.getD 0 0).toNat (wordAt r.payload 1) = stOk → (s'.reg 0x2053 3 = 1 ∨ s'.reg 0x2053 3 = 2)
        ∧ klook s'.fw.update (0x40 + (r.payload.getD 0 0).toNat) = some (u.updateParts (r.payload.getD 0 0).toNat (wordAt r.payload 1)).2)
      ∧ (u.updateCheck (r.payload.getD 0 0).toNat (wordAt r.payload 1) ≠ stOk → s'.reg 0x2053 3 = 4 ∧ s'.fw.flash = s.fw.flash) := by
  obtain ⟨s', he, ha⟩ := serveRow_takesBytesStatus h (by decide) (by decide) rfl (by decide) h0 hlast hoff hu rfl
  have hfw : u.fw = s.fw := by
    rw [hu]
    exact ((s.at t).asked_reports (callerFn c)).fw
  refine ⟨s', he, fun hgood => ?_, fun hbad => ?_⟩
  · rw [ha.reg (by decide) (by decide) (by decide) (by decide), ha.fw]
    exact State.updateImageOp_passed hgood
  · obtain ⟨h3, hflash⟩ := State.updateImageOp_failed hbad
    exact ⟨(ha.reg (by decide) (by decide) (by decide) (by decide)).trans h3,
      (congrArg FwSt.flash ha.fw).trans (hflash.trans (congrArg FwSt.flash hfw))⟩

/-- A staged update is named by both copies of the directory (R383, R391). -/
theorem exec_updateCommit_staged (h : WritePasses s t c (reqFor r 0x2053 2)) (h0 : r.txn.toNat = 0) (h1 : reqNum r = 1)
    (hstaged : ∀ k, k < 3 → (klook s.fw.update k).isSome = true) :
    ∃ s', exec (.updateCommit t c r) s = .next s' ∧ s'.reg 0x2053 3 = 3 ∧ ∃ gen first, (∀ e ∈ s.dirCopy 0, e.2 < gen)
      ∧ first < 2
      ∧ (∀ a b, s.dirCopy 0 = some a → s.dirCopy 1 = some b → (a.2 < b.2 → first = 0) ∧ (b.2 < a.2 → first = 1))
      ∧ s'.fw.dirWrite = some (max s.now t, first, s.flashRead (0x1000 * (1 - first)) 64)
      ∧ s'.fw.flash = ((s.flashWrite (0x1000 * first) (dirBytes (1 - s.reg 0x2050 5) gen)).flashWrite (0x1000 * (1 - first))
        (dirBytes (1 - s.reg 0x2050 5) gen)).fw.flash := by
  have hfw : ((s.at t).asked (callerFn c)).fw = s.fw := ((s.at t).asked_reports (callerFn c)).fw
  have hnow : ((s.at t).asked (callerFn c)).now = max s.now t := (s.at t).asked_now (callerFn c)
  have hboot : ((s.at t).asked (callerFn c)).reg 0x2050 5 = s.reg 0x2050 5 :=
    (s.at t).reg_asked (callerFn c) (by decide) (by decide) (by decide) (by decide)
  obtain ⟨s', he, ha⟩ := serveRow_takesNumStatus _ h (by decide) (by decide) rfl (by decide) h0
    (x := ((s.at t).asked (callerFn c)).updateCommitOp 1) (by rw [h1]; rfl) (State.updateCommitOp_staged (by rwa [hfw])).1
  generalize (s.at t).asked (callerFn c) = w at hfw hnow hboot ha
  obtain ⟨-, h3, hdir, hflash⟩ := State.updateCommitOp_staged (s := w) (by rwa [hfw])
  have hcopy (i : Nat) : w.dirCopy i = s.dirCopy i := by
    unfold State.dirCopy State.flashRead
    rw [hfw]
  refine ⟨s', he, (ha.reg (by decide) (by decide) (by decide) (by decide)).trans h3, w.nextGen, w.dirFirst, ?_, w.dirFirst_lt, ?_, ?_, ?_⟩
  · rw [← hcopy]
    exact State.lt_nextGen
  · intro a b ha hb
    exact State.dirFirst_both ((hcopy 0).trans ha) ((hcopy 1).trans hb)
  · rw [ha.fw, hdir, hnow, State.flashRead, State.flashRead, hfw]
  · rw [ha.fw, hflash, hboot]
    simp only [State.flashWrite, hfw]

/-- Every floor rises to the SVN of the image that its processor runs (R391). -/
theorem exec_svnRaise (h : WritePasses s t c (reqFor r 0x2053 4)) (h0 : r.txn.toNat = 0) (h1 : reqNum r = 1) :
    ∃ s', exec (.svnRaise t c r) s = .next s' ∧ ∀ x b, x < 9 → klook s.fw.running x = some b →
      kget 0 s'.fw.floors x = max (kget 0 s.fw.floors x) (imSvn b) := by
  obtain ⟨s', he, ha⟩ := serveRow_takesNum _ h (by decide) (by decide) rfl (by decide) h0 rfl (fun _ _ _ => rfl)
    (by rw [h1, State.applyNum_svnRaise])
  generalize hw : State.storeNum _ _ _ _ _ _ = w at ha
  have hfw : w.fw = s.fw := hw ▸ (State.storeNum_fw _ _ _ _ _ _).trans ((s.at t).asked_reports (callerFn c)).fw
  refine ⟨s', he, fun x b hx hb => ?_⟩
  rw [ha.fw, State.svnRaiseOp_floors, hfw]
  exact kget_raiseFloors _ hb _ List.nodup_range (List.mem_range.mpr hx) _

/-- The selected dump slot is released (R398). -/
theorem exec_dumpRelease (h : WritePasses s t c (reqFor r 0x2055 5)) (h0 : r.txn.toNat = 0) (h1 : reqNum r = 1) :
    ∃ s', exec (.dumpRelease t c r) s = .next s' ∧ (kget dump0 s'.fw.dumps (s.reg 0x2055 1)).released = true := by
  obtain ⟨s', he, ha⟩ := serveRow_takesNum _ h (by decide) (by decide) rfl (by decide) h0 rfl (fun _ _ _ => rfl)
    (by rw [h1, State.applyNum_dumpRelease])
  generalize hw : State.storeNum _ _ _ _ _ _ = w at ha
  have hsel : w.reg 0x2055 1 = s.reg 0x2055 1 := hw ▸ (State.regF_storeNum_other _ _ _ _ _ _ _ (by decide) (by decide) (by decide)).trans
    ((s.at t).reg_asked (callerFn c) (by decide) (by decide) (by decide) (by decide))
  refine ⟨s', he, ?_⟩
  rw [ha.fw, ← hsel]
  exact w.dumpReleaseOp_released

/-- A running processor restarts with cause 3 (R392). -/
theorem exec_restart_runs {x : ProcId} (h : WritePasses s t c (reqFor r (0x2060 + x.val) 6)) (h0 : r.txn.toNat = 0) (h1 : reqNum r = 1)
    (hp : s.proc x.val = 1) : ∃ s', exec (.restart t c x r) s = .next s' ∧ s'.proc x.val = 2 ∧ s'.reg (0x2060 + x.val) 3 = 3 := by
  obtain ⟨o, ho, hty, hsel, hstat, happ⟩ := objRow_restart x
  obtain ⟨s', he, ha⟩ := serveRow_takesNum o h (by omega) (by decide) ho hty h0 hsel hstat (by rw [h1, happ])
  have hrun : (((s.at t).asked (callerFn c)).storeNum o (callerFn c) (0x2060 + x.val) 6 1).proc x.val = 1 :=
    (State.regF_storeNum_other _ _ _ _ _ _ _ (by decide) (by decide) (by decide)).trans
      (((s.at t).reg_asked (callerFn c) (by omega) (by omega) (by omega) (by decide)).trans hp)
  obtain ⟨h2, h3, -⟩ := State.restartProc_runs (cause := 3) x.isLt hrun
  exact ⟨s', he, (ha.reg (by omega) (by omega) (by omega) (by decide)).trans h2, (ha.reg (by omega) (by omega) (by omega) (by decide)).trans h3⟩

end

/-- Settles O25: each command by what its WRITE takes. -/
theorem firmwareWritesActOnImagesAndProcessors : Obligations.FirmwareWritesActOnImagesAndProcessors :=
  ⟨fun _ _ _ _ _ hu h h0 hlast hoff hcheck => exec_loadImage_passed hu h h0 hlast hoff hcheck,
    fun _ _ _ _ h h0 h1 hst hall => exec_start_releases h h0 h1 hst hall,
    fun _ _ _ _ _ hu h h0 hlast hoff => exec_updateImage hu h h0 hlast hoff,
    fun _ _ _ _ h h0 h1 hstaged => exec_updateCommit_staged h h0 h1 hstaged, fun _ _ _ _ h h0 h1 => exec_svnRaise h h0 h1,
    fun _ _ _ _ h h0 h1 => exec_dumpRelease h h0 h1, fun _ _ _ _ _ h h0 h1 hp => exec_restart_runs h h0 h1 hp⟩

end Sys2Proof.Machine
end
